-- ==== Sys2Proof/Word.lean ====
section
/-! DEFINITION.  The machine's smallest unit, the byte, and the plainest arithmetic on counts.
Registers and record fields are held as natural numbers within their widths; only what the manual
treats as bits (memory, payloads, codes) is a bit vector. -/

namespace Sys2Proof

/-- A byte of HDM, of a payload or of a barge. -/
abbrev Byte := BitVec 8

/-- Bit `i` of a field (R4: bit 0 is the least significant). -/
def bitOf (n i : Nat) : Bool := n / 2 ^ i % 2 == 1

/-- The field of `w` bits of `n` that begins at bit `lo`. -/
def fieldOf (n lo w : Nat) : Nat := n / 2 ^ lo % 2 ^ w

/-- One bit as a number. -/
def bit (b : Bool) : Nat := if b then 1 else 0

end Sys2Proof
end

