-- ==== Sys2Proof/Machine/Types.lean ====
section
/-! DEFINITION.  The data the FX1152 holds, as plain data: one structure for each object, engine and
record of the specification, one field for each piece of state it names.  Every field's docstring
names the chapter (by its number in spec/) and the rule it follows, and the width the spec gives it.
A field's default value is its value in `State.reset`; where the spec gives none it is a value of
the model (log entries 1 to 3). -/

namespace Sys2Proof.Machine
open Sys2Proof

/-- DEVICE_STATE[3:0] (R62). -/
inductive DevState where
  | off
  | firstStart
  | coldStart
  | warmStart
  | handover
  | readyHelm
  | readyStandby
  | dryDock
  | fatalD
  | fatalS
  deriving DecidableEq, Repr

/-- stream states of R40. -/
inductive StreamSt where
  | undef
  | defined
  | live
  | releasing
  deriving DecidableEq, Repr

/-- TM_STATE of R123. -/
inductive TmState where
  | freeRun
  | disciplined
  | holdover
  | slaved
  | coasting
  deriving DecidableEq, Repr

/-- reference slot states of R132. -/
inductive RefSt where
  | disabled
  | unqualified
  | qualifying
  | qualified
  | selected
  deriving DecidableEq, Repr

/-- lane states of R346, coded as R359 lists. -/
inductive LaneSt where
  | off
  | detect
  | train
  | lock
  | caps
  | active
  | moored
  | test
  deriving DecidableEq, Repr

/-- twin states of R369, coded as R391 lists. -/
inductive TwinSt where
  | paired
  | alone
  | resyncing
  | inStep
  | adrift
  | blocked
  deriving DecidableEq, Repr

/-- resynchronisation phases of R388. -/
inductive RsPhase where
  | none
  | session
  | snapshot
  | graphics
  | fill
  | check
  deriving DecidableEq, Repr

/-- destination lock states of R171. -/
inductive LockMode where
  | none
  | protect
  | lock
  deriving DecidableEq, Repr

/-- the paths of R173. -/
inductive Path where
  | disconnected
  | cutThrough
  | rough
  | berth
  deriving DecidableEq, Repr

/-- the host link: down, trained as CXL, trained as plain PCI Express (R58, R62). -/
inductive LinkSt where
  | down
  | cxl
  | pcie
  deriving DecidableEq, Repr

/-- MODE of R149. -/
inductive RefMode where
  | auto
  | forceSlot
  | forceHoldover
  deriving DecidableEq, Repr

/-- where a vendor image key or a child key stands (R477, R484). -/
inductive KeySt where
  | none
  | live
  | orphaned
  deriving DecidableEq, Repr

/-- LAST_START of R444. -/
inductive StartKind where
  | none
  | first
  | cold
  | warm
  | handover
  deriving DecidableEq, Repr

/-- PHASE of R513 for an update session and a handover (a trial is TRIAL_S running). -/
inductive FwPhase where
  | idle
  | checking
  | writing
  | staged
  | handover
  deriving DecidableEq, Repr

/-- SESSION of R513. -/
inductive FwSource where
  | none
  | host
  | partner
  | dryDock
  deriving DecidableEq, Repr

/-- how far an SPDM session has come (R485). -/
inductive SpdmSt where
  | none
  | handshake
  | established
  deriving DecidableEq, Repr

/-- port states of the quiesce handshake (R403). -/
inductive PortSt where
  | opened
  | quiescing
  | draining
  | stopping
  | gated
  | starting
  deriving DecidableEq, Repr

/-- kinds of barge (R329). -/
inductive KindSt where
  | data
  | calibration
  | training
  deriving DecidableEq, Repr

/-- the trim set (R20, R93, R99): values set by SET_TRIM and its generation. -/
structure TrimSet where
  /-- 01 R20; width 1. -/
  shallow : Bool := false
  /-- 01 R20; width 1. -/
  legacy : Bool := false
  /-- 01 R20; width 1. -/
  eco : Bool := false
  /-- 01 R20; width 1. -/
  syncAll : Bool := false
  /-- 03 R85, R93; width 32. -/
  gen : Nat := 1
  deriving DecidableEq, Repr

/-- a timing plane as SET_PLANE sets it (R121, R122). -/
structure PlaneObj where
  /-- 04 R121; width 8. -/
  rate : Option Nat := none
  /-- 04 R121; width 64. -/
  phase : Nat := 0
  /-- 04 R121, 03 R85; width 32. -/
  gen : Nat := 1
  deriving DecidableEq, Repr

/-- a reference slot's configuration (R147). -/
structure RefObj where
  /-- 05 R147; width 1. -/
  enable : Bool := false
  /-- 05 R147; width 8. -/
  priority : Nat := 1
  /-- 05 R147; width 8. -/
  quality : Nat := 0
  /-- 05 R147; width 8. -/
  lane : Nat := 0
  /-- 05 R147; width 8. -/
  plane : Nat := 0
  /-- 05 R147, R133; width 16. -/
  qualTime : Nat := 8
  /-- 05 R147; width 32. -/
  delayNs : Int := 0
  /-- 05 R147, 03 R85; width 32. -/
  gen : Nat := 1
  deriving DecidableEq, Repr

/-- the selection policy (R149). -/
structure PolicyObj where
  /-- 05 R149; width 8. -/
  mode : RefMode := .auto
  /-- 05 R149; width 8. -/
  forced : Nat := 0
  /-- 05 R149; width 32. -/
  spreadPpb : Nat := 0
  /-- 05 R149; width 32. -/
  driftPpb : Nat := 1000
  /-- 05 R149; width 32. -/
  offsetPpb : Nat := 50
  /-- 05 R149; width 32. -/
  budgetNs : Nat := 1000
  /-- 05 R149, 03 R85; width 32. -/
  gen : Nat := 1
  deriving DecidableEq, Repr

/-- a lane stream's definition and state (R40, R42); the key is direction × 8192 + first bay. -/
structure StreamObj where
  /-- 02 R40; width 2. -/
  st : StreamSt := .undef
  /-- 02 R42; width 8. -/
  width : Nat := 0
  /-- 02 R42; width 8. -/
  form : Nat := 0
  /-- 02 R42; width 16. -/
  format : Nat := 0
  /-- 02 R42; width 8. -/
  plane : Nat := 0
  /-- 02 R42; width 16. -/
  audioFirst : Nat := 0
  /-- 02 R42; width 8. -/
  audioCount : Nat := 0
  /-- 02 R42; width 16. -/
  ancFirst : Nat := 0
  /-- 02 R42; width 8. -/
  ancCount : Nat := 0
  /-- 02 R42; width 32. -/
  ancAllow : Nat := 0
  /-- 02 R41, 03 R85; width 32. -/
  gen : Nat := 1
  deriving DecidableEq, Repr

/-- a pending manifest (R49, R51, R52). -/
structure PendManifest where
  /-- 02 R48; width 16 × n. -/
  handles : List Nat := []
  /-- 02 R49; width -. -/
  job : Nat := 0
  /-- 02 R48 (ms × 48); width 32. -/
  timeoutTicks : Nat := 0
  /-- 02 R49, 04 R541: ticks since admission; width -. -/
  age : Nat := 0
  /-- 02 R49: the announcement was late; width 1. -/
  late : Bool := false
  deriving DecidableEq, Repr

/-- an EPOCH record held (R344). -/
structure Announce where
  /-- 11 R344; width 8. -/
  epoch : Nat := 0
  /-- 11 R344; width 32. -/
  seq : Nat := 0
  /-- 11 R344; width 32. -/
  digest : Nat := 0
  deriving DecidableEq, Repr

/-- a lane direction's manifest (R45 to R53); the key is direction × 128 + lane. -/
structure ManifestObj where
  /-- 02 R41, 03 R85; width 32. -/
  gen : Nat := 1
  /-- 02 (manifests and epochs), 11 R333; width 8. -/
  epoch : Nat := 0
  deriving DecidableEq, Repr

/-- a destination's route and lock (R153, R171). -/
structure RouteObj where
  /-- 06 R157; width 16 + 1. -/
  source : Option Nat := none
  /-- 06 R153, 03 R85; width 32. -/
  gen : Nat := 1
  /-- 06 R171 LOCK, held in the journal; width 1. -/
  locked : Bool := false
  /-- 06 R170, 03 R85; width 32. -/
  lockGen : Nat := 1
  deriving DecidableEq, Repr

/-- a pattern generator (R180). -/
structure GenObj where
  /-- 06 R180; width 8. -/
  plane : Option Nat := none
  /-- 06 R180; width 8. -/
  width : Nat := 1
  /-- 06 R180; width 8. -/
  pattern : Nat := 0
  /-- 06 R180; width 16. -/
  format : Nat := 0
  /-- 06 R180; width 8. -/
  colour : Nat := 0
  /-- 06 R180; width 8. -/
  form : Nat := 1
  /-- 06 R180; width 16. -/
  flatY : Nat := 0
  /-- 06 R180; width 16. -/
  flatCb : Nat := 0
  /-- 06 R180; width 16. -/
  flatCr : Nat := 0
  /-- 06 R180, 03 R85; width 32. -/
  gen : Nat := 1
  deriving DecidableEq, Repr

/-- a stream's frame-sync setting (R213). -/
structure FsyncObj where
  /-- 07 R213; width 1. -/
  enable : Bool := false
  /-- 07 R213; width 8. -/
  readPlane : Nat := 255
  /-- 07 R213; width 8. -/
  delay : Nat := 0
  /-- 07 R213; width 1. -/
  lossFill : Bool := false
  /-- 07 R213; width 8. -/
  lossGen : Nat := 0
  /-- 07 R213, R214; width 32. -/
  lossHoldMs : Nat := 2000
  /-- 07 R213, 03 R85; width 32. -/
  gen : Nat := 1
  deriving DecidableEq, Repr

/-- the Wharf policy (R215). -/
structure WharfPolObj where
  /-- 07 R215, R208; width 16. -/
  scrubHours : Nat := 24
  /-- 07 R215; width 1. -/
  hardRepair : Bool := true
  /-- 07 R215, 03 R85; width 32. -/
  gen : Nat := 1
  deriving DecidableEq, Repr

/-- a destination's form setting (R236). -/
structure DestFormObj where
  /-- 08 R236; width 8. -/
  level : Nat := 0
  /-- 08 R236; width 8. -/
  tcMode : Nat := 0
  /-- 08 R236; width 8. -/
  pidMode : Nat := 0
  /-- 08 R236; width 1. -/
  dropFrame : Bool := false
  /-- 08 R236; width 32. -/
  tcOffset : Int := 0
  /-- 08 R236, 03 R85; width 32. -/
  gen : Nat := 1
  deriving DecidableEq, Repr

/-- an ANC destination's setting (R237). -/
structure AncObj where
  /-- 08 R237; width 8. -/
  mode : Nat := 0
  /-- 08 R237; width 8. -/
  did : Nat := 0
  /-- 08 R237; width 8. -/
  sdid : Nat := 0
  /-- 08 R237; width 16. -/
  line : Nat := 0
  /-- 08 R237, 03 R85; width 32. -/
  gen : Nat := 1
  deriving DecidableEq, Repr

/-- a stream's detector setting (R248). -/
structure DetObj where
  /-- 08 R248; width 8. -/
  enable : Nat := 15
  /-- 08 R248; width 8. -/
  tcSource : Nat := 0
  /-- 08 R248; width 16. -/
  blackLevel : Nat := 72
  /-- 08 R248; width 16. -/
  blackArea : Nat := 990
  /-- 08 R248; width 16. -/
  blackFrames : Nat := 10
  /-- 08 R248; width 16. -/
  freezeFrames : Nat := 50
  /-- 08 R248; width 32. -/
  freezeLimit : Nat := 1152
  /-- 08 R248; width 16. -/
  silenceDb : Int := -6000
  /-- 08 R248; width 32. -/
  silenceMs : Nat := 10000
  /-- 08 R248, 03 R85; width 32. -/
  gen : Nat := 1
  deriving DecidableEq, Repr

/-- a loudness group (R249). -/
structure LoudObj where
  /-- 08 R249; width 16 × 8. -/
  channels : List Nat := []
  /-- 08 R249; width 8 × 8. -/
  weights : List Nat := []
  /-- 08 R249, 03 R85; width 32. -/
  gen : Nat := 1
  deriving DecidableEq, Repr

/-- one mix entry (R279). -/
structure MixEnt where
  /-- 09 R279; width 16. -/
  source : Nat := 0
  /-- 09 R279; width 1. -/
  invert : Bool := false
  /-- 09 R279; width 32. -/
  gainDb : Int := 0
  deriving DecidableEq, Repr

/-- a destination channel's processing setting (R265 to R280). -/
structure ChanObj where
  /-- 09 R267; width 32. -/
  gainDb : Int := 0
  /-- 09 R267; width 1. -/
  minusInf : Bool := false
  /-- 09 R277; width 1. -/
  invert : Bool := false
  /-- 09 R278; width 32. -/
  delay : Nat := 0
  /-- 09 R279; width 1 + 49. -/
  mix1 : Option MixEnt := none
  /-- 09 R279; width 1 + 49. -/
  mix2 : Option MixEnt := none
  /-- 09 R279; width 1 + 49. -/
  mix3 : Option MixEnt := none
  /-- 09 R265; width 1. -/
  brokenAway : Bool := false
  /-- 09 R253; width 1. -/
  linked : Bool := false
  /-- 09 R269; width 16. -/
  xfade : Nat := 16
  /-- 09 (commands), 03 R85; width 32. -/
  gen : Nat := 1
  deriving DecidableEq, Repr

/-- a source channel's link setting (R280). -/
structure SrcLinkObj where
  /-- 09 R253; width 1. -/
  linked : Bool := false
  /-- 09 R280, 03 R85; width 32. -/
  gen : Nat := 1
  deriving DecidableEq, Repr

/-- a head's configuration copy (R288, R314 to R317). -/
structure HeadCfg where
  /-- 10 R314, R322; width 512. -/
  headSet : List (Byte) := []
  /-- 10 R314; width 8. -/
  plane : Option Nat := none
  /-- 10 R314; width 1. -/
  split : Bool := false
  /-- 10 R314; width 16. -/
  format : Nat := 0
  /-- 10 R314; width 32. -/
  background : Nat := 0
  /-- 10 R301 (empty: the first-start matrix); width 256. -/
  outMatrix : List (Byte) := []
  /-- 10 R315, R322; width 128 × 512. -/
  layers : List (Nat × List (Byte)) := []
  /-- 10 R298; width 16 × 2 × 64 × 8 × 10 (unlisted: the bilinear set). -/
  banks : List (Nat × List Int) := []
  /-- 10 R302; width 4 × 1024 × 16 + 4097 × 10 (unlisted entries: the first-start table). -/
  luts : List (Nat × List (Nat × Nat)) := []
  deriving DecidableEq, Repr

/-- an Assay region's setting (R318). -/
structure AssayObj where
  /-- 10 R318; width 8. -/
  mode : Nat := 0
  /-- 10 R318; width 16. -/
  frames : Nat := 0
  /-- 10 R318; width 16. -/
  x : Nat := 0
  /-- 10 R318; width 16. -/
  y : Nat := 0
  /-- 10 R318; width 16. -/
  w : Nat := 0
  /-- 10 R318; width 16. -/
  h : Nat := 0
  /-- 10 R318; width 32. -/
  expected : Nat := 0
  /-- 10 R318, 03 R85; width 32. -/
  gen : Nat := 1
  deriving DecidableEq, Repr

/-- one Hallmark region of an image (R309, R320). -/
structure HallReg where
  /-- 10 R320; width 1. -/
  enable : Bool := false
  /-- 10 R320; width 16. -/
  x : Nat := 0
  /-- 10 R320; width 16. -/
  y : Nat := 0
  /-- 10 R320; width 16. -/
  w : Nat := 0
  /-- 10 R320; width 16. -/
  h : Nat := 0
  /-- 10 R309, R320 starts transparent; width 16 × 65,536 in all. -/
  pixels : List (Nat × Nat) := []
  /-- 10 R311 the warning pattern shows; width 1. -/
  warning : Bool := false
  deriving DecidableEq, Repr

/-- a head's committed object (R288), its Assay settings and Hallmark image. -/
structure HeadObj where
  /-- 10 R288 active configuration; width see HeadCfg. -/
  cfg : HeadCfg := {}
  /-- 10 R288, 03 R85; width 32. -/
  gen : Nat := 1
  /-- 10 R312, R318; width 16 ×. -/
  assay : List (Nat × AssayObj) := []
  /-- 10 R309 active image; width 8 ×. -/
  hallActive : List (Nat × HallReg) := []
  /-- 10 R323 FRONT; width 4. -/
  front : Nat := 0
  deriving DecidableEq, Repr

/-- a lane's setting (R361, R362). -/
structure LanePolObj where
  /-- 11 R361; width 1. -/
  disabled : Bool := false
  /-- 11 R362; width 8. -/
  precode : Nat := 0
  /-- 11 R362, R356; width 16. -/
  histBound : Nat := 20
  /-- 11 R362; width 32. -/
  serLimit : Nat := 100000
  /-- 11 R362; width 16. -/
  snrMin : Nat := 1500
  /-- 11 R362; width 16. -/
  drift : Nat := 150
  /-- 11 (commands), 03 R85; width 32. -/
  gen : Nat := 1
  /-- 11 R352 coefficients stored in the journal; width 1. -/
  stored : Bool := false
  /-- 11 R347, R352 stored far-end taps; width 8 × 5. -/
  taps : List Int := []
  /-- 11 R347 action 5 own transmitter's taps as last agreed; width 8 × 5. -/
  txTaps : List Int := []
  /-- 11 R352 stored receive peaking; width 8. -/
  ctle : Nat := 0
  deriving DecidableEq, Repr

/-- the twin policy (R392). -/
structure TwinPolObj where
  /-- 12 R392; width 1. -/
  autoResync : Bool := true
  /-- 12 R392; width 1. -/
  sealCheck : Bool := true
  /-- 12 R392; width 16. -/
  retryS : Nat := 10
  /-- 12 R390, 03 R85; width 32. -/
  gen : Nat := 1
  deriving DecidableEq, Repr

/-- the power policy (R417). -/
structure PowerPolObj where
  /-- 13 R417; width 8. -/
  throttleC : Nat := 100
  /-- 13 R417; width 8. -/
  preferAnvil : Nat := 0
  /-- 13 R417; width 16. -/
  stepMs : Nat := 100
  /-- 13 R417, 03 R85; width 32. -/
  gen : Nat := 1
  deriving DecidableEq, Repr

/-- the journal policy (R443). -/
structure JournalPolObj where
  /-- 14 R443, R435; width 16. -/
  baseMs : Nat := 100
  /-- 14 R443; width 16. -/
  maxMs : Nat := 1000
  /-- 14 R443, 03 R85; width 32. -/
  gen : Nat := 1
  deriving DecidableEq, Repr

/-- the fault policy (R472). -/
structure FaultPolObj where
  /-- 15 R472; width 32. -/
  autoResetMs : Nat := 1000
  /-- 15 R472; width 16. -/
  rateLimit : Nat := 100
  /-- 15 R472, 03 R85; width 32. -/
  gen : Nat := 1
  deriving DecidableEq, Repr

/-- an installed kind's two slots (R480, R510). -/
structure KeySlot where
  /-- 16 R477, R480; width 384. -/
  current : Option (List (Byte)) := none
  /-- 16 R480; width 384. -/
  next : Option (List (Byte)) := none
  /-- 16 R510; width 24. -/
  kcvCurrent : Nat := 0
  /-- 16 R510; width 24. -/
  kcvNext : Nat := 0
  deriving DecidableEq, Repr

/-- every object the journal holds (R86, R434): what POWER_LOSS keeps and replay restores. -/
structure Objects where
  /-- 01 R21; width see TrimSet. -/
  trims : TrimSet := {}
  /-- 04 R121; width 8 ×. -/
  planes : List (Nat × PlaneObj) := []
  /-- 05 R147; width 10 ×. -/
  refs : List (Nat × RefObj) := []
  /-- 05 R149; width see. -/
  policy : PolicyObj := {}
  /-- 02 R40; width 16,384 ×. -/
  streams : List (Nat × StreamObj) := []
  /-- 02 R45; width 256 ×. -/
  manifests : List (Nat × ManifestObj) := []
  /-- 06 R157; width 65,536 × (every handle of R37). -/
  routes : List (Nat × RouteObj) := []
  /-- 06 R180; width 16 ×. -/
  gens : List (Nat × GenObj) := []
  /-- 07 R213; width 8,192 ×. -/
  fsync : List (Nat × FsyncObj) := []
  /-- 07 R215; width see. -/
  wharfPol : WharfPolObj := {}
  /-- 08 R236; width 8,192 ×. -/
  destForm : List (Nat × DestFormObj) := []
  /-- 08 R237; width 4,096 ×. -/
  anc : List (Nat × AncObj) := []
  /-- 08 R248; width 8,192 ×. -/
  detectors : List (Nat × DetObj) := []
  /-- 08 R249; width 2,048 ×. -/
  loud : List (Nat × LoudObj) := []
  /-- 09 R277; width 49,152 ×. -/
  chans : List (Nat × ChanObj) := []
  /-- 09 R280; width 49,152 ×. -/
  srcLinks : List (Nat × SrcLinkObj) := []
  /-- 10 R288; width 32 ×. -/
  heads : List (Nat × HeadObj) := []
  /-- 10 R310 last accepted COUNTER; width 64. -/
  hallCounter : Nat := 0
  /-- 11 R361; width 128 ×. -/
  lanes : List (Nat × LanePolObj) := []
  /-- 12 R392; width see. -/
  twinPol : TwinPolObj := {}
  /-- 13 R417; width see. -/
  powerPol : PowerPolObj := {}
  /-- 14 R443; width see. -/
  journalPol : JournalPolObj := {}
  /-- 15 R472; width see. -/
  faultPol : FaultPolObj := {}
  /-- 03 R68; width 64 × 32 (unlisted: 0x0000_FFFE). -/
  ceilings : List (Nat × Nat) := []
  /-- 16 R480; width 2 ×. -/
  keys : List (Nat × KeySlot) := []
  /-- 16 R506 KEY_COUNTER; width 64. -/
  keyCounter : Nat := 0
  /-- 16 R512; width 8 × 384. -/
  followList : List (List (Byte)) := []
  /-- 07 R212; width rows listed for repair (stack, pseudo-channel/bank/row word of R218). -/
  repairRows : List (Nat × Nat) := []
  deriving DecidableEq, Repr

/-- one command record as a host writes it (R78): the channel it stands on, its header and its payload bytes. -/
structure Cmd where
  /-- 03 R62; width 6. -/
  ch : Nat := 0
  /-- 03 R78; width 16. -/
  tag : Nat := 0
  /-- 03 R78; width 16. -/
  session : Nat := 0
  /-- 03 R78; width 16. -/
  flags : Nat := 0
  /-- 03 R78; width 32. -/
  expectedGen : Nat := 0
  /-- 03 R78; width 64. -/
  targetTick : Nat := 0
  /-- 03 R78 PAYLOAD_LENGTH; width 32. -/
  length : Nat := 0
  /-- 03 R78; width 0 to 4,096 bytes. -/
  payload : List (Byte) := []
  deriving DecidableEq, Repr

/-- What a command still in progress waits for (R80): the part of the chip that will make it final. -/
inductive JobKind where
  | take (dest : Nat)
  | salvo (total execRef execLater lost : Nat) (ref last : Int) (byTag byCh : Nat)
  | manifest (key : Nat)
  | plane (p : Nat)
  | composerTrim
  | latencyTrim
  | frameSync (bay : Nat)
  | commitHead (h : Nat)
  | assay (h r : Nat)
  | moorTx (lane : Nat)
  | wakeTx (lane : Nat)
  | resync
  | yieldHelm
  | inject (key : Nat)
  | stageImage
  | handover
  | revert
  | commitImage
  deriving DecidableEq, Repr

/-- a command admitted and not yet final (R80): what its final completion needs. -/
structure Job where
  /-- 03 R80; width -. -/
  id : Nat := 0
  /-- 03 R79; width the record. -/
  cmd : Cmd := {}
  /-- 03 R79; width 16. -/
  opcode : Nat := 0
  /-- 03 R79 SQ_HEAD after the command was read; width 16. -/
  sqHead : Nat := 0
  /-- 03 R59 false once its completion is discarded; width 1. -/
  owed : Bool := true
  /-- 03 R79 NEW_GENERATION it will carry; width 32. -/
  gen : Nat := 0
  /-- 03 R80; width -. -/
  kind : JobKind := .resync
  deriving DecidableEq, Repr

/-- one unread record that counts towards a ring's moderation (R91). -/
structure Mark where
  /-- 03 R91 position in the ring's lifetime count; width -. -/
  idx : Nat := 0
  /-- 03 R91 elapsed tick of its writing; width -. -/
  elap : Nat := 0
  /-- 03 R91 written after the vector's last message; width 1. -/
  sinceMsg : Bool := true
  deriving DecidableEq, Repr

/-- interrupt setting and moderation state of one ring (R91, R96). -/
structure RingIrq where
  /-- 03 R91: false while the ring keeps its default vector untouched; width 1. -/
  known : Bool := false
  /-- 03 R91; width 6. -/
  vector : Nat := 0
  /-- 03 R91; width 16. -/
  n : Nat := 1
  /-- 03 R91; width 16. -/
  m : Nat := 0
  /-- 03 R96 setting that acts from the end of the tick; width 6 + 16 + 16. -/
  next : Option (Nat × Nat × Nat) := none
  /-- 03 R91; width -. -/
  marks : List Mark := []
  /-- 03 R91 records written in the ring's life; width -. -/
  written : Nat := 0
  /-- 03 R91 a counting record was written this tick; width 1. -/
  wrote : Bool := false
  /-- 03 R91; width 1. -/
  ready : Bool := false
  deriving DecidableEq, Repr

/-- a mailbox channel (R62 CHANNEL_STATUS, R65 to R77). -/
structure Channel where
  /-- 03 R62 OPEN; width 1. -/
  isOpen : Bool := false
  /-- 03 R62 DRAINING; width 1. -/
  draining : Bool := false
  /-- 03 R62 RING_FAULT, R74; width 1. -/
  ringFault : Bool := false
  /-- 03 R62 HELD, R76; width 1 + the record. -/
  held : Option (Nat × Cmd) := none
  /-- 03 R62, R69; width 16. -/
  session : Nat := 0
  /-- 03 R68 granted mask; width 32. -/
  priv : Nat := 0
  /-- 03 R94; width 32. -/
  leaseMs : Nat := 0
  /-- 03 R71 counted ticks since the last admission; width -. -/
  leaseAge : Nat := 0
  /-- 03 R94 LABEL; width 128. -/
  label : List (Byte) := []
  /-- 03 R66, R70; width 12. -/
  sqHead : Nat := 0
  /-- 03 R70 SQ_HEAD as it stays while the channel drains; width 12. -/
  headShown : Option Nat := none
  /-- 03 R72 announced tail; width 12. -/
  sqTail : Nat := 0
  /-- 03 R75 tail eligible in the present tick; width 12. -/
  eligible : Nat := 0
  /-- 03 R75, R76 announced tails still ahead, with the tick from which each is eligible; width -. -/
  elig : List (Nat × Nat) := []
  /-- 03 R76 the eligible tick of the record read last; width -. -/
  readAt : Nat := 0
  /-- 03 R66, R70; width 10. -/
  cqTail : Nat := 0
  /-- 03 R81 PHASE of the present pass; width 1. -/
  phase : Bool := true
  /-- 03 R91; width see RingIrq. -/
  irq : RingIrq := {}
  deriving DecidableEq, Repr

/-- an event raised in the present tick and not yet written (R87, R88). -/
structure EventRec where
  /-- 03 R87; width 16. -/
  code : Nat := 0
  /-- 03 R87; width 3. -/
  sev : Nat := 0
  /-- 03 R87; width 16. -/
  subject : Nat := 0
  /-- 03 R87; width 32. -/
  data : Nat := 0
  /-- 03 R87; width 48. -/
  tick : Nat := 0
  /-- 03 R87, R88; width 8. -/
  count : Nat := 1
  deriving DecidableEq, Repr

/-- an event ring (R87 to R91). -/
structure EventRing where
  /-- 03 R90 EQ_TAIL; width 18. -/
  tail : Nat := 0
  /-- 03 R87 PHASE; width 1. -/
  phase : Bool := true
  /-- 03 R90 DROPPED; width 32. -/
  dropped : Nat := 0
  /-- 03 R90 records lost since the ring was last full; width 32. -/
  lost : Nat := 0
  /-- 03 R91; width see RingIrq. -/
  irq : RingIrq := {}
  deriving DecidableEq, Repr

/-- the mailbox block: channels, rings, sessions, jobs (R62 to R92). -/
structure Mbox where
  /-- 03 R67; width 64 ×. -/
  channels : List (Nat × Channel) := []
  /-- 03 R89; width 4 ×. -/
  rings : List (Nat × EventRing) := []
  /-- 03 R88; width -. -/
  tickEvents : List EventRec := []
  /-- 03 R69 numbers assigned in the power-on period; width 65,535 × 1. -/
  usedSessions : List Nat := []
  /-- 03 R80; width -. -/
  jobs : List Job := []
  /-- 03 R80; width -. -/
  nextJob : Nat := 1
  /-- 03 R75 commands admitted in the present tick; width 9. -/
  admitted : Nat := 0
  /-- 06 R163 takes armed in the present tick; width 14. -/
  armed : Nat := 0
  /-- 03 R75 commands admitted per channel in the present tick; width 64 × 5. -/
  chAdmitted : List (Nat × Nat) := []
  /-- 03 R98; width 64. -/
  notifyAddr : Nat := 0
  /-- 03 R98, R92; width 1. -/
  notifyOn : Bool := false
  /-- 03 R92 SEQUENCE; width 32. -/
  notifySeq : Nat := 0
  /-- 03 R92 the last line written by ItoMWr; width 512. -/
  notifyLine : List (Byte) := []
  /-- 03 R92 a tail advanced in this tick; width 1. -/
  tailMoved : Bool := false
  /-- 03 R91 vectors messaged at the end of the last tick; width 64 × 1. -/
  msixSent : List Nat := []
  /-- 03 R62, R91; width 64. -/
  msixPending : Nat := 0
  deriving DecidableEq, Repr

/-- the host link, BAR0 registers and configuration space (R56 to R63). -/
structure HostPort where
  /-- 03 R58, R62 DEVICE_STATE[4], [6]; width 2. -/
  link : LinkSt := .down
  /-- 03 R93 LINK; width 4. -/
  linkWidth : Nat := 0
  /-- 03 R93 LINK; width 4. -/
  linkRate : Nat := 0
  /-- 03 R59 the rings await their reset at L0; width 1. -/
  linkLost : Bool := false
  /-- 14 R420 trained since the last cold start; width 1. -/
  trained : Bool := false
  /-- 03 R61 HDM decoder 0 committed, its base; width 1 + 64. -/
  dec0 : Option Nat := none
  /-- 03 R61 HDM decoder 1 committed, its base; width 1 + 64. -/
  dec1 : Option Nat := none
  /-- 03 R62 SCRATCH; width 64. -/
  scratch : Nat := 0
  /-- 03 R62 DD_HEADER; width 256. -/
  ddHeader : List (Nat × Byte) := []
  /-- 03 R62 DD_PAYLOAD; width 32,768. -/
  ddPayload : List (Nat × Byte) := []
  /-- 03 R62, R63 BUSY; width 1. -/
  ddBusy : Bool := false
  /-- 03 R62, R63 OVERRUN; width 1. -/
  ddOverrun : Bool := false
  /-- 03 R62 DD_COMPLETION; width 256. -/
  ddCompletion : List (Nat × Byte) := []
  /-- 03 R63; width the latched command. -/
  ddCmd : Option (Nat × Cmd) := none
  /-- 03 R62 MSI-X table; width 64 × 128. -/
  msixTable : List (Nat × Byte) := []
  /-- 03 R60 configuration space, as written; width 4,096 bytes. -/
  config : List (Nat × Byte) := []
  /-- 03 R60 BAR2, component registers as written; width 65,536 bytes. -/
  bar2 : List (Nat × Byte) := []
  /-- 03 R56, 16 R485 IDE stream of CXL.io secure; width 1. -/
  ideIo : Bool := false
  /-- 03 R56, 16 R485 IDE stream of CXL.cachemem secure; width 1. -/
  ideMem : Bool := false
  /-- 03 R64, 07 R209 data of the last CXL.mem read; width -. -/
  readData : List (Byte) := []
  /-- 07 R209 the last CXL.mem read was poisoned; width 1. -/
  readPoison : Bool := false
  /-- 07 R190, R209 HDM words (by number) that are uncorrectable; width 16 GiB / 32 × 1. -/
  poison : List Nat := []
  /-- 03 R56 H2D snoops answered RspIHitI; width -. -/
  snoops : Nat := 0
  deriving DecidableEq, Repr

/-- a plane's grid in force (R108 to R117). -/
structure PlaneRt where
  /-- 04 R108, R111 adopted PHASE; width 64. -/
  gridPhase : Nat := 0
  /-- 04 R108, R111 adopted copy of E; width 64 + 32. -/
  gridE : Int := 0
  /-- 04 R123 FRAME; width 64. -/
  frame : Int := 0
  /-- 04 R109 start of that frame, the numerator of R109 on the grid it began on; width 128. -/
  startNum : Int := 0
  /-- 04 R111 number of the next frame (k after a step); width 64. -/
  nextFrame : Int := 0
  /-- 04 R122 PHASE change awaiting adoption; width -. -/
  job : Option Nat := none
  /-- 04 R111 frame whose adoption tick was done; width -. -/
  adopted : Option Int := none
  /-- 04 R122 tick in which the plane was enabled; width 64. -/
  since : Option Nat := none
  /-- 08 R238 elapsed tick of the last publication (R541); width 64. -/
  pubTick : Nat := 0
  /-- 08 R238 frame whose frame tick was done; width -. -/
  pubFrame : Option Int := none
  /-- 04 R117 last frame committed; width -. -/
  committed : Option Int := none
  /-- 06 R161 frames closed for want of room; width -. -/
  closed : List Int := []
  /-- 01 R22 Latency value in force on the plane; width 1. -/
  latSync : Bool := false
  /-- 01 R22 the frame at whose switch point a change acts; width -. -/
  latDue : Option Int := none
  deriving DecidableEq, Repr

/-- the time model and the tick (R102 to R120). -/
structure TimeRt where
  /-- 04 R102 T; width 64. -/
  tick : Nat := 0
  /-- 04 R541 elapsed ticks since power rose; width -. -/
  elapsed : Nat := 0
  /-- 04 R103 E, in units of 2^−32 tick; width 64 + 32. -/
  e : Int := 0
  /-- 04 R104 frequency correction, 10^−12; width 32. -/
  freq : Int := 0
  /-- 04 R104, 05 R131 sum over the ticks of the correction and the mean spread, 10^−12 tick; width -. -/
  corr : Int := 0
  /-- 04 R102, R103, 15 R464 the time model runs: a start has set T; width 1. -/
  running : Bool := false
  /-- 04 R123 TM_STATE; width 8. -/
  tmState : TmState := .freeRun
  /-- 04 R123 TIME_SOURCE; width 8. -/
  source : Nat := 2
  /-- 04 R123 TICK_SLIPS; width 32. -/
  slips : Nat := 0
  /-- 04 R123 BG_SHED; width 32. -/
  bgShed : Nat := 0
  /-- 04 R123 FG_MAX_NS; width 32. -/
  fgMax : Nat := 0
  /-- 04 R123 elapsed ticks and foregrounds of the last 48,000 ticks that no later one exceeds; width -. -/
  fgWin : List (Nat × Nat) := []
  /-- 04 R119 background ns of the running window; width -. -/
  bgSum : Nat := 0
  /-- 04 R119 ticks of the running window; width 16. -/
  bgCount : Nat := 0
  /-- 08 R242 elapsed tick of the last periodic publication; width -. -/
  published : Option Nat := none
  /-- 04 R120 the present tick is run without step 3; width 1. -/
  slipped : Bool := false
  /-- 04 R108; width 8 ×. -/
  planes : List (Nat × PlaneRt) := []
  /-- 15 R468 run of missed ticks; width 8. -/
  missedEast : Nat := 0
  /-- 15 R468 run of missed ticks; width 8. -/
  missedWest : Nat := 0
  deriving DecidableEq, Repr

/-- a reference slot in service (R128 to R141, R150). -/
structure SlotRt where
  /-- 05 R132; SELECTED is RefsRt.selected, on a QUALIFIED slot; width 3. -/
  st : RefSt := .disabled
  /-- 05 R150; width 8. -/
  lastCause : Nat := 0
  /-- 05 R150 class in force; width 8. -/
  quality : Nat := 255
  /-- 05 R127 a beacon has come; width 1. -/
  seen : Bool := false
  /-- 05 R133 elapsed tick of the last disqualification or enabling; width -. -/
  downAt : Option Nat := none
  /-- 05 R133 qualification timer, elapsed ticks; width -. -/
  timer : Nat := 0
  /-- 05 R150 FREQ; width 32. -/
  freq : Int := 0
  /-- 05 R134; width 1. -/
  freqJudged : Bool := false
  /-- 05 R134 cause 2 standing; width 1. -/
  freqBad : Bool := false
  /-- 05 R134 ticks since the first measurement; width -. -/
  cover : Nat := 0
  /-- 05 R128, R129 the last measurement, which is the prediction of the next: beacon time less arrival, or the instant of the pulse, ns of T; width -. -/
  pos : Option Int := none
  /-- 05 R134; width 1. -/
  havePred : Bool := false
  /-- 05 R128 measurements of the last 1 s, the last first: instant, position (of a pin, times N of R110), frequency corrections until then; width -. -/
  meas : List (Int × Int × Int) := []
  /-- 05 R134 elapsed ticks since enabling or the end of the start; width -. -/
  silent : Nat := 0
  /-- 05 R134 barge in which the next beacon is due; width 32. -/
  due : Option Nat := none
  /-- 05 R134 consecutive beacons overdue; width 2. -/
  missedRun : Nat := 0
  /-- 05 R134 cause 1 standing; width 1. -/
  missing : Bool := false
  /-- 05 R134 cause 6 standing; width 1. -/
  laneDown : Bool := false
  /-- 05 R134 elapsed ticks of off-grid pulses within 1 s; width -. -/
  offGrid : List Nat := []
  /-- 05 R134, R135 causes 4 and 5 standing; width 1. -/
  gridBad : Bool := false
  /-- 05 R135 last pulse intervals in ns; width 8 ×. -/
  gaps : List Int := []
  /-- 05 R129, R134 rising edge of the last valid pulse, ns of T; width -. -/
  lastPulse : Option Int := none
  /-- 05 R150; width 16. -/
  anomalies : Nat := 0
  /-- 05 R150; width 16. -/
  filtered : Nat := 0
  /-- 05 R150; width 32. -/
  measuredRate : Nat := 0
  /-- 05 R137 announced jump: JUMP_SEQ and JUMP_NS; width 64. -/
  jump : Option (Nat × Int) := none
  /-- 05 R137 announced in time, and alike in every beacon since; width 1. -/
  jumpOk : Bool := false
  /-- 05 R127; width 16. -/
  utcOffset : Int := 0
  /-- 05 R127; width 64. -/
  sourceId : Nat := 0
  deriving DecidableEq, Repr

/-- the reference selector (R138 to R145). -/
structure RefsRt where
  /-- 05 R125; width 10 ×. -/
  slots : List (Nat × SlotRt) := []
  /-- 05 R150 SELECTED; width 8. -/
  selected : Option Nat := none
  /-- 05 R151 last slot selected; width 8. -/
  last : Option Nat := none
  /-- 05 R140 planes on which the switch is not complete, with frame k once adopted; width 8 ×. -/
  pending : List (Nat × Option Int) := []
  /-- 05 R142; width 1. -/
  holdover : Bool := false
  /-- 05 R150; width 64. -/
  holdStart : Nat := 0
  /-- 05 R143 elapsed ticks of holdover; width -. -/
  holdAge : Nat := 0
  /-- 05 R150 HOLDOVER_FREQ; width 32. -/
  holdFreq : Int := 0
  /-- 05 R143 HOLDOVER_OUT_OF_SPEC raised; width 1. -/
  outOfSpec : Bool := false
  /-- 05 R141, R150 DISPUTE; width 16. -/
  pair : Option (Nat × Nat) := none
  /-- 05 R141 windows of agreement in the standing dispute; width 4. -/
  pairRun : Nat := 0
  /-- 05 R141 windows of difference of each slot from the selected one; width 10 ×. -/
  runs : List (Nat × Nat) := []
  /-- 05 R141 ticks of the running 1 s window; width 16. -/
  window : Nat := 0
  /-- 05 R137 announced jump of the selected slot that passes to E at step 6, ns; width 32. -/
  jumpStep : Int := 0
  /-- 05 R148 change of the selected slot's DELAY_NS that passes to E, ns; width 32. -/
  delayStep : Int := 0
  /-- 05 R142 measured frequency of the selected slot in its last 60 s, with its ticks, the last first; width -. -/
  hist : List (Int × Nat) := []
  deriving DecidableEq, Repr

/-- a lane stream in service (R40, R86, R203, R244). -/
structure StreamRt where
  /-- 02 R43 format the data is read or built under; width 16. -/
  effFormat : Nat := 0
  /-- 02 R43 plane likewise; width 8. -/
  effPlane : Nat := 0
  /-- 02 R43, 03 R86 plane and frame at which an amend acts; width -. -/
  effAt : Option (Nat × Int) := none
  /-- 07 R203 cause, 0 not lost; width 3. -/
  lost : Nat := 0
  /-- 07 R216 LOSS_CAUSE; width 8. -/
  lossCause : Nat := 0
  /-- 07 R204 elapsed ticks lost; width -. -/
  lostFor : Nat := 0
  /-- 07 R204, R216 FILLING; width 1. -/
  filling : Bool := false
  /-- 07 R203 ticks since the last START; width -. -/
  sinceStart : Nat := 0
  /-- 07 R203 consecutive complete undamaged frames; width 2. -/
  good : Nat := 0
  /-- 07 R203 a barge of the running frame was damaged; width 1. -/
  frameDamaged : Bool := false
  /-- 07 R203 ticks every barge has been damaged; width -. -/
  damagedFor : Nat := 0
  /-- 06 R173 δ in ns against its own plane; width 32. -/
  offset : Option Int := none
  /-- 06 R173 SOURCE_OUT_OF_STEP raised for this drift; width 1. -/
  drift : Bool := false
  /-- 08 R244 FRAME_SEQ; width 32. -/
  frameSeq : Nat := 0
  /-- 07 R216 LOSSES; width 32. -/
  losses : Nat := 0
  /-- 06 R173 elapsed tick at which its newest frame was complete; width -. -/
  doneAt : Option Nat := none
  /-- 08 R226 found in level B dual-stream mapping; width 1. -/
  dual : Bool := false
  /-- 02 R40 a released output sends idle fill; width 1. -/
  sendIdle : Bool := false
  /-- 02 R40, 03 R86 plane and frame of that; width -. -/
  fillAt : Option (Nat × Int) := none
  deriving DecidableEq, Repr

/-- a lane direction's manifest in change (R49 to R53). -/
structure ManifestRt where
  /-- 02 R49; width the pending buffer. -/
  pending : Option PendManifest := none
  /-- 11 R344 record held, received or sent; width 8 + 32 + 32. -/
  announce : Option Announce := none
  /-- 02 R51 the Tandem record carrying the change was sent; width 1. -/
  carried : Bool := false
  deriving DecidableEq, Repr

/-- one take queue entry (R158, R164). -/
structure Entry where
  /-- 06 R158; width 64. -/
  frame : Int := 0
  /-- 06 R158 plane of the destination at admission; width 3. -/
  plane : Nat := 0
  /-- 06 R165; width 16 + 1. -/
  source : Option Nat := none
  /-- 06 R165 XFADE, none: the default; width 8. -/
  xfade : Option Nat := none
  /-- 06 R159; width 1. -/
  committed : Bool := false
  /-- 06 R173 path chosen at commit; width 2. -/
  path : Path := .disconnected
  /-- 06 R173, 07 R198 the data comes from the source's berth; width 1. -/
  via : Bool := false
  /-- 06 R173 offset used for the cut, ns; width 32. -/
  offset : Option Int := none
  /-- 12 R380 input barge s feeds output barge s + delta, modulo 2^32; width 32. -/
  delta : Nat := 0
  /-- 06 R166 the frame it would be DONE at; width 64. -/
  natural : Int := 0
  /-- 06 R166 (0: none, carried from the former helm); width -. -/
  job : Nat := 0
  /-- 06 R169, R171; width 16. -/
  session : Nat := 0
  /-- 06 R169; width 6. -/
  ch : Nat := 0
  /-- 06 R169; width 16. -/
  tag : Nat := 0
  /-- 06 R164, 12 R364 carried in a sent record; width 1. -/
  sent : Bool := false
  deriving DecidableEq, Repr

/-- a destination in service (R158 to R179, R187). -/
structure RouteRt where
  /-- 06 R158; width 4 ×. -/
  queue : List Entry := []
  /-- 06 R173; width 2. -/
  path : Path := .disconnected
  /-- 06 R187 VIA_BERTH; width 1. -/
  via : Bool := false
  /-- 06 R187 IN_STEP; width 1. -/
  inStep : Bool := false
  /-- 06 R156, R187; width 1. -/
  mismatch : Bool := false
  /-- 06 R187 OFFSET_NS; width 32. -/
  offset : Option Int := none
  /-- 12 R380 of the route's take; width 32. -/
  delta : Nat := 0
  /-- 06 R187; width 64. -/
  lastTick : Nat := 0
  /-- 06 R187; width 32. -/
  rough : Nat := 0
  /-- 06 R187; width 32. -/
  takes : Nat := 0
  /-- 06 R171 protecting session, 0 none; width 16. -/
  protect : Nat := 0
  /-- 06 R174 change of line 6 at the last cut, sample periods; width -. -/
  line6 : Int := 0
  /-- 06 R174 fill of the last rough cut, sample periods; width -. -/
  fill : Nat := 0
  /-- 07 R204, 08 R245 LOSS_FILL; width 1. -/
  lossFill : Bool := false
  /-- 07 R204 the fill is the generator's where one matches; width 1. -/
  lossGen : Bool := false
  /-- 08 R245; width 32. -/
  ancDropped : Nat := 0
  /-- 08 R250 packets dropped in the running second; width 32. -/
  ancSecond : Nat := 0
  /-- 08 R245; width 16. -/
  ancSent : Nat := 0
  /-- 08 R245 TC_OUT; width 32. -/
  tcOut : Nat := 0
  /-- 08 R233 TC_UNREFERENCED; width 1. -/
  tcUnref : Bool := false
  /-- 08 R236 form in force while another waits for its frame; width see DestFormObj. -/
  formCur : Option DestFormObj := none
  /-- 08 R236 forms and the frames at which they act; width -. -/
  formDue : List (Int × DestFormObj) := []
  /-- 08 R237 likewise for an ANC destination; width see AncObj. -/
  ancCur : Option AncObj := none
  /-- 08 R237 likewise; width -. -/
  ancDue : List (Int × AncObj) := []
  /-- 08 R230 FRAME_SEQ sent; width 32. -/
  essSeq : Nat := 0
  /-- 06 R157; width 1. -/
  everRouted : Bool := false
  /-- 06 R173 elapsed tick at which the route was made; width -. -/
  madeAt : Nat := 0
  /-- 08 R245 its record stands in the Chart as VALID; width 1. -/
  shown : Bool := false
  deriving DecidableEq, Repr

/-- one die's pounds (R183, R184). -/
structure PoundRt where
  /-- 06 R183 pound carrying slice k; width 8 × 4. -/
  traffic : List Nat := [0, 1, 2, 3, 4, 5, 6, 7]
  /-- 06 R183; width 4 + 1. -/
  spare : Option Nat := some 8
  /-- 06 R183 next traffic slice in cyclic order; width 3. -/
  nextSlice : Nat := 0
  /-- 06 R183 slice carried in shadow; width 3 + 1. -/
  shadow : Option Nat := none
  /-- 06 R183 shadow barges done; width 5. -/
  barges : Nat := 0
  /-- 06 R184; width 1. -/
  mismatch : Bool := false
  /-- 06 R183 spare in self-test; width 1. -/
  testing : Bool := false
  /-- 06 R184; width 9 × 1. -/
  retired : List Nat := []
  /-- 06 R184 the spare failed its self-test; width 1. -/
  failed : Bool := false
  /-- 06 R183 elapsed tick at which the last rotation began; width -. -/
  rotAt : Nat := 0
  /-- 06 R183 elapsed tick at which the self-test began; width -. -/
  testAt : Nat := 0
  deriving DecidableEq, Repr

/-- the Basin and Lockkeeper (R152 to R187). -/
structure BasinRt where
  /-- 06 R153; width 65,536 ×. -/
  routes : List (Nat × RouteRt) := []
  /-- 06 R183; width 2 ×. -/
  pounds : List (Nat × PoundRt) := []
  /-- 06 R182 pattern shown until the next frame start; width 16 ×. -/
  genPend : List (Nat × GenObj) := []
  deriving DecidableEq, Repr

/-- an ST 291-1 packet of a frame (R194, R221): its 10-bit words are DID, SDID or DBN, DC, user words and checksum. -/
structure AncPkt where
  /-- 08 R219, R221 interface line; width 16. -/
  line : Nat := 0
  /-- 08 R221 AFLAGS[0]; width 1. -/
  chroma : Bool := false
  /-- 08 R221 AFLAGS[1]; width 1. -/
  hanc : Bool := false
  /-- 08 R221 H_OFFSET; width 16. -/
  pos : Nat := 0xFFFF
  /-- 08 R221; width 10 × (DC + 4). -/
  words : List Nat := []
  deriving DecidableEq, Repr

/-- what one frame of a stream carries: its stowed form (R194). -/
structure FrameData where
  /-- 02 R35, 08 R221; width 16. -/
  format : Nat := 0
  /-- 07 R194 active lines, the first field's first, samples in the pixel-group order of R221; width width × height × bits per pixel of R33. -/
  lines : List (List Nat) := []
  /-- 07 R194, R195; width 262,144 bytes. -/
  anc : List AncPkt := []
  /-- 07 R194, R195 words of the channels, sample by sample; width 64 × ceil(S) × 32. -/
  audio : List (List Nat) := []
  /-- 08 R221, R232; width 32. -/
  payloadId : Option Nat := none
  /-- 07 R201 damaged active lines; width -. -/
  damaged : List Nat := []
  /-- 08 R221 the sender's DAMAGED flag; width 1. -/
  marked : Bool := false
  /-- 08 R239 found in level B mapping; width 1. -/
  levelB : Bool := false
  /-- 08 R226 found in level B dual-stream mapping; width 1. -/
  dual : Bool := false
  /-- 08 R239 lines with a CRC error; width 16. -/
  crcLines : Nat := 0
  /-- 08 R239; width 16. -/
  trsErrors : Nat := 0
  /-- 08 R229, R230 packets with a failed checksum or parity; width 16. -/
  ancBad : Nat := 0
  /-- 08 R244 packets in the frame; width 16. -/
  ancSeen : Nat := 0
  /-- 08 R220, R244 essence parse failures and end CRC mismatches; width 16. -/
  errors : Nat := 0
  /-- 08 R239 format code that the structure shows, 0xFFFE if none; width 16. -/
  seen : Nat := 0xFFFE
  deriving DecidableEq, Repr

/-- reception of the running frame of an input stream (R27, R28, R220, R229, R239). -/
structure InRt where
  /-- 02 R28 a START has come; width 1. -/
  on : Bool := false
  /-- 07 R199 BARGE_SEQ of the barge that carried its START; width 32. -/
  seq : Nat := 0
  /-- 06 R173 arrival of that barge, ns of T + E; width 64. -/
  start : Int := 0
  /-- 02 R26 units received and not yet read, none where lost; width -. -/
  units : List (Option Nat) := []
  /-- 02 R26 units of the stream in the last barge that could be read; width 12. -/
  count : Nat := 0
  /-- 08 R225 interface line last read; 0 before the first; width 11. -/
  line : Nat := 0
  /-- 08 R225 words of that line; width -. -/
  prev : List Nat := []
  /-- 07 R201 no word of that line was lost; width 1. -/
  whole : Bool := true
  /-- 08 R220 essence: 0 before the header, 1 among the units, 2 ended; width 2. -/
  phase : Nat := 0
  /-- 08 R221 essence: bytes of the frame read so far; width -. -/
  bytes : List (Option Nat) := []
  /-- 08 R221; width 8. -/
  channels : Nat := 0
  /-- 08 R225 serial: active words of the interface rows read, stream by stream; width -. -/
  rows : List (Nat × List (List Nat)) := []
  /-- 08 R221 picture lines read; width -. -/
  lines : List (Nat × List Nat) := []
  /-- 07 R194 what else has been read of the frame; width see FrameData. -/
  data : FrameData := {}
  /-- 08 R239 words of a line between EAVs as last seen; width 16. -/
  width : Nat := 0
  /-- 08 R239 active words of a line as last seen; width 16. -/
  active : Nat := 0
  /-- 08 R239 a line of a second field was seen; width 1. -/
  fields : Bool := false
  /-- 08 R239 the TRS of level B mapping were seen; width 1. -/
  wide : Bool := false
  /-- 08 R239 serial: lines read of the frame; width 16. -/
  read : Nat := 0
  /-- 08 R221, R257 audio samples read of the frame; width 16. -/
  samples : Nat := 0
  /-- 08 R239 arrivals of the last frame starts; width 9 × 64. -/
  starts : List Int := []
  deriving DecidableEq, Repr

/-- transmission of an output stream (R27, R28, R174 to R176, R224, R230, R231). -/
structure OutRt where
  /-- 02 R26, R28 units due and not yet sent, with their START; width -. -/
  queue : List (Bool × Nat) := []
  /-- 08 R224 source that feeds the output, and whether its berth does; none: black; width 1 + 16 + 1. -/
  feed : Option (Nat × Bool) := none
  /-- 06 R174, R175 feed that comes in at a cut, and whether the cut is rough; width -. -/
  join : Option (Option (Nat × Bool) × Bool) := none
  /-- 06 R174 instant at which the old feed reached its line-7 EAV, 2^−32 tick of T; width -. -/
  ended : Option Int := none
  /-- 08 R224 instant up to which lines have been built, 2^−32 tick of T; width -. -/
  since : Option Int := none
  /-- 08 R224 interface line last made; 0 before the first; width 11. -/
  line : Nat := 0
  /-- 08 R225 words of that line, held until the next line's CRC words are made over them; width -. -/
  hand : List Nat := []
  /-- 08 R226 words of the line before it; width -. -/
  before : List Nat := []
  /-- 08 R227 the frame's packets have been chosen; width 1. -/
  ready : Bool := false
  /-- 08 R227 DID and SDID of the source packets passed in the frame; width -. -/
  seen : List (Nat × Nat) := []
  /-- 08 R245 time address sent in the frame; width 32. -/
  tc : Nat := 0
  /-- 02 R28 they begin a frame; width 1. -/
  handStart : Bool := false
  /-- 08 R224 frame of the destination's plane that is being made; width 64. -/
  frame : Option Int := none
  /-- 08 R224 source of the picture being built, none for black; width 16 + 1. -/
  source : Option Nat := none
  /-- 07 R199 frame of that source: a berth's or a generator's; width 64. -/
  pick : Nat := 0
  /-- 08 R227 vertical packets of the frame still to be placed; width -. -/
  todo : List AncPkt := []
  /-- 08 R227 horizontal packets of the frame still to be placed; width -. -/
  kept : List AncPkt := []
  /-- 08 R227, R234 packets of ANC destinations still to be placed in the frame; width -. -/
  extra : List AncPkt := []
  /-- 08 R245 packets sent in the frame; width 16. -/
  sentAnc : Nat := 0
  /-- 08 R227 packets dropped in the frame; width 16. -/
  lostAnc : Nat := 0
  /-- 08 R228, R231 audio words waiting, by their tick; width -. -/
  rows : List (Nat × List Nat) := []
  /-- 08 R228 samples embedded, modulo 255; width 8. -/
  embedded : Nat := 0
  /-- 08 R220 an essence frame is open; width 1. -/
  opened : Bool := false
  /-- 08 R221 its bytes so far; width -. -/
  bytes : List Byte := []
  /-- 08 R220 its next picture line; width 12. -/
  next : Nat := 0
  /-- 08 R221 its audio samples sent; width 16. -/
  sampled : Nat := 0
  /-- 08 R221 SAMPLES of its header; width 16. -/
  samples : Nat := 0
  /-- 08 R223 bytes of its ANC allowance left; width 32. -/
  room : Nat := 0
  /-- 08 R230 a line of the frame was concealed or blanked; width 1. -/
  damaged : Bool := false
  /-- 06 R175 instant of its START, 2^−32 tick of T; width 64 + 32. -/
  start : Int := 0
  deriving DecidableEq, Repr

/-- an input frame known to a berth (R199). -/
structure InFrame where
  /-- 07 (frame synchronisation); width 32. -/
  seq : Nat := 0
  /-- 07 R199 start instant, 2^−32 tick; width 64 + 32. -/
  start : Int := 0
  /-- 07 R199; width 8. -/
  slot : Nat := 0
  /-- 10 R294; width 1. -/
  complete : Bool := false
  /-- 07 R209 samples of a pyramid lost to an uncorrectable error: level, x, y; width -. -/
  blackened : List (Nat × Nat × Nat) := []
  /-- 07 R201; width 16. -/
  damagedLines : Nat := 0
  /-- 07 R194 its stowed form, once it is complete; width see FrameData. -/
  data : FrameData := {}
  deriving DecidableEq, Repr

/-- a berth (R194 to R204, R216). -/
structure BerthRt where
  /-- 07 R196 die whose pool holds it; width 1. -/
  die : Nat := 0
  /-- 07 R195, R196; width 32. -/
  pages : Nat := 0
  /-- 07 R196, R216; width 8. -/
  slots : Nat := 0
  /-- 07 R199, R216; width 1. -/
  paired : Bool := false
  /-- 07 R199 frame last read; width 32. -/
  last : Nat := 0
  /-- 07 R199; width ring. -/
  frames : List InFrame := []
  /-- 07 R216; width 32. -/
  lagUs : Nat := 0
  /-- 07 R216; width 32. -/
  repeats : Nat := 0
  /-- 07 R216; width 32. -/
  drops : Nat := 0
  /-- 07 R216; width 32. -/
  concealed : Nat := 0
  /-- 07 R216; width 16. -/
  black : Nat := 0
  /-- 07 R194, R216; width 16. -/
  ancOverflow : Nat := 0
  /-- 07 R204, R216; width 1. -/
  filling : Bool := false
  /-- 07 R214 job of an ENABLE 0 awaiting its cuts; width -. -/
  freeing : Option Nat := none
  deriving DecidableEq, Repr

/-- a pyramid (R205, R206). -/
structure PyramidRt where
  /-- 07 R206; width 1. -/
  die : Nat := 0
  /-- 07 R206; width 32. -/
  pages : Nat := 0
  /-- 07 R206; width 16. -/
  format : Nat := 0
  /-- 07 R206 heads whose running frame reads it; width 32 × 1. -/
  users : List Nat := []
  /-- 07 R206, 10 R294 complete frames since it was built, their start being the instant of completion; width 3 ×. -/
  frames : List InFrame := []
  deriving DecidableEq, Repr

/-- one HBM stack (R189, R208 to R211, R217). -/
structure StackRt where
  /-- 07 R217; width 32. -/
  corrected : Nat := 0
  /-- 07 R217; width 32. -/
  uncorrected : Nat := 0
  /-- 07 R217; width 16. -/
  softRows : Nat := 0
  /-- 07 R217; width 16. -/
  hardRows : Nat := 0
  /-- 07 R210 repair rows used of 1,536; width 16. -/
  used : Nat := 0
  /-- 07 R217; width 1. -/
  spareUsed : Bool := false
  /-- 07 R189, R217; width 8. -/
  activePcs : Nat := 31
  /-- 07 R208 next 256-byte unit of the pass; width 32. -/
  unit : Nat := 0
  /-- 07 R217; width 32. -/
  passes : Nat := 0
  /-- 07 R218 corrected errors in the pass; width 32. -/
  passCorrected : Nat := 0
  /-- 07 R210 rows with a corrected error in a pass; width -. -/
  badRows : List Nat := []
  /-- 07 R210 row under repair; width 32. -/
  repairing : Option Nat := none
  /-- 07 R211 rows repaired (row words); width -. -/
  repaired : List Nat := []
  /-- 07 R211 pseudo-channel being copied; width 5. -/
  copying : Option Nat := none
  /-- 07 R211 pseudo-channel replaced by the spare; width 5. -/
  spared : Option Nat := none
  /-- 07 R211 failing pseudo-channels left in service; width -. -/
  unspared : List Nat := []
  /-- 07 R211 their uncorrectable errors: pseudo-channel and elapsed tick; width -. -/
  errTimes : List (Nat × Nat) := []
  /-- 07 R210 rows that wait for their repair; width -. -/
  toRepair : List Nat := []
  /-- 07 R208, R215 period of the running pass, doubled under ECO; width 16. -/
  hours : Nat := 24
  /-- 07 R208 elapsed tick at which the running pass began; width -. -/
  passStart : Nat := 0
  /-- 07 R208 corrected words written back; width 32. -/
  writeBacks : Nat := 0
  /-- 07 R208 write-backs cancelled by traffic; width 32. -/
  cancelled : Nat := 0
  /-- 07 R210 REPAIR_BUDGET_LOW raised; width 1. -/
  budgetLow : Bool := false
  deriving DecidableEq, Repr

/-- the Wharf (R191, R217). -/
structure WharfRt where
  /-- 07 R196; width 8,192 ×. -/
  berths : List (Nat × BerthRt) := []
  /-- 07 R206; width -. -/
  pyramids : List (Nat × PyramidRt) := []
  /-- 07 R217; width 4 ×. -/
  hbm : List (Nat × StackRt) := []
  /-- 07 R207, 09 R278 channels holding long-delay memory; width 8,192 ×. -/
  longChans : List Nat := []
  /-- 07 R211 margin pages lost per die; width 2 × 32. -/
  marginLost : List (Nat × Nat) := []
  /-- 07 R209 uncorrectable errors by stack × 4 + region; width 16 × 32. -/
  regions : List (Nat × Nat) := []
  deriving DecidableEq, Repr

/-- measurement of an input stream (R239, R244). -/
structure SrcRt where
  /-- 08 R244 DETECTED_FORMAT; width 16. -/
  detected : Nat := 0xFFFE
  /-- 08 R239 format seen in the last frames; width 16. -/
  candidate : Nat := 0xFFFE
  /-- 08 R239 frames agreeing; width 4. -/
  agree : Nat := 0
  /-- 08 R244; width 1. -/
  formatOk : Bool := false
  /-- 08 R250 FORMAT_MISMATCH may be raised; width 1. -/
  wasOk : Bool := true
  /-- 08 R244; width 1. -/
  black : Bool := false
  /-- 08 R244; width 16. -/
  blackRun : Nat := 0
  /-- 08 R239; width 2. -/
  blackOff : Nat := 0
  /-- 08 R244; width 1. -/
  frozen : Bool := false
  /-- 08 R244; width 32. -/
  freezeRun : Nat := 0
  /-- 08 R239; width 2. -/
  freezeOff : Nat := 0
  /-- 08 R250 frames black; width 32. -/
  blackFor : Nat := 0
  /-- 08 R250 frames still; width 32. -/
  frozenFor : Nat := 0
  /-- 08 R244; width 32. -/
  crcTotal : Nat := 0
  /-- 08 R244; width 32. -/
  trsTotal : Nat := 0
  /-- 08 R239 last time address; width 32. -/
  tc : Option Nat := none
  /-- 08 R244 TIMECODE, TC_FLAGS and user bits of the newest frame, none without the detector; width 32 + 8 + 32. -/
  tcSeen : Option (Nat × Nat × Nat) := none
  /-- 08 R244; width 16. -/
  tcDiscont : Nat := 0
  /-- 08 R244; width 32. -/
  essErrors : Nat := 0
  /-- 08 R244; width 32. -/
  damagedBarges : Nat := 0
  /-- 08 R244 FRAMES; width 32. -/
  frames : Nat := 0
  /-- 08 R238 newest input frame completed; width see FrameData. -/
  last : FrameData := {}
  /-- 08 R238 input frames completed since the last publication; width -. -/
  fresh : List FrameData := []
  /-- 08 R244 BLACK_PERMILLE; width 16. -/
  permille : Nat := 0
  /-- 08 R244 FREEZE_ENERGY; width 32. -/
  energy : Nat := 0
  /-- 08 R239 block means of the last frame; width 576 × 14. -/
  means : List Nat := []
  /-- 08 R244 DAMAGED; width 1. -/
  bad : Bool := false
  /-- 08 R250 CRC and TRS errors of the running second; width 32. -/
  errSecond : Nat := 0
  /-- 08 R244 its record stands in the Chart as VALID; width 1. -/
  shown : Bool := false
  deriving DecidableEq, Repr

/-- measurement of a source channel (R239, R246). -/
structure ChMeas where
  /-- 08 R246; width 16. -/
  peak : Int := -12000
  /-- 08 R246; width 16. -/
  truePeak : Int := -12000
  /-- 08 R246; width 1. -/
  silent : Bool := false
  /-- 08 R239 elapsed ticks below SILENCE_DB; width -. -/
  quietFor : Nat := 0
  /-- 08 R246 elapsed ticks silent; width -. -/
  silentFor : Nat := 0
  /-- 08 R246; width 1. -/
  clipped : Bool := false
  /-- 08 R239 largest sample magnitude of the running frame; width 24. -/
  acc : Nat := 0
  /-- 08 R239 that of the newest completed frame; width 24. -/
  frameMax : Nat := 0
  /-- 08 R239 the words before the next, for the interpolation filter; width 11 × 32. -/
  past : List Nat := []
  /-- 08 R239 largest interpolated magnitude of the running frame, times 8,192; width 37. -/
  tpAcc : Nat := 0
  /-- 08 R239 words of the running 100 ms, for a channel of an enabled group; width 4,800 × 32. -/
  seg : List Nat := []
  deriving DecidableEq, Repr

/-- a loudness group's values (R239, R247). -/
structure LoudRt where
  /-- 08 R239 energies of the last 100 ms segments, oldest first; width 30 × -. -/
  segs : List Nat := []
  /-- 08 R239 energies of the 400 ms blocks of the integrated value; width -. -/
  blocks : List Nat := []
  /-- 08 R247; width 16. -/
  m : Option Int := none
  /-- 08 R247; width 16. -/
  s : Option Int := none
  /-- 08 R247; width 16. -/
  i : Option Int := none
  /-- 08 R247; width 32. -/
  gated : Nat := 0
  /-- 08 R247 DURATION_S in ticks; width -. -/
  age : Nat := 0
  deriving DecidableEq, Repr

/-- measurement (R238 to R250). -/
structure MeasRt where
  /-- 08 R244; width 8,192 ×. -/
  src : List (Nat × SrcRt) := []
  /-- 08 R246; width 49,152 ×. -/
  chans : List (Nat × ChMeas) := []
  /-- 08 R247; width 2,048 ×. -/
  loud : List (Nat × LoudRt) := []
  /-- 08 R250 ticks of the running second; width 16. -/
  second : Nat := 0
  deriving DecidableEq, Repr

/-- one contribution to a destination channel's sum (R255, R268). -/
structure Contr where
  /-- 09 R252 source channel handle; width 16. -/
  source : Nat := 0
  /-- 09 R267 coefficient with the sign of INVERT; width 29. -/
  g : Int := 0
  /-- 09 R274 the gain is 0 dB with INVERT clear; width 1. -/
  unity : Bool := false
  deriving DecidableEq, Repr

/-- one running crossfade of a destination channel (R269, R271). -/
structure Fade where
  /-- 09 R271 sum it fades from; width up to 4. -/
  old : List Contr := []
  /-- 09 R269 tick of k = 0; width 64. -/
  start : Nat := 0
  /-- 09 R269 N samples; width 12. -/
  n : Nat := 0
  deriving DecidableEq, Repr

/-- a source channel's buffer, slip pipeline and non-audio detector (R257 to R262, R273). -/
structure SrcChan where
  /-- 09 R257, R264; width 128 × 33 (bit 32: the sample is missing). -/
  buf : List Nat := []
  /-- 09 R255, R258, R264; width 32 × 33 (bit 32: the sample is missing; short: the missing elements are 0). -/
  pipe : List Nat := []
  /-- 09 R257 word before, for bits [7:4] of a missing one; width 32. -/
  lastIn : Nat := 0
  /-- 09 R255 word leaving in the present tick; width 32. -/
  out : Nat := 0
  /-- 09 R273 word that left before it; width 32. -/
  prev : Nat := 0
  /-- 09 R273; width 1. -/
  nonAudio : Bool := false
  /-- 09 R273 samples since the last sync pair; width 13. -/
  since : Nat := 8192
  /-- 09 R273 channel-status bits of the running block; width 192 × 1. -/
  csBits : List Bool := []
  /-- 09 R275 tick of the slip that mutes the pair's destinations; width 64. -/
  muteFrom : Option Nat := none
  /-- 09 R273 bit 1 of byte 0 of the last completed block; width 1. -/
  csNonAudio : Bool := false
  /-- 07 R201, 09 R257 words held in the berth's audio area, with their elapsed tick of arrival; width 64 + 32 each. -/
  berth : List (Nat × Nat) := []
  deriving DecidableEq, Repr

/-- the audio of an input stream (R258 to R264, R281). -/
structure AudStream where
  /-- 09 R258, R281 PRIMED; width 1. -/
  primed : Bool := false
  /-- 09 R258 tick and sample number first read; width 2 × 64. -/
  pairing : Option (Nat × Nat) := none
  /-- 09 R258 sample number read next; width 64. -/
  read : Nat := 0
  /-- 09 R257 sample number written next; width 64. -/
  written : Nat := 0
  /-- 09 R263 SYNC; width 1. -/
  sync : Bool := false
  /-- 09 R263 decisions since the last slip decision; width 10. -/
  clean : Nat := 0
  /-- 09 R261 pending slip (true: a drop) and its effect tick; width 1 + 64. -/
  slip : Option (Bool × Nat) := none
  /-- 09 R260 smallest fill of the running window; width 8. -/
  winMin : Nat := 128
  /-- 09 R260 largest fill of the running window; width 8. -/
  winMax : Nat := 0
  /-- 09 R281 FILL_MIN; width 16. -/
  fillMin : Nat := 0
  /-- 09 R281 FILL_MAX; width 16. -/
  fillMax : Nat := 0
  /-- 09 R281; width 32. -/
  drops : Nat := 0
  /-- 09 R281; width 32. -/
  repeats : Nat := 0
  /-- 09 R281; width 32. -/
  resets : Nat := 0
  /-- 09 R281; width 32. -/
  missing : Nat := 0
  /-- 09 R281 LAST_SLIP_TICK; width 64. -/
  lastSlip : Nat := 0
  /-- 09 R264 ticks for which a standby's output may differ after a slip; width 6. -/
  doubtful : Nat := 0
  /-- 09 R276 its contributions have faded to silence; width 1. -/
  faded : Bool := false
  deriving DecidableEq, Repr

/-- a destination channel in service (R265 to R276, R282). -/
structure DstChan where
  /-- 09 R268 present sum, main first; width up to 4. -/
  sum : List Contr := []
  /-- 09 R270 the first entry of the sum is the main contribution; width 1. -/
  hasMain : Bool := false
  /-- 09 R271 running crossfades, oldest first; width up to 2. -/
  fades : List Fade := []
  /-- 09 R272 delay line; width 96,000 × 32 newest first. -/
  line : List Nat := []
  /-- 09 R271, R272 delay crossfades running, oldest first: old delay, start, length; width 2 × (17 + 64 + 12). -/
  tapFades : List (Nat × Nat × Nat) := []
  /-- 09 R255 word sent in the present tick; width 32. -/
  out : Nat := 0
  /-- 09 R270 words generated since the first generated one; width -. -/
  genCount : Nat := 0
  /-- 09 R270 the main source has not slipped since the route changed; width 1. -/
  cleanRoute : Bool := true
  /-- 09 R275, R282 MUTED; width 1. -/
  muted : Bool := false
  /-- 09 R274, R282 PAIR_TRANSPARENT; width 1. -/
  transparent : Bool := false
  /-- 09 R276, R282 LOSS_FADE; width 1. -/
  lossFade : Bool := false
  /-- 09 R282 largest output magnitude of the frame; width 24. -/
  peak : Nat := 0
  /-- 09 R282; width 32. -/
  mutes : Nat := 0
  /-- 07 R209 samples of its delay line lost to uncorrectable errors; width 32. -/
  zeroed : Nat := 0
  /-- 09 R270, R282; width 32. -/
  saturations : Nat := 0
  /-- 09 (commands) setting in force while another waits for its frame; width -. -/
  cur : Option ChanObj := none
  /-- 09 (commands) plane, frame n and setting that acts from F(n); width -. -/
  due : List (Nat × Int × ChanObj) := []
  deriving DecidableEq, Repr

/-- the audio shuffler (R251 to R282). -/
structure AudioRt where
  /-- 09 R257; width 49,152 ×. -/
  src : List (Nat × SrcChan) := []
  /-- 09 R258; width 8,192 ×. -/
  streams : List (Nat × AudStream) := []
  /-- 09 R255; width 49,152 ×. -/
  dst : List (Nat × DstChan) := []
  deriving DecidableEq, Repr

/-- an Assay region in service (R312, R318, R323). -/
structure AssayRt where
  /-- 10 R323 STATE 0 off, 1 running, 2 done; width 8. -/
  st : Nat := 0
  /-- 10 R318 frames left of a counted run; width 16. -/
  left : Nat := 0
  /-- 10 R318 frame from which the setting acts; width -. -/
  since : Option Int := none
  /-- 10 R323; width 32. -/
  lastCrc : Nat := 0
  /-- 10 R323 MATCHES; width 32. -/
  okCount : Nat := 0
  /-- 10 R323; width 32. -/
  mismatches : Nat := 0
  /-- 10 R318 mismatches of the counted run; width 32. -/
  runMismatches : Nat := 0
  /-- 10 R318 the setting in force; width see AssayObj. -/
  setting : AssayObj := {}
  /-- 10 R312 CRC of the frame being composed; width 32. -/
  coming : Option Nat := none
  /-- 10 R312 elapsed tick of the last ASSAY_MISMATCH; width -. -/
  lastRaised : Option Nat := none
  /-- 10 R318 MODE 1 command awaiting its last frame; width -. -/
  job : Option Nat := none
  deriving DecidableEq, Repr

/-- a layer slot in service (R294, R295, R300, R323). -/
structure LayerRt where
  /-- 10 R294 source frame shown; width 32. -/
  frame : Option Nat := none
  /-- 10 R295 source of the frame shown; width 16. -/
  src : Option Nat := none
  /-- 10 R295 the frame shown is of a source routed before; width 1. -/
  stale : Bool := false
  /-- 10 R295 RUN; width 16. -/
  run : Nat := 0
  /-- 10 R295 REPEATS; width 32. -/
  repeats : Nat := 0
  /-- 10 R295 ABSENT; width 1. -/
  absent : Bool := false
  /-- 10 R323; width 32. -/
  absentFrames : Nat := 0
  /-- 10 R300; width 1. -/
  twoTap : Bool := false
  /-- 10 R300 LEVEL_RAISED; width 1. -/
  raised : Bool := false
  /-- 10 R300 absence fill for want of room; width 1. -/
  noRoom : Bool := false
  /-- 10 R300 the source format changed after commit; width 1. -/
  changed : Bool := false
  /-- 10 R300 source format last evaluated; width 16. -/
  format : Nat := 0
  /-- 10 R300; width 32. -/
  fallbacks : Nat := 0
  /-- 10 R295 READY; width 1. -/
  ready : Bool := false
  /-- 10 R292, R323 LEVEL; width 3. -/
  level : Nat := 0
  /-- 10 R295 the frame shown, which a repeat shows again; width see InFrame. -/
  held : InFrame := {}
  deriving DecidableEq, Repr

/-- a COMMIT_HEAD awaiting its frame (R289, R307). -/
structure HeadCommit where
  /-- 10 R289; width -. -/
  job : Nat := 0
  /-- 10 R289 frame n of R116; width 64. -/
  frame : Int := 0
  /-- 10 R321 FLIP; width 4. -/
  flips : Nat := 0
  /-- 10 R307 pages still to be acknowledged; width 1. -/
  waiting : Bool := false
  /-- 10 R288; width 16. -/
  session : Nat := 0
  /-- 10 R289 copy to apply; width see HeadCfg. -/
  cfg : HeadCfg := {}
  deriving DecidableEq, Repr

/-- a head in service (R287 to R313). -/
structure HeadRt where
  /-- 10 R288 pending copy, none when it equals the active one; width see HeadCfg. -/
  pend : Option HeadCfg := none
  /-- 10 R288 owning session, 0 none; width 16. -/
  owner : Nat := 0
  /-- 10 R289; width see HeadCommit. -/
  commit : Option HeadCommit := none
  /-- 01 R22 Composer value in force; width 1. -/
  legacy : Bool := false
  /-- 01 R22 frame boundary at which a change acts; width -. -/
  legDue : Option Int := none
  /-- 10 R307 recorded pages of buffer 2g + b; width 8 × pages of 4 KiB. -/
  dirty : List (Nat × List Nat) := []
  /-- 10 R309 pending image; width 8 ×. -/
  hallPend : List (Nat × HallReg) := []
  /-- 10 R311 committed images and the frames at which they become active; width -. -/
  hallQueue : List (Int × List (Nat × HallReg)) := []
  /-- 10 R311 regions with newly written pixels; width 8 × 1. -/
  hallNew : List Nat := []
  /-- 10 R311 regions with an uncorrectable error in their active pixels, shown from the next frame; width 8 × 1. -/
  hallLost : List Nat := []
  /-- 10 R286, R305 the frame composed last, by output stream; width 4 × see FrameData. -/
  shown : List FrameData := []
  /-- 10 R312; width 16 ×. -/
  assay : List (Nat × AssayRt) := []
  /-- 10 R295; width 128 ×. -/
  layers : List (Nat × LayerRt) := []
  /-- 10 R323 FRAME_SEQ; width 32. -/
  frames : Nat := 0
  /-- 10 R286 last frame composed; width -. -/
  done : Option Int := none
  /-- 10 R296, R323 DAMAGED; width 1. -/
  dmg : Bool := false
  /-- 10 R296; width 32. -/
  dmgFrames : Nat := 0
  /-- 10 R324 marked frames of the running second; width 32. -/
  dmgSecond : Nat := 0
  /-- 10 R299 POOL_USED; width 32. -/
  pool : Nat := 0
  /-- 10 R299 READ_COST; width 32. -/
  cost : Nat := 0
  /-- 10 R313 GATED; width 1. -/
  gated : Bool := false
  /-- 14 R423 until the next cold start; width 1. -/
  retired : Bool := false
  /-- 10 R313 the next frame is repeated under throttling; width 1. -/
  throttleOdd : Bool := false
  deriving DecidableEq, Repr

/-- a Towpath or Tandem lane (R346 to R359); keys 0 to 127 the lanes, 128 and 129 the Tandem lanes. -/
structure LaneRt where
  /-- 11 R346, R359 RX_STATE; width 8. -/
  rx : LaneSt := .off
  /-- 11 R346, R359 TX_STATE; width 8. -/
  tx : LaneSt := .off
  /-- 11 R348, R359; width 1. -/
  precTx : Bool := false
  /-- 11 R348, R359; width 1. -/
  precRx : Bool := false
  /-- 11 R356, R359 FROZEN; width 1. -/
  frozen : Bool := false
  /-- 11 R356 consecutive windows within the bound; width 5. -/
  goodWin : Nat := 0
  /-- 11 R357, R359; width 1. -/
  degraded : Bool := false
  /-- 11 R333, R359 REMOTE_FAULT received; width 1. -/
  remoteFault : Bool := false
  /-- 11 R351, R359 MANIFEST_DISAGREE; width 1. -/
  disagree : Bool := false
  /-- 11 R352, R359 WARM; width 1. -/
  warm : Bool := false
  /-- 11 R350, R359; width 8. -/
  farSender : Nat := 0
  /-- 11 R350, R359; width 64. -/
  farId : Nat := 0
  /-- 11 R350, R359; width 16. -/
  farPort : Nat := 0
  /-- 11 R351 IDENTITY and PORT when last ACTIVE; width 64 + 16. -/
  activeId : Option (Nat × Nat) := none
  /-- 11 R339 expected BARGE_SEQ; width 32. -/
  expSeq : Nat := 0
  /-- 11 R359 LAST_RX_SEQ; width 32. -/
  lastSeq : Nat := 0
  /-- 11 R359; width 64. -/
  barges : Nat := 0
  /-- 11 R359; width 64. -/
  cwCorr : Nat := 0
  /-- 11 R359; width 64. -/
  symCorr : Nat := 0
  /-- 11 R359; width 64. -/
  cwUnc : Nat := 0
  /-- 11 R359; width 32. -/
  hdrErr : Nat := 0
  /-- 11 R359; width 32. -/
  tenderErr : Nat := 0
  /-- 11 R359; width 32. -/
  commaErr : Nat := 0
  /-- 11 R359; width 32. -/
  seqErr : Nat := 0
  /-- 11 R359; width 32. -/
  sealErr : Nat := 0
  /-- 11 R30, R359; width 32. -/
  formErr : Nat := 0
  /-- 11 R54, R359; width 32. -/
  epochMis : Nat := 0
  /-- 11 R359; width 32. -/
  relocks : Nat := 0
  /-- 11 R359; width 32. -/
  bringups : Nat := 0
  /-- 11 R359; width 32. -/
  trainFail : Nat := 0
  /-- 11 R359; width 32. -/
  moors : Nat := 0
  /-- 11 R359; width 32. -/
  frozenWins : Nat := 0
  /-- 11 R359; width 32. -/
  cals : Nat := 0
  /-- 11 R359; width 16. -/
  snr : Nat := 0
  /-- 11 R357, R359; width 16. -/
  snrRef : Nat := 0
  /-- 11 R357 first measurements after ACTIVE; width 4 × 16. -/
  snrFirst : List Nat := []
  /-- 11 R357 consecutive measurements below the reference; width 2. -/
  driftRun : Nat := 0
  /-- 11 R357 re-adapt at the next calibration barge; width 1. -/
  readapt : Bool := false
  /-- 11 R359; width 32. -/
  serPpb : Nat := 0
  /-- 11 R361, R359; width 32. -/
  testErr : Nat := 0
  /-- 11 R361 TEST_LOOPBACK; width 1. -/
  loopback : Bool := false
  /-- 11 R338, R359; width 8 × 32. -/
  damaged : List Nat := [0, 0, 0, 0, 0, 0, 0, 0]
  /-- 11 R359 FAR_FOUNDERED; width 8 × 32. -/
  foundered : List Nat := [0, 0, 0, 0, 0, 0, 0, 0]
  /-- 11 R359; width 16 × 64. -/
  fecHist : List Nat := [0, 0, 0, 0, 0, 0, 0, 0, 0, 0, 0, 0, 0, 0, 0, 0]
  /-- 11 R347, R359 own transmitter's taps; width 5 × 8. -/
  txFfe : List Int := [1, -6, 53, -4, 0]
  /-- 11 R352 far-end taps as agreed; width 5 × 8. -/
  farFfe : List Int := [1, -6, 53, -4, 0]
  /-- 11 R359; width 8. -/
  ctle : Nat := 0
  /-- 11 R359; width 32. -/
  farUnc : Nat := 0
  /-- 11 R359; width 32. -/
  farCorr : Nat := 0
  /-- 11 R334 SEAL[h] as received in the last barge, with the hold; width 8 × 16. -/
  seals : List (Nat × Nat) := []
  /-- 11 R334 seals as sent; width 8 × 16. -/
  txSeals : List Nat := [65535, 65535, 65535, 65535, 65535, 65535, 65535, 65535]
  /-- 12 R384 holds sent other than sound in the running chain; width 8. -/
  txMask : Nat := 0
  /-- 11 R340 consecutive unaccepted commas; width 2. -/
  badCommas : Nat := 0
  /-- 11 R346 consecutive training commas in DETECT; width 2. -/
  goodTrain : Nat := 0
  /-- 11 R349 consecutive good data barges in LOCK; width 2. -/
  goodData : Nat := 0
  /-- 11 R340 in LOCK from ACTIVE; width 1. -/
  relocking : Bool := false
  /-- 11 R354 receiver waking from mooring; width 1. -/
  waking : Bool := false
  /-- 11 R346 consecutive timeouts; width 2. -/
  timeouts : Nat := 0
  /-- 11 R346 100 ms electrical idle running; width 1. -/
  idleHold : Bool := false
  /-- 11 R352 the next bring-up is cold; width 1. -/
  coldNext : Bool := true
  /-- 11 R348 RX_READY sent; width 1. -/
  rxReady : Bool := false
  /-- 11 R348 PRECODE_REQ sent; width 1. -/
  precReq : Bool := false
  /-- 11 R348 consecutive barges with the far RX_READY; width 4. -/
  farReady : Nat := 0
  /-- 11 R348 PRECODE_REQ of the last control words; width 8 × 1. -/
  farPrec : List Bool := []
  /-- 11 R348 switches to data barges at the next BARGE_SEQ[7:0] = 0; width 1. -/
  switchAt : Bool := false
  /-- 11 R347 RESP_ID answered; width 8. -/
  respId : Nat := 0
  /-- 11 R347 RESP_STATUS sent; width 8. -/
  respStatus : Nat := 0
  /-- 11 R347 RESP_ID received; width 8. -/
  farRespId : Nat := 0
  /-- 11 R350 far CAPS record held; width 384. -/
  farCaps : List (Byte) := []
  /-- 11 R351 TX_EPOCH of the far CAPS record; width 8. -/
  farTxEpoch : Nat := 0
  /-- 11 R351 ACCEPTED sent; width 1. -/
  accepted : Bool := false
  /-- 11 R351 consecutive far records with ACCEPTED; width 2. -/
  farAccepted : Nat := 0
  /-- 11 R353 MOOR_SEQ announced by the far end; width 32. -/
  farMoor : Option Nat := none
  /-- 11 R353 MOOR_SEQ announced and job of MOOR_TX (0 none); width 32. -/
  txMoor : Option (Nat × Nat) := none
  /-- 11 R354 waking, and the jobs of the WAKE_TX commands that wait for it; width -. -/
  txWake : Option (List Nat) := none
  /-- 11 R355 moored by the trim or by throttling; width 1. -/
  byTrim : Bool := false
  /-- 11 R354 barges in which no live hold is sent; width 7. -/
  holdOff : Nat := 0
  /-- 11 R355 elapsed ticks for which R353 has held; width -. -/
  idleFor : Nat := 0
  /-- 11 R345, R358 uncorrectable codewords of the running second; width 32. -/
  winUnc : Nat := 0
  /-- 11 R357 corrected symbols of the running second; width 32. -/
  winCorr : Nat := 0
  /-- 11 R357 codewords of the running second; width 32. -/
  winCw : Nat := 0
  /-- 11 R538 EPOCH mismatches of the running second; width 32. -/
  winMis : Nat := 0
  /-- 11 R357 consecutive 1 s windows free of degradation; width 4. -/
  winClean : Nat := 0
  /-- 11 R357 a measurement below SNR_MIN in the running second; width 1. -/
  winBad : Bool := false
  /-- 11 R345 uncorrectable codewords and corrected symbols of the last barges received; width 1,024 × 9. -/
  recent : List (Nat × Nat) := []
  /-- 11 R346, R340 elapsed tick at which the present state or wait began; width -. -/
  since : Nat := 0
  /-- 11 R346 the far end sends, in DETECT; width 1. -/
  heard : Bool := false
  /-- 11 R339, R354 the next good header's BARGE_SEQ is taken as it is; width 1. -/
  adopt : Bool := true
  /-- 05 R128 BARGE_SEQ of the beacon whose interval runs; width 32. -/
  offFrom : Option Nat := none
  /-- 05 R128 sum of arrival, ns of T, less header timestamp in that interval; width -. -/
  offSum : Int := 0
  /-- 05 R128 barges in that sum; width 11. -/
  offCount : Nat := 0
  /-- 11 R347, R348 tap and action of the request outstanding; width 16. -/
  req : Option (Nat × Nat) := none
  /-- 11 R347 REQ_ID sent; width 8. -/
  reqId : Nat := 0
  /-- 11 R329 levels of the comma block last sent; width 64 symbols. -/
  txComma : List Int := []
  /-- 11 R331, R337 start of the PRBS31 generator for the barge last sent; width 31. -/
  txSeed : Nat := 0
  /-- 11 R347 training barges sent before the one last sent, whose PRBS31 goes on from theirs; width -. -/
  trainSent : Nat := 0
  /-- 11 R356 elapsed tick of the last ADAPTATION_FROZEN; width -. -/
  frozenAt : Option Nat := none
  /-- 11 R352 elapsed tick at which coefficients were last stored; width -. -/
  storedAt : Option Nat := none
  /-- 11 R338 holds damaged in the last barge; width 8 × 1. -/
  rxHolds : List Nat := []
  /-- 11 R332 payload of the barge last sent; width 82,240. -/
  txBytes : List (Byte) := []
  /-- 11 R329 kind of the barge last sent; width 2. -/
  txKind : KindSt := .data
  /-- 11 R329 comma tail of the barge last sent; width 32. -/
  txTail : Nat := 0
  /-- 11 R325 transmitter at electrical idle; width 1. -/
  txIdle : Bool := true
  deriving DecidableEq, Repr

/-- Towpath (R325 to R359) and the barge counter (R380). -/
structure TowRt where
  /-- 11 R325; width 130 ×. -/
  lanes : List (Nat × LaneRt) := []
  /-- 11 R349, 12 R380 BARGE_SEQ of the barge now being sent; width 32. -/
  bargeSeq : Nat := 0
  /-- 11 R326 lanes whose barge of that number has been sent; width 130 × 1. -/
  sent : List Nat := []
  /-- 11 R338, 12 R382 output holds to be sent damaged in the next barge; width 1,024 × 1. -/
  txDamage : List Nat := []
  /-- 11 R357, R358 ticks of the running second; width 16. -/
  second : Nat := 0
  /-- 02 R26 reception of the input streams, by first bay; width 8,192 ×. -/
  ins : List (Nat × InRt) := []
  /-- 02 R26 transmission of the output streams, by first bay; width 8,192 ×. -/
  outs : List (Nat × OutRt) := []
  deriving DecidableEq, Repr

/-- one content command carried in COMMANDS (R374). -/
structure CmdRec where
  /-- 12 R374; width 16. -/
  opcode : Nat := 0
  /-- 12 R374; width see Cmd. -/
  cmd : Cmd := {}
  /-- 12 R374 admitting tick; width 64. -/
  tick : Nat := 0
  /-- 12 R374 new generation; width 32. -/
  gen : Nat := 0
  deriving DecidableEq, Repr

/-- A section of a Tandem record (R374); the byte formats are internal to the firmware (R375), so the model holds the contents. -/
inductive Section where
  | time (t : Nat) (e freq : Int) (tm : TmState) (selected : Option Nat) (pending : List (Nat × Option Int)) (holdStart : Nat) (holdFreq : Int)
  | commit (takes : List (Nat × Entry))
  | queue (queues : List (Nat × List Entry))
  | commands (cmds : List CmdRec)
  | wharf (writes : List (Nat × InFrame)) (picks : List (Nat × Nat)) (delays : List (Nat × Nat × Nat)) (losses : List (Nat × Nat)) (restored : List Nat)
  | audio (primed : List (Nat × Nat × Nat)) (slips : List (Nat × Bool × Nat))
  | composer (frames : List (Nat × Nat)) (fallbacks : List (Nat × Bool × Bool × Bool)) (commits : List (Nat × Int × Nat))
  | epochs (chosen : List (Nat × Announce))
  | seals (seq : Nat) (values : List (Nat × Nat)) (mask : List Nat)
  | ports (far : List (Nat × Nat × Nat))
  | pages (written : List (Nat × Nat × List Byte))
  deriving DecidableEq, Repr

/-- a Tandem record (R373, R374). -/
structure TandemRec where
  /-- 12 R373; width 32. -/
  rseq : Nat := 0
  /-- 12 R373; width 8. -/
  version : Nat := 0
  /-- 12 R373 KIND 1; width 1. -/
  idle : Bool := false
  /-- 12 R373 HELM_CLAIM; width 1. -/
  claim : Bool := false
  /-- 12 R373 HANDOVER; width 1. -/
  handover : Bool := false
  /-- 12 R373 TICK; width 64. -/
  tick : Nat := 0
  /-- 12 R373 LIMIT_TICK; width 64. -/
  limit : Nat := 0
  /-- 12 R374; width -. -/
  sections : List Section := []
  deriving DecidableEq, Repr

/-- the seals of one chain (R384). -/
structure SealChain where
  /-- 12 R384 last barge of the chain; width 32. -/
  seq : Nat := 0
  /-- 12 R384; width 1,024 × 16. -/
  values : List (Nat × Nat) := []
  /-- 12 R384; width 1,024 × 1. -/
  mask : List Nat := []
  deriving DecidableEq, Repr

/-- an acknowledgement from the standby (R377). -/
structure TandemAck where
  /-- 12 R377; width 32. -/
  rseq : Nat := 0
  /-- 12 R377 half acknowledged; width 1. -/
  west : Bool := false
  /-- 12 R377 graphics buffer and page, when a page is acknowledged; width -. -/
  page : Option (Nat × Nat) := none
  deriving DecidableEq, Repr

/-- twin operation (R364 to R391). -/
structure TwinRt where
  /-- 12 R364 role; width 1. -/
  helm : Bool := false
  /-- 12 R369, R391 TWIN_STATE; width 8. -/
  st : TwinSt := .resyncing
  /-- 12 R391 grant sampled; width 1. -/
  grant : Bool := false
  /-- 12 R365 TWIN_HEALTH driven high; width 1. -/
  health : Bool := false
  /-- 12 R387, R391; width 1. -/
  dispute : Bool := false
  /-- 12 R387 elapsed ticks since the partner's last claim; width -. -/
  disputeAge : Nat := 0
  /-- 12 R389, R391; width 1. -/
  degraded : Bool := false
  /-- 12 R388, R391 RESYNC_PHASE; width 8. -/
  phase : RsPhase := .none
  /-- 12 R388 elapsed ticks of the phase; width -. -/
  phaseAge : Nat := 0
  /-- 12 R391 elapsed ticks of the resynchronisation; width -. -/
  resyncAge : Nat := 0
  /-- 12 R393; width -. -/
  resyncJob : Option Nat := none
  /-- 12 R388 elapsed ticks since ADRIFT was entered; width -. -/
  retryAge : Option Nat := none
  /-- 12 R394 job and HOLD_MS of a YIELD_HELM in progress; width -. -/
  yield : Option (Nat × Nat) := none
  /-- 12 R394; width -. -/
  yieldAge : Nat := 0
  /-- 12 R391; width 64. -/
  partnerSerial : Nat := 0
  /-- 12 R391; width 32. -/
  partnerFw : Nat := 0
  /-- 12 R391; width 32. -/
  partnerMin : Nat := 0
  /-- 12 R371, 16 R483 a Tandem session key is established; width 1. -/
  session : Bool := false
  /-- 16 R477 Tandem session key; width 256. -/
  sessionKey : Nat := 0
  /-- 16 R483 elapsed ticks since the key was established or renewed; width -. -/
  sessionAge : Nat := 0
  /-- 16 R483 RSEQ from which a new key acts, and the key; width 32 + 256. -/
  rekeyAt : Option (Nat × Nat) := none
  /-- 16 R484 the Tandem session is an orphaned child; width 1. -/
  orphaned : Bool := false
  /-- 12 R391 LAST_RSEQ; width 32. -/
  lastRseq : Nat := 0
  /-- 12 R391 RECORDS_MISSING; width 32. -/
  missing : Nat := 0
  /-- 12 R376 number of the last record counted missing; width 32. -/
  lastMissed : Option Nat := none
  /-- 12 R388 the next record is applied whatever its RSEQ; width 1. -/
  fresh : Bool := false
  /-- 12 R378 consecutive records missing; width 2. -/
  missRun : Nat := 0
  /-- 12 R391 RECORDS; width 64. -/
  records : Nat := 0
  /-- 12 R391 LAST_RECORD_TICK; width 64. -/
  lastTick : Nat := 0
  /-- 12 R372 elapsed ticks since a record was sent or applied; width -. -/
  sinceRec : Nat := 0
  /-- 12 R391 RECORD_LATENCY_MAX_NS; width 32. -/
  latency : Nat := 0
  /-- 12 R391 elapsed ticks and times that can still be the longest of 48,000 ticks; width -. -/
  latWin : List (Nat × Nat) := []
  /-- 12 R377 acknowledgements that go out within 2 ticks, with the elapsed tick of each; width -. -/
  acks : List (TandemAck × Nat) := []
  /-- 12 R384; width 32. -/
  sealChecks : Nat := 0
  /-- 12 R384; width 32. -/
  sealMis : Nat := 0
  /-- 12 R391; width 32. -/
  failovers : Nat := 0
  /-- 12 R387; width 32. -/
  disputes : Nat := 0
  /-- 12 R391; width 32. -/
  resyncs : Nat := 0
  /-- 12 R391; width 32. -/
  resyncFails : Nat := 0
  /-- 12 R391 LAST_RESYNC_MS; width 32. -/
  resyncMs : Nat := 0
  /-- 12 R391 LAST_ROLE_TICK; width 64. -/
  roleTick : Nat := 0
  /-- 12 R384, R391 WIRING_MAP; width 128 × 1. -/
  wiring : List Nat := []
  /-- 12 R376 East halves received and not applied; width -. -/
  east : List TandemRec := []
  /-- 12 R376 West halves received and not applied; width -. -/
  west : List TandemRec := []
  /-- 16 R500 COMMANDS sections held in a handover; width -. -/
  held : List CmdRec := []
  /-- 12 R377 records sent: RSEQ, LIMIT_TICK, East and West halves acknowledged; width -. -/
  unacked : List (Nat × Nat × Nat × Nat) := []
  /-- 12 R377 consecutive records unacknowledged at LIMIT_TICK + 2; width 2. -/
  lateRun : Nat := 0
  /-- 12 R377 elapsed ticks since the last acknowledgement; width -. -/
  sinceAck : Nat := 0
  /-- 12 R395 last RSEQ acknowledged; width 32. -/
  lastAck : Nat := 0
  /-- 12 R372 record last sent or applied: its East half; width -. -/
  sent : Option TandemRec := none
  /-- 12 R372 its West half; width -. -/
  sentWest : Option TandemRec := none
  /-- 12 R374 content commands since the last record; width -. -/
  cmds : List CmdRec := []
  /-- 12 R374 destinations whose queue changed since the last record; width -. -/
  queues : List Nat := []
  /-- 12 R374 takes committed at the present deadline; width -. -/
  commits : List (Nat × Entry) := []
  /-- 12 R374 write slots of newly started input frames since the last record; width -. -/
  frames : List (Nat × InFrame) := []
  /-- 12 R374 berth frames chosen for reading since the last record; width -. -/
  picks : List (Nat × Nat) := []
  /-- 12 R374 delay changes since the last record; width -. -/
  delays : List (Nat × Nat × Nat) := []
  /-- 12 R374 loss decisions since the last record; width -. -/
  losses : List (Nat × Nat) := []
  /-- 12 R374 restoration decisions since the last record; width -. -/
  restored : List Nat := []
  /-- 12 R374 priming pairings since the last record; width -. -/
  primings : List (Nat × Nat × Nat) := []
  /-- 12 R374 slips since the last record; width -. -/
  slips : List (Nat × Bool × Nat) := []
  /-- 12 R374 layer frame choices; width -. -/
  layerFrames : List (Nat × Nat) := []
  /-- 12 R374 fallbacks and restorations; width -. -/
  layerFalls : List (Nat × Bool × Bool × Bool) := []
  /-- 12 R374 commit frames and flips; width -. -/
  headCommits : List (Nat × Int × Nat) := []
  /-- 12 R374 transmit epoch barges chosen; width -. -/
  epochs : List (Nat × Announce) := []
  /-- 12 R384 seal data of the last complete chain; width -. -/
  sealData : Option SealChain := none
  /-- 12 R384 own chains kept; width 64 ×. -/
  chains : List SealChain := []
  /-- 12 R388 checks made since FILL without mismatch; width 8. -/
  fillChecks : Nat := 0
  /-- 12 R388 barge that ran when FILL ended; width 32. -/
  checkSeq : Nat := 0
  /-- 12 R374 elapsed ticks since PORTS was sent; width -. -/
  sincePorts : Nat := 0
  /-- 12 R391 GRAPHICS_BACKLOG pages awaiting transfer or acknowledgement, per buffer; width -. -/
  backlog : List (Nat × List Nat) := []
  /-- 12 R374 graphics pages sent since the last record; width -. -/
  pagesSent : List (Nat × List Nat) := []
  /-- 16 R500 COMMANDS held: every output hold damaged; width 1. -/
  handShook : Bool := false
  /-- 12 R364 last record sent before the grant was lost; width 32. -/
  stopSeq : Nat := 0
  deriving DecidableEq, Repr

/-- an Anvil of a die (R396, R405, R406). -/
structure AnvilRt where
  /-- 13 R416 ANVILS locked; width 1. -/
  locked : Bool := false
  /-- 13 R416 ANVILS eligible; width 1. -/
  eligible : Bool := false
  /-- 13 R398 elapsed ticks eligible; width -. -/
  eligFor : Nat := 0
  deriving DecidableEq, Repr

/-- a clock domain and its port (R399, R400, R403). -/
structure DomainRt where
  /-- 13 R400 ticks of the running ramp; width -. -/
  rampFor : Nat := 0
  /-- 13 R416 RUNNING; width 1. -/
  running : Bool := false
  /-- 13 R416 RAMPING; width 1. -/
  ramping : Bool := false
  /-- 13 R400 the ramp is a start ramp; width 1. -/
  upward : Bool := false
  /-- 13 R403; width 3. -/
  port : PortSt := .opened
  /-- 13 R399 domain 24 at 300 MHz under ECO; width 1. -/
  halved : Bool := false
  /-- 13 R403 elapsed ticks before firmware tries again; width -. -/
  retryAfter : Nat := 0
  deriving DecidableEq, Repr

/-- clocks, power and heat (R396 to R416). -/
structure ClocksRt where
  /-- 13 R416 ROOT Anvil in use, false A, true B; width 1. -/
  rootB : Bool := false
  /-- 13 R409 a root is selected; width 1. -/
  rooted : Bool := false
  /-- 13 R416 ROOT in holdover; width 1. -/
  holdover : Bool := false
  /-- 13 R406 µs of holdover; width -. -/
  holdFor : Nat := 0
  /-- 13 R396; width 4 × (0 East A, 1 East B, 2 West A, 3 West B). -/
  anvils : List (Nat × AnvilRt) := []
  /-- 13 R416 REFCLKS A clean; width 1. -/
  cleanA : Bool := false
  /-- 13 R416 REFCLKS B clean; width 1. -/
  cleanB : Bool := false
  /-- 13 R416 disagreement standing; width 1. -/
  disagree : Bool := false
  /-- 13 R407, R416; width 32. -/
  slewDebt : Int := 0
  /-- 13 R407 every output hold is marked damaged; width 1. -/
  marking : Bool := false
  /-- 13 R416; width 32. -/
  switches : Nat := 0
  /-- 13 R416; width 32. -/
  holdovers : Nat := 0
  /-- 13 R416 MONITOR_TRIPS; width 32. -/
  trips : Nat := 0
  /-- 13 R416 QUIESCE_ABANDONED; width 32. -/
  abandoned : Nat := 0
  /-- 13 R416 FORCED_GATES; width 32. -/
  forced : Nat := 0
  /-- 13 R416 GATED_RESPONSES; width 32. -/
  gatedResp : Nat := 0
  /-- 13 R399; width 60 ×. -/
  domains : List (Nat × DomainRt) := []
  /-- 13 R414, R416 THROTTLE; width 3. -/
  throttle : Nat := 0
  /-- 13 R414 consecutive samples at or above THROTTLE_C; width 2. -/
  hot : Nat := 0
  /-- 13 R414 elapsed ticks in the present step; width -. -/
  inStep : Nat := 0
  /-- 13 R414 elapsed ticks below THROTTLE_C − 5; width -. -/
  coolFor : Nat := 0
  /-- 13 R416 TEMP; width 48 × 16. -/
  temps : List Int := []
  /-- 13 R416 POWER_MW; width 32. -/
  powerMw : Nat := 0
  /-- 13 R416 THROTTLE_ENTRIES; width 32. -/
  entries : Nat := 0
  /-- 13 R416 THROTTLE_MS in ticks; width -. -/
  throttleTicks : Nat := 0
  /-- 13 R416 RAIL_MV; width 8 × 16. -/
  rails : List (Nat × Nat) := []
  /-- 13 R416 RAIL_MIN_MV; width 8 × 16. -/
  railMin : List (Nat × Nat) := []
  /-- 13 R412 excursions already raised; width 8 × 1. -/
  lowRails : List Nat := []
  /-- 13 R411, 14 R420 every rail in tolerance since the last start; width 1. -/
  railsUp : Bool := false
  /-- 14 R420 a monitored rail has read outside its tolerance since the last start was done; width 1. -/
  railOut : Bool := false
  /-- 13 R411 VDD_AO up; width 1. -/
  aoUp : Bool := false
  /-- 15 R465 AO_TIME, counted in ticks (125 / 192 of its unit); width 48. -/
  aoAge : Nat := 0
  deriving DecidableEq, Repr

/-- a start in progress and what the last one left (R419 to R426, R444). -/
structure StartRt where
  /-- 14 R419, R444 LAST_START; width 8. -/
  kind : StartKind := .none
  /-- 14 R421 a start runs; width 1. -/
  running : Bool := false
  /-- 14 R422 START_PROGRESS [7:0]; width 8. -/
  stepNo : Nat := 0
  /-- 14 R422 START_PROGRESS [9:8]; width 2. -/
  attempt : Nat := 0
  /-- 14 R422 START_PROGRESS [10]; width 1. -/
  slotB : Bool := false
  /-- 14 R421 the start runs as warm; width 1. -/
  warm : Bool := false
  /-- 14 R444 START_CAUSE; width 8. -/
  cause : Nat := 0
  /-- 14 R444 ATTEMPTS; width 8. -/
  attempts : Nat := 0
  /-- 14 R444 SFLAGS[1]; width 1. -/
  fellBack : Bool := false
  /-- 14 R444 SFLAGS[2]; width 1. -/
  torn : Bool := false
  /-- 14 R444 SFLAGS[3]; width 1. -/
  fromTwin : Bool := false
  /-- 14 R444 SFLAGS[4]; width 1. -/
  becameCold : Bool := false
  /-- 14 R444; width 64. -/
  readyTick : Nat := 0
  /-- 14 R444; width 32. -/
  startMs : Nat := 0
  /-- 14 R444; width 16. -/
  failedStep : Nat := 0
  /-- 14 R444 STEP_MS; width 14 × 32. -/
  stepMs : List (Nat × Nat) := []
  /-- 14 R425 slots abandoned; width 2 × 1. -/
  tried : List Nat := []
  /-- 14 R425 100 ms before the next attempt; width 1. -/
  waiting : Bool := false
  /-- 14 R446 events held until step 14; width -. -/
  events : List EventRec := []
  /-- 14 R419 the next start is the post-scuttle start; width 1. -/
  postScuttle : Bool := false
  /-- 14 R426 a tamper alarm sends this start to Dry Dock; width 1. -/
  scuttled : Bool := false
  /-- 14 R442 a RESTART to carry out (true: warm); width 1 + 1. -/
  restart : Option Bool := none
  /-- 14 R427, R444 JSTATE[2]; width 1. -/
  powerFail : Bool := false
  /-- 14 R420 HBM training parameters are stored; width 1. -/
  hbmParams : Bool := false
  /-- 16 R514 DETAIL[7:4]; width 4. -/
  dockReason : Nat := 0
  deriving DecidableEq, Repr

/-- the logbook counters (R438 to R445). -/
structure LogRt where
  /-- 14 R445 POWER_ON_S in ticks; width 64. -/
  powerTicks : Nat := 0
  /-- 14 R439 CALENDAR_S; width 64. -/
  calendar : Nat := 0
  /-- 14 R439 ticks into the running second; width 16. -/
  calTicks : Nat := 0
  /-- 14 R439; width 16. -/
  utcOffset : Int := 0
  /-- 14 R439; width 8. -/
  calSource : Nat := 2
  /-- 14 R445; width 32. -/
  checkpoints : Nat := 0
  /-- 14 R438 THERMAL_CYCLES; width 32. -/
  cycles : Nat := 0
  /-- 14 R438 lowest reading since the last count; width 16. -/
  low : Option Int := none
  /-- 14 R438 highest reading since it rose 40 °C; width 16. -/
  high : Option Int := none
  /-- 14 R445; width 32. -/
  coldStarts : Nat := 0
  /-- 14 R445; width 32. -/
  warmStarts : Nat := 0
  /-- 14 R445; width 32. -/
  handovers : Nat := 0
  /-- 14 R445; width 32. -/
  failovers : Nat := 0
  /-- 14 R445; width 32. -/
  slips : Nat := 0
  /-- 14 R445; width 32. -/
  warned : Nat := 0
  /-- 14 R445; width 32. -/
  unwarned : Nat := 0
  /-- 14 R445; width 32. -/
  fatalD : Nat := 0
  /-- 14 R445 TEMP_MAX; width 16. -/
  tempMax : Int := -32768
  /-- 14 R445; width 128 × 64. -/
  laneCorr : List (Nat × Nat) := []
  /-- 14 R445; width 128 × 64. -/
  laneUnc : List (Nat × Nat) := []
  /-- 14 R445 HBM_ROWS_USED; width 4 × 16. -/
  rows : List (Nat × Nat) := []
  /-- 14 R445 HBM_SPARE_USED; width 4 × 8. -/
  spare : List Nat := []
  /-- 14 R444 LAST_CHECKPOINT_TICK; width 64. -/
  lastTick : Nat := 0
  /-- 14 R438 elapsed ticks since the last checkpoint; width -. -/
  age : Nat := 0
  deriving DecidableEq, Repr

/-- why a journal commit is made (R434, R427, R501). -/
inductive CutKind where
  | regular
  | final
  | trial
  deriving DecidableEq, Repr

/-- a journal commit cut and not yet durable (R434). -/
structure CutRec where
  /-- 14 R434 COMMIT_SEQ; width 64. -/
  seq : Nat := 0
  /-- 14 R434 its cut; width 64. -/
  tick : Nat := 0
  /-- 14 R434 bytes written to each device; width -. -/
  size : Nat := 0
  /-- 14 R434 the objects whose entries it carries; width 298 ×. -/
  keys : List Nat := []
  /-- 14 R434, R427, 16 R501; width -. -/
  kind : CutKind := .regular
  /-- 14 R434 every object as of the cut; width see Objects. -/
  obj : Objects := {}
  deriving DecidableEq, Repr

/-- the journal and the logbook's NOR side (R431 to R444). -/
structure JournalRt where
  /-- 14 R434 keys of objects changed since the last cut; width -. -/
  pending : List Nat := []
  /-- 14 R434 commits cut and not yet durable, oldest first; width -. -/
  writing : List CutRec := []
  /-- 14 R434 every object as of the last change noted; width see Objects. -/
  seen : Objects := {}
  /-- 14 R434 elapsed tick of the last regular cut; width -. -/
  regular : Option Nat := none
  /-- 14 R438 the newest checkpoint in the logbook rings; width see LogRt. -/
  book : LogRt := {}
  /-- 14 R440 checkpoint records in the logbook ring, oldest first; width 512 × 4 KiB. -/
  records : List (List (Byte)) := []
  /-- 14 R432 COMMIT_SEQ of a commit that power loss cut off; width 64. -/
  torn : Option Nat := none
  /-- 14 R445 the last commit was a final one; width 1. -/
  final : Bool := false
  /-- 14 R445 power was lost without a final commit; width 1. -/
  unread : Bool := false
  /-- 14 R434 COMMIT_SEQ of the last cut; width 64. -/
  cutSeq : Nat := 0
  /-- 14 R444 COMMIT_SEQ last durable; width 64. -/
  seq : Nat := 0
  /-- 14 R444 LAST_CUT_TICK; width 64. -/
  cutTick : Nat := 0
  /-- 14 R444 COMMITS; width 32. -/
  commits : Nat := 0
  /-- 14 R431, R432 contents of the last durable commits; width see Objects. -/
  durable : Objects := {}
  /-- 14 R421 the rings are formatted; width 1. -/
  formatted : Bool := false
  /-- 14 R444 JSTATE[0]; width 1. -/
  good0 : Bool := true
  /-- 14 R444 JSTATE[1]; width 1. -/
  good1 : Bool := true
  /-- 14 R435 COMMIT_INTERVAL_MS; width 32. -/
  interval : Nat := 100
  /-- 14 R435 bytes written with their elapsed ticks, last 60 s; width -. -/
  bytes : List (Nat × Nat) := []
  /-- 14 R444 bytes of the running 24 h; width -. -/
  bytesDay : Nat := 0
  /-- 14 R444 WRITE_RATE_DAY; width 32. -/
  rateDay : Nat := 0
  /-- 14 R435 elapsed ticks since the interval last rose; width -. -/
  sinceUp : Nat := 0
  /-- 14 R435 elapsed ticks below 3,584 B/s; width -. -/
  lowFor : Nat := 0
  /-- 14 R436 elapsed ticks of the running day; width -. -/
  dayAge : Nat := 0
  /-- 14 R434 a cut waits for a background slice; width 1. -/
  starved : Bool := false
  /-- 14 R434 elapsed ticks a cut has waited; width -. -/
  waited : Nat := 0
  /-- 14 R445 NOR_ERASES; width 2 × 64. -/
  erases : List (Nat × Nat) := []
  /-- 14 R436 bytes written into the ring in all; width 2 × -. -/
  headBytes : List (Nat × Nat) := []
  /-- 14 R436 where in the ring's bytes written in all each object's latest entry lies; width -. -/
  places : List (Nat × Nat) := []
  /-- 14 NOR patrol: elapsed ticks since the last one; width -. -/
  patrolAge : Nat := 0
  /-- 16 R501 a trial runs: nothing is written; width 1. -/
  noWrite : Bool := false
  deriving DecidableEq, Repr

/-- one fault-history entry (R464). -/
structure HistEntry where
  /-- 15 R464; width 64. -/
  tick : Nat := 0
  /-- 15 R464; width 16. -/
  code : Nat := 0
  /-- 15 R464 CLASS; width 8. -/
  cls : Nat := 0
  /-- 15 R464 HFLAGS[0]; width 1. -/
  west : Bool := false
  /-- 15 R464 HFLAGS[1]; width 1. -/
  injected : Bool := false
  /-- 15 R464; width 16. -/
  subject : Nat := 0
  /-- 15 R464; width 16. -/
  count : Nat := 0
  /-- 15 R464; width 64. -/
  detail : Nat := 0
  /-- 15 R464 HSEQ; width 32. -/
  seq : Nat := 0
  deriving DecidableEq, Repr

/-- the first-fault record (R465). -/
structure FirstFault where
  /-- 15 R465; width 1. -/
  valid : Bool := false
  /-- 15 R465; width 16. -/
  code : Nat := 0
  /-- 15 R465; width 3. -/
  cls : Nat := 0
  /-- 15 R465 DIE; width 1. -/
  west : Bool := false
  /-- 15 R465; width 1. -/
  lowPower : Bool := false
  /-- 15 R465; width 8. -/
  overflow : Nat := 0
  /-- 15 R465 DETAIL_A, DETAIL_B; width 64. -/
  detail : Nat := 0
  /-- 15 R465; width 64. -/
  tick : Nat := 0
  /-- 15 R465; width 48. -/
  aoTime : Nat := 0
  /-- 15 R465; width 4. -/
  state : Nat := 0
  /-- 15 R465; width 8. -/
  stepNo : Nat := 0
  deriving DecidableEq, Repr

/-- an armed injection (R469, R470). -/
structure Inject where
  /-- 15 R470; width 8. -/
  kind : Nat := 0
  /-- 15 R470; width 1. -/
  west : Bool := false
  /-- 15 R470; width 16. -/
  inst : Nat := 0
  /-- 15 R470; width 8. -/
  bits : Nat := 0
  /-- 15 R470 checks still to be affected; width 8. -/
  left : Nat := 0
  /-- 15 R470 checks affected; width 8. -/
  done : Nat := 0
  /-- 15 R470 elapsed ticks left of TIMEOUT_MS; width -. -/
  ticks : Nat := 0
  /-- 15 R470 (0: armed through JTAG); width -. -/
  job : Nat := 0
  deriving DecidableEq, Repr

/-- the counts of one source kind (R474). -/
structure KindCount where
  /-- 15 R474; width 32. -/
  corrected : Nat := 0
  /-- 15 R474; width 32. -/
  contained : Nat := 0
  /-- 15 R474; width 32. -/
  fatal : Nat := 0
  /-- 15 R474; width 32. -/
  injected : Nat := 0
  deriving DecidableEq, Repr

/-- an outstanding fabric transaction (R449 to R457). -/
structure Txn where
  /-- 15 R447; width 3. -/
  master : Nat := 0
  /-- 15 R450; width 6. -/
  stream : Nat := 0
  /-- 15 R448 target as a domain or block number; width -. -/
  target : Nat := 0
  /-- 15 R449; width 64. -/
  addr : Nat := 0
  /-- 15 R449; width 1. -/
  write : Bool := false
  /-- 15 R449; width 5. -/
  beats : Nat := 0
  /-- 15 R449 write data; width 512. -/
  data : List (Byte) := []
  /-- 15 R456 beats already sent; width 5. -/
  sentBeats : Nat := 0
  /-- 15 R456 being completed on the master's behalf; width 1. -/
  behalf : Bool := false
  /-- 15 R450 the target has answered (or will at once); width 1. -/
  done : Bool := false
  /-- 15 R454 code the target answers with; width 3. -/
  resp : Nat := 0
  /-- 15 R451 crosses the Aqueduct; width 1. -/
  remote : Bool := false
  /-- 15 R451 a response buffer is reserved; width 1. -/
  buffer : Bool := true
  deriving DecidableEq, Repr

/-- a fabric master of a die (R447, R474); key die × 8 + master. -/
structure MasterRt where
  /-- 15 R474 OUTSTANDING_MAX; width 16. -/
  outMax : Nat := 0
  /-- 15 R474 the numbers outstanding that can be the highest of 48,000 ticks, with their elapsed ticks; width 48000 ×. -/
  outWin : List (Nat × Nat) := []
  /-- 15 R474; width 32. -/
  holdBacks : Nat := 0
  /-- 15 R474; width 32. -/
  midBurst : Nat := 0
  /-- 15 R474 ERROR_RESPONSES; width 32. -/
  errors : Nat := 0
  /-- 15 R474; width 32. -/
  gated : Nat := 0
  /-- 15 R474; width 32. -/
  timeouts : Nat := 0
  /-- 15 R474 TRANSACTIONS; width 64. -/
  total : Nat := 0
  /-- 15 R447 outstanding, oldest first; width 64 ×. -/
  txns : List Txn := []
  /-- 15 R451 held requests, oldest first; width -. -/
  waiting : List Txn := []
  /-- 15 R454 code last delivered; width 3. -/
  lastResp : Nat := 0
  /-- 15 R454 read data last delivered; width 512. -/
  lastData : List (Byte) := []
  deriving DecidableEq, Repr

/-- a fabric target port (R452, R455); key die × 256 + target. -/
structure TargetRt where
  /-- 15 R455 answered TIMEOUT until its port is reset; width 1. -/
  hung : Bool := false
  /-- 15 R455 elapsed ticks of its timeouts within 1 s; width -. -/
  times : List Nat := []
  /-- 15 R452 master last granted; width 3. -/
  parked : Nat := 0
  deriving DecidableEq, Repr

/-- a report of a checker (R458, R459). -/
structure FaultRep where
  /-- 15 R459; width 16. -/
  code : Nat := 0
  /-- 15 R464; width 1. -/
  west : Bool := false
  /-- 15 R459; width 16. -/
  subject : Nat := 0
  /-- 15 R464; width 64. -/
  detail : Nat := 0
  /-- 15 R469 an armed injection made the checker report; width 1. -/
  injected : Bool := false
  /-- 10 R311 the word is one of this Hallmark region's active pixels, of head SUBJECT; width 3. -/
  hallmark : Option Nat := none
  /-- 10 R296 the word was read for the frame that head SUBJECT composes; width 1. -/
  line : Bool := false
  /-- 15 R459 output holds (lane × 8 + hold) that carry the damaged data; width 1,024 × 1. -/
  holds : List Nat := []
  deriving DecidableEq, Repr

/-- the fault collector and the control fabric (R447 to R474). -/
structure FaultsRt where
  /-- 15 R463; width 32 × 256 newest last. -/
  hist : List HistEntry := []
  /-- 15 R463 HEAD; width 32. -/
  head : Nat := 0
  /-- 15 R464 HSEQ; width 32. -/
  hseq : Nat := 0
  /-- 15 R465; width 256. -/
  first : FirstFault := {}
  /-- 15 R474; width 13 ×. -/
  kinds : List (Nat × KindCount) := []
  /-- 15 R463 elapsed ticks of the corrected reports of each code in the last hour; width -. -/
  hour : List (Nat × List Nat) := []
  /-- 15 R463 elapsed tick of each code's last rate entry; width -. -/
  rated : List (Nat × Nat) := []
  /-- 15 R475 elapsed tick of the last FAULT_CONTAINED per code and SUBJECT; width -. -/
  containedAt : List (Nat × Nat) := []
  /-- 15 R475 reports merged since, with their number; width -. -/
  merged : List (FaultRep × Nat) := []
  /-- 15 R474 FATAL_ENTRIES; width 32. -/
  entries : Nat := 0
  /-- 15 R461 elapsed ticks of the entries to FATAL_D within 600 s; width -. -/
  entryTimes : List Nat := []
  /-- 15 R474 AUTO_RESET_WAIT_MS; width 32. -/
  waitMs : Nat := 0
  /-- 15 R461 elapsed ticks in FATAL_D; width -. -/
  waited : Nat := 0
  /-- 15 R461, 13 R415 FATAL_D came from a thermal trip; width 1. -/
  thermal : Bool := false
  /-- 15 R474 ALIVE_STATE; width 2. -/
  alive : Nat := 0
  /-- 15 R467 level of the ALIVE pin; width 1. -/
  aliveLevel : Bool := false
  /-- 15 R467 elapsed tick of the last edge; width -. -/
  aliveAt : Option Nat := none
  /-- 15 R470; width -. -/
  injects : List Inject := []
  /-- 15 R447; width 2 × 8 ×. -/
  masters : List (Nat × MasterRt) := []
  /-- 15 R448; width -. -/
  targets : List (Nat × TargetRt) := []
  deriving DecidableEq, Repr

/-- an SPDM session (R485). -/
structure Spdm where
  /-- 16 R485; width 32. -/
  id : Nat := 0
  /-- 16 R485; width 2. -/
  st : SpdmSt := .none
  /-- 16 R485 heartbeat period, s; width 8. -/
  heartbeat : Nat := 0
  /-- 16 R485 elapsed ticks since the last heartbeat or request; width -. -/
  age : Nat := 0
  /-- 16 R485 key updates made; width -. -/
  keyNo : Nat := 0
  deriving DecidableEq, Repr

/-- The last answer given over DOE (R485). -/
inductive DoeReply where
  | none
  | discovery (protocols : List Nat)
  | versions (vs : List Nat)
  | capabilities (names : List String)
  | algorithms (asym hash dhe aead meas : String)
  | digests (slotMask : Nat) (digest : List (BitVec 8))
  | certificate (bytes : List (BitVec 8)) (raw : Bool)
  | challengeAuth (signature : List (BitVec 8))
  | measurements (blocks : List (Nat × List (BitVec 8))) (signature : List (BitVec 8))
  | keyExchange (session heartbeat : Nat) (exchange signature : List (BitVec 8))
  | finished (session : Nat)
  | keyUpdated (session : Nat)
  | heartbeatAck (session : Nat)
  | ended (session : Nat)
  | queryResp (keySets : Nat)
  | keyProgAck (keySet : Nat)
  | goStopAck (keySet : Nat) (go : Bool)
  | error (busy : Bool)
  deriving DecidableEq, Repr

/-- one key set of an IDE stream and direction (R485); key stream × 4 + direction × 2 + set. -/
structure IdeKeys where
  /-- 16 R477, R485; width 256. -/
  key : List (Byte) := []
  /-- 16 R485 K_SET_GO given; width 1. -/
  active : Bool := false
  /-- 16 R484; width 1. -/
  orphaned : Bool := false
  /-- 16 R484, R485 SPDM session that programmed it; width 32. -/
  session : Nat := 0
  deriving DecidableEq, Repr

/-- the key vaults, tamper, SPDM and IDE (R476 to R491). -/
structure KeysRt where
  /-- 16 R477, R510 ROOT_BANK in use; width 1 + 1. -/
  bank : Option Nat := none
  /-- 16 R478 banks programmed in OTP; width 2 × 1. -/
  programmed : List Nat := []
  /-- 16 R488 banks whose kill bits are programmed; width 2 × 1. -/
  killed : List Nat := []
  /-- 16 R488 bank whose kill bits are being programmed; width 1 + 1. -/
  killing : Option Nat := none
  /-- 16 R479 root-enable latch open; width 1. -/
  latch : Bool := false
  /-- 16 R477 the vault SRAMs hold the derived keys; width 1. -/
  vault : Bool := false
  /-- 16 R490 tamper lock (DEVICE_STATE[5]); width 1. -/
  lock : Bool := false
  /-- 16 R491 RETIRED; width 1. -/
  retired : Bool := false
  /-- 16 R501, R510 OTP security counter; width 7. -/
  secCounter : Nat := 0
  /-- 16 R477, R510 vendor image keys present; width 4. -/
  vendor : Nat := 15
  /-- 16 R510; width 4. -/
  revoked : Nat := 0
  /-- 16 R510 ORPHAN_USES[0]; width 32. -/
  orphanTandem : Nat := 0
  /-- 16 R510 ORPHAN_USES[1]; width 32. -/
  orphanIde : Nat := 0
  /-- 16 R510 ORPHAN_USES[2]; width 32. -/
  orphanImage : Nat := 0
  /-- 16 R484 an image decryption runs under a revoked key; width 1. -/
  imageOrphan : Bool := false
  /-- 16 R485; width 2 ×. -/
  sessions : List Spdm := []
  /-- 16 R485 next SPDM session number; width -. -/
  nextId : Nat := 1
  /-- 16 R485 SPDM version agreed, 0 none; width 8. -/
  version : Nat := 0
  /-- 16 R485 last DOE answer; width -. -/
  doe : DoeReply := .none
  /-- 16 R485; width 8 ×. -/
  ide : List (Nat × IdeKeys) := []
  /-- 16 R511 a SCUTTLE acts at the end of the admitting tick; width 1. -/
  scuttleDue : Bool := false
  /-- 16 R487 TAMPER_N inputs at an alarm level; width 2 × 1. -/
  tamperPin : List Nat := []
  /-- 17 R531 debug access unlocked; width 1. -/
  debug : Bool := false
  deriving DecidableEq, Repr

/-- what a slot's descriptor, commit page and header give (R494, R513). -/
structure SlotHdr where
  /-- 16 R513 SSTATE 0 invalid, 1 valid, 2 being written; width 8. -/
  st : Nat := 0
  /-- 16 R513; width 16. -/
  security : Nat := 0
  /-- 16 R513 FW_VERSION; width 32. -/
  version : Nat := 0
  /-- 16 R492 FW_PARTNER_MIN; width 32. -/
  partnerMin : Nat := 0
  /-- 16 R492 TANDEM_VERSION; width 8. -/
  tandem : Nat := 0
  /-- 16 R492, R513; width 16. -/
  schemaW : Nat := 0
  /-- 16 R492; width 16. -/
  schemaMin : Nat := 0
  /-- 16 R492; width 16. -/
  schemaMax : Nat := 0
  /-- 16 R494; width 32. -/
  bootSeq : Nat := 0
  /-- 16 R492 REVOKE; width 4. -/
  revoke : Nat := 0
  /-- 16 R492 KEY_INDEX; width 8. -/
  keyIndex : Nat := 0
  /-- 16 R492 ROM_MIN; width 32. -/
  romMin : Nat := 0
  /-- 16 R513 DIGEST; width 384. -/
  digest : List (Byte) := []
  /-- 16 R492 the image header; width 4,096. -/
  header : List (Byte) := []
  /-- 16 R498 staged and not yet handed over; width 1. -/
  staged : Bool := false
  deriving DecidableEq, Repr

/-- firmware, Slipway and Dry Dock (R492 to R514). -/
structure FwRt where
  /-- 16 R513 RUNNING; width 1. -/
  running : Nat := 0
  /-- 16 R93, R486 header of the running image; width see SlotHdr. -/
  image : SlotHdr := {}
  /-- 14 R421 a verified copy of the running image stands in HBM; width 1. -/
  hbmCopy : Bool := false
  /-- 16 R494; width 2 ×. -/
  slots : List (Nat × SlotHdr) := []
  /-- 16 R513 SESSION; width 8. -/
  source : FwSource := .none
  /-- 16 R513 PHASE; width 8. -/
  phase : FwPhase := .idle
  /-- 16 R512 HDM offset of the image being staged; width 34. -/
  stageAt : Nat := 0
  /-- 16 R512 LENGTH of the image being staged; width 32. -/
  stageLen : Nat := 0
  /-- 16 R497 digest of the image the partner sends; width 384. -/
  hash : Option (List (Byte)) := none
  /-- 16 R513 SESSION_BYTES; width 32. -/
  bytes : Nat := 0
  /-- 16 R512 slot of the session; width 1. -/
  target : Nat := 0
  /-- 16 R514 both slots are to be written; width 1. -/
  both : Bool := false
  /-- 16 R493 header of the image under check; width see SlotHdr. -/
  incoming : SlotHdr := {}
  /-- 16 R512 STAGE_IMAGE, HANDOVER or REVERT in progress; width -. -/
  job : Option Nat := none
  /-- 16 R499 step running, 0 none; width 3. -/
  handStep : Nat := 0
  /-- 16 R499 admitting tick T; width 64. -/
  handTick : Nat := 0
  /-- 16 R499 elapsed ticks of the pause; width -. -/
  handAge : Nat := 0
  /-- 16 R503 a revert runs; width 1. -/
  reverting : Bool := false
  /-- 12 R365 TWIN_HEALTH was high on entry to HANDOVER; width 1. -/
  healthHigh : Bool := false
  /-- 16 R497 DIGEST that the chip offers to its partner; width 384. -/
  offer : List (Byte) := []
  /-- 16 R501 TRIAL_S in ms, 0 outside a trial; width 16. -/
  trialMs : Nat := 0
  /-- 16 R512 TRIAL_S in ms of the handover that runs; width 32. -/
  trialNext : Nat := 0
  /-- 16 R501 elapsed ticks of the trial; width -. -/
  trialAge : Nat := 0
  /-- 16 R503 slot of the old image during a handover or a trial; width 1. -/
  oldSlot : Nat := 0
  /-- 16 R499, R503 header of the old image, kept in memory; width see SlotHdr. -/
  oldImage : SlotHdr := {}
  /-- 16 R489 the trial's commit is not made; width 1. -/
  noCommit : Bool := false
  /-- 16 R514 LENGTH of DD_BEGIN; width 32. -/
  ddLength : Nat := 0
  /-- 16 R514 SLOTS of DD_BEGIN; width 8. -/
  ddSlots : Nat := 0
  /-- 16 R514 received ranges, rising and disjoint; width -. -/
  ddHave : List (Nat × Nat) := []
  /-- 16 R505, R514 image bytes received, canonical; width 400 Mbit. -/
  ddBytes : List Host.Cell := []
  /-- 16 R505 STACK[0] trained to hold the image; width 1. -/
  ddTrained : Bool := false
  deriving DecidableEq, Repr

/-- the pins the chip samples or drives (chapter 17) and the management and test ports. -/
structure Pins where
  /-- 17 HELM_GRANT_N level; width 1. -/
  grantN : Bool := true
  /-- 17 PWR_FAIL_N level; width 1. -/
  pwrFailN : Bool := true
  /-- 17 PERST_N level; width 1. -/
  perstN : Bool := false
  /-- 17 R523 XSPI0_RESET_N and XSPI1_RESET_N, driven low until step 1; width 1. -/
  xspiResetN : Bool := false
  /-- 17 R522 slew setting of the XSPI clock and data outputs, every other output staying at 0; width 2. -/
  xspiSlew : Nat := 0
  /-- 17 R530 read offset; width 8. -/
  mgmtOffset : Nat := 0
  /-- 17 R530 bytes of the last management read; width -. -/
  mgmtData : List (Byte) := []
  /-- 17 R531 what the selected data register captures: IDCODE after a reset, 0 under BYPASS; width 32. -/
  tapReg : Nat := 0xB11527C3
  /-- 17 R531 test access port: 0 reset, else the instruction in force; width 4. -/
  tap : Nat := 0
  deriving DecidableEq, Repr

/-- where a register write goes (R60, R62): BAR0, BAR2 or configuration space. -/
inductive RegSpace where
  | bar0
  | bar2
  | config
  deriving DecidableEq, Repr

/-- the causes of a link loss (R59). -/
inductive LossCause where
  | perst
  | removal
  | linkDown
  | ide
  deriving DecidableEq, Repr

/-- What a 32-byte word of the Wharf holds (R191, R194, R205 to R207): berths, pyramids and audio delay memory stand where the pools place them. -/
inductive WordOwner where
  | unused
  | hdm (word : Nat)
  | berth (bay slot line : Nat)
  | pyramid (source slot level x y : Nat)
  | audioDelay (channel place : Nat)
  deriving DecidableEq, Repr

/-- What the patrol scrubber finds in a 256-byte unit (R208). -/
inductive ScrubFound where
  | clean
  | errors (symbols row : Nat) (owner : WordOwner) (overtaken : Bool)
  deriving DecidableEq, Repr

/-- a pulse on a frame-reference pin (R129). -/
structure PinPulse where
  /-- 05 R129 its rising edge on T, ns; width 64. -/
  atNs : Int := 0
  /-- 05 R129 its width, ns; width 32. -/
  widthNs : Nat := 0
  deriving DecidableEq, Repr

/-- what the two pounds of a shadow gave in its 16 barges (R183). -/
structure PoundOutputs where
  /-- 06 R183; width 1. -/
  die : Nat := 0
  /-- 06 R183 the spare's output; width 150 bytes ×. -/
  shadow : List (Byte) := []
  /-- 06 R183 the traffic pound's output; width 150 bytes ×. -/
  traffic : List (Byte) := []
  deriving DecidableEq, Repr

/-- what the weekly read of a NOR device found (R440, R495). -/
structure PatrolFound where
  /-- 14 R437 the device can be read; width 1. -/
  ok : Bool := true
  /-- 14 R440 its failing sectors; width 32. -/
  bad : Nat := 0
  deriving DecidableEq, Repr

/-- what raises a tamper alarm (R487, R489). -/
structure TamperTrip where
  /-- 16 R487 input 0 or 1, or sensor 2 or 3; width 2. -/
  source : Nat := 0
  /-- 16 R487 how long an input was low, ns; width 32. -/
  lowNs : Nat := 0
  deriving DecidableEq, Repr

/-- what the receiver knows when a beacon record arrives: the header timestamp of its barge and its own (R128). -/
structure BeaconArrival where
  /-- 05 R126 TS_SECONDS of the barge header; width 48. -/
  txSeconds : Nat := 0
  /-- 05 R126 TS_NANOSECONDS; width 32. -/
  txNanos : Nat := 0
  /-- 05 R128 arrival of the first comma symbol against T + E, ns, receive latency removed, averaged over the 1,024 barges of the interval; width 64. -/
  rxNs : Int := 0
  deriving DecidableEq, Repr

/-- a received data barge (R328 to R338): the comma, the outcome of RS decoding, the decoded payload. -/
structure RxBarge where
  /-- 11 R329 comma tail; width 32. -/
  tail : Nat := 0
  /-- 11 R329 symbols 0 to 47 that differ in sign; width 6. -/
  commaErrors : Nat := 0
  /-- 11 R330 corrected symbols of each codeword, none when uncorrectable; width 16 ×. -/
  codewords : List (Option Nat) := []
  /-- 11 R332; width 82,240 bits. -/
  payload : List (Byte) := []
  /-- 05 R128, 07 R199 arrival of the barge's first symbol against T + E, ns; width 64. -/
  atNs : Int := 0
  deriving DecidableEq, Repr

/-- what the receiver's adaptation reports with a training barge (R348). -/
structure RxAdapt where
  /-- 11 R348, R361 bit errors in the PRBS31 part; width 32. -/
  bitErrors : Nat := 0
  /-- 11 R348 the bit error ratio is below 10^-5 over 10^8 bits; width 1. -/
  ready : Bool := false
  /-- 11 R348 DFE tap over main cursor, per mille; width 16. -/
  dfeMille : Nat := 0
  /-- 11 R347 tap and action that the receiver's adaptation asks of the far transmitter next; width 16. -/
  request : Option (Nat × Nat) := none
  /-- 11 R359 receive peaking in use, 0.1 dB; width 8. -/
  ctle : Nat := 0
  deriving DecidableEq, Repr

/-- what the partner sends to establish or renew the Tandem session (R371, R483). -/
structure TandemOffer where
  /-- 16 R483; width 64. -/
  serial : Nat := 0
  /-- 12 R371 FW_VERSION; width 32. -/
  fw : Nat := 0
  /-- 12 R371 FW_PARTNER_MIN; width 32. -/
  fwMin : Nat := 0
  /-- 16 R483 ephemeral public key; width 768. -/
  publicKey : List (Byte) := []
  /-- 16 R483 own ephemeral public key; width 768. -/
  own : List (Byte) := []
  /-- 16 R483 HMAC over both keys and serials; width 384. -/
  proof : List (Byte) := []
  deriving DecidableEq, Repr

/-- what the helm sends in the SNAPSHOT phase (R388). -/
structure Snapshot where
  /-- 12 R388 every replicated object and generation; width see Objects. -/
  obj : Objects := {}
  /-- 12 R388 every route and queue; width 65,536 ×. -/
  routes : List (Nat × RouteRt) := []
  /-- 12 R388 generator settings that wait; width 16 ×. -/
  genPend : List (Nat × GenObj) := []
  /-- 12 R388 manifests in change; width 256 ×. -/
  manifests : List (Nat × ManifestRt) := []
  /-- 12 R388 lane streams in service; width 16,384 ×. -/
  streams : List (Nat × StreamRt) := []
  /-- 12 R388 berths in being; width 8,192 ×. -/
  berths : List (Nat × BerthRt) := []
  /-- 12 R388 pyramids in being; width -. -/
  pyramids : List (Nat × PyramidRt) := []
  /-- 12 R388 long delay lines in being; width -. -/
  longChans : List Nat := []
  /-- 12 R388 audio pairings, sums and crossfades; width see AudioRt. -/
  audio : AudioRt := {}
  /-- 12 R388 pending copies, commits and layers; width 32 ×. -/
  heads : List (Nat × HeadRt) := []
  /-- 12 R388 time-model state; width see TimeRt. -/
  time : TimeRt := {}
  /-- 12 R388 selector state; width see RefsRt. -/
  refs : RefsRt := {}
  /-- 12 R380 barge counter; width 32. -/
  bargeSeq : Nat := 0
  /-- 12 R388 front buffers' pages of the GRAPHICS phase: buffer, page, bytes; width -. -/
  pages : List (Nat × Nat × List Byte) := []
  deriving DecidableEq, Repr

/-- a request of a fabric master (R447 to R454). -/
structure FabricReq where
  /-- 15 R447; width 1. -/
  die : Nat := 0
  /-- 15 R447; width 3. -/
  master : Nat := 0
  /-- 15 R450; width 6. -/
  stream : Nat := 0
  /-- 15 R448 target the address decodes to, by domain or block number, none when it decodes to none; width -. -/
  target : Option Nat := none
  /-- 15 R451 the target is on the other die; width 1. -/
  remote : Bool := false
  /-- 15 R449; width 64. -/
  addr : Nat := 0
  /-- 15 R449; width 1. -/
  write : Bool := false
  /-- 15 R449; width 5. -/
  beats : Nat := 1
  /-- 15 R449 write data; width 512. -/
  data : List (Byte) := []
  /-- 15 R454 response code of the target, none while it has not answered; width 3. -/
  answer : Option Nat := none
  /-- 15 R451 a response buffer is free for an Aqueduct crossing; width 1. -/
  buffer : Bool := true
  /-- 15 R450, R454 earlier requests of the master that their targets have answered since: for each the stream, whose oldest unanswered request it is, the response code and the read data; width 64 ×. -/
  earlier : List (Nat × Nat × List (Byte)) := []
  deriving DecidableEq, Repr

/-- what the work of a start step found (R421 to R432). -/
structure StepFound where
  /-- 14 R421 the step's own work succeeded; width 1. -/
  ok : Bool := true
  /-- 14 R420 stored HBM training parameters pass; width 1. -/
  paramsOk : Bool := true
  /-- 14 R420 the HBM image copy passes its digest; width 1. -/
  copyOk : Bool := true
  /-- 16 R493 cause of a refused slot copy, 0 accepted; width 8. -/
  imageCause : Nat := 0
  /-- 14 R432 a torn commit was found; width 1. -/
  torn : Bool := false
  /-- 14 R437 NOR 0 reads back; width 1. -/
  good0 : Bool := true
  /-- 14 R437 NOR 1 reads back; width 1. -/
  good1 : Bool := true
  /-- 14 R421 the link trained as CXL at step 9; width 1. -/
  linked : Bool := false
  /-- 14 R423 pounds that pass self-test (die × 9 + pound); width 18 × 1. -/
  padsOk : List Nat := []
  /-- 04 R103 T, E and frequency control of a partner in READY_HELM; width 64 + 64 + 32. -/
  partner : Option (Nat × Int × Int) := none
  /-- 14 R423 heads that fail the Assay check; width 32 × 1. -/
  headsBad : List Nat := []
  deriving DecidableEq, Repr

/-- what the checks of R493 that need the vendor key, the GCM tag and the payload find. -/
structure ImageChecks where
  /-- 16 R493 check 2; width 1. -/
  signature : Bool := true
  /-- 16 R493 check 6; width 1. -/
  tag : Bool := true
  /-- 16 R493 check 7; width 1. -/
  digest : Bool := true
  deriving DecidableEq, Repr

end Sys2Proof.Machine
end

