-- ==== Sys2Proof/Syntax.lean ====
section
/-! DEFINITION.  The commands the FX1152 takes: one constructor for each row of spec/opcode_table.json,
with the row's operands.  A row of the mailbox (DD_STATUS to READ_FIRMWARE) carries the command record
as the host writes it; a row of the wire, of a pin or of a timer carries what arrives with it. -/

namespace Sys2Proof
open Sys2Proof.Machine

/-- A command from outside, or an event of the chip's own timers and engines. -/
inductive Instr where
  /-- DD_STATUS (R514): Dry Dock command on channel 0 that reports device state, reason, root bank and bytes received in DD_COMPLETION. -/
  | ddStatus (c : Cmd)
  /-- DD_BEGIN (R514): Dry Dock command that discards any earlier image and starts receiving a new image of a given length for the chosen slots. -/
  | ddBegin (c : Cmd)
  /-- DD_CHUNK (R514): Dry Dock command that stores one chunk of the image at an offset, refusing ranges beyond LENGTH. -/
  | ddChunk (c : Cmd)
  /-- DD_FINISH (R514): Dry Dock command that checks the received image under R493 and writes it to the slots with a higher BOOT_SEQ. -/
  | ddFinish (c : Cmd)
  /-- DD_RESTART (R514): Dry Dock command that completes and is followed by a cold start. -/
  | ddRestart (c : Cmd)
  /-- DD_COMMIT_WHILE_BUSY (R63): A write to DD_COMMIT while BUSY is set is ignored and sets OVERRUN. -/
  | ddCommitWhileBusy
  /-- IDENTIFY (R93): Read-only command returning vendor, device, stepping, role, state, firmware, link, trims and HDM size. -/
  | identify (c : Cmd)
  /-- OPEN_SESSION (R94): Opens a session on a free channel, assigns a session number and grants the requested privileges ANDed with the ceiling. -/
  | openSession (c : Cmd)
  /-- CLOSE_SESSION (R95): Closes the issuing session under R70, discarding unread records and draining admitted commands. -/
  | closeSession (c : Cmd)
  /-- KEEPALIVE (R95): Renews the issuing session's lease and does nothing else. -/
  | keepalive (c : Cmd)
  /-- SET_INTERRUPTS (R96): Maps a completion or event ring to an MSI-X vector with moderation count and time, from the end of the admitting tick. -/
  | setInterrupts (c : Cmd)
  /-- SET_CHANNEL_CEILING (R97): On channel 1, sets a channel's privilege ceiling, ANDs it into the open session and optionally closes it. -/
  | setChannelCeiling (c : Cmd)
  /-- SET_NOTIFY (R98): Sets or clears the host address of the CXL.cache notification line. -/
  | setNotify (c : Cmd)
  /-- SET_TRIM (R99): Changes the Stowage, Composer, Power or Latency trim, advancing the trim set's generation and taking effect under R22. -/
  | setTrim (c : Cmd)
  /-- COMMAND_UNKNOWN_OPCODE (R100): A command record whose opcode is not implemented completes with UNKNOWN_OPCODE. -/
  | commandUnknownOpcode (opcode : Nat) (c : Cmd)
  /-- DEFINE_STREAM (R43): Creates or replaces a stream definition, or with AMEND alters the in-service fields of a LIVE stream, under the checks of R539. -/
  | defineStream (c : Cmd)
  /-- RELEASE_STREAM (R45): Makes a DEFINED stream undefined or a LIVE stream RELEASING, with FORCE needed for routed or queued streams. -/
  | releaseStream (c : Cmd)
  /-- SET_MANIFEST (R47): Submits a new manifest for a lane direction, which becomes pending until its epoch barge or applies at once on a non-ACTIVE lane. -/
  | setManifest (c : Cmd)
  /-- SET_PLANE (R122): Enables, disables, re-rates or re-phases a timing plane, a phase change completing at the adoption tick. -/
  | setPlane (c : Cmd)
  /-- READ_TIMING (R123): Read-only command returning the time model state and each plane's rate, phase, generation, frame and next frame tick. -/
  | readTiming (c : Cmd)
  /-- SET_REFERENCE (R148): Enables, disables or reconfigures a reference slot, with disqualification or rank change as R148 lists. -/
  | setReference (c : Cmd)
  /-- SET_SELECTION_POLICY (R149): Sets the selection mode, forced slot, refclk spread, drift, offset and holdover budget. -/
  | setSelectionPolicy (c : Cmd)
  /-- READ_REFERENCES (R150): Read-only command returning selector, holdover and per-slot reference state. -/
  | readReferences (c : Cmd)
  /-- TAKE (R166): Checks and arms one change of a destination's source for a switch point, completing QUEUED then DONE or DEFERRED. -/
  | take (c : Cmd)
  /-- SALVO (R168): Checks up to 512 takes entry by entry and arms them together, or split across frames with MAY_SPLIT. -/
  | salvo (c : Cmd)
  /-- CANCEL (R169): Cancels uncommitted takes of a named command or of a destination's queue. -/
  | cancel (c : Cmd)
  /-- LOCK_DESTINATION (R171): Releases, protects or locks a range of destination handles against takes. -/
  | lockDestination (c : Cmd)
  /-- SET_GENERATOR (R182): Configures or disables a pattern generator's plane, width, pattern, format, colour and form. -/
  | setGenerator (c : Cmd)
  /-- READ_ROUTES (R187): Read-only command returning route, lock, offset and count records for a range of destinations. -/
  | readRoutes (c : Cmd)
  /-- SET_FRAME_SYNC (R214): Creates, changes or frees an input stream's berth, delay and loss-fill settings. -/
  | setFrameSync (c : Cmd)
  /-- READ_BERTHS (R216): Read-only command returning one record per berthed stream in a handle range. -/
  | readBerths (c : Cmd)
  /-- READ_WHARF (R217): Read-only command returning per-die pool use and per-stack error, repair and scrub figures. -/
  | readWharf (c : Cmd)
  /-- SET_WHARF_POLICY (R215): Sets the patrol scrub period and whether listed rows are hard-repaired at cold start. -/
  | setWharfPolicy (c : Cmd)
  /-- SET_DESTINATION_FORM (R236): Sets an output stream's dual-link level, timecode mode, payload ID mode and timecode offset. -/
  | setDestinationForm (c : Cmd)
  /-- SET_ANC_DESTINATION (R237): Sets an ANC destination's mode, DID, SDID and insertion line. -/
  | setAncDestination (c : Cmd)
  /-- SET_DETECTORS (R248): Sets an input stream's detector enables, thresholds and run counts on the issuing chip. -/
  | setDetectors (c : Cmd)
  /-- SET_LOUDNESS_GROUP (R249): Defines, changes, resets or disables a loudness measurement group of source channels. -/
  | setLoudnessGroup (c : Cmd)
  /-- SET_CHANNEL_GAIN (R277): Sets the main-contribution gain and inversion of a range of destination channels. -/
  | setChannelGain (c : Cmd)
  /-- SET_CHANNEL_DELAY (R278): Sets the delay of a range of destination channels, allocating long-delay memory where needed. -/
  | setChannelDelay (c : Cmd)
  /-- SET_MIX (R279): Enables, changes or removes one of a destination channel's three mix entries. -/
  | setMix (c : Cmd)
  /-- SET_CHANNEL_OPTIONS (R280): Sets following, pair linking and default crossfade of destination or source channels. -/
  | setChannelOptions (c : Cmd)
  /-- READ_AUDIO_SOURCES (R281): Read-only command returning buffer, sync and slip records of LIVE input streams with audio. -/
  | readAudioSources (c : Cmd)
  /-- SET_HEAD (R314): Writes a head's plane, split, format, background and output matrix into the pending copy. -/
  | setHead (c : Cmd)
  /-- SET_LAYER (R315): Writes a layer slot's kind, placement, crop, banks, fill and matrix into the pending copy. -/
  | setLayer (c : Cmd)
  /-- SET_COEFFICIENTS (R316): Writes one horizontal or vertical set of a Planisher coefficient bank into the pending copy. -/
  | setCoefficients (c : Cmd)
  /-- SET_LUT (R317): Writes part of a pre-blend or post-blend LUT into the pending copy. -/
  | setLut (c : Cmd)
  /-- SET_ASSAY (R318): Configures an Assay region's mode, frame count, rectangle and expected CRC from frame n. -/
  | setAssay (c : Cmd)
  /-- WRITE_HALLMARK (R319): Authenticated channel-1 command writing pending Hallmark pixels and optionally committing them. -/
  | writeHallmark (c : Cmd)
  /-- SET_HALLMARK_REGION (R320): Authenticated channel-1 command defining or enabling a Hallmark region in the pending image. -/
  | setHallmarkRegion (c : Cmd)
  /-- READ_HEAD (R322): Read-only command returning a head's active or pending head and layer settings. -/
  | readHead (c : Cmd)
  /-- COMMIT_HEAD (R289): Checks and applies or discards a head's pending configuration, with optional graphics plane flips. -/
  | commitHead (c : Cmd)
  /-- LANE_CONTROL (R361): Enables, disables, retrains, moors, wakes or tests a lane or every lane. -/
  | laneControl (c : Cmd)
  /-- SET_LANE_POLICY (R362): Sets a lane's precoding policy, histogram bound, symbol error limit, SNR minimum and drift. -/
  | setLanePolicy (c : Cmd)
  /-- READ_TWIN (R391): Read-only command returning role, twin state, partner, record, seal and resynchronisation figures. -/
  | readTwin (c : Cmd)
  /-- SET_TWIN_POLICY (R392): Sets automatic resynchronisation, seal checking and the retry time. -/
  | setTwinPolicy (c : Cmd)
  /-- RESYNC (R393): Starts a resynchronisation of a standby, completing when IN_STEP is reached or a phase fails. -/
  | resync (c : Cmd)
  /-- YIELD_HELM (R394): Makes a PAIRED helm drive TWIN_HEALTH low for up to HOLD_MS so that the arbiter moves the grant. -/
  | yieldHelm (c : Cmd)
  /-- READ_CLOCKS (R416): Read-only command returning Anvil, refclk, throttle, temperature, domain and rail figures. -/
  | readClocks (c : Cmd)
  /-- SET_POWER_POLICY (R417): Sets the throttle temperature, Anvil preference and throttle step time. -/
  | setPowerPolicy (c : Cmd)
  /-- RESTART (R442): Requests a warm or cold start, running the power-fail commit steps before the start. -/
  | restart (c : Cmd)
  /-- READ_STARTS (R444): Read-only command returning last start, journal and wear figures. -/
  | readStarts (c : Cmd)
  /-- READ_LOGBOOK (R445): Read-only command returning the lifetime counters and calendar. -/
  | readLogbook (c : Cmd)
  /-- SET_JOURNAL_POLICY (R443): Sets the base and maximum journal commit intervals. -/
  | setJournalPolicy (c : Cmd)
  /-- READ_FAULTS (R471): Read-only command returning the first-fault record and the 32 newest history entries. -/
  | readFaults (c : Cmd)
  /-- SET_FAULT_POLICY (R472): Sets the automatic reset wait and the corrected-fault rate limit. -/
  | setFaultPolicy (c : Cmd)
  /-- INJECT_FAULT (R470): Arms inverted check bits on a checker's next COUNT checks, completing when they fire or time out. -/
  | injectFault (c : Cmd)
  /-- CLEAR_FIRST_FAULT (R473): Clears the first-fault record if EXPECT matches its CODE, else completes STALE_GENERATION. -/
  | clearFirstFault (c : Cmd)
  /-- ATTEST (R507): Read-only command answering a challenge with measurement, identity and an HMAC under the attestation secret. -/
  | attest (c : Cmd)
  /-- INSTALL_KEY (R508): Authenticated command unwrapping a key into the next slot of its kind, or provisioning the first attestation secret. -/
  | installKey (c : Cmd)
  /-- SWAP_KEY (R509): Authenticated command promoting the next key of a kind to current after rechecking its KCV. -/
  | swapKey (c : Cmd)
  /-- INVALIDATE_KEY (R509): Authenticated command clearing both slots of a key kind and orphaning its children. -/
  | invalidateKey (c : Cmd)
  /-- READ_KEYS (R510): Read-only command returning root bank, counters, key slot states, KCVs and public keys. -/
  | readKeys (c : Cmd)
  /-- SCUTTLE (R511): Authenticated command that, with a correct CONFIRM, triggers a scuttle at the end of the admitting tick. -/
  | scuttle (c : Cmd)
  /-- STAGE_IMAGE (R512): Starts a host update session that checks an image from HDM staging and writes it to the inactive slot. -/
  | stageImage (c : Cmd)
  /-- SET_FOLLOW_LIST (R512): Sets the list of image digests the chip accepts from its partner. -/
  | setFollowList (c : Cmd)
  /-- HANDOVER (R498): Checks and starts a handover from the running image to a staged image, followed by a trial. -/
  | handover (c : Cmd)
  /-- COMMIT_IMAGE (R512): Ends a running trial early by making the commit of R501. -/
  | commitImage (c : Cmd)
  /-- REVERT (R503): During a trial, hands the chip back to the old image through the handover steps. -/
  | revert (c : Cmd)
  /-- ABORT_UPDATE (R512): Ends the running update session or staged image, leaving any written slot invalid. -/
  | abortUpdate (c : Cmd)
  /-- READ_FIRMWARE (R513): Read-only command returning running slot, session, trial and per-slot image figures. -/
  | readFirmware (c : Cmd)
  /-- DOORBELL_WRITE (R72): A host write of a submission tail to DOORBELL[c], making records eligible from the next tick or faulting the ring. -/
  | doorbellWrite (ch value : Nat)
  /-- REGISTER_WRITE (R62): A write to a BAR0 or configuration register with no row of its own, such as SCRATCH, the Dry Dock staging or the MSI-X table. -/
  | registerWrite (space : RegSpace) (offset : Nat) (data : List Byte)
  /-- HDM_DECODER_COMMIT (R61): Commitment of the HDM decoders, after which HDM is available and the chip may ring and notify. -/
  | hdmDecoderCommit (decoder base : Nat)
  /-- HOST_HDM_WRITE (R307): A host CXL.mem write to HDM, recording the written 4 KiB page of a graphics back buffer. -/
  | hostHdmWrite (addr : Nat) (data : List Byte)
  /-- HOST_HDM_READ (R209): A host CXL.mem read of HDM, returning poisoned data where the word is uncorrectable. -/
  | hostHdmRead (addr length : Nat)
  /-- EVENT_RING_SPACE_RETURNS (R90): Room returns in a full event ring after the host advances EQ_HEAD, and EVENTS_DROPPED is written first. -/
  | eventRingSpaceReturns (ring eqHead : Nat)
  /-- CHANNEL_DRAINED (R70): The last admitted command of a DRAINING channel completes, its rings are reset and the channel becomes free. -/
  | channelDrained (ch : Nat)
  /-- CXL_LINK_UP (R73): The CXL link reaches L0, resetting mailbox rings of channels 1 to 63 after a link loss. -/
  | cxlLinkUp (width rate : Nat)
  /-- PLAIN_PCIE_LINK (R58): The link trains as plain PCI Express, exposing no HDM and offering only channel 0. -/
  | plainPcieLink (width rate : Nat)
  /-- LINK_LOSS (R59): PERST_N, surprise removal, link-down or IDE failure resets the CXL side, closes sessions and discards owed completions. -/
  | linkLoss (cause : LossCause)
  /-- PERST_DEASSERTED (R529): Filtered deassertion of PERST_N, after which link training begins within 20 µs. -/
  | perstDeasserted
  /-- DOE_DISCOVERY (R485): DOE discovery request answered over configuration space. -/
  | doeDiscovery (index : Nat)
  /-- GET_VERSION (R485): SPDM request answered with versions 1.1 and 1.2. -/
  | getVersion
  /-- GET_CAPABILITIES (R485): SPDM request answered with the advertised capabilities. -/
  | getCapabilities (version : Nat)
  /-- NEGOTIATE_ALGORITHMS (R485): SPDM request answered with P-384, SHA-384 and AES-256-GCM. -/
  | negotiateAlgorithms (offered : Bool)
  /-- GET_DIGESTS (R485): SPDM request answered with the digest of certificate slot 0. -/
  | getDigests
  /-- GET_CERTIFICATE (R485): SPDM request answered with the slot 0 chain, or the raw bank-1 DIK after a scuttle. -/
  | getCertificate (slot offset length : Nat)
  /-- CHALLENGE (R485): SPDM challenge answered with a DIK signature. -/
  | challenge (slot : Nat) (nonce : List Byte)
  /-- GET_MEASUREMENTS (R485): SPDM request answered with the four measurement blocks, signed. -/
  | getMeasurements (block : Nat) (nonce : List Byte)
  /-- KEY_EXCHANGE (R485): SPDM request opening a secured session, refused BUSY beyond two sessions or under the tamper lock. -/
  | keyExchange (heartbeat : Nat) (exchange : List Byte)
  /-- FINISH (R485): SPDM request completing the secured session establishment. -/
  | finish (session : Nat) (verified : Bool)
  /-- KEY_UPDATE (R485): SPDM request updating a secured session's keys. -/
  | keyUpdate (session : Nat)
  /-- HEARTBEAT (R485): SPDM heartbeat request keeping a secured session alive. -/
  | heartbeat (session : Nat)
  /-- END_SESSION (R485): SPDM request ending a secured session and invalidating its keys under R484. -/
  | endSession (session : Nat)
  /-- SPDM_HEARTBEAT_LAPSE (R485): A secured session whose negotiated heartbeat lapses ends. -/
  | spdmHeartbeatLapse (session : Nat)
  /-- QUERY (R485): CXL IDE key management query, carried inside a secured session. -/
  | query (session stream : Nat)
  /-- KEY_PROG (R485): CXL IDE key management message programming an IDE key set. -/
  | keyProg (session stream direction keySet : Nat) (key : List Byte)
  /-- K_SET_GO (R485): CXL IDE key management message activating an IDE key set. -/
  | kSetGo (session stream direction keySet : Nat)
  /-- K_SET_STOP (R485): CXL IDE key management message stopping an IDE key set. -/
  | kSetStop (session stream direction keySet : Nat)
  /-- SAMPLE_TICK (R118): The 48 kHz tick running hardware execution, record application, admission, arming, commit, discipline and background work in order. -/
  | sampleTick (fgNs bgNs : Nat) (beatEast beatWest : Bool)
  /-- MODERATION_TIMEOUT (R91): M ticks pass since the oldest unread counting record of a ring, making the ring ready. -/
  | moderationTimeout (event : Bool) (index : Nat)
  /-- AT_TICK_RELEASE (R76): A held AT_TICK command reaches its target tick and is admitted, releasing its channel. -/
  | atTickRelease (ch : Nat)
  /-- SESSION_LEASE_EXPIRY (R71): A session's lease runs out with no admission, and the session closes. -/
  | sessionLeaseExpiry (ch : Nat)
  /-- COMMIT_DEADLINE (R117): At a plane's commit deadline the helm commits armed takes, makes berth, layer and loss choices and sends the Tandem record. -/
  | commitDeadline (plane : Nat)
  /-- SWITCH_POINT (R159): Committed takes execute at a destination's switch line and the cut is made, completing the takes. -/
  | switchPoint (dest : Nat)
  /-- ADOPTION_TICK (R111): At a plane's adoption tick a pending change of E or PHASE is adopted as one step and takes are re-armed. -/
  | adoptionTick (plane : Nat)
  /-- FRAME_TICK (R238): At a plane's frame tick measurement, head, destination and channel records are published and frame-boundary settings take effect. -/
  | frameTick (plane : Nat)
  /-- ALIVE_TOGGLE (R467): ALIVE toggles at each tick divisible by 24, or every 50 ms in Dry Dock. -/
  | aliveToggle
  /-- BACKGROUND_WINDOW (R119): A 1 s window of background time ends and starvation is judged. -/
  | backgroundWindow
  /-- CHART_PERIODIC_PUBLISH (R242): Periodic seqlocked publication of the reference, twin, clocks, starts, fault and lane blocks of the Chart. -/
  | chartPeriodicPublish
  /-- FRAME_REF_PULSE (R129): A filtered rising edge on a FRAME_REF pin is timestamped and judged against the pin's frame grid. -/
  | frameRefPulse (pin : Nat) (pulse : PinPulse)
  /-- BEACON_RECORD (R128): A received beacon record updates the slot's quality, jump announcement and phase measurement. -/
  | beaconRecord (slot : Nat) (record : List Byte) (arrival : BeaconArrival)
  /-- REFERENCE_MISSING (R134): A beacon or pin reference goes two expected periods without a valid arrival and is disqualified MISSING. -/
  | referenceMissing (slot : Nat)
  /-- QUALIFICATION_COMPLETE (R133): A slot's qualification timer reaches QUAL_TIME and the slot becomes QUALIFIED. -/
  | qualificationComplete (slot : Nat)
  /-- REFERENCE_FREQUENCY_WINDOW (R141): A 1 s frequency window of the reference slots ends, judging frequency limits and disputes. -/
  | referenceFrequencyWindow (withinNs : Nat)
  /-- HOLDOVER_BUDGET_CROSSING (R143): The holdover phase error estimate reaches BUDGET_NS. -/
  | holdoverBudgetCrossing
  /-- SLIP_DECISION (R260): Every 480 ticks the helm decides a repeat, drop or nothing for each primed stream from its buffer fill. -/
  | slipDecision
  /-- SLIP_EFFECT (R262): At its effect tick a slip drops or repeats the quietest sample of each pair's pipeline. -/
  | slipEffect (bay : Nat)
  /-- PRIMING_COMPLETE (R258): A stream's buffer fill reaches 64 and the helm fixes the read pairing. -/
  | primingComplete (bay : Nat)
  /-- LOSS_HOLD_EXPIRY (R204): A berthed stream has been lost for LOSS_HOLD_MS and the berth sends the loss fill. -/
  | lossHoldExpiry (bay : Nat)
  /-- JOURNAL_CUT (R434): A regular or capacity-forced cut collects pending entries into a commit and writes it to both NOR devices. -/
  | journalCut
  /-- JOURNAL_COMMIT_DURABLE (R431): A commit's trailer is programmed and the commit counts as written. -/
  | journalCommitDurable (ok0 ok1 : Bool)
  /-- COMMIT_INTERVAL_REVIEW (R435): The journal write rate is judged and the commit interval raised or lowered one step. -/
  | commitIntervalReview
  /-- LOGBOOK_CHECKPOINT (R438): Every hour of power-on time the logbook counters are written to both logbook rings. -/
  | logbookCheckpoint
  /-- NOR_PATROL (R495): Weekly read of every journal and logbook sector and digest check of both slots. -/
  | norPatrol (found0 found1 : PatrolFound) (causeA causeB : Nat)
  /-- POUND_ROTATION (R183): Every 10 s the spare pound is loaded with the next traffic pound's configuration and shadows it. -/
  | poundRotation (die : Nat)
  /-- POUND_TRAFFIC_MOVE (R183): After 16 shadow barges traffic moves to the former spare at a barge boundary. -/
  | poundTrafficMove (outputs : PoundOutputs)
  /-- POUND_SELF_TEST_COMPLETE (R184): The outgoing pound's self-test ends, retiring it if it fails. -/
  | poundSelfTestComplete (die : Nat) (pass : Bool)
  /-- PATROL_SCRUB_READ (R208): The patrol scrubber reads a 256-byte unit, writing back corrected words and containing uncorrectable ones. -/
  | patrolScrubRead (stack : Nat) (found : ScrubFound)
  /-- SCRUB_PASS_COMPLETE (R208): The scrubber completes a pass of a stack. -/
  | scrubPassComplete (stack : Nat)
  /-- SOFT_REPAIR_COMPLETE (R210): A soft post-package repair of a row finishes and its shadow ends. -/
  | softRepairComplete (stack : Nat)
  /-- SPARE_COPY_COMPLETE (R211): The copy of a failing pseudo-channel to the stack's spare finishes. -/
  | spareCopyComplete (stack : Nat)
  /-- BARGE_TRANSMIT (R332): At each barge boundary a lane direction sends a data, calibration, training or idle barge with header, holds and tender. -/
  | bargeTransmit (lane : Nat) (payload : List Byte)
  /-- DATA_BARGE_RECEIVED (R338): A received data barge is descrambled, decoded and checked, holds are damaged or passed and the tender is read. -/
  | dataBargeReceived (lane : Nat) (barge : RxBarge)
  /-- CALIBRATION_BARGE (R357): A received calibration barge is used to measure SNR and re-adapt where drift is found. -/
  | calibrationBarge (lane tail commaErrors snr : Nat)
  /-- LEVEL_HISTOGRAM_WINDOW (R356): A 2^20-symbol level histogram window ends, freezing or resuming adaptation. -/
  | levelHistogramWindow (lane : Nat) (shares : List Nat)
  /-- TRAINING_BARGE (R348): A received training barge's control word is applied: tap requests, responses, RX_READY and precoding, switching to data barges when ready. -/
  | trainingBarge (lane tail commaErrors : Nat) (control : List Byte) (adapt : RxAdapt)
  /-- COMMA_LOSS (R340): Three consecutive unaccepted commas take an ACTIVE receiver to LOCK, losing its streams and beacon. -/
  | commaLoss (lane : Nat)
  /-- RELOCK_TIMEOUT (R340): A receiver fails to reacquire within 1 ms and the lane returns to DETECT. -/
  | relockTimeout (lane : Nat)
  /-- LANE_BRINGUP_TIMEOUT (R346): A bring-up state exceeds its timeout and the lane returns to DETECT. -/
  | laneBringupTimeout (lane : Nat)
  /-- DETECT_IDLE_END (R346): The 100 ms electrical idle after three timeouts ends and DETECT sending resumes. -/
  | detectIdleEnd (lane : Nat)
  /-- CAPS_RECORD (R351): A received CAPS record is checked for acceptance, making the lane ACTIVE after two ACCEPTED records. -/
  | capsRecord (lane : Nat) (record : List Byte)
  /-- EPOCH_RECORD (R344): A received EPOCH record announces or replaces the epoch barge and digest of a receive manifest change. -/
  | epochRecord (lane : Nat) (record : List Byte)
  /-- STATUS_RECORD (R345): A received STATUS record updates the far-end receive figures in the lane record. -/
  | statusRecord (lane : Nat) (record : List Byte)
  /-- MOOR_RECORD (R353): A received MOOR announcement freezes the receiver's adaptation ahead of MOOR_SEQ. -/
  | moorRecord (lane : Nat) (record : List Byte)
  /-- MANIFEST_EPOCH (R53): The epoch barge begins: added streams become LIVE, omitted RELEASING streams undefined, and SET_MANIFEST completes. -/
  | manifestEpoch (direction lane : Nat)
  /-- MANIFEST_TIMEOUT (R49): No epoch announcement within TIMEOUT of admission; the pending manifest is discarded. -/
  | manifestTimeout (lane : Nat)
  /-- MOOR_BARGE (R353): Barge MOOR_SEQ begins: the transmitter goes to electrical idle and the receiver enters MOORED. -/
  | moorBarge (direction lane : Nat)
  /-- SIGNAL_DETECT_WAKE (R354): A moored receiver detects signal and relocks with frozen coefficients. -/
  | signalDetectWake (lane : Nat) (epoch : Option Nat)
  /-- WAKE_COMPLETE (R354): A waking transmit direction can carry data again. -/
  | wakeComplete (lane : Nat)
  /-- ECO_MOOR (R355): Under ECO a transmit direction that has met R353 for 1 s is moored. -/
  | ecoMoor (lane : Nat)
  /-- HELM_GRANT_ASSERTED (R385): A standby samples its grant asserted and becomes helm by the fail-over steps. -/
  | helmGrantAsserted
  /-- HELM_GRANT_DEASSERTED (R364): A helm samples its grant deasserted and stops acting as helm, removing unsent uncommitted takes. -/
  | helmGrantDeasserted
  /-- IDLE_RECORD (R372): 240 ticks pass without a record and the helm sends an idle record. -/
  | idleRecord
  /-- TANDEM_RECORD_RECEIVED (R376): A Tandem record half arrives whole and is authenticated and buffered. -/
  | tandemRecordReceived (west tagOk : Bool) (record : TandemRec)
  /-- TANDEM_RECORD_APPLY (R376): The standby applies a record whose halves have arrived, in RSEQ order, and acknowledges it. -/
  | tandemRecordApply
  /-- RECORD_MISSING (R376): A record not applied by its LIMIT_TICK is discarded as missing. -/
  | recordMissing (rseq : Nat)
  /-- TANDEM_ACK_RECEIVED (R377): The helm receives the standby's acknowledgement of a record half or graphics page. -/
  | tandemAckReceived (ack : TandemAck)
  /-- PARTNER_ADRIFT (R377): Three records unacknowledged and 480 ticks since the last acknowledgement; the helm enters ALONE. -/
  | partnerAdrift
  /-- ADRIFT (R378): A standby's third consecutive record is missing and 480 ticks have passed; it stops applying records. -/
  | adrift
  /-- TANDEM_KEY_EXCHANGE (R483): Tandem session establishment messages exchanged when a Tandem lane enters ACTIVE, with version check. -/
  | tandemKeyExchange (offer : TandemOffer)
  /-- TANDEM_REKEY (R483): Hourly in-band renewal of the Tandem session key from an announced RSEQ. -/
  | tandemRekey (rseq : Nat) (offer : TandemOffer)
  /-- RESYNC_PHASE_COMPLETE (R388): A resynchronisation phase ends and the next begins, or IN_STEP is reached after CHECK. -/
  | resyncPhaseComplete (snapshot : Option Snapshot)
  /-- RESYNC_PHASE_OVERRUN (R388): A resynchronisation phase overruns its bound and the chip returns to ADRIFT. -/
  | resyncPhaseOverrun
  /-- RESYNC_RETRY (R388): RETRY_S after entering ADRIFT with AUTO_RESYNC set, resynchronisation begins. -/
  | resyncRetry
  /-- YIELD_TIMEOUT (R394): HOLD_MS passes with the grant still held; TWIN_HEALTH returns high and YIELD_HELM times out. -/
  | yieldTimeout
  /-- GRAPHICS_TRANSFER_COMPLETE (R307): The standby acknowledges the last page of a flip, letting the commit apply at the next frame. -/
  | graphicsTransferComplete (head : Nat)
  /-- REFCLK_FAULT (R405): The clock monitor finds a refclk missing, off frequency or in disagreement, with holdover and root switch as needed. -/
  | refclkFault (clockB : Bool) (cause : Nat)
  /-- ANVIL_UNLOCK (R406): The selected Anvil's phase error exceeds 100 ps for 16 cycles and it enters holdover. -/
  | anvilUnlock
  /-- REFCLK_CLEAN (R405): A refclk runs 100 ms without a trip and its Anvils relock. -/
  | refclkClean (clockB : Bool)
  /-- ANVIL_LOCKED (R396): An Anvil locks and phase-trims, becoming eligible and possibly taking the root. -/
  | anvilLocked (anvil : Nat) (debt : Int)
  /-- ANVIL_HOLDOVER_TIMEOUT (R406): No Anvil eligible 10 ms after holdover began; reset-class Fatal-D. -/
  | anvilHoldoverTimeout
  /-- ROOT_FREQUENCY_TRIP (R408): The root runs outside ±5 % or a root switch fails to complete; reset-class Fatal-D. -/
  | rootFrequencyTrip (west : Bool)
  /-- PREFERRED_ANVIL_RETURN (R398): With PREFER_ANVIL set, the root returns to the preferred Anvil 1 s after it becomes eligible. -/
  | preferredAnvilReturn
  /-- SLEW_DEBT_CLEARED (R407): The slew debt falls below 360 root cycles and output holds are no longer marked damaged. -/
  | slewDebtCleared
  /-- POWER_ON (R419): Rails come up with VDD_AO and a first, cold or post-scuttle start begins. -/
  | powerOn
  /-- POWER_LOSS (R430): Power is lost without warning, losing only what R430 lists. -/
  | powerLoss
  /-- SUPPLY_RESET (R412): A core, SRAM or always-on rail below −8 % for 1 µs resets the dies to OFF. -/
  | supplyReset (monitor millivolts : Nat)
  /-- SUPPLY_LOW (R412): A monitored rail below −4 % for 1 ms raises SUPPLY_LOW once per excursion. -/
  | supplyLow (monitor millivolts : Nat)
  /-- PWR_FAIL_ASSERTED (R427): PWR_FAIL_N sampled asserted: TWIN_HEALTH low, admission stops, final record, journal commit and logbook record. -/
  | pwrFailAsserted
  /-- PWR_FAIL_WITHDRAWN (R429): PWR_FAIL_N withdrawn for 10 ms and the chip resumes admission. -/
  | pwrFailWithdrawn
  /-- THERMAL_SAMPLE (R414): Every 1 ms the sensors are sampled and throttle steps entered or undone. -/
  | thermalSample (temps : List Int) (powerMw : Nat)
  /-- THERMAL_TRIP (R415): A sensor at 115 °C for 10 µs causes Fatal-D and forced gating. -/
  | thermalTrip (sensor : Nat) (temp : Int)
  /-- TAMPER_ALARM (R489): A TAMPER_N low level or vault sensor trip triggers a scuttle, responding by device state. -/
  | tamperAlarm (trip : TamperTrip)
  /-- SCUTTLE_COMPLETE (R488): The kill bits of the root bank are programmed in both OTP arrays. -/
  | scuttleComplete (ok : Bool)
  /-- FAULT_REPORT (R458): A checker reports a fault, which is classified, counted, entered in the history and acted on by class. -/
  | faultReport (report : FaultRep)
  /-- INJECTION_TIMEOUT (R470): TIMEOUT_MS passes before the injection's COUNT checks; INJECT_FAULT times out. -/
  | injectionTimeout (kind : Nat) (west : Bool) (inst : Nat)
  /-- WHEELHOUSE_WATCHDOG (R468): The 48th consecutive missed tick declares Fatal-D with code 0x0604. -/
  | wheelhouseWatchdog (west : Bool)
  /-- AUTO_RESET (R461): AUTO_RESET_MS after entering FATAL_D the chip resets and runs a warm start. -/
  | autoReset
  /-- FABRIC_REQUEST (R450): A master's request is held, arbitrated and answered with a response code in stream order. -/
  | fabricRequest (request : FabricReq)
  /-- TARGET_TIMEOUT (R455): A target does not answer within 65,536 fabric cycles and is answered TIMEOUT. -/
  | targetTimeout (die master stream : Nat)
  /-- MASTER_RESET (R456): A master is reset mid-burst and the fabric completes the transaction on its behalf. -/
  | masterReset (die master : Nat)
  /-- QUIESCE (R403): A gate closes through quiesce, drain and stop ramp, or opens with a start ramp. -/
  | quiesce (domain : Nat) (close : Bool)
  /-- QUIESCE_ABANDONED (R403): The drain does not end within 4,096 fabric cycles and the gating is abandoned. -/
  | quiesceAbandoned (domain : Nat)
  /-- FORCED_GATE (R404): A forced gate answers outstanding transactions GATED after 256 cycles and stops the domain. -/
  | forcedGate (domain : Nat)
  /-- DOMAIN_RAMP_COMPLETE (R400): A domain's 16-step start, stop or divisor ramp completes. -/
  | domainRampComplete (domain : Nat)
  /-- START_STEP_COMPLETE (R421): A start step ends and the next begins, reaching READY at step 14. -/
  | startStepComplete (ms : Nat) (found : StepFound)
  /-- START_STEP_TIMEOUT (R421): A start step exceeds its bound and the attempt fails. -/
  | startStepTimeout (ms : Nat)
  /-- START_RETRY (R425): 100 ms after a failed attempt the next attempt begins at step 1, or Dry Dock is entered. -/
  | startRetry
  /-- RESTART_START (R442): After RESTART's commit steps and up to 10 ms for the grant to move, the requested start begins. -/
  | restartStart
  /-- SLOT_WRITE_COMPLETE (R494): An update session finishes writing an image to a slot, programming VALID last. -/
  | slotWriteComplete (ok : Bool)
  /-- PARTNER_IMAGE_OFFER (R497): The partner offers a committed image, accepted only if idle and on the follow list. -/
  | partnerImageOffer (digest : List Byte)
  /-- HANDOVER_STEP_COMPLETE (R499): A handover step ends, resuming admission under the new image at step 5 or reverting at step 3. -/
  | handoverStepComplete (ok : Bool)
  /-- TRIAL_END (R501): TRIAL_S expires and the new image commits its slot, journal, security counter and revocations. -/
  | trialEnd
  /-- MGMT_WRITE (R530): A management bus write sets the read offset, or is acknowledged and discarded. -/
  | mgmtWrite (data : List Byte)
  /-- MGMT_READ (R530): A management bus read returns status bytes from the offset, advancing and wrapping it. -/
  | mgmtRead (count : Nat)
  /-- JTAG_TAP_RESET (R531): TRST_N low or five TCK cycles with TMS high reset the test access port. -/
  | jtagTapReset
  /-- JTAG_EXTEST (R531): An EXTEST instruction runs in OFF, DRY_DOCK or FATAL_D, or is refused and logged otherwise. -/
  | jtagExtest
  /-- JTAG_INJECT (R469): A vendor-specific JTAG instruction arms fault injection while debug access is unlocked. -/
  | jtagInject (kind : Nat) (west : Bool) (inst bits count timeoutMs : Nat)
  /-- H2D_SNOOP (R56): The host sends an H2D snoop over CXL.cache, and the chip answers it with RspIHitI. -/
  | h2dSnoop (addr : Nat)
  /-- IMAGE_CHECK_COMPLETE (R493): The check of a staged or received image under R493, which takes up to 400 ms, ends; a failure completes STAGE_IMAGE or DD_FINISH with the refusal of R512, and a success begins the slot write. -/
  | imageCheckComplete (header : List Byte) (results : ImageChecks)
  deriving DecidableEq, Repr

end Sys2Proof
end

