-- ==== Sys2Proof/Decode.lean ====
section
/-! DEFINITION.  The command that a word of the opcode table spells.  No row of spec/opcode_table.json gives
its command any bits: commands reach the block as records, register writes and events, never as words. -/

namespace Sys2Proof

/-- The command a table word spells: none, since no row has bits. -/
def decodeTableWord (_nbits _w : Nat) : Option Instr := none

end Sys2Proof
end

