-- ==== Sys2Proof/Config.lean ====
section
/-! DEFINITION.  What one device or its surroundings fix and the spec leaves open: constants without a body.
Nothing in Lean can evaluate them, so a statement that holds of the model holds for every value of them. -/

namespace Sys2Proof

/-- The n-th value the spec leaves open after a command that goes on (log entry 6). [DESIGN CHOICE, log 6] -/
opaque Config.freeValue : Nat → Nat

/-- The number from which the search for the n-th session number starts (R69 gives no order; log entry 10). [DESIGN CHOICE, log 10] -/
opaque Config.sessionSeed : Nat → Nat

/-- SERIAL, the device serial number, 64 bits (R93). [DEDUCED, log 29] -/
opaque Config.serial : Nat

/-- The version of the Slipway ROM (R62, R93). [DEDUCED, log 29] -/
opaque Config.romVersion : Nat

/-- Where a capability of configuration space stands (R60 names the capabilities and not their places). [PRESUMED, log 2] -/
opaque Config.capOffset : Nat → Nat

/-- SHA-384 of the Slipway ROM (R486). -/
opaque Config.romDigest : List Byte

/-- The 512-byte header of the image shipped in slot A (R421). -/
opaque Config.shippedHeader : List Byte

/-- HMAC-SHA-384 of a message under a key (FIPS 198-1; R310, R481, R486, R506). [DESIGN CHOICE, log 11] -/
opaque Config.hmac : List Byte → List Byte → List Byte

/-- SHA-384 (FIPS 180-4). [DESIGN CHOICE, log 11] -/
opaque Config.sha384 : List Byte → List Byte

/-- The 256-bit root of a bank, drawn from the entropy source (R477, R478). [DESIGN CHOICE, log 11] -/
opaque Config.root : Nat → List Byte

/-- The P-384 public key, x then y, of the pair that the extra-random-bits method of FIPS 186-5 makes of 56 derived bytes (R477).
[DESIGN CHOICE, log 11] [DESIGN CHOICE, log 11] -/
opaque Config.p384Public : List Byte → List Byte

/-- The ECDSA signature under the key pair of 56 derived bytes (R477, R485). [DESIGN CHOICE, log 11] -/
opaque Config.ecdsaSign : List Byte → List Byte → List Byte

/-- The x-coordinate that ECDH P-384 gives the key pair of 56 derived bytes with a public key (R482). [DESIGN CHOICE, log 11] -/
opaque Config.ecdh : List Byte → List Byte → List Byte

/-- AES-256-GCM decryption: key, IV, associated data, ciphertext, tag; none when the tag fails (R482). [DESIGN CHOICE, log 11] -/
opaque Config.gcmOpen : List Byte → List Byte → List Byte → List Byte → List Byte → Option (List Byte)

/-- The vendor certificate chain that ends in the DIK of bank 0 (R485). -/
opaque Config.certChain : List Byte

/-- The x-coordinate that ECDH P-384 gives the chip's own ephemeral key, named by its public part, with the partner's (R483).
[DESIGN CHOICE, log 11] [DESIGN CHOICE, log 11] -/
opaque Config.agree : List Byte → List Byte → List Byte

/-- The chip's own ephemeral public key of an SPDM key exchange (R485), by a counter. -/
opaque Config.dheShare : Nat → List Byte

/-- The K-weighted energy of 100 ms of a loudness group (R239, ITU-R BS.1770-4): weights and sample words of its
channels, with the number of the free value that stands for the filters' history. [DESIGN CHOICE, log 6] [DEDUCED, log 64] -/
opaque Config.kEnergy : Nat → List (Nat × List Nat) → Nat

/-- The loudness of an energy in 0.01 LKFS (ITU-R BS.1770-4). [DEDUCED, log 64] -/
opaque Config.lkfs : Nat → Int

/-- Words per second of each data stream of an interface of 4, 8 or 16 bays at an integer rate (R174): the interface
standards ST 2081-1, ST 2082-1 and ST 2083-1 give it, and the manual does not restate it. [DEDUCED, log 47] -/
opaque Config.streamWordRate : Nat → Nat

/-- The estimated dissipation in mW where no sample gave one (R416). [DEDUCED, log 90] -/
opaque Config.powerEstimate : Nat → Nat

/-- Active words of a data stream in an interface row, of a picture's lines: width, format, the lines, row, data stream.  The interface
standards give the mapping of every interface but the two-stream 4:2:2, 10-bit ones (R225). [DEDUCED, log 115] -/
opaque Config.mapActive : Nat → Nat → List (List Nat) → Nat → Nat → List Nat

/-- The samples of a picture line that an interface's rows of active words carry: width, format, rows, line. [DEDUCED, log 115] -/
opaque Config.unmapActive : Nat → Nat → List (List (List Nat)) → Nat → List Nat

/-- The words that the other ST 424 mapping carries in a line period (R226): to level B or from it, format, line, the words of the line
before and of the line.  The mapping is the standard's. [DEDUCED, log 115] -/
opaque Config.relevel : Bool → Nat → Nat → List Nat → List Nat → List Nat

/-- The alpha sample of a generator's 4:4:4:4 picture: pattern, x, y (R181 gives luma and colour only). [DESIGN CHOICE, log 140] -/
opaque Config.generatorAlpha : Nat → Nat → Nat → Nat

/-- The PRBS31 register with which a lane's first training barge starts (R347 gives none). [PRESUMED, log 111] -/
opaque Config.trainStart : Nat → Nat

end Sys2Proof
end

