-- ==== Sys2Proof/Machine/State.lean ====
section
/-! DEFINITION.  The state of the FX1152 as plain data, the reasons a command can stop, and the state
after reset.  `State` gathers the engines of Machine/Types.lean; `State.reset` is the machine with its
rails down (R419): each field stands at the value the spec gives, or at the one a log entry names. -/

namespace Sys2Proof.Machine
open Sys2Proof

/-- Everything the FX1152 holds. -/
structure State where
  /-- DEVICE_STATE[3:0] (4; 03 R62). -/
  dev : DevState := .off
  /-- every journalled object (03 R86, 14 R434). -/
  obj : Objects := {}
  /-- mailboxes, rings, sessions and jobs (03 R62 to R92). -/
  mbox : Mbox := {}
  /-- host link, BAR0, configuration space (03 R56 to R63). -/
  host : HostPort := {}
  /-- time model, tick and planes (04 R102 to R120). -/
  time : TimeRt := {}
  /-- reference selector (05 R125 to R146). -/
  refs : RefsRt := {}
  /-- lane streams in service; key direction × 8192 + first bay (02 R40). -/
  streams : List (Nat × StreamRt) := []
  /-- manifests in change; key direction × 128 + lane (02 R49). -/
  manifests : List (Nat × ManifestRt) := []
  /-- Basin and Lockkeeper (06 R152 to R187). -/
  basin : BasinRt := {}
  /-- Wharf (07 R188 to R218). -/
  wharf : WharfRt := {}
  /-- measurement (08 R238 to R250). -/
  meas : MeasRt := {}
  /-- audio shuffler (09 R251 to R283). -/
  audio : AudioRt := {}
  /-- composer heads in service (10 R284 to R324). -/
  heads : List (Nat × HeadRt) := []
  /-- Towpath lanes and the barge counter (11 R325 to R363). -/
  tow : TowRt := {}
  /-- twin operation (12 R364 to R395). -/
  twin : TwinRt := {}
  /-- clocks, power and heat (13 R396 to R418). -/
  clocks : ClocksRt := {}
  /-- starts (14 R419 to R426). -/
  start : StartRt := {}
  /-- journal (14 R431 to R437). -/
  journal : JournalRt := {}
  /-- logbook (14 R438 to R445). -/
  log : LogRt := {}
  /-- fault collector and control fabric (15 R447 to R475). -/
  faults : FaultsRt := {}
  /-- key vaults, tamper, SPDM, IDE (16 R476 to R491). -/
  keys : KeysRt := {}
  /-- firmware and Dry Dock (16 R492 to R514). -/
  fw : FwRt := {}
  /-- pins and the management and test ports (17 R520 to R531). -/
  pins : Pins := {}
  /-- HDM, and the HBM behind it that the chip reads through it: address and byte pairs, addresses rising, no zero byte listed (16 GiB; 03 R64). -/
  hdm : List Host.Cell := []
  /-- free values drawn so far (the model's own field) (-; log entry 6). -/
  freeCtr : Nat := 0
  /-- commands waiting, first in first out (the model's own field) (-; log entry 5). -/
  pending : List Instr := []
  deriving DecidableEq, Repr

/-- Why the machine stops. -/
inductive Fault where
  /-- Raised by HOST_HDM_WRITE and HOST_HDM_READ for an offset outside the 16 GiB window of R64, which
  no decoder of R61 maps: the spec says the address does not exist.  Safe. -/
  | noSuchHdmAddress (addr : Nat)
  deriving DecidableEq, Repr

/-- Why a command has no meaning. -/
inductive Refusal where
  /-- Raised by the dispatcher alone, for a row of the table without its meaning yet.  Safe. -/
  | notModelled (mnemonic : String)
  deriving DecidableEq, Repr

/-- What every command answers with. -/
abbrev Answer := Host.Outcome State Fault Refusal

/-- The machine right after reset: dies OFF, HDM clear, nothing waiting (R419, R421). -/
def State.reset : State := {}

/-- Change the dev part of the state alone. -/
def State.onDev (s : State) (f : DevState → DevState) : State := { s with dev := f s.dev }

/-- Change the obj part of the state alone. -/
def State.onObj (s : State) (f : Objects → Objects) : State := { s with obj := f s.obj }

/-- Change the mbox part of the state alone. -/
def State.onMbox (s : State) (f : Mbox → Mbox) : State := { s with mbox := f s.mbox }

/-- Change the host part of the state alone. -/
def State.onHost (s : State) (f : HostPort → HostPort) : State := { s with host := f s.host }

/-- Change the time part of the state alone. -/
def State.onTime (s : State) (f : TimeRt → TimeRt) : State := { s with time := f s.time }

/-- Change the refs part of the state alone. -/
def State.onRefs (s : State) (f : RefsRt → RefsRt) : State := { s with refs := f s.refs }

/-- Change the streams part of the state alone. -/
def State.onStreams (s : State) (f : List (Nat × StreamRt) → List (Nat × StreamRt)) : State := { s with streams := f s.streams }

/-- Change the manifests part of the state alone. -/
def State.onManifests (s : State) (f : List (Nat × ManifestRt) → List (Nat × ManifestRt)) : State := { s with manifests := f s.manifests }

/-- Change the basin part of the state alone. -/
def State.onBasin (s : State) (f : BasinRt → BasinRt) : State := { s with basin := f s.basin }

/-- Change the wharf part of the state alone. -/
def State.onWharf (s : State) (f : WharfRt → WharfRt) : State := { s with wharf := f s.wharf }

/-- Change the meas part of the state alone. -/
def State.onMeas (s : State) (f : MeasRt → MeasRt) : State := { s with meas := f s.meas }

/-- Change the audio part of the state alone. -/
def State.onAudio (s : State) (f : AudioRt → AudioRt) : State := { s with audio := f s.audio }

/-- Change the heads part of the state alone. -/
def State.onHeads (s : State) (f : List (Nat × HeadRt) → List (Nat × HeadRt)) : State := { s with heads := f s.heads }

/-- Change the tow part of the state alone. -/
def State.onTow (s : State) (f : TowRt → TowRt) : State := { s with tow := f s.tow }

/-- Change the twin part of the state alone. -/
def State.onTwin (s : State) (f : TwinRt → TwinRt) : State := { s with twin := f s.twin }

/-- Change the clocks part of the state alone. -/
def State.onClocks (s : State) (f : ClocksRt → ClocksRt) : State := { s with clocks := f s.clocks }

/-- Change the start part of the state alone. -/
def State.onStart (s : State) (f : StartRt → StartRt) : State := { s with start := f s.start }

/-- Change the journal part of the state alone. -/
def State.onJournal (s : State) (f : JournalRt → JournalRt) : State := { s with journal := f s.journal }

/-- Change the log part of the state alone. -/
def State.onLog (s : State) (f : LogRt → LogRt) : State := { s with log := f s.log }

/-- Change the faults part of the state alone. -/
def State.onFaults (s : State) (f : FaultsRt → FaultsRt) : State := { s with faults := f s.faults }

/-- Change the keys part of the state alone. -/
def State.onKeys (s : State) (f : KeysRt → KeysRt) : State := { s with keys := f s.keys }

/-- Change the fw part of the state alone. -/
def State.onFw (s : State) (f : FwRt → FwRt) : State := { s with fw := f s.fw }

/-- Change the pins part of the state alone. -/
def State.onPins (s : State) (f : Pins → Pins) : State := { s with pins := f s.pins }

/-- Change the hdm part of the state alone. -/
def State.onHdm (s : State) (f : List Host.Cell → List Host.Cell) : State := { s with hdm := f s.hdm }

/-- Change the freeCtr part of the state alone. -/
def State.onFreeCtr (s : State) (f : Nat → Nat) : State := { s with freeCtr := f s.freeCtr }

/-- Change the pending part of the state alone. -/
def State.onPending (s : State) (f : List Instr → List Instr) : State := { s with pending := f s.pending }

end Sys2Proof.Machine
end

