-- ==== Sys2Proof/Machine/Ops.lean ====
section
/-! DEFINITION.  The named operations over tables, memory, counters and events that every meaning uses. -/

namespace Sys2Proof.Machine
open Sys2Proof

/-! ### Tables: keys rising, no entry equal to what an unlisted key reads as -/

/-- Read key `k` of a table whose unlisted keys read `d`. -/
def tget {α : Type} (d : α) : List (Nat × α) → Nat → α
  | [], _ => d
  | (j, v) :: r, k => if j = k then v else tget d r k

/-- Write key `k`; writing what an unlisted key reads as removes the entry. -/
def tset {α : Type} [DecidableEq α] (d : α) : List (Nat × α) → Nat → α → List (Nat × α)
  | [], k, v => if v = d then [] else [(k, v)]
  | (j, w) :: r, k, v =>
    if k < j then (if v = d then (j, w) :: r else (k, v) :: (j, w) :: r)
    else if k = j then (if v = d then r else (k, v) :: r)
    else (j, w) :: tset d r k v

/-- Change key `k`. -/
def tmod {α : Type} [DecidableEq α] (d : α) (t : List (Nat × α)) (k : Nat) (f : α → α) : List (Nat × α) :=
  tset d t k (f (tget d t k))

/-- The canonical form of a table, as a decidable statement. -/
def tableOk {α : Type} [DecidableEq α] (d : α) : List (Nat × α) → Bool
  | [] => true
  | [(_, v)] => decide (v ≠ d)
  | (j, v) :: (k, w) :: r => decide (j < k) && decide (v ≠ d) && tableOk d ((k, w) :: r)

/-- Add a number to a set kept as a rising list. -/
def setAdd : List Nat → Nat → List Nat
  | [], n => [n]
  | m :: r, n => if n < m then n :: m :: r else if n = m then m :: r else m :: setAdd r n

/-- Remove a number from a set. -/
def setDel (l : List Nat) (n : Nat) : List Nat := l.filter (· ≠ n)

/-! ### Counters and numbers -/

/-- A counter of `w` bits that saturates (R242, R391). -/
def satAdd (w n k : Nat) : Nat := min (n + k) (2 ^ w - 1)

/-- One more, saturating in 32 bits. -/
def inc (n : Nat) : Nat := satAdd 32 n 1

/-- A counter of `w` bits that wraps. -/
def wrapAdd (w n k : Nat) : Nat := (n + k) % 2 ^ w

/-- The generation after a change (R85): 1 follows 0xFFFF_FFFF. -/
def genNext (g : Nat) : Nat := if g ≥ 0xFFFFFFFF then 1 else g + 1

/-- A signed number as its two's-complement field of `w` bits. -/
def ofInt (w : Nat) (z : Int) : Nat := (z % (2 ^ w : Nat)).toNat

/-- A field of `w` bits read as a signed number. -/
def toInt (w n : Nat) : Int := if n % 2 ^ w < 2 ^ (w - 1) then (n % 2 ^ w : Nat) else (n % 2 ^ w : Nat) - (2 ^ w : Nat)

/-- `z` brought into the range from `lo` to `hi`. -/
def clampI (lo hi z : Int) : Int := max lo (min hi z)

/-- Ticks of a time in milliseconds (48,000 ticks to the second). -/
def msTicks (ms : Nat) : Nat := ms * 48

/-! ### Bytes (R4: multi-byte fields are little-endian) -/

/-- The number that bytes spell, least significant first. -/
def leNat : List Byte → Nat
  | [] => 0
  | b :: r => b.toNat + 256 * leNat r

/-- `n` as `k` bytes, least significant first. -/
def toLe : Nat → Nat → List Byte
  | 0, _ => []
  | k + 1, n => BitVec.ofNat 8 n :: toLe k (n / 256)

/-- Bits of bytes in payload bit order, bit 0 of each byte first (R328). -/
def bitsOf : List Byte → List Bool
  | [] => []
  | b :: r => (List.range 8).map (fun i => b.getLsbD i) ++ bitsOf r

/-- One bit through the CRC-16 of x^16 + x^12 + x^5 + 1 (R334). -/
def crc16Bit (c : Nat) (b : Bool) : Nat :=
  let t := (c * 2) % 65536
  if (c / 32768 % 2 == 1) != b then Nat.xor t 0x1021 else t

/-- CRC-16 of R334 over bytes in payload bit order, from `c`. [PRESUMED, log 12] -/
def crc16 (c : Nat) (bs : List Byte) : Nat := (bitsOf bs).foldl crc16Bit c

/-- One byte through the CRC-32 of IEEE 802.3, bit 0 first. -/
def crc32Byte (c : Nat) (b : Byte) : Nat :=
  (List.range 8).foldl (fun c _ => if c % 2 = 1 then Nat.xor (c / 2) 0xEDB88320 else c / 2) (Nat.xor c b.toNat)

/-- CRC-32 of IEEE 802.3: polynomial, initial value, bit order and final complement (R46, R312, R342). [PRESUMED, log 12] -/
def crc32 (bs : List Byte) : Nat := Nat.xor (bs.foldl crc32Byte 0xFFFFFFFF) 0xFFFFFFFF

/-! ### HDM -/

/-- Bytes of the HDM window (R5, R64). -/
def hdmSize : Nat := 17179869184

/-- The byte at an offset; an unlisted byte reads zero (R421 step 7: HBM is cleared). [DESIGN CHOICE, log 4] -/
def memGet (m : List Host.Cell) (a : Nat) : Byte := tget 0#8 m a

/-- Write one byte. [DESIGN CHOICE, log 4] -/
def memSet (m : List Host.Cell) (a : Nat) (b : Byte) : List Host.Cell := tset 0#8 m a b

/-- Write bytes from an offset upwards. -/
def memWrite (m : List Host.Cell) : Nat → List Byte → List Host.Cell
  | _, [] => m
  | a, b :: r => memWrite (memSet m a b) (a + 1) r

/-- Read `n` bytes from an offset upwards. -/
def memRead (m : List Host.Cell) (a : Nat) : Nat → List Byte
  | 0 => []
  | n + 1 => memGet m a :: memRead m (a + 1) n

/-- The canonical form of HDM: offsets rising, no zero byte listed. [DESIGN CHOICE, log 4] -/
def Memory.wf (m : List Host.Cell) : Bool := tableOk (0#8 : Byte) m

/-- Bring any list of cells into the canonical form, the first cell of an offset standing. -/
def memSettle : List Host.Cell → List Host.Cell
  | [] => []
  | c :: r => memSet (memSettle r) c.1 c.2

/-- A record of `len` bytes that is zero but for its fields (offset, bytes, value). -/
def recordBytes (len : Nat) (fields : List (Nat × Nat × Nat)) : List Byte :=
  memRead (fields.foldl (fun m f => memWrite m f.1 (toLe f.2.1 f.2.2)) []) 0 len

/-- Write bytes to HDM. [DESIGN CHOICE, log 4] -/
def State.hdmWrite (s : State) (a : Nat) (bs : List Byte) : State := s.onHdm fun m => memWrite m a bs

/-- The values, with their elapsed ticks, that can still be the highest of 48,000 ticks, after a value `v` at elapsed tick `now` (R123, R391). -/
def peaks (w : List (Nat × Nat)) (now v : Nat) : List (Nat × Nat) := (w.filter fun e => decide (now < e.1 + 48000) && decide (v < e.2)) ++ [(now, v)]

/-- The highest value of a window. -/
def highest (w : List (Nat × Nat)) : Nat := (w.map Prod.snd).foldl max 0

/-- Read an `n`-byte field of HDM. -/
def State.hdmNat (s : State) (a n : Nat) : Nat := leNat (memRead s.hdm a n)

/-- Write a Chart record of more than 8 bytes at `a` under the seqlock of R242: SEQ goes to the next odd
value, the rest is written, and SEQ goes on to the even value. -/
def State.chartWrite (s : State) (a : Nat) (bs : List Byte) : State :=
  let q := s.hdmNat a 4
  let s1 := s.hdmWrite a (toLe 4 (q + 1))
  let s2 := s1.hdmWrite (a + 4) (bs.drop 4)
  s2.hdmWrite a (toLe 4 (q + 2))

/-- A record of `n` bytes reads zero from here on, but for SEQ (R244, R282). -/
def State.zeroRecord (n : Nat) (s : State) (a : Nat) : State :=
  if leNat ((memRead s.hdm a n).drop 4) = 0 then s else s.chartWrite a (List.replicate n 0#8)

/-- Where the Chart records of streams and channels stand (R241). -/
def sourceAddr (bay : Nat) : Nat := 0x2010000 + bay * 128

/-- Where a destination record stands. -/
def destAddr (d : Nat) : Nat := 0x2110000 + d * 128

/-- Where a source channel record stands. -/
def sourceChanAddr (ch : Nat) : Nat := 0x2210000 + (ch - 0x4000) * 8

/-- Where a destination channel record stands. -/
def destChanAddr (ch : Nat) : Nat := 0x2300000 + (ch - 0x2000) * 16

/-! ### What every command answers -/

/-- A state with its HDM in the one canonical form. -/
def State.settled (s : State) : State := s.onHdm memSettle

/-- The outcome of a command: the next state, its HDM in the one canonical form. -/
def answer (s : State) : Answer := .next s.settled

/-! ### Free values -/

/-- Background work is shed: the throttle is in one of its steps (R414). -/
def State.shedding (s : State) : Bool := decide (1 ≤ s.clocks.throttle ∧ s.clocks.throttle ≤ 3)

/-- Draw the next free value: a value the spec leaves open, after which the machine goes on. [DESIGN CHOICE, log 6] -/
def State.draw (s : State) : Nat × State := (Config.freeValue s.freeCtr, s.onFreeCtr (· + 1))

/-! ### Device state -/

/-- True in the states in which the chip serves (R73). -/
def DevState.ready : DevState → Bool
  | .readyHelm => true
  | .readyStandby => true
  | _ => false

/-- True while a start runs (R421). -/
def DevState.starting : DevState → Bool
  | .firstStart => true
  | .coldStart => true
  | .warmStart => true
  | _ => false

/-- DEVICE_STATE[3:0] (R62). -/
def DevState.code : DevState → Nat
  | .off => 0
  | .firstStart => 1
  | .coldStart => 2
  | .warmStart => 3
  | .handover => 4
  | .readyHelm => 5
  | .readyStandby => 6
  | .dryDock => 7
  | .fatalD => 8
  | .fatalS => 9

/-- The video path, the tick and the mailboxes run: a READY state or a handover (R73, R499). -/
def State.serving (s : State) : Bool := s.dev.ready || decide (s.dev = .handover)

/-- T runs (R102): from where a start has set it (R103), served or not, to the next start. [DEDUCED, log 39] -/
def timeRuns (s : State) : Bool := s.serving || (s.time.running && decide (s.dev ≠ .off))

/-- The present tick count T (R102). -/
def State.now (s : State) : Nat := s.time.tick

/-- Elapsed ticks (R541): a step of T neither adds to nor takes from them. -/
def State.elapsed (s : State) : Nat := s.time.elapsed

/-! ### Events (R87, R88) -/

/-- Merge an occurrence into the records of the tick, or add one for it (R88). -/
def mergeEvent (e : EventRec) : List EventRec → List EventRec
  | [] => [e]
  | f :: r =>
    if f.code = e.code ∧ f.subject = e.subject then { f with count := satAdd 8 f.count e.count } :: r
    else f :: mergeEvent e r

/-- Raise an event in the present tick.  One that arises during a start waits for step 14 (R446); Dry Dock
and OFF raise none (R505). -/
def raise (code sev subject data : Nat) (s : State) : State :=
  let e : EventRec := { code := code, sev := sev, subject := subject % 65536, data := data % 2 ^ 32, tick := s.time.tick % 2 ^ 48, count := 1 }
  if s.dev = .off ∨ s.dev = .dryDock then s
  else if s.dev.starting then s.onStart fun r => { r with events := mergeEvent e r.events }
  else s.onMbox fun m => { m with tickEvents := mergeEvent e m.tickEvents }

/-- Raise an event whose record stands for `count` occurrences. -/
def raiseCount (code sev subject data count : Nat) (s : State) : State :=
  let e : EventRec := { code := code, sev := sev, subject := subject % 65536, data := data % 2 ^ 32, tick := s.time.tick % 2 ^ 48, count := min count 255 }
  if s.dev = .off ∨ s.dev = .dryDock then s
  else if s.dev.starting then s.onStart fun r => { r with events := mergeEvent e r.events }
  else s.onMbox fun m => { m with tickEvents := mergeEvent e m.tickEvents }

/-! ### Reading the parts of the state -/

/-- A channel of the mailbox. -/
def State.chan (s : State) (c : Nat) : Channel := tget {} s.mbox.channels c

/-- Change a channel. -/
def State.onChan (s : State) (c : Nat) (f : Channel → Channel) : State :=
  s.onMbox fun m => { m with channels := tmod {} m.channels c f }

/-- A timing plane's setting. -/
def State.plane (s : State) (p : Nat) : PlaneObj := tget {} s.obj.planes p

/-- A timing plane's grid in force. -/
def State.planeRt (s : State) (p : Nat) : PlaneRt := tget {} s.time.planes p

/-- Change a plane's grid in force. -/
def State.onPlaneRt (s : State) (p : Nat) (f : PlaneRt → PlaneRt) : State :=
  s.onTime fun t => { t with planes := tmod {} t.planes p f }

/-- The key of a lane stream: direction (0 input, 1 output) and first bay. -/
def streamKey (dir bay : Nat) : Nat := dir * 8192 + bay

/-- A lane stream's definition and state. -/
def State.stream (s : State) (k : Nat) : StreamObj := tget {} s.obj.streams k

/-- Change a lane stream's definition and state. -/
def State.onStream (s : State) (k : Nat) (f : StreamObj → StreamObj) : State :=
  s.onObj fun o => { o with streams := tmod {} o.streams k f }

/-- A lane stream in service. -/
def State.streamRt (s : State) (k : Nat) : StreamRt := tget {} s.streams k

/-- Change a lane stream in service. -/
def State.onStreamRt (s : State) (k : Nat) (f : StreamRt → StreamRt) : State :=
  s.onStreams fun t => tmod {} t k f

/-- A destination's route and lock. -/
def State.route (s : State) (d : Nat) : RouteObj := tget {} s.obj.routes d

/-- Change a destination's route and lock. -/
def State.onRoute (s : State) (d : Nat) (f : RouteObj → RouteObj) : State :=
  s.onObj fun o => { o with routes := tmod {} o.routes d f }

/-- A destination in service. -/
def State.routeRt (s : State) (d : Nat) : RouteRt := tget {} s.basin.routes d

/-- Change a destination in service. -/
def State.onRouteRt (s : State) (d : Nat) (f : RouteRt → RouteRt) : State :=
  s.onBasin fun b => { b with routes := tmod {} b.routes d f }

/-- A lane's setting. -/
def State.lanePol (s : State) (l : Nat) : LanePolObj := tget {} s.obj.lanes l

/-- A lane in service; 128 and 129 are the Tandem lanes. -/
def State.lane (s : State) (l : Nat) : LaneRt := tget {} s.tow.lanes l

/-- Change a lane in service. -/
def State.onLane (s : State) (l : Nat) (f : LaneRt → LaneRt) : State :=
  s.onTow fun t => { t with lanes := tmod {} t.lanes l f }

/-- A head's committed object. -/
def State.headObj (s : State) (h : Nat) : HeadObj := tget {} s.obj.heads h

/-- Change a head's committed object. -/
def State.onHeadObj (s : State) (h : Nat) (f : HeadObj → HeadObj) : State :=
  s.onObj fun o => { o with heads := tmod {} o.heads h f }

/-- A head in service. -/
def State.head (s : State) (h : Nat) : HeadRt := tget {} s.heads h

/-- Change a head in service. -/
def State.onHead (s : State) (h : Nat) (f : HeadRt → HeadRt) : State := s.onHeads fun t => tmod {} t h f

/-- The chip is helm (R364). -/
def State.isHelm (s : State) : Bool := s.twin.helm

/-! ### Journal cuts (R434) -/

/-- Bytes that a commit of `n` entries takes on each device: data pages and the trailer page (R434). -/
def commitSize (n : Nat) : Nat := ((32 + 12 * n + 255) / 256 + 1) * 256

/-- The chip commits: a NOR device is good, and no trial runs (R437, R501). -/
def JournalRt.writes (j : JournalRt) : Bool := (j.good0 || j.good1) && !j.noWrite

/-- Cut: the entries that wait become a commit with the contents `o`, to be written after those before it (R434). -/
def JournalRt.cut (j : JournalRt) (kind : CutKind) (now : Nat) (o : Objects) : JournalRt :=
  { j with cutSeq := j.cutSeq + 1, pending := [], starved := false, waited := 0,
           writing := j.writing ++ [{ seq := j.cutSeq + 1, tick := now, size := commitSize j.pending.length, keys := j.pending, kind := kind, obj := o }] }

/-- An entry for the next cut (R434): a change of an object that already has one replaces it; one that would take the
entries past 3,584 bytes (298 entries of 12 bytes stand) is preceded by a cut. -/
def JournalRt.note (j : JournalRt) (key now : Nat) (o : Objects) : JournalRt :=
  if j.writes = true ∧ j.pending.contains key = false ∧ 298 ≤ j.pending.length then
    { j.cut .regular now j.seen with pending := [key], seen := o }
  else { j with pending := setAdd j.pending key, seen := o }

/-- Note that an object changed, for the next journal cut (R434).  Keys are opcode ranges by 2^32 with the
object's index, so that repeated changes of one object are one entry. -/
def State.touch (s : State) (range index : Nat) : State :=
  s.onJournal fun j => j.note (range * 2 ^ 32 + index) s.time.tick s.obj

end Sys2Proof.Machine
end

