-- ==== Sys2Proof/Machine/Flags.lean ====
section
/-! DEFINITION.  The status codes of a completion (R84) and the status words the chip shows (R62). -/

namespace Sys2Proof.Machine
open Sys2Proof

/-- The status codes of R84. -/
inductive Status where
  | done | queued | busy | range | state | auth | capacity | format | unknown | stale | timedOut | deferred
  | superseded | partly | tamper
  deriving DecidableEq, Repr

/-- The code of a status (R84). -/
def Status.code : Status → Nat
  | .done => 0x00
  | .queued => 0x01
  | .busy => 0x02
  | .range => 0x03
  | .state => 0x04
  | .auth => 0x05
  | .capacity => 0x06
  | .format => 0x07
  | .unknown => 0x08
  | .stale => 0x09
  | .timedOut => 0x0A
  | .deferred => 0x0B
  | .superseded => 0x0C
  | .partly => 0x0D
  | .tamper => 0x0E

/-- DEVICE_STATE (R62). -/
def deviceStateWord (s : State) : Nat :=
  s.dev.code + 16 * bit (s.host.link = .cxl) + 32 * bit s.keys.lock + 64 * bit (s.host.link = .pcie)

/-- Commands of a channel admitted and not yet final whose completion is still owed (R62, R77). -/
def openCommands (s : State) (ch : Nat) : Nat :=
  (s.mbox.jobs.filter fun j => j.cmd.ch = ch ∧ j.owed = true).length

/-- CHANNEL_STATUS[31:0] (R62). -/
def channelStatusLow (s : State) (ch : Nat) : Nat :=
  let c := s.chan ch
  bit c.isOpen + 2 * bit c.draining + 4 * bit c.ringFault + 8 * bit c.held.isSome + 65536 * c.session

/-- CHANNEL_STATUS (R62). -/
def channelStatus (s : State) (ch : Nat) : Nat := channelStatusLow s ch + 2 ^ 32 * openCommands s ch

/-- START_PROGRESS[31:0] (R62, R422). -/
def startProgressLow (s : State) : Nat :=
  s.start.stepNo + 256 * s.start.attempt + 1024 * bit s.start.slotB

/-- DD_STATUS (R62). -/
def ddStatusWord (s : State) : Nat := bit s.host.ddBusy + 2 * bit s.host.ddOverrun

/-- The trims as IDENTIFY shows them (R93). -/
def trimsByte (s : State) : Nat :=
  bit s.obj.trims.shallow + 2 * bit s.obj.trims.legacy + 4 * bit s.obj.trims.eco + 8 * bit s.obj.trims.syncAll

/-- ROLE as R93 and R391 show it. -/
def roleByte (s : State) : Nat := if s.twin.helm then 0 else 1

end Sys2Proof.Machine
end

