-- ==== Sys2Proof/Machine/Operands.lean ====
section
/-! DEFINITION.  Reading the fields of a command record: its header flags (R78) and its payload's fields
by offset, little-endian (R4). -/

namespace Sys2Proof.Machine
open Sys2Proof

/-- A byte string cut or filled with zeros to `n` bytes. -/
def fitBytes (n : Nat) (bs : List Byte) : List Byte := (bs ++ List.replicate n 0#8).take n

/-- The 48 bytes of HMAC-SHA-384 of a message under a key (R310, R481, R506). [DESIGN CHOICE, log 11] -/
def macOf (key message : List Byte) : List Byte := fitBytes 48 (Config.hmac key message)

/-- ASCII bytes of a label. -/
def asciiBytes (t : String) : List Byte := t.toList.map fun c => BitVec.ofNat 8 c.toNat

/-- HKDF-SHA-384 of an input key with a salt and an info (R477, RFC 5869), of at most 96 bytes. -/
def hkdf (ikm salt info : List Byte) (n : Nat) : List Byte :=
  let prk := macOf salt ikm
  let t1 := macOf prk (info ++ [1#8])
  (t1 ++ macOf prk (t1 ++ info ++ [2#8])).take n

/-- A key derived from a bank's root under its label (R477): SERIAL is the salt. -/
def derivedKey (bank : Nat) (label : String) (n : Nat) : List Byte := hkdf (Config.root bank) (toLe 8 Config.serial) (asciiBytes label) n

/-- The 56 bytes that make the device identity key pair of a bank (R477). -/
def dikSeed (bank : Nat) : List Byte := derivedKey bank "FX1152 DIK" 56

/-- The DIK public key, x then y, of a bank. -/
def dikPublic (bank : Nat) : List Byte := Config.p384Public (dikSeed bank)

/-- A signature under the DIK of a bank (R485). -/
def dikSign (bank : Nat) (message : List Byte) : List Byte := Config.ecdsaSign (dikSeed bank) message

/-- The 56 bytes that make the device agreement key pair of a bank (R477). -/
def dakSeed (bank : Nat) : List Byte := derivedKey bank "FX1152 DAK" 56

/-- The DAK public key, x then y, of a bank. -/
def dakPublic (bank : Nat) : List Byte := Config.p384Public (dakSeed bank)

/-- The 48-byte key that unwrapping gives (R482): bank, KIND, EPHEMERAL, IV, the associated data, WRAPPED and TAG; none when the GCM tag
fails. -/
def unwrapKey (bank kind : Nat) (ephemeral iv aad wrapped tag : List Byte) : Option (List Byte) :=
  let kek := hkdf (Config.ecdh (dakSeed bank) ephemeral) (toLe 8 Config.serial) (asciiBytes "FX1152 install" ++ [BitVec.ofNat 8 kind]) 32
  Config.gcmOpen kek iv aad wrapped tag

/-- The Tandem session key of two ephemeral public keys (R483). -/
def tandemKey (own partner : List Byte) : Nat := leNat (hkdf (Config.agree own partner) [] (asciiBytes "FX1152 tandem") 32)

/-- Bytes `off` to `off + n − 1` of a payload; a payload that is too short reads zero there. -/
def Cmd.bytes (c : Cmd) (off n : Nat) : List Byte := ((c.payload.drop off).take n) ++ List.replicate (n - (c.payload.length - off)) 0#8

/-- An n-byte unsigned field. -/
def Cmd.un (c : Cmd) (off n : Nat) : Nat := leNat ((c.payload.drop off).take n)

/-- An 8-bit field. -/
def Cmd.u8 (c : Cmd) (off : Nat) : Nat := c.un off 1

/-- A 16-bit field. -/
def Cmd.u16 (c : Cmd) (off : Nat) : Nat := c.un off 2

/-- A 32-bit field. -/
def Cmd.u32 (c : Cmd) (off : Nat) : Nat := c.un off 4

/-- A 64-bit field. -/
def Cmd.u64 (c : Cmd) (off : Nat) : Nat := c.un off 8

/-- A signed 16-bit field. -/
def Cmd.i16 (c : Cmd) (off : Nat) : Int := toInt 16 (c.u16 off)

/-- A signed 32-bit field. -/
def Cmd.i32 (c : Cmd) (off : Nat) : Int := toInt 32 (c.u32 off)

/-- A field all of whose bytes are zero. -/
def Cmd.zero (c : Cmd) (off n : Nat) : Bool := c.un off n = 0

/-- CHECK_GEN (R78). -/
def Cmd.checkGen (c : Cmd) : Bool := bitOf c.flags 0

/-- AT_TICK (R78). -/
def Cmd.atTick (c : Cmd) : Bool := bitOf c.flags 1

/-- SILENT (R78). -/
def Cmd.silent (c : Cmd) : Bool := bitOf c.flags 2

/-- Units of the submission ring that the record occupies (R72). -/
def Cmd.units (c : Cmd) : Nat := (32 + c.length + 31) / 32

/-- The first check of a list that fails, as the offset it reports. [DEDUCED, log 17] -/
def firstBad : List (Bool × Nat) → Option Nat
  | [] => none
  | (ok, off) :: r => if ok then firstBad r else some off

end Sys2Proof.Machine
end

