-- ==== Sys2Proof/Machine/Mailbox.lean ====
section
/-! DEFINITION.  The mailboxes: rings in HDM, completions, events, sessions, admission and the checks of R83
(spec/03_mailboxes_and_cxl.md). -/

namespace Sys2Proof.Machine
open Sys2Proof

/-! ### Where things stand in HDM (R64 to R66, R90) -/

/-- Base of a channel's 256 KiB. -/
def chBase (ch : Nat) : Nat := ch * 0x40000

/-- A unit of the submission ring. -/
def sqAddr (ch unit : Nat) : Nat := chBase ch + 0x10000 + unit * 32

/-- A record of the completion ring. -/
def cqAddr (ch i : Nat) : Nat := chBase ch + 0x1000 + i * 32

/-- A place in the reply area. -/
def replyAddr (ch off : Nat) : Nat := chBase ch + 0x30000 + off

/-- Base of an event ring. -/
def ringBase (r : Nat) : Nat := 0x1000000 + r * 0x400000

/-- A record of an event ring. -/
def eqAddr (r i : Nat) : Nat := ringBase r + 0x1000 + i * 16

/-- HDM is reached by the host: a CXL link and both decoders committed (R61). [DEDUCED, log 22] -/
def State.hdmUp (s : State) : Bool := decide (s.host.link = .cxl) && s.host.dec0.isSome && s.host.dec1.isSome

/-- CQ_HEAD, which the host writes (R66). -/
def cqHead (s : State) (ch : Nat) : Nat := s.hdmNat (chBase ch + 0x40) 4 % 1024

/-- Unread records of a completion ring (R77). -/
def cqUnread (s : State) (ch : Nat) : Nat := ((s.chan ch).cqTail + 1024 - cqHead s ch) % 1024

/-- Units from one place of a submission ring to another, going round. -/
def unitsTo (a b : Nat) : Nat := (b + 4096 - a) % 4096

/-- The tick from which a record of so many units at the head of its channel's ring is eligible (R75, R76); the present one where no doorbell
announced it. -/
def eligTick (s : State) (ch units : Nat) : Nat :=
  match (s.chan ch).elig.find? fun e => decide (units ≤ unitsTo (s.chan ch).sqHead e.1) with
  | some e => e.2
  | none => s.now

/-- Free entries of a completion ring (R77). -/
def cqFree (s : State) (ch : Nat) : Nat := 1023 - cqUnread s ch

/-- Write the chip's fields of a channel's control block (R66). -/
def syncChannel (ch : Nat) (s : State) : State :=
  let c := s.chan ch
  ((s.hdmWrite (chBase ch) (toLe 4 (c.headShown.getD c.sqHead))).hdmWrite (chBase ch + 0x80) (toLe 4 c.cqTail)).hdmWrite
    (chBase ch + 0xC0) (toLe 4 (channelStatusLow s ch))

/-! ### Interrupts and the notification line (R91, R92) -/

/-- Count a record written to a ring; one that counts stands as a mark until the host reads it. [DEDUCED, log 28] -/
def RingIrq.record (q : RingIrq) (elapsed : Nat) (counts : Bool) : RingIrq :=
  { q with written := q.written + 1, wrote := q.wrote || counts,
           marks := if counts then q.marks ++ [{ idx := q.written, elap := elapsed, sinceMsg := true }] else q.marks }

/-- Forget the marks of records the host has read, `unread` being left. -/
def RingIrq.prune (q : RingIrq) (unread : Nat) : RingIrq :=
  { q with marks := q.marks.filter fun k => q.written ≤ k.idx + unread }

/-- M ticks have passed since the oldest unread record that counts, written after the last message (R91). -/
def RingIrq.timedOut (q : RingIrq) (elapsed : Nat) : Bool :=
  match q.marks with
  | [] => false
  | k :: _ => decide (q.m ≠ 0) && k.sinceMsg && decide (elapsed = k.elap + q.m)

/-- A ring at the end of a tick: read records forgotten, readiness judged (R91). [DEDUCED, log 28] -/
def RingIrq.endOfTick (q : RingIrq) (unread elapsed : Nat) : RingIrq :=
  let p := q.prune unread
  { p with ready := p.ready || (p.wrote && decide (p.n ≤ p.marks.length)) || p.timedOut elapsed, wrote := false }

/-- A ring after its vector's message. -/
def RingIrq.sent (q : RingIrq) : RingIrq :=
  { q with ready := false, marks := q.marks.map fun k => { k with sinceMsg := false } }

/-- The interrupt setting a new channel's ring has (R91). -/
def chanIrq (ch : Nat) : RingIrq := { known := true, vector := 4 + ch % 60 }

/-- A channel's interrupt state; the default vector of an untouched one is that of R91. -/
def State.chIrq (s : State) (ch : Nat) : RingIrq :=
  let q := (s.chan ch).irq
  if q.known then q else chanIrq ch

/-- Unread records of an event ring (R90). -/
def eqHead (s : State) (r : Nat) : Nat := s.hdmNat (ringBase r + 0x40) 4 % 261888

/-- An event ring. -/
def State.ring (s : State) (r : Nat) : EventRing := tget {} s.mbox.rings r

/-- Change an event ring. -/
def State.onRing (s : State) (r : Nat) (f : EventRing → EventRing) : State :=
  s.onMbox fun m => { m with rings := tmod {} m.rings r f }

/-- Unread records of an event ring. -/
def eqUnread (s : State) (r : Nat) : Nat := ((s.ring r).tail + 261888 - eqHead s r) % 261888

/-- An event ring's interrupt state, vector r by default (R91). -/
def State.ringIrq (s : State) (r : Nat) : RingIrq :=
  let q := (s.ring r).irq
  if q.known then q else { known := true, vector := r }

/-- A byte of the MSI-X table; vector control comes up masked, as PCI Express defines. -/
def msixByte (s : State) (off : Nat) : Byte := tget (if off % 16 = 12 then 1#8 else 0#8) s.host.msixTable off

/-- The vector is masked. -/
def msixMasked (s : State) (v : Nat) : Bool := (msixByte s (v * 16 + 12)).getLsbD 0

/-- The 32-byte completion record (R79). -/
def completionBytes (tag status phase opcode session tick gen sqHead detail : Nat) : List Byte :=
  recordBytes 32 [(0, 2, tag), (2, 1, status), (3, 1, phase), (4, 2, opcode), (6, 2, session), (8, 8, tick),
    (0x10, 4, gen), (0x14, 2, sqHead), (0x18, 8, detail)]

/-- Write a completion record at CQ_TAIL (R79, R81); channel 0 has DD_COMPLETION instead (R63). [DESIGN CHOICE, log 131] -/
def complete (ch tag opcode session : Nat) (silent : Bool) (st : Status) (tick gen sqHead detail : Nat) (s : State) : State :=
  if ch = 0 then
    s.onHost fun h => { h with ddCompletion := memWrite [] 0 (completionBytes tag st.code 1 opcode session tick gen sqHead detail),
                               ddBusy := false, ddCmd := none }
  else
    let c := s.chan ch
    let s1 := s.hdmWrite (cqAddr ch c.cqTail) (completionBytes tag st.code (bit c.phase) opcode session tick gen sqHead detail)
    let irq := (s.chIrq ch).record s.elapsed (!silent)
    let s2 := s1.onChan ch fun c => { c with cqTail := (c.cqTail + 1) % 1024,
                                             phase := if c.cqTail + 1 = 1024 then !c.phase else c.phase, irq := irq }
    syncChannel ch (s2.onMbox fun m => { m with tailMoved := true })

/-! ### Sessions (R69 to R71) -/

/-- The rings of a channel as after a reset; the interrupt setting stays (R70, R91). -/
def resetRings (ch : Nat) (s : State) : State :=
  let q := s.chIrq ch
  syncChannel ch (s.onChan ch fun c =>
    { c with sqHead := 0, headShown := none, sqTail := 0, eligible := 0, elig := [], cqTail := 0, phase := true, draining := false, ringFault := false,
             held := none, irq := { known := true, vector := q.vector, n := q.n, m := q.m, next := q.next } })

/-- A draining channel with no admitted command left: its rings are reset and it is free (R70). [DEDUCED, log 25] -/
def drainChannel (ch : Nat) (s : State) : State :=
  if (s.chan ch).draining ∧ openCommands s ch = 0 then resetRings ch s else s

/-- Discard a head's pending copy of a session that closes (R288). -/
def dropPending (session : Nat) (s : State) : State :=
  s.onHeads fun t => t.map fun e => if e.2.owner = session ∧ session ≠ 0 then (e.1, { e.2 with pend := none, owner := 0 }) else e

/-- A destination without the protection of a session that closes (R171). -/
def unprotect (session : Nat) (e : Nat × RouteRt) : Option (Nat × RouteRt) :=
  let r : RouteRt := if e.2.protect = session ∧ session ≠ 0 then { e.2 with protect := 0 } else e.2
  if r = ({} : RouteRt) then none else some (e.1, r)

/-- Close a channel's session (R70): records announced and not admitted are discarded while SQ_HEAD stays where it was, what
is admitted drains.  Its protections end (R171). [DEDUCED, log 25] -/
def closeChannel (ch : Nat) (s : State) : State :=
  let n := (s.chan ch).session
  let s1 := dropPending n (s.onChan ch fun c =>
    { c with isOpen := false, draining := true, held := none, session := 0, priv := 0, leaseMs := 0, leaseAge := 0,
             label := [], headShown := some (c.headShown.getD c.sqHead), sqHead := c.sqTail, eligible := c.sqTail,
             elig := [] })
  let s2 := s1.onBasin fun b => { b with routes := b.routes.filterMap (unprotect n) }
  drainChannel ch (syncChannel ch s2)

/-- The first session number at or after `n`, 1 to 65,535 in a circle, that is not in use or used (R69). -/
def freeSession (used : List Nat) : Nat → Nat → Nat
  | 0, n => n
  | k + 1, n => if used.contains n then freeSession used k (n % 65535 + 1) else n

/-- Sessions now open. -/
def openSessions (s : State) : List Nat :=
  (s.mbox.channels.filter fun e => e.2.isOpen = true).map fun e => e.2.session

/-- The number of a new session (R69): never one in use, and none twice in a power-on period until all have been
assigned.  Where the search starts is open. [DESIGN CHOICE, log 10] -/
def newSession (s : State) : Nat :=
  let used := if s.mbox.usedSessions.length ≥ 65535 then openSessions s else s.mbox.usedSessions
  freeSession used 65535 (Config.sessionSeed s.mbox.usedSessions.length % 65535 + 1)

/-! ### Events to their rings (R87 to R90) -/

/-- The ring of an event code (R89). -/
def ringOf (code : Nat) : Nat :=
  let h := code / 256
  if h = 0x0D ∨ h = 0x0F then 0 else if h = 0x00 ∨ h = 0x10 ∨ h = 0x11 then 1 else if h = 0x08 then 3 else 2

/-- The 16-byte event record (R87). -/
def eventBytes (e : EventRec) (phase : Bool) : List Byte :=
  recordBytes 16 [(0, 2, e.code), (2, 1, bit phase + 2 * e.sev), (3, 1, e.count), (4, 2, e.subject), (6, 4, e.data), (10, 6, e.tick)]

/-- Write one event record at EQ_TAIL of a ring that has room. -/
def putEvent (r : Nat) (e : EventRec) (s : State) : State :=
  let q := s.ring r
  let s1 := s.hdmWrite (eqAddr r q.tail) (eventBytes e q.phase)
  let irq := (s.ringIrq r).record s.elapsed true
  let s2 := s1.onRing r fun q => { q with tail := (q.tail + 1) % 261888,
                                          phase := if q.tail + 1 = 261888 then !q.phase else q.phase, irq := irq }
  (s2.hdmWrite (ringBase r) (toLe 4 (s2.ring r).tail)).onMbox fun m => { m with tailMoved := true }

/-- Room has returned in a ring that lost records: EVENTS_DROPPED is written first (R90, R101). -/
def ringCatchUp (r : Nat) (s : State) : State :=
  let q := s.ring r
  if q.lost ≠ 0 ∧ eqUnread s r < 261887 then
    putEvent r { code := 0x0181, sev := 2, subject := r, data := min q.lost 0xFFFFFFFF, tick := s.time.tick % 2 ^ 48, count := 1 }
      (s.onRing r fun q => { q with lost := 0 })
  else s

/-- Write an event to its ring, or drop and count it when the ring is full (R90). [DESIGN CHOICE, log 135] -/
def pushEvent (s : State) (e : EventRec) : State :=
  let r := ringOf e.code
  let s1 := ringCatchUp r s
  if eqUnread s1 r < 261887 then putEvent r e s1
  else
    let s2 := s1.onRing r fun q => { q with dropped := satAdd 32 q.dropped 1, lost := q.lost + 1 }
    s2.hdmWrite (ringBase r + 0x80) (toLe 4 (s2.ring r).dropped)

/-- The events of the tick go to their rings, merged as R88 says. -/
def flushEvents (s : State) : State :=
  (s.mbox.tickEvents.foldl pushEvent s).onMbox fun m => { m with tickEvents := [] }

/-! ### The end of a tick (R91, R92, R96) -/

/-- The rings of an interrupt vector after its message. -/
def clearVector (s : State) (v : Nat) : State :=
  s.onMbox fun m =>
    { m with channels := m.channels.map (fun e => if e.2.irq.vector = v then (e.1, { e.2 with irq := e.2.irq.sent }) else e),
             rings := m.rings.map (fun e => if e.2.irq.vector = v then (e.1, { e.2 with irq := e.2.irq.sent }) else e),
             msixSent := setAdd m.msixSent v }

/-- Vectors with a ring that has become ready since their last message. -/
def readyVectors (s : State) : List Nat :=
  (((s.mbox.channels.filter fun e => e.2.irq.ready = true).map fun e => e.2.irq.vector) ++
   ((s.mbox.rings.filter fun e => e.2.irq.ready = true).map fun e => e.2.irq.vector)).foldl setAdd []

/-- Send a vector's message, or set its pending bit while it is masked. -/
def signalVector (s : State) (v : Nat) : State :=
  if msixMasked s v then s.onMbox fun m => { m with msixPending := Nat.lor m.msixPending (2 ^ v) }
  else clearVector s v

/-- A ring takes the setting of SET_INTERRUPTS that waited for the end of the tick (R96). [DEDUCED, log 28] -/
def RingIrq.adopt (q : RingIrq) : RingIrq :=
  match q.next with
  | none => q
  | some (v, n, m) => { q with vector := v, n := n, m := m, next := none }

/-- The notification line (R92). -/
def notifyBytes (s : State) (seq : Nat) : List Byte :=
  let pend := (List.range 64).foldl (fun a ch => if cqHead s ch ≠ (s.chan ch).cqTail then a + 2 ^ ch else a) 0
  recordBytes 64 [(0, 4, seq), (8, 8, pend), (0x10, 4, (s.ring 0).tail), (0x14, 4, (s.ring 1).tail),
    (0x18, 4, (s.ring 2).tail), (0x1C, 4, (s.ring 3).tail), (0x20, 8, s.time.tick)]

/-- Write the notification line if a tail advanced in the tick (R92). -/
def notify (s : State) : State :=
  if s.mbox.notifyOn ∧ s.mbox.tailMoved ∧ s.hdmUp then
    let q := wrapAdd 32 s.mbox.notifySeq 1
    s.onMbox fun m => { m with notifySeq := q, notifyLine := notifyBytes s q }
  else s

/-- The end of a tick for the mailboxes: events written, messages sent, settings adopted, the line pushed. -/
def endTickMail (s : State) : State :=
  let s1 := flushEvents (s.onMbox fun m => { m with msixSent := [] })
  let s2 := s1.onMbox fun m =>
    { m with channels := m.channels.map (fun e => (e.1, { e.2 with irq := (s1.chIrq e.1).endOfTick (cqUnread s1 e.1) s1.elapsed })),
             rings := m.rings.map (fun e => (e.1, { e.2 with irq := (s1.ringIrq e.1).endOfTick (eqUnread s1 e.1) s1.elapsed })) }
  let s3 := if s2.hdmUp then (readyVectors s2).foldl signalVector s2 else s2
  let s4 := s3.onMbox fun m =>
    { m with channels := m.channels.map (fun e => (e.1, { e.2 with irq := e.2.irq.adopt })),
             rings := m.rings.map (fun e => (e.1, { e.2 with irq := e.2.irq.adopt })) }
  (notify s4).onMbox fun m => { m with tailMoved := false, admitted := 0, armed := 0, chAdmitted := [] }

/-! ### Jobs: commands admitted and not yet final (R80) -/

/-- The job with a number. -/
def State.job (s : State) (id : Nat) : Option Job := s.mbox.jobs.find? fun j => j.id = id

/-- Make a job final: its completion is written unless it was discarded (R59, R80), and a draining channel may be free. -/
def finishJob (id : Nat) (st : Status) (tick gen detail : Nat) (s : State) : State :=
  match s.job id with
  | none => s
  | some j =>
    let s1 := s.onMbox fun m => { m with jobs := m.jobs.filter fun k => k.id ≠ id }
    if j.owed then
      drainChannel j.cmd.ch (complete j.cmd.ch j.cmd.tag j.opcode j.cmd.session j.cmd.silent st tick gen j.sqHead detail s1)
    else s1

/-- Final at the present tick. -/
def finishNow (id : Nat) (st : Status) (gen detail : Nat) (s : State) : State := finishJob id st s.now gen detail s

/-- Final at the present tick, with the generation that the command gave its object. [DEDUCED, log 13] -/
def finish (id : Nat) (st : Status) (detail : Nat) (s : State) : State :=
  match s.job id with
  | none => s
  | some j => finishJob id st s.now j.gen detail s

/-- What names the command that supersedes another (R84). -/
def byCommand (c : Cmd) : Nat := c.tag + 65536 * c.ch

/-- Jobs of one kind. -/
def jobsOf (s : State) (p : JobKind → Bool) : List Nat :=
  (s.mbox.jobs.filter fun j => p j.kind = true).map fun j => j.id

/-- Change what a job waits for. -/
def onJob (id : Nat) (f : JobKind → JobKind) (s : State) : State :=
  s.onMbox fun m => { m with jobs := m.jobs.map fun j => if j.id = id then { j with kind := f j.kind } else j }

/-! ### The checks of R83 and admission -/

/-- What the opcode index (R100) and the owning chapter say of a command. -/
structure CmdInfo where
  opcode : Nat
  readOnly : Bool := false
  content : Bool := false
  /-- accepted in DRY_DOCK alone (R505) -/
  dock : Bool := false
  /-- the payload length the command defines -/
  length : Cmd → Nat := fun _ => 0
  /-- the generation of the object the record names (R85), none when it names none -/
  gen : Cmd → State → Option Nat := fun _ _ => none

/-- The answer of a command's own checks and effect (check 9 of R83). -/
structure Res where
  s : State
  status : Status := .done
  detail : Nat := 0
  /-- the session number the completion shows, where it is not the record's (R79) -/
  session : Option Nat := none
  /-- with QUEUED: what the command now waits for -/
  job : JobKind := .resync
  /-- a channel that closes once the completion is written -/
  close : Option Nat := none

/-- DONE. -/
def ok (s : State) : Res := { s := s }

/-- DONE with DETAIL. -/
def okWith (detail : Nat) (s : State) : Res := { s := s, detail := detail }

/-- A refusal at an offset of the record; nothing changes. [DEDUCED, log 17] -/
def rej (st : Status) (off : Nat) (s : State) : Res := { s := s, status := st, detail := off }

/-- QUEUED; the job will carry number `s.mbox.nextJob`. -/
def queued (k : JobKind) (s : State) : Res := { s := s, status := .queued, job := k }

/-- Opcodes accepted on a channel (R67). -/
def acceptedOn (i : CmdInfo) (ch : Nat) : Bool :=
  let r := i.opcode / 256
  let hall := i.opcode = 0x0A06 ∨ i.opcode = 0x0A07
  if ch = 0 then decide (r = 0)
  else if r = 0 then false
  else if i.readOnly then true
  else if ch = 1 then decide (r = 0x10 ∨ hall ∨ i.opcode = 0x0105)
  else if ch = 2 then decide (r = 0x11)
  else decide (r ≤ 0x0F ∧ ¬hall ∧ i.opcode ≠ 0x0105)

/-- SESSION is right for the channel (R67, R69, R93). -/
def sessionOk (i : CmdInfo) (c : Cmd) (s : State) : Bool :=
  let k := s.chan c.ch
  if c.ch ≤ 2 then decide (c.session = 0)
  else if k.isOpen then decide (c.session = k.session)
  else decide (c.session = 0 ∧ (i.opcode = 0x0102 ∨ (i.opcode = 0x0101 ∧ k.draining = false)))

/-- The session holds the privilege a modifying command needs (R68). -/
def privOk (i : CmdInfo) (c : Cmd) (s : State) : Bool :=
  i.readOnly || decide (c.ch ≤ 2) || decide (i.opcode ∈ [0x0101, 0x0102, 0x0103, 0x0108]) ||
    bitOf (s.chan c.ch).priv (i.opcode / 256)

/-- Checks 1 to 8 of R83, in order: the first that fails, as status and DETAIL. [DEDUCED, log 26] [DESIGN CHOICE, log 134] -/
def checkCmd (i : CmdInfo) (c : Cmd) (s : State) : Option (Status × Nat) :=
  let r := i.opcode / 256
  if c.length ≠ i.length c then some (.range, 0x0018)
  else if !acceptedOn i c.ch then some (.auth, 0x0000)
  else if !sessionOk i c s then some (.auth, 0x0004)
  else if !privOk i c s then some (.auth, 0x0000)
  else if s.keys.lock ∧ ¬i.readOnly ∧ r ≠ 0x01 ∧ r ≠ 0x0F then some (.tamper, 0)
  else if (i.content ∧ ¬s.isHelm) ∨ (i.dock ∧ s.dev ≠ .dryDock) then some (.state, 0xFFFF)
  else if c.atTick ∧ (if c.ch = 0 then s.now else (s.chan c.ch).readAt) + 2880000 < c.targetTick then some (.range, 0x0010)
  else match i.gen c s with
    | some g => if c.checkGen ∧ g ≠ c.expectedGen then some (.stale, 0x0008) else none
    | none => none

/-- The command's checks, then its effect. [DEDUCED, log 25, 26] -/
def judge (i : CmdInfo) (body : Cmd → State → Res) (c : Cmd) (s : State) : Res :=
  match checkCmd i c s with
  | some (st, d) => rej st d s
  | none => body c s

/-- A record can be admitted on its channel now (R73 to R77, R427, R442, R499): the chip serves, HDM is reached, the
channel is not stopped or waiting, the tick's limits leave room, and its completions have space. [DEDUCED, log 26] -/
def gate (c : Cmd) (s : State) : Bool :=
  let k := s.chan c.ch
  s.dev.ready && s.hdmUp && !s.start.powerFail && s.start.restart.isNone && !s.time.slipped
    && decide (1 ≤ c.ch) && decide (c.ch < 64) && !k.ringFault && k.held.isNone
    && decide (s.mbox.admitted < 256) && decide (tget 0 s.mbox.chAdmitted c.ch < 16)
    && decide (2 * (openCommands s c.ch + 1) ≤ cqFree s c.ch)

/-- Read the record: SQ_HEAD moves past it, its eligible tick is noted, the tick's counts advance. -/
def countRead (c : Cmd) (s : State) : State :=
  let k := s.chan c.ch
  let h := (k.sqHead + c.units) % 4096
  let empty := (k.sqTail + 4096 - k.sqHead) % 4096 < c.units
  let at_ := eligTick s c.ch c.units
  let s1 := s.onChan c.ch fun k => { k with sqHead := h, sqTail := if empty then h else k.sqTail, readAt := at_,
                                            elig := k.elig.filter fun e => decide (c.units < unitsTo k.sqHead e.1),
                                            eligible := if (k.eligible + 4096 - k.sqHead) % 4096 < c.units then h else k.eligible }
  s1.onMbox fun m => { m with admitted := m.admitted + 1, chAdmitted := tmod 0 m.chAdmitted c.ch (· + 1) }

/-- The session's lease runs afresh from an admission (R71). [DESIGN CHOICE, log 134] -/
def renewLease (c : Cmd) (s : State) : State :=
  if (s.chan c.ch).isOpen ∧ (s.chan c.ch).session = c.session then s.onChan c.ch fun k => { k with leaseAge := 0 } else s

/-- The generation a completion carries (R79). [DEDUCED, log 13] [DESIGN CHOICE, log 134] -/
def newGen (i : CmdInfo) (c : Cmd) (s : State) : Nat :=
  if c.length ≠ i.length c then 0 else (i.gen c s).getD 0

/-- Carry a content command that changed something to the standby (R17, R374). -/
def carry (i : CmdInfo) (c : Cmd) (st : Status) (s : State) : State :=
  if i.content ∧ (st = .done ∨ st = .queued ∨ st = .deferred ∨ st = .partly) then
    s.onTwin fun t => { t with cmds := t.cmds ++ [{ opcode := i.opcode, cmd := c, tick := s.now, gen := newGen i c s }] }
  else s

/-- Write the completion of a command that was read, and keep it as a job if it is not final. [DEDUCED, log 13] -/
def conclude (i : CmdInfo) (c : Cmd) (r : Res) : State :=
  let s := r.s
  let head := (s.chan c.ch).sqHead
  let s1 := if r.status = .queued then
      s.onMbox fun m => { m with jobs := m.jobs ++ [{ id := m.nextJob, cmd := c, opcode := i.opcode, sqHead := head, owed := true,
                                                      gen := newGen i c s, kind := r.job }], nextJob := m.nextJob + 1 }
    else s
  let s2 := carry i c r.status s1
  let s3 := complete c.ch c.tag i.opcode (r.session.getD c.session) c.silent r.status s.now (newGen i c s) head r.detail s2
  match r.close with
  | some ch => closeChannel ch s3
  | none => s3

/-- Admit a record: check it, carry it out, complete it (R75, R80, R83). [DESIGN CHOICE, log 9] -/
def admitRecord (i : CmdInfo) (body : Cmd → State → Res) (c : Cmd) (s : State) : State :=
  conclude i c (judge i body c (renewLease c (countRead c s)))

/-- The Dry Dock window is reached (R63). -/
def dockReached (s : State) : Bool := decide (s.host.link ≠ .down) && decide (s.dev ≠ .off)

/-- Channel 0 takes a command now (R63): the window is reached, and no command of it is in progress. -/
def dockUp (s : State) : Bool := dockReached s && !s.host.ddBusy

/-- A record waits for its target tick (R76), being eligible from tick `at_`. -/
def waitsTick (c : Cmd) (at_ now : Nat) : Bool := c.atTick && decide (now < c.targetTick) && decide (c.targetTick ≤ at_ + 2880000)

/-- A write to DD_COMMIT (R63): while BUSY it is ignored and sets OVERRUN; otherwise the record is latched, BUSY set and OVERRUN cleared,
and it runs, or waits for its target tick (R76). -/
def commitDock (opcode : Nat) (c0 : Cmd) (run : Cmd → State → State) (s : State) : State :=
  if !dockReached s then s
  else if s.host.ddBusy then s.onHost fun h => { h with ddOverrun := true }
  else
    let c : Cmd := { c0 with ch := 0 }
    let s1 := s.onHost fun h => { h with ddBusy := true, ddOverrun := false }
    if waitsTick c s.now s.now then s1.onChan 0 fun k => { k with held := some (opcode, c) } else run c s1

/-- A command of another range on channel 0 (R63, R67): the checks of R83 refuse it there, and nothing else happens. -/
def strayRun (i : CmdInfo) (c : Cmd) (s : State) : State :=
  let r := judge i (fun _ s => rej .auth 0 s) c s
  complete 0 c.tag i.opcode c.session false r.status s.now 0 0 r.detail r.s

/-- An opcode that is not implemented, on channel 0. -/
def unknownDock (opcode : Nat) (c : Cmd) (s : State) : State := complete 0 c.tag opcode c.session false .unknown s.now 0 0 0 s

/-- A record at the head of its channel's ring, in the present tick: admitted, held for its target tick (R76), or left
where it stands while the channel cannot take it.  Channel 0 has no ring (R63). [DESIGN CHOICE, log 9] [DEDUCED, log 21] -/
def runCmd (i : CmdInfo) (body : Cmd → State → Res) (c : Cmd) (s : State) : State :=
  if c.ch = 0 then commitDock i.opcode c (strayRun i) s
  else if !gate c s then s
  else if waitsTick c (eligTick s c.ch c.units) s.now then
    syncChannel c.ch (s.onChan c.ch fun k => { k with held := some (i.opcode, c) })
  else admitRecord i body c s

/-- A command record whose opcode is not implemented (R83 check 2, R100); it waits for its target tick as any other (R76). -/
def runUnknown (opcode : Nat) (c : Cmd) (s : State) : State :=
  if c.ch = 0 then commitDock opcode c (unknownDock opcode) s
  else if !gate c s then s
  else if waitsTick c (eligTick s c.ch c.units) s.now then
    syncChannel c.ch (s.onChan c.ch fun k => { k with held := some (opcode, c) })
  else
    let s1 := renewLease c (countRead c s)
    complete c.ch c.tag opcode c.session c.silent .unknown s1.now 0 (s1.chan c.ch).sqHead 0 s1

/-- REPLY_OFFSET of a reply of at most `len` bytes is good (R82). -/
def replyOk (off len : Nat) : Bool := decide (off % 32 = 0) && decide (off + len ≤ 65536)

/-- Write a reply before its completion (R81, R82), or refuse its REPLY_OFFSET, which stands at payload offset `at_`. -/
def reply (c : Cmd) (at_ len detail : Nat) (bytes : List Byte) (s : State) : Res :=
  let off := c.u32 at_
  if replyOk off len then okWith detail (s.hdmWrite (replyAddr c.ch off) bytes) else rej .range (0x20 + at_) s

end Sys2Proof.Machine
end

