-- ==== Sys2Proof/Machine/Grid.lean ====
section
/-! DEFINITION.  Frame grids over the tick: frame ticks, commit deadlines and switch points
(spec/04_tick_and_timing_planes.md). -/

namespace Sys2Proof.Machine
open Sys2Proof

/-- N and D of a rate index (R110). -/
def rateND : Nat → Nat × Nat
  | 0 => (24000, 1001)
  | 1 => (24, 1)
  | 2 => (25, 1)
  | 3 => (30000, 1001)
  | 4 => (30, 1)
  | 5 => (48000, 1001)
  | 6 => (48, 1)
  | 7 => (50, 1)
  | 8 => (60000, 1001)
  | 9 => (60, 1)
  | 10 => (100, 1)
  | 11 => (120000, 1001)
  | _ => (120, 1)

/-- Units of 2^−32 in which instants are held. -/
def frac : Nat := 2 ^ 32

/-- The numerator of t_n over N × 2^32 (R109). -/
def frameNum (rate phase : Nat) (e n : Int) : Int :=
  n * (48000 * (rateND rate).2 * frac : Nat) + (phase * (rateND rate).1 : Nat) - e * ((rateND rate).1 : Nat)

/-- The divisor N × 2^32 of R109. -/
def frameDen (rate : Nat) : Int := ((rateND rate).1 * frac : Nat)

/-- F(n) of a grid (R109). -/
def gridTick (rate phase : Nat) (e n : Int) : Int := frameNum rate phase e n / frameDen rate

/-- The smallest frame number whose start on a grid is at or after `num` over N × 2^32. -/
def frameAtNum (rate phase : Nat) (e num : Int) : Int :=
  -((-(num - (phase * (rateND rate).1 : Nat) + e * ((rateND rate).1 : Nat))) / (48000 * (rateND rate).2 * frac : Nat))

/-- The smallest frame number with F(n) at or after a tick. -/
def frameAtTick (rate phase : Nat) (e t : Int) : Int := frameAtNum rate phase e (t * frameDen rate)

/-- Frame length S in units of 2^−32 tick, rounded down (R108). -/
def frameLen32 (rate : Nat) : Nat := 48000 * (rateND rate).2 * frac / (rateND rate).1

/-- PHASE lies below S × 2^32 (R121). -/
def phaseOk (rate phase : Nat) : Bool := decide (phase * (rateND rate).1 < 48000 * (rateND rate).2 * frac)

/-- A frame start in units of 2^−32 tick, rounded down. -/
def start32 (rate : Nat) (num : Int) : Int := num / ((rateND rate).1 : Nat)

/-- Interface lines per frame that place the switch line (R113): 750 for 1280×720 formats, else 1,125. -/
def switchLines (format : Nat) : Nat := if format = 0xFFFF then 1125 else if format / 4096 = 0 then 750 else 1125

/-- The tick in which a switch point falls, from the frame's start numerator (R113). [DEDUCED, log 33] -/
def switchTickNum (rate : Nat) (num : Int) (lines : Nat) : Int :=
  (num * lines + (6 * 48000 * (rateND rate).2 * frac : Nat)) / (frameDen rate * lines)

/-! ### The planes of the state -/

/-- The plane is enabled, with its rate index. -/
def State.rate (s : State) (p : Nat) : Option Nat := (s.plane p).rate

/-- The start numerator of frame n on the grid in force (R109, R111): the current frame keeps the start it had.  A step back may
name a later frame with the current one's number; that number then stands for the later one. -/
def startNumOf (s : State) (p rate : Nat) (n : Int) : Int :=
  let r := s.planeRt p
  if n = r.frame ∧ r.frame < r.nextFrame then r.startNum else frameNum rate r.gridPhase r.gridE n

/-- F(n) of a plane on the grid in force; 0 for a disabled plane. -/
def frameTick (s : State) (p : Nat) (n : Int) : Int :=
  match s.rate p with
  | none => 0
  | some r => startNumOf s p r n / frameDen r

/-- The first frame n whose deadline F(n) − 8 is at or after tick `t`, on the grid in force (R116); a plane
enabled in a tick takes none before the next (R122). -/
def armFrameAt (s : State) (p : Nat) (t : Int) : Int :=
  let q := s.planeRt p
  let u : Int := match q.since with
    | some x => max t (x + 1)
    | none => t
  match s.rate p with
  | none => 0
  | some r => max q.nextFrame (frameAtTick r q.gridPhase q.gridE (u + 8))

/-- Frame n of R116 for the admitting tick. -/
def armFrame (s : State) (p : Nat) : Int := armFrameAt s p s.now

/-- The lowest-numbered enabled plane (R86). -/
def lowestPlane (s : State) : Option Nat := (List.range 8).find? fun p => (s.rate p).isSome

/-- Enabled planes, ascending. -/
def enabledPlanes (s : State) : List Nat := (List.range 8).filter fun p => (s.rate p).isSome

/-- The tick is the commit deadline of the plane's next frame (R116, R117). -/
def deadlineNow (s : State) (p : Nat) : Bool :=
  (s.rate p).isSome && decide (frameTick s p (s.planeRt p).nextFrame - 8 = s.now)

/-- The tick in which the switch point of frame n falls for a format (R113). [DEDUCED, log 33] -/
def switchTick (s : State) (p : Nat) (format : Nat) (n : Int) : Int :=
  match s.rate p with
  | none => 0
  | some r => switchTickNum r (startNumOf s p r n) (switchLines format)

/-- Put a plane's frame counter where T stands on a grid: the last frame begun, and the one after it. -/
def placePlane (p rate phase : Nat) (e : Int) (s : State) : State :=
  let k := frameAtTick rate phase e (s.now + 1)
  s.onPlaneRt p fun q => { q with gridPhase := phase, gridE := e, frame := k - 1, startNum := frameNum rate phase e (k - 1),
                                  nextFrame := k, committed := none, adopted := none }

/-- Place every enabled plane afresh, as after T is set (R102, R107). -/
def placePlanes (s : State) : State :=
  (enabledPlanes s).foldl (fun s p => match s.rate p with
    | some r => placePlane p r (s.plane p).phase s.time.e s
    | none => s) s

/-- The plane's next frame begins in this tick: it becomes the current frame. -/
def advancePlane (p : Nat) (s : State) : State :=
  match s.rate p with
  | none => s
  | some r =>
    let q := s.planeRt p
    if frameTick s p q.nextFrame ≤ s.now then
      s.onPlaneRt p fun q => { q with frame := q.nextFrame, startNum := frameNum r q.gridPhase q.gridE q.nextFrame, nextFrame := q.nextFrame + 1,
                                      adopted := none, pubFrame := none }
    else s

/-- A frame of the plane begins in this very tick. -/
def frameNow (s : State) (p : Nat) : Bool := (s.rate p).isSome && decide (frameTick s p (s.planeRt p).frame = s.now)

/-- Nanoseconds of an instant given in units of 2^−32 tick (1 tick is 62,500 / 3 ns). -/
def ns32 (x : Int) : Int := x * 62500 / (3 * frac : Nat)

/-- The nearest integer to a quotient, halves upwards. [DEDUCED, log 32] -/
def divRound (a b : Int) : Int := (2 * a + b) / (2 * b)

/-- T + E at the present tick, in units of 2^−32 tick. -/
def timeNow32 (s : State) : Int := (s.now : Int) * (frac : Nat) + s.time.e

end Sys2Proof.Machine
end

