-- ==== Sys2Proof/Machine/Faults.lean ====
section
/-! DEFINITION.  The fault collector and the control fabric (spec/15_fabric_and_faults.md): classes, history, the
first-fault record, the fatal states, injection, and the fabric's order and responses. -/

namespace Sys2Proof.Machine
open Sys2Proof

/-! ### Classes (R458, R459) -/

/-- The class of a fault code as R464 numbers it: 1 corrected, 2 uncorrected-contained, 3 Fatal-D, 4 Fatal-S, 5 tamper;
0 for a code R459 does not list. -/
def faultClass (code : Nat) : Nat :=
  if code ∈ [0x0101, 0x0201, 0x0401, 0x0501, 0x0502, 0x0505, 0x0601, 0x0A01] then 1
  else if code ∈ [0x0102, 0x0202, 0x0302, 0x0402, 0x0503, 0x0504, 0x0605, 0x0A02] then 2
  else if code ∈ [0x0203, 0x0403, 0x0602, 0x0603, 0x0604, 0x0701, 0x0702, 0x0801, 0x0901, 0x0A03, 0x0B01, 0x0B02] then 3
  else if code ∈ [0x0C01, 0x0C02, 0x0C03] then 4
  else if code = 0x0D01 then 5
  else 0

/-- The tick a fault record carries: 0 while the time model does not run (R464). -/
def faultTick (s : State) : Nat := if timeRuns s then s.time.tick else 0

/-- The 32 bytes of the first-fault record (R465). -/
def firstFaultBytes (f : FirstFault) : List Byte :=
  let b := recordBytes 30 [(0, 2, f.code), (2, 1, f.cls + 8 * bit f.west + 16 * bit f.valid + 32 * bit f.lowPower), (3, 1, f.overflow),
    (4, 4, f.detail % 2 ^ 32), (8, 8, f.tick), (0x10, 6, f.aoTime), (0x16, 2, f.state + 16 * f.stepNo), (0x18, 4, f.detail / 2 ^ 32)]
  b ++ toLe 2 (crc16 0xFFFF b)

/-- The 32 bytes of a history entry (R464). -/
def histBytes (e : HistEntry) : List Byte :=
  recordBytes 32 [(0, 8, e.tick), (8, 2, e.code), (0x0A, 1, e.cls), (0x0B, 1, bit e.west + 2 * bit e.injected), (0x0C, 2, e.subject),
    (0x0E, 2, e.count), (0x10, 8, e.detail), (0x18, 4, e.seq)]

/-- Capture an event in the first-fault record, or count it once a record is held (R466). [DEDUCED, log 96] -/
def captureFirst (code cls detail : Nat) (west lowPower : Bool) (s : State) : State :=
  s.onFaults fun f =>
    if f.first.valid then { f with first := { f.first with overflow := satAdd 8 f.first.overflow 1 } }
    else { f with first := { valid := true, code := code, cls := cls, west := west, lowPower := lowPower, overflow := 0, detail := detail,
                             tick := faultTick s, aoTime := s.clocks.aoAge * 125 / 192, state := s.dev.code,
                             stepNo := if s.dev.starting then s.start.stepNo else 0 } }

/-- Mirror the history into the fault-history view of HDM (R463). -/
def mirrorHistory (s : State) : State :=
  let s1 := s.hdmWrite 0x18000000 (toLe 4 s.faults.head ++ toLe 4 s.faults.hseq)
  s1.faults.hist.foldl (fun s e => s.hdmWrite (0x18000100 + (e.seq + 31) % 32 * 32) (histBytes e)) s1

/-- Merge a report into an entry of the same tick, code and subject (R463). [DEDUCED, log 99] -/
def mergeHist (t code subject : Nat) : List HistEntry → Option (List HistEntry)
  | [] => none
  | e :: r =>
    if e.tick = t ∧ e.code = code ∧ e.subject = subject then some (({ e with count := satAdd 16 e.count 1 } : HistEntry) :: r)
    else (mergeHist t code subject r).map (e :: ·)

/-- Enter a report in the history, merged with one of the same code and SUBJECT in the tick (R463). -/
def addHistory (code cls subject detail count : Nat) (west injected : Bool) (s : State) : State :=
  let t := faultTick s
  let s1 := match mergeHist t code subject s.faults.hist with
    | some h => s.onFaults fun f => { f with hist := h }
    | none =>
      let q := wrapAdd 32 s.faults.hseq 1
      let e : HistEntry := { tick := t, code := code, cls := cls, west := west, injected := injected, subject := subject, count := count, detail := detail, seq := q }
      s.onFaults fun f => { f with hseq := q, head := (q + 31) % 32, hist := (f.hist ++ [e]).drop (f.hist.length - 31) }
  mirrorHistory s1

/-- Change the counts of a source kind (R474). -/
def onKind (code : Nat) (f : KindCount → KindCount) (s : State) : State :=
  s.onFaults fun g => { g with kinds := tmod {} g.kinds (code / 256) f }

/-! ### The fatal states (R460 to R462) -/

/-- The wait before the automatic reset (R461): AUTO_RESET_MS, doubled at the third entry within 600 s and at each further
one, up to 64 s. -/
def resetWait (base entries : Nat) : Nat := if entries < 3 then base else min 64000 (base * 2 ^ (entries - 2))

/-- Transactions outstanding at the port of a domain, as target (R403). -/
def outstandingAt (d : Nat) (s : State) : Nat :=
  ((List.range 8).flatMap fun m => ((tget {} s.faults.masters ((if 32 ≤ d then 8 else 0) + m)).txns.filter fun t => t.target = d ∧ t.done = false)).length

/-- A forced gate begins: the port drains at once (R404). -/
def beginForcedGate (s : State) (d : Nat) : State :=
  s.onClocks fun c => { c with domains := tmod {} c.domains d fun x => { x with port := .draining } }

/-- The chip stops serving (R460): no admission, no record, holds foundered, TWIN_HEALTH low, ALIVE held. [DEDUCED, log 97] -/
def enterFatal (fatalS : Bool) (s : State) : State :=
  let now := s.elapsed
  let times := (s.faults.entryTimes.filter fun t => now < t + 600 * 48000) ++ [now]
  let s1 := { s with dev := if fatalS then .fatalS else .fatalD }
  let s2 := s1.onTwin fun t => { t with health := false, yield := none }
  s2.onFaults fun f => { f with entries := if fatalS then f.entries else inc f.entries, entryTimes := times,
                                waitMs := resetWait s.obj.faultPol.autoResetMs times.length, waited := 0, alive := 0 }

/-- A Fatal-D fault (R458, R460): recorded, counted in the logbook, and the chip stops serving. [DEDUCED, log 97] -/
def fatalD (code subject detail : Nat) (west injected : Bool) (s : State) : State :=
  let s1 := captureFirst code 3 detail west false s
  let s2 := addHistory code 3 subject detail 1 west injected s1
  let s3 := onKind code (fun k => { k with fatal := inc k.fatal }) s2
  if s.dev = .fatalS then s3
  else if s.dev = .fatalD then s3
  else enterFatal false ((s3.onLog fun l => { l with fatalD := inc l.fatalD }).onJournal fun j => { j with book := { j.book with fatalD := inc j.book.fatalD } })

/-- A Fatal-S fault (R462): as Fatal-D, and the key vault domains of both dies are force-gated. [DEDUCED, log 97] -/
def fatalS (code subject detail : Nat) (west : Bool) (s : State) : State :=
  let s1 := addHistory code 4 subject detail 1 west false (captureFirst code 4 detail west false s)
  let s2 := onKind code (fun k => { k with fatal := inc k.fatal }) s1
  enterFatal true (beginForcedGate (beginForcedGate s2 26) 58)

/-! ### Reports (R458, R463, R475) -/

/-- A corrected report: counted, and entered once an hour when the hour's count reaches RATE_LIMIT (R463). -/
def reportCorrected (r : FaultRep) (s : State) : State :=
  let now := s.elapsed
  let hour := ((tget [] s.faults.hour r.code).filter fun t => now < t + 172800000) ++ [now]
  let s1 := onKind r.code (fun k => { k with corrected := inc k.corrected }) (s.onFaults fun f => { f with hour := tset [] f.hour r.code hour })
  let fresh := match s.faults.rated.find? fun e => e.1 = r.code with
    | none => true
    | some e => decide (e.2 + 172800000 ≤ now)
  if s.obj.faultPol.rateLimit ≤ hour.length ∧ fresh = true then
    let s2 := addHistory r.code 1 r.subject r.detail hour.length r.west r.injected s1
    raise 0x0F82 1 r.code hour.length (s2.onFaults fun f => { f with rated := (r.code, now) :: f.rated.filter fun e => e.1 ≠ r.code })
  else s1

/-- The code and SUBJECT that FAULT_CONTAINED is limited by (R475). -/
def containedKey (r : FaultRep) : Nat := r.code * 65536 + r.subject

/-- A second has passed since the last FAULT_CONTAINED of a code and SUBJECT, or there was none (R475). -/
def containedDue (k : Nat) (s : State) : Bool :=
  match s.faults.containedAt.find? fun e => e.1 = k with
  | none => true
  | some e => decide (e.2 + 48000 ≤ s.elapsed)

/-- Raise FAULT_CONTAINED for `n` reports of one code and SUBJECT (R475). -/
def raiseContainedNow (r : FaultRep) (n : Nat) (s : State) : State :=
  raiseCount 0x0F81 2 r.code (r.subject + 65536 * bit r.west + 131072 * bit r.injected) n
    (s.onFaults fun f => { f with containedAt := (containedKey r, s.elapsed) :: f.containedAt.filter fun e => e.1 ≠ containedKey r })

/-- FAULT_CONTAINED, at most once per second for each code and SUBJECT; the reports of that second are merged (R475). [DEDUCED, log 99] -/
def raiseContained (r : FaultRep) (s : State) : State :=
  if containedDue (containedKey r) s then raiseContainedNow r 1 s
  else
    let n := ((s.faults.merged.find? fun e => containedKey e.1 = containedKey r).map Prod.snd).getD 0
    s.onFaults fun f => { f with merged := (f.merged.filter fun e => containedKey e.1 ≠ containedKey r) ++ [(r, n + 1)] }

/-- The reports merged in a second that has passed are raised together (R475). [DEDUCED, log 99] -/
def raiseMerged (s : State) : State :=
  let due := s.faults.merged.filter fun e => containedDue (containedKey e.1) s
  due.foldl (fun s e => raiseContainedNow e.1 e.2 s) (s.onFaults fun f => { f with merged := f.merged.filter fun e => !due.contains e })

/-- A report of a checker, by its class (R458). -/
def reportByClass (r : FaultRep) (s : State) : State :=
  match faultClass r.code with
  | 1 => reportCorrected r s
  | 2 => raiseContained r (addHistory r.code 2 r.subject r.detail 1 r.west r.injected (onKind r.code (fun k => { k with contained := inc k.contained }) s))
  | 3 => if r.code = 0x0901 then captureFirst r.code 3 r.detail r.west false s else fatalD r.code r.subject r.detail r.west r.injected s
  | 4 => fatalS r.code r.subject r.detail r.west s
  | 5 => addHistory r.code 5 r.subject r.detail 1 r.west false (captureFirst r.code 5 r.detail r.west false s)
  | _ => s

/-- What inverted check bits make a checker report (R469): under an error-correcting code one bit a corrected error and two an
uncorrectable one; any other checker detects either. [DEDUCED, log 98] -/
def invertedGives (bits code : Nat) : Bool :=
  if code ∈ [0x0101, 0x0201, 0x0601, 0x0A01] then decide (bits = 1)
  else if code ∈ [0x0102, 0x0202, 0x0203, 0x0602, 0x0A02] then decide (bits = 2)
  else true

/-- An armed injection's checker can make a report. -/
def Inject.makes (i : Inject) (r : FaultRep) : Bool := decide (i.kind = r.code / 256) && (i.west == r.west) && invertedGives i.bits r.code

/-- The armed injection a report comes from. [DEDUCED, log 98] -/
def injectionOf (r : FaultRep) (s : State) : Option Inject :=
  (s.faults.injects.find? fun i => i.makes r && decide (i.inst = r.subject)).or (s.faults.injects.find? fun i => i.makes r)

/-- A report that an armed injection made: the checker has had one more of its COUNT checks affected (R469, R470). -/
def chargeInjection (i : Inject) (r : FaultRep) (s : State) : State :=
  let s1 := onKind r.code (fun k => { k with injected := inc k.injected }) s
  if i.left ≤ 1 then
    let s2 := s1.onFaults fun f => { f with injects := f.injects.filter fun j => j ≠ i }
    let s3 := raise 0x0F84 0 r.code (i.done + 1) s2
    if faultClass r.code = 3 ∨ faultClass r.code = 4 then s3.onMbox fun m => { m with jobs := m.jobs.filter fun j => j.id ≠ i.job }
    else finishNow i.job .done 0 (i.done + 1) s3
  else
    let s2 := s1.onFaults fun f => { f with injects := f.injects.map fun j => if j = i then { i with left := i.left - 1, done := i.done + 1 } else j }
    if faultClass r.code = 3 ∨ faultClass r.code = 4 then s2.onMbox fun m => { m with jobs := m.jobs.filter fun j => j.id ≠ i.job } else s2

/-- A report arrives at the collector (R458, R463, R469). [DEDUCED, log 99] -/
def report (r : FaultRep) (s : State) : State :=
  if r.injected then
    match injectionOf r s with
    | some i => reportByClass r (chargeInjection i r s)
    | none => reportByClass { r with injected := false } s
  else reportByClass r s

/-! ### The control fabric (R447 to R457) -/

/-- A master of a die. -/
def State.master (s : State) (k : Nat) : MasterRt := tget {} s.faults.masters k

/-- Change a master. -/
def State.onMaster (s : State) (k : Nat) (f : MasterRt → MasterRt) : State :=
  s.onFaults fun g => { g with masters := tmod {} g.masters k f }

/-- The number outstanding joins OUTSTANDING_MAX, the highest of the last 48,000 ticks (R474). -/
def MasterRt.watched (m : MasterRt) (now : Nat) : MasterRt :=
  let w := peaks m.outWin now m.txns.length
  { m with outWin := w, outMax := highest w }

/-- A target port of a die, by die × 256 + target. -/
def State.target (s : State) (k : Nat) : TargetRt := tget {} s.faults.targets k

/-- The number under which OTP stands among the targets, after the domains. -/
def otpTarget : Nat := 64

/-- A master may reach a target (R448): only the Wheelhouse and Slipway the key vault and OTP; debug any other, only while unlocked.
[DEDUCED, log 96] [DEDUCED, log 96] -/
def mayReach (s : State) (master target : Nat) : Bool :=
  if master = 7 then false
  else if target = 26 ∨ target = 58 ∨ target = otpTarget then decide (master = 0 ∨ master = 4)
  else if master = 6 then s.keys.debug else true

/-- A request stays inside a 4 KiB page and has 1 to 16 beats (R449). -/
def requestFits (addr beats : Nat) : Bool := decide (1 ≤ beats) && decide (beats ≤ 16) && decide (addr % 4096 + beats * 32 ≤ 4096)

/-- The port answers GATED: it is stopping or gated (R403, R454). -/
def portGated (s : State) (d : Nat) : Bool :=
  decide ((tget {} s.clocks.domains d).port = .stopping ∨ (tget {} s.clocks.domains d).port = .gated)

/-- Deliver a response to a master: counted, and reported unless OKAY (R454). -/
def deliver (k : Nat) (t : Txn) (code : Nat) (s : State) : State :=
  let west := decide (8 ≤ k)
  let s1 := s.onMaster k fun m =>
    { m with total := satAdd 64 m.total 1,
             errors := if code ∈ [1, 2, 4, 5] then inc m.errors else m.errors,
             gated := if code = 3 then inc m.gated else m.gated,
             timeouts := if code = 4 then inc m.timeouts else m.timeouts,
             lastResp := if t.behalf then m.lastResp else code,
             lastData := if t.behalf then m.lastData else if code = 0 ∧ ¬t.write then t.data else List.replicate (32 * t.beats) 0#8 }
  let rep (c subj : Nat) : State → State := report { code := c, west := west, subject := subj, detail := t.addr }
  if code = 0 then s1
  else if code = 3 then rep 0x0502 (k % 8) (s1.onClocks fun c => { c with gatedResp := inc c.gatedResp })
  else if code = 4 then s1
  else rep 0x0503 (k % 8) s1

/-- The oldest unanswered request of a stream takes its answer: the code, and the data read (R454). -/
def answerFirst (stream resp : Nat) (data : List Byte) : List Txn → List Txn
  | [] => []
  | u :: r => if u.stream = stream ∧ u.done = false then { u with done := true, resp := resp, data := if u.write then u.data else data } :: r
              else u :: answerFirst stream resp data r

/-- The oldest waiting request across the Aqueduct that has no response buffer gets one. -/
def grantBuffer : List Txn → List Txn
  | [] => []
  | t :: r => if t.remote ∧ t.buffer = false then { t with buffer := true } :: r else t :: grantBuffer r

/-- A transaction leaves its port, and its response buffer with it: the next that waits for one has it, each of them once nothing of the master is
across the Aqueduct (R451). [DEDUCED, log 96] -/
def leavePort (u : Txn) (m : MasterRt) : MasterRt :=
  let rest := m.txns.erase u
  { m with txns := rest,
           waiting := if rest.all (fun t => !t.remote) then m.waiting.map (fun t => { t with buffer := true })
             else if u.remote then grantBuffer m.waiting else m.waiting }

/-- Deliver, oldest first, the answered transactions of a master that no older one of their stream waits for (R450). -/
def drainMaster (k : Nat) : Nat → State → State
  | 0, s => s
  | n + 1, s =>
    let m := s.master k
    match m.txns.find? fun t => t.done = true ∧ (m.txns.find? fun u => u.stream = t.stream).map (fun u => u.done) = some true with
    | none => s
    | some t =>
      match m.txns.find? fun u => u.stream = t.stream with
      | none => s
      | some u => drainMaster k n (deliver k u u.resp (s.onMaster k (leavePort u)))

/-- Why a request is held at its master's port (R451). [DEDUCED, log 96] -/
def heldBack (m : MasterRt) (t : Txn) : Bool :=
  ((m.txns ++ m.waiting).any fun u => u.stream = t.stream ∧ u.target ≠ t.target) || (t.remote && !t.buffer) || (m.txns.any fun u => u.behalf = true)

/-- Issue a request to its target: a gated port answers GATED and a hung one TIMEOUT at once (R454, R455). -/
def issue (die k : Nat) (t : Txn) (s : State) : State :=
  let u := if portGated s t.target then { t with done := true, resp := 3 }
    else if (s.target (die * 256 + t.target)).hung then { t with done := true, resp := 4 } else t
  let s1 := s.onMaster k fun m => { m with txns := m.txns ++ [u] }.watched s.elapsed
  let s2 := s1.onFaults fun f => { f with targets := tmod {} f.targets (die * 256 + t.target) fun x => { x with parked := t.master } }
  drainMaster k 65 s2

/-- A request waits behind the 64 that its port holds, or behind an earlier one of its stream that waits (R447, R450). [DEDUCED, log 96] -/
def queuedBehind (m : MasterRt) (t : Txn) : Bool := decide (64 ≤ m.txns.length) || m.waiting.any fun u => u.stream = t.stream

/-- The oldest waiting request with no reason to wait, and the others; `seen` are the older ones that must. [DEDUCED, log 96] -/
def freeToIssue (m : MasterRt) : List Txn → List Txn → Option (Txn × List Txn)
  | _, [] => none
  | seen, t :: r =>
    let m' := { m with waiting := seen }
    if heldBack m' t || queuedBehind m' t then freeToIssue m (seen ++ [t]) r else some (t, seen ++ r)

/-- Issue at most `n` of the waiting requests that have no reason to wait, oldest first. -/
def retryUpTo (die k : Nat) : Nat → State → State
  | 0, s => s
  | n + 1, s =>
    match freeToIssue (s.master k) [] (s.master k).waiting with
    | none => s
    | some (t, r) => retryUpTo die k n (issue die k t (s.onMaster k fun m => { m with waiting := r }))

/-- Issue every waiting request that no longer has a reason to wait, oldest first. -/
def retryHeld (die k : Nat) (s : State) : State := retryUpTo die k (s.master k).waiting.length s

/-- The target of the oldest unanswered request of a stream answers it (R454). [DEDUCED, log 96] -/
def answerTxn (k stream resp : Nat) (data : List Byte) (s : State) : State :=
  s.onMaster k fun m => { m with txns := answerFirst stream resp data m.txns }

/-- What the targets have answered since, in the order they did; what no longer waits is delivered and issued (R450, R451). -/
def answerTxns (die k : Nat) (es : List (Nat × Nat × List Byte)) (s : State) : State :=
  es.foldl (fun s e => retryHeld die k (drainMaster k 65 (answerTxn k e.1 e.2.1 e.2.2 s))) s

/-- A request of a master (R449 to R455). [DEDUCED, log 96] -/
def fabricRequest (q : FabricReq) (s0 : State) : State :=
  let k := q.die * 8 + q.master
  let s := answerTxns q.die k q.earlier s0
  let t : Txn := { master := q.master, stream := q.stream, target := q.target.getD 255, addr := q.addr, write := q.write, beats := q.beats,
                   data := q.data, done := q.answer.isSome, resp := q.answer.getD 0, remote := q.remote, buffer := q.buffer }
  match q.target with
  | none => deliver k t 2 s
  | some d =>
    if !requestFits q.addr q.beats || !mayReach s q.master d then deliver k t 2 s
    else
      let m := s.master k
      if heldBack m t then s.onMaster k fun m => { m with waiting := m.waiting ++ [t], holdBacks := inc m.holdBacks }
      else if queuedBehind m t then s.onMaster k fun m => { m with waiting := m.waiting ++ [t] }
      else retryHeld q.die k (issue q.die k t s)

/-- A target has not answered the oldest request of a stream within its limit (R455). -/
def targetTimeout (die master stream : Nat) (s : State) : State :=
  let k := die * 8 + master
  match (s.master k).txns.find? fun t => t.stream = stream ∧ t.done = false with
  | none => s
  | some t =>
    let tk := die * 256 + t.target
    let now := s.elapsed
    let times := ((s.target tk).times.filter fun x => now < x + 48000) ++ [now]
    let s1 := s.onFaults fun f => { f with targets := tmod {} f.targets tk fun x => { x with hung := true, times := times } }
    let s2 := s1.onMaster k fun m => { m with txns := answerFirst stream 4 [] m.txns }
    let s3 := retryHeld die k (drainMaster k 65 s2)
    if 3 ≤ times.length then fatalD 0x0504 t.target t.addr (decide (die = 1)) false s3
    else report { code := 0x0504, west := decide (die = 1), subject := t.target, detail := t.addr } s3

/-- A master is reset with transactions in progress: the fabric completes each on its behalf (R456). -/
def masterReset (die master : Nat) (s : State) : State :=
  let k := die * 8 + master
  let live := (s.master k).txns.filter fun t => t.behalf = false
  let s1 := s.onMaster k fun m => { m with txns := m.txns.map (fun t => { t with behalf := true, data := t.data.take (32 * t.sentBeats) }),
                                           waiting := [], midBurst := satAdd 32 m.midBurst live.length }
  live.foldl (fun s t => report { code := 0x0501, west := decide (die = 1), subject := master, detail := t.addr } s) s1

/-- What is outstanding at a port is answered GATED, as a forced gate does (R404, R457). -/
def gateOutstanding (d : Nat) (s : State) : State :=
  let die := if 32 ≤ d then 1 else 0
  (List.range 8).foldl (fun s m =>
    let k := die * 8 + m
    drainMaster k 65 (s.onMaster k fun x => { x with txns := x.txns.map fun t => if t.target = d ∧ t.done = false then { t with done := true, resp := 3 } else t })) s

/-- A forced gate ends its 256 cycles (R404): what is outstanding at the port is answered GATED, the stop ramp begins,
and the event is counted and logged. -/
def forceGate (d : Nat) (s : State) : State :=
  let o := outstandingAt d s
  let s1 := (gateOutstanding d s).onClocks fun c =>
    { c with domains := tmod {} c.domains d fun x => { x with port := .stopping, ramping := true, upward := false }, forced := inc c.forced }
  let s2 := onKind 0x0505 (fun k => { k with corrected := inc k.corrected }) (addHistory 0x0505 1 d o 1 (decide (32 ≤ d)) false s1)
  raise 0x0D86 2 d o s2

/-! ### Commands (R470 to R473) -/

/-- A kind that cannot be injected: tamper, vault and supply kinds, and those R459 does not list (R469). -/
def injectable (kind : Nat) : Bool := decide (kind ∈ [0x01, 0x02, 0x03, 0x04, 0x05, 0x06, 0x07, 0x08, 0x0A, 0x0B])

/-- Instances of a kind (R470). [DEDUCED, log 98] -/
def instanceLimit (kind : Nat) : Nat :=
  match kind with
  | 0x02 => 4
  | 0x03 => 130
  | 0x04 => 9
  | 0x05 => 8
  | 0x0A => 2
  | _ => 65536

/-- The checker's detection is Fatal-D (R459): Wheelhouse memory at two bits, clocks, thermal, the dies' watch. [DEDUCED, log 98] -/
def fatalChecker (kind bits : Nat) : Bool := decide (kind = 0x07 ∨ kind = 0x08 ∨ kind = 0x0B ∨ (kind = 0x06 ∧ bits = 2))

/-- READ_FAULTS (R471). -/
def readFaultsInfo : CmdInfo := { opcode := 0x0F01, readOnly := true, length := fun _ => 8 }

/-- The reply of READ_FAULTS (R471). -/
def readFaultsBytes (s : State) : List Byte :=
  let view := s.faults.hist.foldl (fun m e => memWrite m ((e.seq + 31) % 32 * 32) (histBytes e)) []
  firstFaultBytes s.faults.first ++ toLe 4 s.faults.head ++ toLe 4 s.faults.hseq ++ List.replicate 216 0#8 ++ memRead view 0 1024

/-- The effect of READ_FAULTS. -/
def readFaults (c : Cmd) (s : State) : Res := reply c 0 1280 0 (readFaultsBytes s) s

/-- SET_FAULT_POLICY (R472). -/
def setFaultPolicyInfo : CmdInfo := { opcode := 0x0F02, length := fun _ => 8, gen := fun _ s => some s.obj.faultPol.gen }

/-- The effect of SET_FAULT_POLICY. [DEDUCED, log 14] -/
def setFaultPolicy (c : Cmd) (s : State) : Res :=
  let a := if c.u32 0 = 0 then 1000 else c.u32 0
  let n := if c.u16 4 = 0 then 100 else c.u16 4
  if a < 100 ∨ 60000 < a then rej .range 0x20 s
  else
    let o := s.obj.faultPol
    let p : FaultPolObj := { autoResetMs := a, rateLimit := n, gen := o.gen }
    if p = o then ok s
    else ok ((s.onObj fun x => { x with faultPol := { p with gen := genNext o.gen } }).touch 0x0F 0)

/-- INJECT_FAULT (R470). -/
def injectFaultInfo : CmdInfo := { opcode := 0x0F03, length := fun _ => 16 }

/-- An injection is armed on the same checker. -/
def injectionArmed (kind inst : Nat) (west : Bool) (s : State) : Bool :=
  s.faults.injects.any fun i => i.kind = kind ∧ i.inst = inst ∧ i.west = west

/-- The effect of INJECT_FAULT. [DEDUCED, log 98] -/
def injectFault (c : Cmd) (s : State) : Res :=
  let kind := c.u8 0
  match firstBad [(injectable kind, 0x20), (decide (c.u8 1 ≤ 1), 0x21), (decide (c.u16 2 < instanceLimit kind), 0x22),
      (decide (c.u8 4 = 1 ∨ c.u8 4 = 2), 0x24), (decide (1 ≤ c.u16 6 ∧ c.u16 6 ≤ 255), 0x26), (decide (1 ≤ c.u32 8 ∧ c.u32 8 ≤ 60000), 0x28)] with
  | some off => rej .range off s
  | none =>
    if fatalChecker kind (c.u8 4) ∧ bitOf (c.u8 5) 0 = false then rej .state 0x25 s
    else if injectionArmed kind (c.u16 2) (decide (c.u8 1 = 1)) s then rej .busy 0 s
    else queued (.inject kind) (s.onFaults fun f => { f with injects := f.injects ++
      [{ kind := kind, west := decide (c.u8 1 = 1), inst := c.u16 2, bits := c.u8 4, left := c.u16 6, done := 0, ticks := msTicks (c.u32 8), job := s.mbox.nextJob }] })

/-- CLEAR_FIRST_FAULT (R473). -/
def clearFirstFaultInfo : CmdInfo := { opcode := 0x0F04, length := fun _ => 8 }

/-- The effect of CLEAR_FIRST_FAULT. [DEDUCED, log 96] -/
def clearFirstFault (c : Cmd) (s : State) : Res :=
  if c.u16 0 ≠ s.faults.first.code then rej .stale 0x0008 s else ok (s.onFaults fun f => { f with first := {} })

/-! ### The fault block of the Chart (R474) -/

/-- The fault block's bytes. -/
def faultBlock (s : State) : List Byte :=
  let kinds := (List.range 14).flatMap fun k =>
    let x := tget {} s.faults.kinds k
    [(0x40 + k * 16, 4, x.corrected), (0x44 + k * 16, 4, x.contained), (0x48 + k * 16, 4, x.fatal), (0x4C + k * 16, 4, x.injected)]
  let ms := (List.range 16).flatMap fun k =>
    let m := s.master k
    [(0x200 + k * 32, 2, m.outMax), (0x204 + k * 32, 4, m.holdBacks), (0x208 + k * 32, 4, m.midBurst), (0x20C + k * 32, 4, m.errors),
     (0x210 + k * 32, 4, m.gated), (0x214 + k * 32, 4, m.timeouts), (0x218 + k * 32, 8, m.total)]
  recordBytes 0x400 ([(4, 1, s.faults.alive), (5, 1, min 255 (max s.time.missedEast s.time.missedWest)), (8, 4, s.obj.faultPol.gen),
    (0x0C, 4, s.faults.entries), (0x10, 4, s.faults.waitMs)] ++ kinds ++ ms)

/-! ### Time (R468, R470) -/

/-- An injection whose time has passed: INJECT_FAULT times out with the checks affected so far (R470). -/
def injectionTimeout (i : Inject) (s : State) : State :=
  finishNow i.job .timedOut 0 i.done (s.onFaults fun f => { f with injects := f.injects.filter fun j => j ≠ i })

/-- One tick of the armed injections: the oldest that has run out times out. -/
def tickInjections (s : State) : State :=
  let s1 := s.onFaults fun f => { f with injects := f.injects.map fun i => { i with ticks := i.ticks - 1 } }
  (s1.faults.injects.filter fun i => i.ticks = 0).foldl (fun s i => injectionTimeout i s) s1

/-- One tick of the collector: injections that run out, merged reports whose second has passed, and OUTSTANDING_MAX (R470, R474, R475). -/
def tickCollector (s : State) : State :=
  raiseMerged ((tickInjections s).onFaults fun f => { f with masters := f.masters.map fun e => (e.1, e.2.watched s.elapsed) })

/-- The 48th consecutive missed tick of a die (R468). [DEDUCED, log 39] -/
def watchdog (west : Bool) (s : State) : State :=
  let n := if west then s.time.missedWest else s.time.missedEast
  if s.serving ∧ 48 ≤ n then fatalD 0x0604 (bit west) n west false s else s

/-! ### The meanings -/

/-- READ_FAULTS. -/
def execReadFaults (c : Cmd) (s : State) : Answer := answer (runCmd readFaultsInfo readFaults c s)

/-- SET_FAULT_POLICY. -/
def execSetFaultPolicy (c : Cmd) (s : State) : Answer := answer (runCmd setFaultPolicyInfo setFaultPolicy c s)

/-- INJECT_FAULT. -/
def execInjectFault (c : Cmd) (s : State) : Answer := answer (runCmd injectFaultInfo injectFault c s)

/-- CLEAR_FIRST_FAULT. -/
def execClearFirstFault (c : Cmd) (s : State) : Answer := answer (runCmd clearFirstFaultInfo clearFirstFault c s)

/-- INJECTION_TIMEOUT: TIMEOUT_MS has passed for an armed injection (R470). -/
def execInjectionTimeout (kind : Nat) (west : Bool) (inst : Nat) (s : State) : Answer :=
  match s.faults.injects.find? fun i => i.kind = kind ∧ i.west = west ∧ i.inst = inst with
  | some i => answer (injectionTimeout i s)
  | none => answer s

/-- WHEELHOUSE_WATCHDOG: the 48th missed tick declares Fatal-D (R468). -/
def execWheelhouseWatchdog (west : Bool) (s : State) : Answer := answer (watchdog west s)

/-- FABRIC_REQUEST (R449 to R454). -/
def execFabricRequest (q : FabricReq) (s : State) : Answer := answer (fabricRequest q s)

/-- TARGET_TIMEOUT (R455). -/
def execTargetTimeout (die master stream : Nat) (s : State) : Answer := answer (targetTimeout die master stream s)

/-- MASTER_RESET (R456). -/
def execMasterReset (die master : Nat) (s : State) : Answer := answer (masterReset die master s)

end Sys2Proof.Machine
end

