-- ==== Sys2Proof/Machine/Clocks.lean ====
section
/-! DEFINITION.  Clocks, power and heat (spec/13_clocks_and_power.md). -/

namespace Sys2Proof.Machine
open Sys2Proof

/-! ### Anvils, root and holdover (R396 to R409) -/

/-- An Anvil: 0 East A, 1 East B, 2 West A, 3 West B. -/
def State.anvil (s : State) (a : Nat) : AnvilRt := tget {} s.clocks.anvils a

/-- Change an Anvil. -/
def State.onAnvil (s : State) (a : Nat) (f : AnvilRt → AnvilRt) : State :=
  s.onClocks fun c => { c with anvils := tmod {} c.anvils a f }

/-- The Anvils of one refclk are eligible on both dies (R397). -/
def bothEligible (clockB : Bool) (s : State) : Bool := (s.anvil (bit clockB)).eligible && (s.anvil (2 + bit clockB)).eligible

/-- Move the root of both dies to the Anvils of a refclk (R398). [DEDUCED, log 90] -/
def switchRoot (toB forced : Bool) (s : State) : State :=
  raise 0x0D81 1 0 (bit toB + 2 * bit forced)
    (s.onClocks fun c => { c with rootB := toB, rooted := true, holdover := false, holdFor := 0, switches := inc c.switches })

/-- The selected Anvil holds over (R406): the other takes the root at once if it is eligible on both dies, else the root
stays held and every output hold is marked until the debt is paid (R407). [DEDUCED, log 90] -/
def startHoldover (s : State) : State :=
  let s1 := raise 0x0D83 2 (bit s.clocks.rootB) (ofInt 32 s.clocks.slewDebt) (s.onClocks fun c => { c with holdovers := inc c.holdovers })
  if bothEligible (!s.clocks.rootB) s1 then switchRoot (!s.clocks.rootB) true s1
  else s1.onClocks fun c => { c with holdover := true, holdFor := 0, marking := true }

/-- The Anvils of a refclk lose eligibility, and lock too when their refclk is bad. -/
def dropAnvils (clockB lock : Bool) (s : State) : State :=
  let f : AnvilRt → AnvilRt := fun a => { a with eligible := false, locked := a.locked && lock, eligFor := 0 }
  (s.onAnvil (bit clockB) f).onAnvil (2 + bit clockB) f

/-- A refclk trip (R405): 1 missing, 2 frequency, 3 disagreement. -/
def refclkFault (clockB : Bool) (cause : Nat) (s : State) : State :=
  let s1 := s.onClocks fun c => { c with trips := inc c.trips }
  let s2 := if cause = 1 ∧ s.pins.perstN = false then s1 else raise 0x0D82 2 (bit clockB) cause s1
  if cause = 3 then dropAnvils (!s.clocks.rootB) true (s2.onClocks fun c => { c with disagree := true })
  else
    let s3 := dropAnvils clockB false (s2.onClocks fun c => if clockB then { c with cleanB := false } else { c with cleanA := false })
    if s.clocks.rooted ∧ s.clocks.rootB = clockB ∧ s.clocks.holdover = false then startHoldover s3 else s3

/-- The selected Anvil's phase error exceeds its limit (R405, R406). -/
def anvilUnlock (s : State) : State :=
  let s1 := dropAnvils s.clocks.rootB false (s.onClocks fun c => { c with trips := inc c.trips })
  if s.clocks.rooted ∧ s.clocks.holdover = false then startHoldover s1 else s1

/-- A refclk has run 100 ms without a trip (R405). [DESIGN CHOICE, log 8] -/
def refclkClean (clockB : Bool) (s : State) : State :=
  s.onClocks fun c => { c with cleanA := c.cleanA || !clockB, cleanB := c.cleanB || clockB,
                               disagree := if clockB ≠ c.rootB then false else c.disagree }

/-- The refclk of an Anvil is clean, and no standing disagreement bars it (R405). -/
def mayLock (clockB : Bool) (s : State) : Bool :=
  (if clockB then s.clocks.cleanB else s.clocks.cleanA) && !(s.clocks.disagree && decide (clockB ≠ s.clocks.rootB))

/-- An Anvil locks and trims its phase (R396).  It may end a holdover, the debt counted meanwhile being `debt` (R406, R407),
or give a start its root (R409). [DESIGN CHOICE, log 8] -/
def anvilLocked (a : Nat) (debt : Int) (s : State) : State :=
  let clockB := decide (a % 2 = 1)
  if !mayLock clockB s then s
  else
    let s1 := raise 0x0D84 0 (a % 2 + 256 * (a / 2)) 0 (s.onAnvil a fun x => { x with locked := true, eligible := true, eligFor := 0 })
    if !s.clocks.rooted ∧ bothEligible clockB s1 then s1.onClocks fun c => { c with rooted := true, rootB := clockB }
    else if s.clocks.holdover ∧ clockB ≠ s.clocks.rootB ∧ bothEligible clockB s1 then
      switchRoot clockB true (s1.onClocks fun c => { c with slewDebt := c.slewDebt + debt, marking := decide (360 ≤ (c.slewDebt + debt).natAbs) })
    else s1

/-- No Anvil of both dies eligible 10 ms into holdover (R406 step 4). -/
def holdoverTimeout (s : State) : State :=
  if s.clocks.holdover ∧ (bothEligible true s || bothEligible false s) = false then fatalD 0x0701 0 0 false false s else s

/-- A root frequency trip, or a switch that does not complete (R408). -/
def rootTrip (west : Bool) (s : State) : State :=
  fatalD 0x0702 (bit west) 0 west false (s.onClocks fun c => { c with trips := inc c.trips })

/-- The preferred Anvil, eligible for 1 s, takes the root back (R398). -/
def preferredReturn (s : State) : State :=
  let p := s.obj.powerPol.preferAnvil
  let toB := decide (p = 2)
  if (p = 1 ∨ p = 2) ∧ s.clocks.rooted ∧ s.clocks.holdover = false ∧ s.clocks.rootB ≠ toB ∧ bothEligible toB s = true ∧
      48000 ≤ (s.anvil (bit toB)).eligFor ∧ 48000 ≤ (s.anvil (2 + bit toB)).eligFor then
    switchRoot toB false s
  else s

/-- The debt a tick leaves: 30 root cycles are removed in the 300,000 of a tick (R407). [DEDUCED, log 91] -/
def slewTick (d : Int) : Int := if 30 ≤ d then d - 30 else if d ≤ -30 then d + 30 else 0

/-- The debt is below 360 root cycles: holds are no longer marked (R407). -/
def slewCleared (s : State) : State :=
  if s.clocks.holdover then s
  else s.onClocks fun c => { c with marking := false, slewDebt := clampI (-359) 359 c.slewDebt }

/-! ### Domains and gating (R399, R400, R403) -/

/-- The divisor of the root that gives a domain its clock, 0 for a domain of another source; the Scrub and repair domains run at half rate
under ECO (R399). -/
def rootDivisor (d : Nat) (halved : Bool) : Nat :=
  let i := if 32 ≤ d ∧ d ≤ 58 then d - 32 else d
  if d = 27 then 12 else if d = 29 then 144 else if d = 30 then 1152
  else if i = 24 then (if halved then 48 else 24)
  else if i ≤ 1 ∨ i = 4 then 9 else if i ≤ 3 ∨ i = 5 ∨ i = 22 then 18 else if i = 6 ∨ i = 25 ∨ i = 26 then 36
  else if i = 7 ∨ i = 8 ∨ i = 23 then 12 else if i = 9 ∨ i = 10 then 3 else if i ≤ 19 then 32 else if i = 20 ∨ i = 21 then 6 else 0

/-- Nanoseconds of a ramp: 16 steps of 1 µs, of 4 µs for the Basin (R400). -/
def rampNs (d : Nat) : Nat := if d = 0 ∨ d = 32 then 64000 else 16000

/-- A clock domain and its port. -/
def State.domain (s : State) (d : Nat) : DomainRt := tget {} s.clocks.domains d

/-- Change a domain. -/
def State.onDomain (s : State) (d : Nat) (f : DomainRt → DomainRt) : State :=
  s.onClocks fun c => { c with domains := tmod {} c.domains d f }

/-- The last column of R399: when a domain may be gated. -/
def gateable (d : Nat) (s : State) : Bool :=
  let die := if 32 ≤ d then 1 else 0
  let i := d - 32 * die
  if i = 3 ∨ i = 4 then (List.range 16).all fun h => (s.head (die * 16 + h)).gated
  else if 11 ≤ i ∧ i ≤ 18 ∧ d ≠ 27 ∧ d < 59 then
    (List.range 8).all fun k =>
      let l := s.lane (die * 64 + (i - 11) * 8 + k)
      decide (l.rx = .off ∨ l.rx = .moored) && decide (l.tx = .off ∨ l.tx = .moored)
  else false

/-- A port closes through its handshake, or a gated one opens (R403): nothing outstanding lets the stop ramp begin. -/
def quiesce (d : Nat) (close : Bool) (s : State) : State :=
  let x := s.domain d
  if close then
    if x.port = .opened ∧ gateable d s = true ∧ x.retryAfter ≤ s.elapsed ∨ x.port = .draining then
      if outstandingAt d s = 0 then s.onDomain d fun x => { x with port := .stopping, ramping := true, upward := false }
      else s.onDomain d fun x => { x with port := .draining }
    else s
  else if x.port = .gated then
    (s.onDomain d fun x => { x with port := .starting, ramping := true, upward := true, running := true }).onFaults fun f =>
      { f with targets := tmod {} f.targets ((if 32 ≤ d then 256 else 0) + d) fun t => { t with hung := false, times := [] } }
  else s

/-- The drain has not ended in its 4,096 cycles: the port opens again (R403). -/
def quiesceAbandoned (d : Nat) (s : State) : State :=
  if (s.domain d).port = .draining ∧ s.dev ≠ .fatalD ∧ s.dev ≠ .fatalS then
    raise 0x0D85 1 d (outstandingAt d s)
      ((s.onDomain d fun x => { x with port := .opened, retryAfter := s.elapsed + 48000 }).onClocks fun c => { c with abandoned := inc c.abandoned })
  else s

/-- The 256 cycles of a forced gate have passed (R404). -/
def forcedGateRow (d : Nat) (s : State) : State :=
  if (s.domain d).port = .draining ∧ (s.dev = .fatalS ∨ (s.dev = .fatalD ∧ s.faults.thermal = true)) then forceGate d s else s

/-- A ramp's 16 steps are done (R400). -/
def rampComplete (d : Nat) (s : State) : State :=
  let x := s.domain d
  if !x.ramping then s
  else if x.port = .stopping then s.onDomain d fun x => { x with ramping := false, rampFor := 0, running := false, port := .gated }
  else if x.port = .starting then s.onDomain d fun x => { x with ramping := false, rampFor := 0, running := true, port := .opened }
  else s.onDomain d fun x => { x with ramping := false, rampFor := 0 }

/-- Every domain but TCK runs, ports open: the dividers are released (R401, R421 step 2). -/
def releaseDividers (s : State) : State :=
  s.onClocks fun c => { c with domains := (List.range 59).foldl (fun t d => tset {} t d { running := true, halved := (d % 32 = 24) && s.obj.trims.eco }) [] }

/-- The Scrub and repair domains change divisor with the Power trim (R399, R400). -/
def retimeScrub (eco : Bool) (s : State) : State :=
  let f : DomainRt → DomainRt := fun x => if x.halved = eco then x else { x with halved := eco, ramping := x.running }
  (s.onDomain 24 f).onDomain 56 f

/-! ### Supplies (R410 to R412) -/

/-- Nominal millivolts of a monitor (R410, R416). -/
def nominalMv : Nat → Nat
  | 0 => 750
  | 1 => 750
  | 2 => 850
  | 3 => 850
  | 4 => 900
  | 5 => 1100
  | 6 => 400
  | _ => 800

/-- A reading is inside the ±3 % of R410, which hold for every monitored rail. -/
def inTolerance (m mv : Nat) : Bool := decide (nominalMv m * 97 ≤ mv * 100) && decide (mv * 100 ≤ nominalMv m * 103)

/-- Note a rail reading (R416), and that a rail has been out of tolerance (R420). -/
def noteRail (m mv : Nat) (s : State) : State :=
  s.onClocks fun c => { c with railOut := c.railOut || !inTolerance m mv,
                               rails := tset 0 c.rails m mv,
                               railMin := match c.railMin.find? fun e => e.1 = m with
                                 | some e => tset 0 c.railMin m (min e.2 mv)
                                 | none => tset 0 c.railMin m mv }

/-- A rail below −4 % of nominal for 1 ms: SUPPLY_LOW once per excursion (R412). -/
def supplyLow (m mv : Nat) (s : State) : State :=
  let s1 := noteRail m mv s
  if mv * 100 < nominalMv m * 96 then
    if s.clocks.lowRails.contains m then s1
    else raise 0x0D89 2 m mv (s1.onClocks fun c => { c with lowRails := setAdd c.lowRails m })
  else s1.onClocks fun c => { c with lowRails := setDel c.lowRails m }

/-! ### Heat (R413 to R415, R438) -/

/-- The hottest reading, 0.1 °C. -/
def hottest : List Int → Int
  | [] => 0
  | t :: r => r.foldl max t

/-- The sensor that gives it. -/
def hottestSensor (ts : List Int) : Nat := ts.findIdx fun t => t = hottest ts

/-- Count thermal cycles (R438): 40 °C up from the lowest reading since the last count, then 40 °C down from the highest. -/
def thermalCycle (t : Int) (l : LogRt) : LogRt :=
  let lo := match l.low with
    | none => t
    | some x => min x t
  match l.high with
  | none => if lo + 400 ≤ t then { l with low := some lo, high := some t } else { l with low := some lo }
  | some h =>
    if t + 400 ≤ max h t then { l with cycles := inc l.cycles, low := some t, high := none } else { l with low := some lo, high := some (max h t) }

/-- The throttle's next step after a sample of hottest reading `t` (R414). [DEDUCED, log 91] -/
def throttleNext (t : Int) (s : State) : Nat :=
  let c := s.clocks
  let lim : Int := 10 * s.obj.powerPol.throttleC
  if lim ≤ t then
    if c.throttle = 0 then (if 2 ≤ c.hot + 1 then 1 else 0)
    else if c.throttle < 3 ∧ msTicks s.obj.powerPol.stepMs ≤ c.inStep + 48 then c.throttle + 1
    else c.throttle
  else if 0 < c.throttle ∧ c.throttle ≤ 3 ∧ t < lim - 50 ∧ 48000 ≤ c.coolFor + 48 then c.throttle - 1
  else c.throttle

/-- The sensors are sampled, every 1 ms (R414). [DEDUCED, log 90] -/
def thermalSample (temps : List Int) (mw : Nat) (s : State) : State :=
  let t := hottest temps
  let lim : Int := 10 * s.obj.powerPol.throttleC
  let old := s.clocks.throttle
  let n := if old = 4 then 4 else throttleNext t s
  let s1 := s.onClocks fun c =>
    { c with temps := temps, powerMw := mw, throttle := n, hot := if lim ≤ t then min 2 (c.hot + 1) else 0,
             inStep := if n = old then c.inStep + 48 else 0,
             coolFor := if n < old then 0 else if t < lim - 50 then c.coolFor + 48 else 0,
             entries := if old = 0 ∧ n = 1 then inc c.entries else c.entries,
             throttleTicks := if 1 ≤ n then c.throttleTicks + 48 else c.throttleTicks }
  let s2 := s1.onLog fun l => thermalCycle t { l with tempMax := max l.tempMax t }
  if old < n then raise 0x0D87 2 n (ofInt 32 t) s2
  else if n < old then raise 0x0D88 1 old (ofInt 32 t) s2
  else s2

/-- Domains a thermal trip leaves running (R415). [DEDUCED, log 91] -/
def tripKeeps (d : Nat) : Bool :=
  let i := d % 32
  decide ((11 ≤ i ∧ i ≤ 19 ∧ d ≠ 59) ∨ i = 21 ∨ i = 22 ∨ d = 27 ∨ d = 28 ∨ d = 30 ∨ d = 31 ∨ d = 59)

/-- A thermal trip (R415): Fatal-D of cause THERMAL, and forced gates. [DEDUCED, log 91] -/
def thermalTrip (sensor : Nat) (temp : Int) (s : State) : State :=
  if temp < 1150 then s
  else
    let s1 := fatalD 0x0801 sensor (ofInt 64 temp) (decide (24 ≤ sensor)) false (s.onClocks fun c => { c with throttle := 4 })
    let s2 := s1.onFaults fun f => { f with thermal := true }
    ((List.range 59).filter fun d => !tripKeeps d).foldl beginForcedGate s2

/-! ### One tick (R398, R406, R407) -/

/-- A domain through one tick: its ramp ends after its time (R400), and a block that has work again is opened (R403). -/
def tickDomain (s : State) (d : Nat) : State :=
  let x := s.domain d
  if x.ramping then
    let s1 := s.onDomain d fun x => { x with rampFor := x.rampFor + 1 }
    if 3 * rampNs d ≤ 62500 * (x.rampFor + 1) then rampComplete d s1 else s1
  else if s.serving && decide (x.port = .gated) && !gateable d s then quiesce d false s
  else s

/-- Clocks through one tick: eligibility ages, debt is slewed, a long holdover ends the service, a preferred Anvil returns,
and forced gates complete. -/
def tickClocks (s : State) : State :=
  let s1 := s.onClocks fun c =>
    { c with anvils := c.anvils.map (fun e => (e.1, if e.2.eligible then { e.2 with eligFor := e.2.eligFor + 1 } else e.2)),
             slewDebt := if c.holdover then c.slewDebt else slewTick c.slewDebt, holdFor := if c.holdover then c.holdFor + 1 else 0,
             aoAge := if c.aoUp then c.aoAge + 1 else c.aoAge }
  let s2 := if s1.clocks.marking ∧ s1.clocks.holdover = false ∧ s1.clocks.slewDebt.natAbs < 360 then slewCleared s1 else s1
  let s3 := if 480 ≤ s2.clocks.holdFor then holdoverTimeout s2 else s2
  let s4 := preferredReturn s3
  (List.range 59).foldl tickDomain ((List.range 59).foldl (fun s d => forcedGateRow d s) s4)

/-! ### Commands (R416, R417) -/

/-- READ_CLOCKS (R416). -/
def readClocksInfo : CmdInfo := { opcode := 0x0D01, readOnly := true, length := fun _ => 8 }

/-- A bitmap of the domains for which `p` holds. -/
def domainMap (s : State) (p : DomainRt → Bool) : Nat :=
  (List.range 60).foldl (fun a d => if p (s.domain d) then a + 2 ^ d else a) 0

/-- The clocks, power and heat block (R416). -/
def clocksBlock (s : State) : List Byte :=
  let c := s.clocks
  let a := (List.range 4).foldl (fun n i => n + 2 ^ i * bit (s.anvil i).locked + 2 ^ (i + 4) * bit (s.anvil i).eligible) 0
  recordBytes 512 ([(4, 1, bit c.rootB + 2 * bit c.holdover), (5, 1, a), (6, 1, bit c.cleanA + 2 * bit c.cleanB + 4 * bit c.disagree),
    (7, 1, c.throttle), (8, 2, ofInt 16 (hottest c.temps)), (0x0A, 1, hottestSensor c.temps), (0x0C, 4, c.powerMw),
    (0x10, 8, domainMap s fun d => d.running), (0x18, 8, domainMap s fun d => d.ramping), (0x20, 4, c.switches), (0x24, 4, c.holdovers),
    (0x28, 4, c.trips), (0x2C, 4, c.abandoned), (0x30, 4, c.forced), (0x34, 4, c.gatedResp), (0x38, 4, ofInt 32 c.slewDebt),
    (0x3C, 4, c.entries), (0x40, 8, c.throttleTicks / 48), (0x48, 4, s.obj.powerPol.gen)]
    ++ ((List.range 48).map fun i => (0x50 + i * 2, 2, ofInt 16 (c.temps.getD i 0)))
    ++ ((List.range 8).flatMap fun m => [(0xB0 + m * 4, 2, tget 0 c.rails m), (0xB2 + m * 4, 2, tget 0 c.railMin m)]))

/-- The effect of READ_CLOCKS: the admitting tick's values, under the SEQ of the Chart block. -/
def readClocks (c : Cmd) (s : State) : Res := reply c 0 512 0 (toLe 4 (s.hdmNat 0x23E4000 4) ++ (clocksBlock s).drop 4) s

/-- SET_POWER_POLICY (R417). -/
def setPowerPolicyInfo : CmdInfo := { opcode := 0x0D02, length := fun _ => 8, gen := fun _ s => some s.obj.powerPol.gen }

/-- The effect of SET_POWER_POLICY. -/
def setPowerPolicy (c : Cmd) (s : State) : Res :=
  let t := if c.u8 0 = 0 then 100 else c.u8 0
  let m := if c.u16 2 = 0 then 100 else c.u16 2
  match firstBad [(decide (85 ≤ t ∧ t ≤ 100), 0x20), (decide (c.u8 1 ≤ 2), 0x21), (decide (10 ≤ m ∧ m ≤ 10000), 0x22)] with
  | some off => rej .range off s
  | none =>
    let o := s.obj.powerPol
    let p : PowerPolObj := { throttleC := t, preferAnvil := c.u8 1, stepMs := m, gen := o.gen }
    if p = o then ok s
    else ok ((s.onObj fun x => { x with powerPol := { p with gen := genNext o.gen } }).touch 0x0D 0)

/-! ### The meanings -/

/-- READ_CLOCKS. -/
def execReadClocks (c : Cmd) (s : State) : Answer := answer (runCmd readClocksInfo readClocks c s)

/-- SET_POWER_POLICY. -/
def execSetPowerPolicy (c : Cmd) (s : State) : Answer := answer (runCmd setPowerPolicyInfo setPowerPolicy c s)

/-- REFCLK_FAULT (R405). -/
def execRefclkFault (clockB : Bool) (cause : Nat) (s : State) : Answer := answer (refclkFault clockB cause s)

/-- ANVIL_UNLOCK (R406). -/
def execAnvilUnlock (s : State) : Answer := answer (anvilUnlock s)

/-- REFCLK_CLEAN (R405). -/
def execRefclkClean (clockB : Bool) (s : State) : Answer := answer (refclkClean clockB s)

/-- ANVIL_LOCKED (R396). -/
def execAnvilLocked (anvil : Nat) (debt : Int) (s : State) : Answer := answer (anvilLocked anvil debt s)

/-- ANVIL_HOLDOVER_TIMEOUT (R406). -/
def execAnvilHoldoverTimeout (s : State) : Answer := answer (holdoverTimeout s)

/-- ROOT_FREQUENCY_TRIP (R408). -/
def execRootFrequencyTrip (west : Bool) (s : State) : Answer := answer (rootTrip west s)

/-- PREFERRED_ANVIL_RETURN (R398). -/
def execPreferredAnvilReturn (s : State) : Answer := answer (preferredReturn s)

/-- SLEW_DEBT_CLEARED (R407). -/
def execSlewDebtCleared (s : State) : Answer := answer (slewCleared s)

/-- SUPPLY_LOW (R412). -/
def execSupplyLow (monitor millivolts : Nat) (s : State) : Answer := answer (supplyLow monitor millivolts s)

/-- THERMAL_SAMPLE (R414). -/
def execThermalSample (temps : List Int) (powerMw : Nat) (s : State) : Answer := answer (thermalSample temps powerMw s)

/-- THERMAL_TRIP (R415). -/
def execThermalTrip (sensor : Nat) (temp : Int) (s : State) : Answer := answer (thermalTrip sensor temp s)

/-- QUIESCE (R403). -/
def execQuiesce (domain : Nat) (close : Bool) (s : State) : Answer := answer (quiesce domain close s)

/-- QUIESCE_ABANDONED (R403). -/
def execQuiesceAbandoned (domain : Nat) (s : State) : Answer := answer (quiesceAbandoned domain s)

/-- FORCED_GATE (R404). -/
def execForcedGate (domain : Nat) (s : State) : Answer := answer (forcedGateRow domain s)

/-- DOMAIN_RAMP_COMPLETE (R400). -/
def execDomainRampComplete (domain : Nat) (s : State) : Answer := answer (rampComplete domain s)

end Sys2Proof.Machine
end

