-- ==== Sys2Proof/Machine/HostLink.lean ====
section
/-! DEFINITION.  The host link, the doorbells, the device and session commands
(spec/03_mailboxes_and_cxl.md). -/

namespace Sys2Proof.Machine
open Sys2Proof

/-! ### Doorbells and ring faults (R72 to R75) -/

/-- A host transaction under IDE: the use of an orphaned key is counted. -/
def useIde (s : State) : State :=
  if s.keys.ide.any fun e => e.2.active && e.2.orphaned then s.onKeys fun k => { k with orphanIde := inc k.orphanIde } else s

/-- A record's SESSION field, read from the ring. -/
def recSession (s : State) (ch unit : Nat) : Nat := s.hdmNat (sqAddr ch unit + 4) 2

/-- A record's PAYLOAD_LENGTH field, read from the ring. -/
def recLength (s : State) (ch unit : Nat) : Nat := s.hdmNat (sqAddr ch unit + 0x18) 4

/-- Units that a record of a payload length occupies (R72). -/
def unitsOf (len : Nat) : Nat := (32 + len + 31) / 32

/-- The fault of the record at a unit, `room` units being announced from there (R74): 2 too long, 3 beyond the tail. [DEDUCED, log 24] -/
def recFault (s : State) (ch unit room : Nat) : Option Nat :=
  let n := recLength s ch unit
  if 4096 < n then some 2 else if room < unitsOf n then some 3 else none

/-- The first faulty record among those announced from a unit, if any; and whether one of them names session 0. [DEDUCED, log 24] -/
def scanRecords (s : State) (ch : Nat) : Nat → Nat → Nat → Option (Nat × Nat) × Bool
  | 0, _, _ => (none, false)
  | fuel + 1, unit, room =>
    if room = 0 then (none, false)
    else match recFault s ch unit room with
      | some cause => (some (cause, unit), decide (recSession s ch unit = 0))
      | none =>
        let n := unitsOf (recLength s ch unit)
        let r := scanRecords s ch fuel ((unit + n) % 4096) (room - n)
        (r.1, r.2 || decide (recSession s ch unit = 0))

/-- RING_FAULT (R74): the channel stops, or closes at once where no session is open on it. [DEDUCED, log 24] -/
def ringFault (ch cause unit : Nat) (s : State) : State :=
  let s1 := raise 0x0183 3 ch (cause + 65536 * unit) (syncChannel ch (s.onChan ch fun c => { c with ringFault := true }))
  if ch < 3 ∨ (s.chan ch).isOpen = false then closeChannel ch s1 else s1

/-- A doorbell write (R72 to R75): the tail is announced, its records eligible from the next tick. -/
def doorbell (ch value : Nat) (s : State) : State :=
  let c := s.chan ch
  if ch = 0 ∨ 64 ≤ ch ∨ s.serving = false ∨ s.hdmUp = false ∨ c.ringFault = true then s
  else if 4095 < value then ringFault ch 1 (c.headShown.getD c.sqHead) s
  else
    let seen := scanRecords s ch 4096 c.sqHead (unitsTo c.sqHead value)
    if 3 ≤ ch ∧ c.isOpen = false ∧ c.sqTail ≠ value ∧ seen.2 = false then
      match seen.1 with
      | some (cause, unit) => ringFault ch cause unit s
      | none => s
    else s.onChan ch fun c => { c with sqTail := value, elig := if value = c.sqTail then c.elig else c.elig ++ [(value, s.now + 1)] }

/-! ### The link (R56 to R61, R73) -/

/-- Discard the completions still owed on a channel; the commands run on (R59, R70). -/
def disown (p : Nat → Bool) (s : State) : State :=
  s.onMbox fun m => { m with jobs := m.jobs.map fun j => if p j.cmd.ch then { j with owed := false } else j }

/-- Close every open session of channels 3 to 63. -/
def closeSessions (s : State) : State :=
  ((List.range 61).map (· + 3)).foldl (fun s ch => if (s.chan ch).isOpen then closeChannel ch s else s) s

/-- The interrupt settings of R91 return to their defaults. -/
def defaultIrqs (s : State) : State :=
  s.onMbox fun m =>
    { m with channels := m.channels.map (fun e => (e.1, { e.2 with irq := { e.2.irq with vector := 4 + e.1 % 60, n := 1, m := 0, next := none } })),
             rings := m.rings.map (fun e => (e.1, { e.2 with irq := { e.2.irq with vector := e.1, n := 1, m := 0, next := none } })),
             msixPending := 0 }

/-- A link loss (R59): the CXL controller, its PHY and configuration space are reset; sessions close, completions owed are
discarded, notification and interrupt settings go, and a later IDE stream needs new keys; everything else runs on. -/
def linkLoss (cause : LossCause) (s : State) : State :=
  let s0 := if cause = .perst then s.onPins fun p => { p with perstN := false } else s
  let s1 := closeSessions (disown (fun ch => decide (1 ≤ ch)) s0)
  let s2 := (s1.onKeys fun k => { k with ide := [] }).onHost fun h =>
    { h with link := .down, linkWidth := 0, linkRate := 0, linkLost := true, dec0 := none, dec1 := none,
             msixTable := [], config := [], bar2 := [], ideIo := false, ideMem := false }
  let s3 := defaultIrqs (s2.onMbox fun m => { m with notifyAddr := 0, notifyOn := false })
  masterReset 0 1 s3

/-- Reset the mailbox rings of channels 1 to 63; a record held for its tick goes with its ring. -/
def resetAllRings (s : State) : State := ((List.range 63).map (· + 1)).foldl (fun s ch => resetRings ch s) s

/-- The link may train (R422, R529): not while PERST_N is asserted or the dies are OFF, nor in a cold start before step 9. [DEDUCED, log 27] -/
def mayTrain (s : State) : Bool := s.pins.perstN && decide (s.dev ≠ .off) && !(s.dev.starting && decide (s.start.stepNo < 9) && !s.start.warm)

/-- The link reaches L0 as CXL: after a link loss, the mailbox rings are reset (R59). [DESIGN CHOICE, log 8] [DEDUCED, log 27] -/
def cxlLinkUp (width rate : Nat) (s : State) : State :=
  if !mayTrain s then s
  else
    let s1 := s.onHost fun h => { h with link := .cxl, linkWidth := width, linkRate := rate, linkLost := false, trained := true }
    if s.host.linkLost then resetAllRings s1 else s1

/-- The link trains as plain PCI Express (R58): no HDM, channel 0 alone. [DEDUCED, log 27] -/
def pcieLinkUp (width rate : Nat) (s : State) : State :=
  if !mayTrain s then s
  else
    let s1 := s.onHost fun h => { h with link := .pcie, linkWidth := width, linkRate := rate, linkLost := false, trained := true, dec0 := none,
                                         dec1 := none }
    if s.host.linkLost then resetAllRings s1 else s1

/-- PERST_N is deasserted (R529): link training may begin. -/
def perstDeasserted (s : State) : State := s.onPins fun p => { p with perstN := true }

/-- An HDM decoder is committed at a base address of the host's (R61). [DESIGN CHOICE, log 8] -/
def commitDecoder (decoder base : Nat) (s : State) : State :=
  if s.host.link = .cxl then s.onHost fun h => if decoder = 0 then { h with dec0 := some base } else { h with dec1 := some base }
  else s

/-- Room returns in an event ring: the host has moved EQ_HEAD (R90). -/
def eventSpace (ring head : Nat) (s : State) : State :=
  if s.hdmUp then ringCatchUp ring (s.hdmWrite (ringBase ring + 0x40) (toLe 4 head)) else s

/-- The moderation time of a ring has run out for its oldest unread record (R91): the ring becomes ready. -/
def moderationTimeout (event : Bool) (index : Nat) (s : State) : State :=
  if event then
    let q := (s.ringIrq index).prune (eqUnread s index)
    if q.timedOut s.elapsed then s.onRing index fun r => { r with irq := { q with ready := true } } else s
  else
    let q := (s.chIrq index).prune (cqUnread s index)
    if q.timedOut s.elapsed then s.onChan index fun c => { c with irq := { q with ready := true } } else s

/-- A session's lease is over (R71): SESSION_EXPIRED, and the session closes. -/
def leaseExpiry (ch : Nat) (s : State) : State :=
  let c := s.chan ch
  if c.isOpen ∧ c.leaseMs ≠ 0 ∧ msTicks c.leaseMs ≤ c.leaseAge then closeChannel ch (raise 0x0182 1 ch c.session s) else s

/-- One counted tick of every lease (R71); the ticks of a handover pause are not counted. -/
def tickLeases (s : State) : State :=
  if s.dev = .handover then s
  else s.onMbox fun m => { m with channels := m.channels.map fun e => if e.2.isOpen ∧ e.2.leaseMs ≠ 0 then (e.1, { e.2 with leaseAge := e.2.leaseAge + 1 }) else e }

/-- The leases that end with step 3 of the tick. -/
def expireLeases (s : State) : State := ((List.range 61).map (· + 3)).foldl (fun s ch => leaseExpiry ch s) s

/-! ### BAR0 (R62) -/

/-- A 64-bit register, or the 64-bit word of a wider one, of BAR0; unlisted offsets read zero and write-only ones read zero. [DEDUCED, log 23] [DESIGN CHOICE, log 130] -/
def bar0Read (s : State) (off : Nat) : Nat :=
  if off = 0x0000 then 0x1152 + 2 ^ 16 * 0xB0 + 2 ^ 32 * (Config.romVersion % 65536) + 2 ^ 48
  else if off = 0x0008 then deviceStateWord s
  else if off = 0x0010 then startProgressLow s + 2 ^ 32 * (s.start.startMs % 2 ^ 32)
  else if off = 0x0018 then s.time.tick % 2 ^ 64
  else if 0x0040 ≤ off ∧ off < 0x0060 then leNat (((firstFaultBytes s.faults.first).drop (off - 0x40)).take 8)
  else if off = 0x0080 then s.host.scratch
  else if 0x0800 ≤ off ∧ off < 0x0820 then leNat (memRead s.host.ddHeader (off - 0x800) 8)
  else if off = 0x0848 then ddStatusWord s
  else if 0x0880 ≤ off ∧ off < 0x08A0 then leNat (memRead s.host.ddCompletion (off - 0x880) 8)
  else if 0x1000 ≤ off ∧ off < 0x2000 then leNat (memRead s.host.ddPayload (off - 0x1000) 8)
  else if 0x2000 ≤ off ∧ off < 0x2400 then leNat ((List.range 8).map fun i => msixByte s (off - 0x2000 + i))
  else if off = 0x3000 then s.mbox.msixPending
  else if 0x4000 ≤ off ∧ off < 0x4200 ∧ off % 8 = 0 then channelStatus s ((off - 0x4000) / 8)
  else 0

/-- A 32-bit read of BAR0, aligned to 4 bytes: a half of the 64-bit word that holds it (R62). [DEDUCED, log 23] -/
def bar0Read32 (s : State) (off : Nat) : Nat :=
  if off % 8 = 0 then bar0Read s off % 2 ^ 32 else bar0Read s (off - 4) / 2 ^ 32 % 2 ^ 32

/-- The first 16 bytes of configuration space (R60): vendor, device, revision and class code at the places of the PCI header
(log entry 2).  A write does not change them. [PRESUMED, log 2] -/
def configHeader : List Byte := recordBytes 16 [(0, 2, 0xFAE1), (2, 2, 0x1152), (8, 1, 0xB0), (9, 3, 0x120000)]

/-- A base address register pair of 64 bits, non-prefetchable: the bits below the window's size read as zero but for the type (R60). [PRESUMED, log 2] -/
def barBytes (s : State) (at_ size : Nat) : List Byte :=
  let v := leNat (memRead s.host.config at_ 8)
  toLe 8 (v / size * size + 4)

/-- A capability of configuration space (R60), by number: where it stands is not in the spec, its contents follow the PCI Express and CXL
standards.  0 MSI-X, 1 AER, 2 device serial number, 3 DOE, 4 IDE, 5 DVSEC for CXL devices, 6 Flex Bus port DVSEC, 7 register locator DVSEC.
[PRESUMED, log 2] [PRESUMED, log 2] -/
def capBytes : Nat → List Byte
  | 0 => recordBytes 12 [(0, 1, 0x11), (2, 2, 63), (4, 4, 0x2000), (8, 4, 0x3000)]
  | 1 => recordBytes 4 [(0, 2, 0x0001)]
  | 2 => recordBytes 12 [(0, 2, 0x0003), (4, 8, Config.serial)]
  | 3 => recordBytes 4 [(0, 2, 0x002E)]
  | 4 => recordBytes 8 [(0, 2, 0x0030), (4, 4, 1)]
  | 5 => recordBytes 0x38 [(0, 2, 0x0023), (4, 2, 0x1E98), (6, 2, 0x0380), (8, 2, 0), (0x0A, 2, 1 + 2 + 4 + 16 * 2), (0x18, 4, 0), (0x1C, 4, 0x40000003),
      (0x28, 4, 3), (0x2C, 4, 0xC0000003)]
  | 6 => recordBytes 0x10 [(0, 2, 0x0023), (4, 2, 0x1E98), (6, 2, 0x0100), (8, 2, 7), (0x0A, 2, 1 + 2 + 4)]
  | 7 => recordBytes 0x14 [(0, 2, 0x0023), (4, 2, 0x1E98), (6, 2, 0x0140), (8, 2, 8), (0x0C, 4, 2 + 256 * 1), (0x10, 4, 0)]
  | _ => []

/-- The capability that holds a byte of configuration space, and its byte. -/
def capByte (off : Nat) : Option Byte :=
  (List.range 8).findSome? fun k => if Config.capOffset k ≤ off then (capBytes k)[off - Config.capOffset k]? else none

/-- A byte of configuration space (R60): the header, BAR0 of 1 MiB and BAR2 of 64 KiB, the capabilities, and what the host has written
elsewhere. [PRESUMED, log 2] -/
def configByte (s : State) (off : Nat) : Byte :=
  if off < 16 ∧ off ≠ 4 ∧ off ≠ 5 then configHeader.getD off 0#8
  else if 0x10 ≤ off ∧ off < 0x18 then (barBytes s 0x10 0x100000).getD (off - 0x10) 0#8
  else if 0x18 ≤ off ∧ off < 0x20 then (barBytes s 0x18 0x10000).getD (off - 0x18) 0#8
  else (capByte off).getD (memGet s.host.config off)

/-- The HDM offset of a host physical address (R61): decoder 0 maps the first GiB, decoder 1 the 15 GiB after it; none where the access of `n`
bytes does not lie within one of the two ranges. [DEDUCED, log 22] -/
def hdmOffset (s : State) (addr n : Nat) : Option Nat :=
  match s.host.dec0, s.host.dec1 with
  | some a, some b =>
    if a ≤ addr ∧ addr + n ≤ a + 0x40000000 then some (addr - a)
    else if b ≤ addr ∧ addr + n ≤ b + 0x3C0000000 then some (addr - b + 0x40000000)
    else none
  | _, _ => none

/-- The vectors that a write to the MSI-X table has unmasked while their pending bit stood: each sends its message, as PCI
Express defines. -/
def sendUnmasked (s : State) : State :=
  (List.range 64).foldl (fun s v =>
    if bitOf s.mbox.msixPending v ∧ msixMasked s v = false then clearVector (s.onMbox fun m => { m with msixPending := m.msixPending - 2 ^ v }) v
    else s) s

/-- Write bytes of the MSI-X table. -/
def msixWrite (s : State) : Nat → List Byte → State
  | _, [] => s
  | off, b :: r => msixWrite (s.onHost fun h => { h with msixTable := tset (if off % 16 = 12 then 1#8 else 0#8) h.msixTable off b }) (off + 1) r

/-! ### Device and session commands (R93 to R98) -/

/-- IDENTIFY (R93). -/
def identifyInfo : CmdInfo := { opcode := 0x0101, readOnly := true, length := fun _ => 8 }

/-- LINK of R93. -/
def linkWord (s : State) : Nat := s.host.linkWidth % 16 + 16 * (s.host.linkRate % 16) + 256 * bit (s.host.link = .cxl)

/-- The reply of IDENTIFY (R93). [DEDUCED, log 29] -/
def identifyBytes (s : State) : List Byte :=
  recordBytes 64 [(0, 2, 0xFAE1), (2, 2, 0x1152), (4, 1, 0xB0), (5, 1, roleByte s), (6, 1, s.dev.code), (7, 1, s.fw.running), (8, 8, Config.serial),
    (0x10, 4, s.fw.image.version), (0x14, 4, s.fw.image.partnerMin), (0x18, 4, Config.romVersion), (0x1C, 2, linkWord s), (0x1E, 1, trimsByte s),
    (0x20, 8, s.time.tick), (0x28, 4, s.obj.trims.gen), (0x30, 8, hdmSize)]

/-- The effect of IDENTIFY. -/
def identify (c : Cmd) (s : State) : Res := reply c 0 64 0 (identifyBytes s) s

/-- OPEN_SESSION (R94). -/
def openSessionInfo : CmdInfo := { opcode := 0x0102, length := fun _ => 24 }

/-- The privilege mask granted (R68): the request ANDed with the channel's ceiling. -/
def grantedMask (asked ch : Nat) (s : State) : Nat := Nat.land (Nat.land asked 0xFFFE) (tget 0x0000FFFE s.obj.ceilings ch)

/-- The effect of OPEN_SESSION (R69, R70, R94). [DESIGN CHOICE, log 132] -/
def openSession (c : Cmd) (s : State) : Res :=
  if (s.chan c.ch).draining then rej .busy 0 s
  else if c.u32 4 ≠ 0 ∧ (c.u32 4 < 100 ∨ 600000 < c.u32 4) then rej .range 0x24 s
  else
    let n := newSession s
    let m := grantedMask (c.u32 0) c.ch s
    let s1 := (s.onMbox fun x => { x with usedSessions := setAdd x.usedSessions n }).onChan c.ch fun k =>
      { k with isOpen := true, session := n, priv := m, leaseMs := c.u32 4, leaseAge := 0, label := c.bytes 8 16 }
    { s := syncChannel c.ch s1, detail := n + 65536 * m, session := some n }

/-- CLOSE_SESSION (R95). -/
def closeSessionInfo : CmdInfo := { opcode := 0x0103 }

/-- The effect of CLOSE_SESSION: the session closes behind the completion (R70). -/
def closeSession (c : Cmd) (s : State) : Res := { s := s, close := some c.ch }

/-- KEEPALIVE (R95). -/
def keepaliveInfo : CmdInfo := { opcode := 0x0108 }

/-- The effect of KEEPALIVE: its admission has renewed the lease. -/
def keepalive (_ : Cmd) (s : State) : Res := ok s

/-- SET_INTERRUPTS (R96). -/
def setInterruptsInfo : CmdInfo := { opcode := 0x0104, length := fun _ => 8 }

/-- The effect of SET_INTERRUPTS: the setting waits for the end of the tick. -/
def setInterrupts (c : Cmd) (s : State) : Res :=
  match firstBad [(decide (c.u8 0 ≤ 1), 0x20), (decide (c.u8 1 < if c.u8 0 = 0 then 64 else 4), 0x21), (decide (c.u8 2 < 64), 0x22),
      (decide (c.u16 4 ≤ 1024), 0x24), (decide (c.u16 6 ≤ 4800), 0x26)] with
  | some off => rej .range off s
  | none =>
    let q := (c.u8 2, if c.u16 4 = 0 then 1 else c.u16 4, c.u16 6)
    if c.u8 0 = 0 then
      let k := s.chIrq (c.u8 1)
      ok (s.onChan (c.u8 1) fun x => { x with irq := { k with next := some q } })
    else
      let k := s.ringIrq (c.u8 1)
      ok (s.onRing (c.u8 1) fun x => { x with irq := { k with next := some q } })

/-- SET_CHANNEL_CEILING (R97). -/
def setChannelCeilingInfo : CmdInfo := { opcode := 0x0105, length := fun _ => 8 }

/-- The effect of SET_CHANNEL_CEILING. -/
def setChannelCeiling (c : Cmd) (s : State) : Res :=
  let ch := c.u8 0
  if ch < 3 ∨ 63 < ch then rej .range 0x20 s
  else
    let m := Nat.land (c.u32 4) 0xFFFE
    let s1 := (s.onObj fun o => { o with ceilings := tset 0x0000FFFE o.ceilings ch m }).touch 0x01 ch
    let s2 := if (s.chan ch).isOpen then s1.onChan ch fun k => { k with priv := Nat.land k.priv m } else s1
    { s := s2, close := if bitOf (c.u8 1) 0 ∧ (s.chan ch).isOpen then some ch else none }

/-- SET_NOTIFY (R98). -/
def setNotifyInfo : CmdInfo := { opcode := 0x0106, length := fun _ => 16 }

/-- The effect of SET_NOTIFY. -/
def setNotify (c : Cmd) (s : State) : Res :=
  match firstBad [(decide (c.u64 0 % 64 = 0), 0x20), (decide (c.u8 8 ≤ 1), 0x28)] with
  | some off => rej .range off s
  | none => ok (s.onMbox fun m => { m with notifyAddr := c.u64 0, notifyOn := decide (c.u8 8 = 1) })

/-! ### The meanings -/

/-- IDENTIFY. -/
def execIdentify (c : Cmd) (s : State) : Answer := answer (runCmd identifyInfo identify c s)

/-- OPEN_SESSION. -/
def execOpenSession (c : Cmd) (s : State) : Answer := answer (runCmd openSessionInfo openSession c s)

/-- CLOSE_SESSION. -/
def execCloseSession (c : Cmd) (s : State) : Answer := answer (runCmd closeSessionInfo closeSession c s)

/-- KEEPALIVE. -/
def execKeepalive (c : Cmd) (s : State) : Answer := answer (runCmd keepaliveInfo keepalive c s)

/-- SET_INTERRUPTS. -/
def execSetInterrupts (c : Cmd) (s : State) : Answer := answer (runCmd setInterruptsInfo setInterrupts c s)

/-- SET_CHANNEL_CEILING. -/
def execSetChannelCeiling (c : Cmd) (s : State) : Answer := answer (runCmd setChannelCeilingInfo setChannelCeiling c s)

/-- SET_NOTIFY. -/
def execSetNotify (c : Cmd) (s : State) : Answer := answer (runCmd setNotifyInfo setNotify c s)

/-- COMMAND_UNKNOWN_OPCODE (R83, R100). -/
def execCommandUnknownOpcode (opcode : Nat) (c : Cmd) (s : State) : Answer := answer (runUnknown opcode c s)

/-- DOORBELL_WRITE (R72). -/
def execDoorbellWrite (ch value : Nat) (s : State) : Answer := answer (doorbell ch value (useIde s))

/-- HDM_DECODER_COMMIT (R61). -/
def execHdmDecoderCommit (decoder base : Nat) (s : State) : Answer := answer (commitDecoder decoder base s)

/-- EVENT_RING_SPACE_RETURNS (R90). -/
def execEventRingSpaceReturns (ring head : Nat) (s : State) : Answer := answer (eventSpace ring head s)

/-- CHANNEL_DRAINED (R70). -/
def execChannelDrained (ch : Nat) (s : State) : Answer := answer (drainChannel ch s)

/-- CXL_LINK_UP (R73). -/
def execCxlLinkUp (width rate : Nat) (s : State) : Answer := answer (cxlLinkUp width rate s)

/-- PLAIN_PCIE_LINK (R58). -/
def execPlainPcieLink (width rate : Nat) (s : State) : Answer := answer (pcieLinkUp width rate s)

/-- LINK_LOSS (R59). -/
def execLinkLoss (cause : LossCause) (s : State) : Answer := answer (linkLoss cause s)

/-- PERST_DEASSERTED (R529). -/
def execPerstDeasserted (s : State) : Answer := answer (perstDeasserted s)

/-- MODERATION_TIMEOUT (R91). -/
def execModerationTimeout (event : Bool) (index : Nat) (s : State) : Answer := answer (moderationTimeout event index s)

/-- SESSION_LEASE_EXPIRY (R71). -/
def execSessionLeaseExpiry (ch : Nat) (s : State) : Answer := answer (leaseExpiry ch s)

/-- H2D_SNOOP: answered with RspIHitI; the chip holds no cache lines (R56). -/
def execH2dSnoop (_addr : Nat) (s : State) : Answer := answer (s.onHost fun h => { h with snoops := h.snoops + 1 })

end Sys2Proof.Machine
end

