-- ==== Sys2Proof/Machine/Planes.lean ====
section
/-! DEFINITION.  Timing planes: SET_PLANE, READ_TIMING and the adoption of a changed grid
(spec/04_tick_and_timing_planes.md). -/

namespace Sys2Proof.Machine
open Sys2Proof

/-- A stream, composer head, pattern generator or pin reference names the plane (R122). [DEDUCED, log 30] -/
def planeNamed (s : State) (p : Nat) : Bool :=
  (s.obj.streams.any fun e => decide (e.2.st ≠ .undef ∧ e.2.plane = p)) || (s.obj.heads.any fun e => decide (e.2.cfg.plane = some p)) ||
    (s.obj.gens.any fun e => decide (e.2.plane = some p)) || (s.obj.refs.any fun e => decide (8 ≤ e.1 ∧ e.2.enable = true ∧ e.2.plane = p))

/-- The command whose PHASE change still awaits adoption is superseded (R122). -/
def supersedePhase (p : Nat) (c : Cmd) (s : State) : State :=
  match (s.planeRt p).job with
  | some id => (finish id .superseded (byCommand c) s).onPlaneRt p fun q => { q with job := none }
  | none => s

/-- SET_PLANE (R121, R122). -/
def setPlaneInfo : CmdInfo :=
  { opcode := 0x0301, content := true, length := fun _ => 16, gen := fun c s => if c.u8 0 < 8 then some (s.plane (c.u8 0)).gen else none }

/-- Write a plane's setting, its generation advanced. -/
def putPlane (p : Nat) (rate : Option Nat) (phase : Nat) (s : State) : State :=
  (s.onObj fun o => { o with planes := tset {} o.planes p { rate := rate, phase := phase, gen := genNext (s.plane p).gen } }).touch 0x03 p

/-- A plane is enabled or re-rated: its new grid applies at once (R122). -/
def enablePlane (p rate phase : Nat) (s : State) : State :=
  (placePlane p rate phase s.time.e (putPlane p (some rate) phase s)).onPlaneRt p fun q =>
    { q with since := some s.now, latSync := s.obj.trims.syncAll, latDue := none, closed := [] }

/-- A plane is disabled at once (R122). -/
def disablePlane (p : Nat) (s : State) : State :=
  ((putPlane p none 0 s).onPlaneRt p fun _ => {}).onRefs fun r => { r with pending := r.pending.filter fun e => e.1 ≠ p }

/-- The effect of SET_PLANE. [DEDUCED, log 14] -/
def setPlane (c : Cmd) (s : State) : Res :=
  let p := c.u8 0
  let r := c.u8 1
  match firstBad [(decide (p < 8), 0x20), (decide (r = 255 ∨ r ≤ 12), 0x21), (decide (r = 255) || phaseOk r (c.u64 8), 0x28)] with
  | some off => rej .range off s
  | none =>
    let o := s.plane p
    let rate := if r = 255 then none else some r
    if o.rate = rate ∧ (r = 255 ∨ o.phase = c.u64 8) then ok s
    else if o.rate = rate then
      queued (.plane p) ((supersedePhase p c (putPlane p rate (c.u64 8) s)).onPlaneRt p fun q => { q with job := some s.mbox.nextJob })
    else if o.rate.isSome ∧ planeNamed s p = true then rej .state 0xFFFF s
    else if r = 255 then ok (disablePlane p (supersedePhase p c s))
    else ok (enablePlane p r (c.u64 8) (supersedePhase p c s))

/-- TM_STATE of R123. -/
def TmState.code : TmState → Nat
  | .freeRun => 0
  | .disciplined => 1
  | .holdover => 2
  | .slaved => 3
  | .coasting => 4

/-- READ_TIMING (R123). -/
def readTimingInfo : CmdInfo := { opcode := 0x0302, readOnly := true, length := fun _ => 8 }

/-- The reply of READ_TIMING (R123). -/
def timingBytes (s : State) : List Byte :=
  let t := s.time
  recordBytes 320 ([(0, 8, t.tick), (8, 8, ofInt 64 (t.e / (frac : Nat))), (0x10, 4, ofInt 32 t.e), (0x14, 4, ofInt 32 t.freq),
      (0x18, 1, t.tmState.code), (0x19, 1, t.source), (0x1C, 4, t.slips), (0x20, 4, t.bgShed), (0x24, 4, t.fgMax)] ++
    (List.range 8).flatMap fun p =>
      let o := s.plane p
      let b := 0x40 + p * 0x20
      [(b, 1, o.rate.getD 255), (b + 4, 4, o.gen), (b + 8, 8, o.phase), (b + 0x10, 8, ofInt 64 (s.planeRt p).frame),
       (b + 0x18, 8, ofInt 64 (frameTick s p (s.planeRt p).nextFrame))])

/-- The effect of READ_TIMING. -/
def readTiming (c : Cmd) (s : State) : Res := reply c 0 320 0 (timingBytes s) s

/-! ### Adoption of a changed grid (R111) -/

/-- The tick is the adoption tick of the plane's current frame, and what it adopts is not adopted yet. -/
def adoptionDue (s : State) (p : Nat) : Bool :=
  let q := s.planeRt p
  (s.rate p).isSome && decide (frameTick s p q.frame + 24 = s.now) && decide (q.adopted ≠ some q.frame)

/-- Frame k of R111: the smallest whose start on the new grid is at least half a frame after frame m's start. -/
def adoptFrame (rate phase : Nat) (e startNum : Int) : Int :=
  frameAtNum rate phase e (startNum + (24000 * (rateND rate).2 * frac : Nat))

/-- The step t_k − (t_m + S) in ns, as a saturating signed 32-bit field; the spec's example is rounded to the nearest. [DEDUCED, log 32] -/
def stepNs (rate phase : Nat) (e startNum k : Int) : Nat :=
  let d := frameNum rate phase e k - startNum - (48000 * (rateND rate).2 * frac : Nat)
  ofInt 32 (clampI (-2147483648) 2147483647 (divRound (d * 62500) (3 * frameDen rate)))

/-- The frame to which a frame armed before adoption moves: the j-th after m becomes the j-th counted from k (R111). -/
def rearmed (m k f : Int) : Int := if m < f then k + (f - m) - 1 else f

/-- The grid that awaits adoption equals the grid in force. -/
def sameGrid (s : State) (p : Nat) : Bool :=
  let q := s.planeRt p
  decide (((s.plane p).phase : Int) - s.time.e = (q.gridPhase : Int) - q.gridE)

/-- The plane adopts its grid: PHASE changes complete, and a changed grid steps the frames (R111, R122). [DEDUCED, log 31] -/
def adoptGrid (p : Nat) (s : State) : State :=
  match s.rate p with
  | none => s
  | some r =>
    let q := s.planeRt p
    let ph := (s.plane p).phase
    let s1 := match q.job with
      | some id => finish id .done 0 s
      | none => s
    let s2 := s1.onPlaneRt p fun q => { q with job := none, adopted := some q.frame, gridPhase := ph, gridE := s.time.e }
    if sameGrid s p then s2
    else
      let k := adoptFrame r ph s.time.e q.startNum
      raise 0x0383 1 p (stepNs r ph s.time.e q.startNum k) (s2.onPlaneRt p fun q => { q with nextFrame := k, committed := none })

/-! ### The meanings -/

/-- SET_PLANE. -/
def execSetPlane (c : Cmd) (s : State) : Answer := answer (runCmd setPlaneInfo setPlane c s)

/-- READ_TIMING. -/
def execReadTiming (c : Cmd) (s : State) : Answer := answer (runCmd readTimingInfo readTiming c s)

end Sys2Proof.Machine
end

