-- ==== Sys2Proof/Machine/Format.lean ====
section
/-! DEFINITION.  Format codes, interface widths, and what source and destination handles name
(spec/02_streams_holds_handles.md, spec/06_basin_and_lockkeeper.md). -/

namespace Sys2Proof.Machine
open Sys2Proof

/-! ### Format codes (R35) -/

/-- Raster field. -/
def fmtRaster (f : Nat) : Nat := fieldOf f 12 4

/-- Frame-rate index. -/
def fmtRate (f : Nat) : Nat := fieldOf f 8 4

/-- Scan: 0 progressive, 1 interlaced, 2 PsF. -/
def fmtScan (f : Nat) : Nat := fieldOf f 6 2

/-- Sampling: 0 4:2:2, 1 Y'CbCr 4:4:4, 2 R'G'B' 4:4:4, 3 4:4:4:4. -/
def fmtSampling (f : Nat) : Nat := fieldOf f 4 2

/-- Depth: 0 10-bit, 1 12-bit. -/
def fmtDepth (f : Nat) : Nat := fieldOf f 2 2

/-- Every field of the code holds a listed value. -/
def fmtListed (f : Nat) : Bool :=
  decide (f < 65536) && decide (f % 4 = 0) && decide (fmtRaster f ≤ 4) && decide (fmtRate f ≤ 12) && decide (fmtScan f ≤ 2) && decide (fmtDepth f ≤ 1)

/-- Active width and height. -/
def rasterSize : Nat → Nat × Nat
  | 0 => (1280, 720)
  | 1 => (1920, 1080)
  | 2 => (2048, 1080)
  | 3 => (3840, 2160)
  | _ => (4096, 2160)

/-- Active width of a format. -/
def fmtW (f : Nat) : Nat := (rasterSize (fmtRaster f)).1

/-- Active height of a format. -/
def fmtH (f : Nat) : Nat := (rasterSize (fmtRaster f)).2

/-- The format is carried in a width's row of R32. -/
def serialRow (width raster rate scan sampling depth : Nat) : Bool :=
  let r1080 : Bool := raster = 1 || raster = 2
  let r2160 : Bool := raster = 3 || raster = 4
  let plain : Bool := sampling = 0 && depth = 0
  let full : Bool := (sampling = 1 || sampling = 2) && decide (depth ≤ 1)
  let any4 : Bool := decide (1 ≤ sampling) && decide (sampling ≤ 3) && decide (depth ≤ 1)
  let woven : Bool := raster = 1 && (rate = 2 || rate = 3 || rate = 4) && (scan = 1 || scan = 2)
  let low : Bool := decide (rate ≤ 4) && scan = 0
  let mid : Bool := decide (5 ≤ rate) && decide (rate ≤ 9) && scan = 0
  let high : Bool := decide (10 ≤ rate) && decide (rate ≤ 12) && scan = 0
  match width with
  | 1 => plain && ((raster = 0 && decide (rate ≤ 9) && scan = 0) || woven || (r1080 && low))
  | 2 => (plain && r1080 && mid) || (any4 && ((r1080 && low) || woven))
  | 4 => plain && ((r2160 && low) || (r1080 && high))
  | 8 => (plain && r2160 && mid) || (full && r2160 && low)
  | 16 => (plain && r2160 && high) || (full && r2160 && mid)
  | _ => false

/-- The widths of R31. -/
def streamWidths : List Nat := [1, 2, 4, 8, 16]

/-- A listed format code in a width's row of R32. -/
def serialIn (width f : Nat) : Bool := fmtListed f && serialRow width (fmtRaster f) (fmtRate f) (fmtScan f) (fmtSampling f) (fmtDepth f)

/-- The format is carried in some row of R32. [DEDUCED, log 15] -/
def serialSome (f : Nat) : Bool := streamWidths.any fun w => serialIn w f

/-- Raster, rate and scan stand together in some row of R32 (R35, essence form). -/
def essenceShape (f : Nat) : Bool :=
  fmtListed f && streamWidths.any fun w => (List.range 4).any fun m => (List.range 2).any fun d => serialRow w (fmtRaster f) (fmtRate f) (fmtScan f) m d

/-- Bits per pixel of stowed and essence pictures (R33). -/
def fmtBpp (f : Nat) : Nat :=
  if fmtSampling f = 0 then (if fmtDepth f = 0 then 20 else 24)
  else if fmtSampling f = 3 then (if fmtDepth f = 0 then 40 else 48)
  else if fmtDepth f = 0 then 30 else 36

/-- The width carries the essence rate of R33, compared exactly. -/
def essenceFits (width f audio ancKbps : Nat) : Bool :=
  let nd := rateND (fmtRate f)
  let anc := if ancKbps = 0 then 10000 else ancKbps
  decide ((fmtW f * fmtH f * fmtBpp f * nd.1 + (anc * 1000 + audio * 1536000) * nd.2) * 87168 ≤ width * 1184 * 115200000000 * nd.2)

/-- Some width carries the format in essence form: else FORMAT, not WIDTH, is the field at fault (R33, R539). [DEDUCED, log 15] -/
def essenceSome (f audio ancKbps : Nat) : Bool := essenceShape f && essenceFits 16 f audio ancKbps

/-- A stream of the width may begin at the bay (R31). -/
def placementOk (bay width : Nat) : Bool := if width = 16 then decide (bay % 16 = 0) else decide (bay % width = 0)

/-! ### Lane streams -/

/-- Direction 0 input, 1 output, of a stream's key. -/
def keyDir (k : Nat) : Nat := k / 8192

/-- First bay of a stream's key. -/
def keyBay (k : Nat) : Nat := k % 8192

/-- Lane of a stream's key. -/
def keyLane (k : Nat) : Nat := k % 8192 / 64

/-- The stream is LIVE. -/
def streamLive (s : State) (k : Nat) : Bool := decide ((s.stream k).st = .live)

/-- Keys of LIVE input streams, ascending. -/
def liveInputs (s : State) : List Nat := (s.obj.streams.filter fun e => e.1 < 8192 ∧ e.2.st = .live).map Prod.fst

/-- Keys of LIVE output streams, ascending. -/
def liveOutputs (s : State) : List Nat := (s.obj.streams.filter fun e => 8192 ≤ e.1 ∧ e.2.st = .live).map Prod.fst

/-- Two ranges of numbers share one. -/
def overlap (a n b m : Nat) : Bool := decide (a < b + m) && decide (b < a + n)

/-- The LIVE output stream that owns an audio destination channel (R39). -/
def audioOwner (s : State) (ch : Nat) : Option Nat :=
  (s.obj.streams.find? fun e => 8192 ≤ e.1 ∧ e.2.st = .live ∧ e.2.audioFirst ≤ ch ∧ ch < e.2.audioFirst + e.2.audioCount).map Prod.fst

/-- The LIVE output stream that owns an ANC destination (R39). -/
def ancOwner (s : State) (d : Nat) : Option Nat :=
  (s.obj.streams.find? fun e => 8192 ≤ e.1 ∧ e.2.st = .live ∧ e.2.ancFirst ≤ d ∧ d < e.2.ancFirst + e.2.ancCount).map Prod.fst

/-- The LIVE input stream that an audio source channel belongs to (R39). -/
def audioSource (s : State) (ch : Nat) : Option Nat :=
  (s.obj.streams.find? fun e => e.1 < 8192 ∧ e.2.st = .live ∧ e.2.audioFirst ≤ ch ∧ ch < e.2.audioFirst + e.2.audioCount).map Prod.fst

/-! ### What a source handle names (R36, R38, R154) -/

/-- A stream as a source. -/
structure SrcInfo where
  /-- 0 lane, 1 composer head, 2 pattern generator -/
  kind : Nat := 0
  live : Bool := false
  width : Nat := 0
  format : Nat := 0
  form : Nat := 0
  plane : Nat := 0
  deriving DecidableEq, Repr

/-- A generator's setting. -/
def State.gen (s : State) (g : Nat) : GenObj := tget {} s.obj.gens g

/-- A head handle's head. -/
def headOf (h : Nat) : Nat := (h - 0x2000) / 8

/-- The first-bay source that a handle names; none outside the ranges of R36 that carry streams. -/
def sourceInfo (s : State) (h : Nat) : Option SrcInfo :=
  if h < 0x2000 then
    let x := s.stream h
    some { kind := 0, live := decide (x.st = .live), width := x.width, format := x.format, form := x.form, plane := x.plane }
  else if h < 0x2100 then
    let c := (s.headObj (headOf h)).cfg
    some { kind := 1, live := c.plane.isSome && (if c.split then decide (h % 2 = 0) else decide (h % 8 = 0)),
           width := if c.split then 2 else 8, format := c.format, form := 2, plane := c.plane.getD 0 }
  else if h < 0x2180 then
    let g := s.gen ((h - 0x2100) / 8)
    some { kind := 2, live := g.plane.isSome && decide (h % 8 % g.width = 0), width := g.width, format := g.format, form := g.form,
           plane := g.plane.getD 0 }
  else none

/-! ### What a destination handle names (R37, R154) -/

/-- The range of R37: 0 video bays, 1 audio channels, 2 layer slots, 3 ANC destinations. -/
def destRange (d : Nat) : Nat := if d < 0x2000 then 0 else if d < 0xE000 then 1 else if d < 0xF000 then 2 else 3

/-- The head of a layer slot. -/
def slotHead (d : Nat) : Nat := (d - 0xE000) / 128

/-- The slot number of a layer slot. -/
def slotNo (d : Nat) : Nat := (d - 0xE000) % 128

/-- The stream key that gives a destination its plane and format, if a LIVE one does. -/
def destStream (s : State) (d : Nat) : Option Nat :=
  match destRange d with
  | 0 => if streamLive s (streamKey 1 d) then some (streamKey 1 d) else none
  | 1 => audioOwner s d
  | 2 => none
  | _ => ancOwner s d

/-- The destination's plane (R154), none where nothing LIVE gives it one. -/
def destPlane (s : State) (d : Nat) : Option Nat :=
  if destRange d = 2 then (s.headObj (slotHead d)).cfg.plane else (destStream s d).map fun k => (s.stream k).plane

/-- The destination's format: that of its stream or its head (R114). -/
def destFormat (s : State) (d : Nat) : Nat :=
  if destRange d = 2 then (s.headObj (slotHead d)).cfg.format
  else match destStream s d with
    | some k => (s.stream k).format
    | none => 0xFFFF

/-- L of R113 and R540 for a destination: 1,125 for layer slots and audio-only streams. -/
def destLines (s : State) (d : Nat) : Nat := if destRange d = 2 then 1125 else switchLines (destFormat s d)

/-! ### Offsets (R172, R540) -/

/-- An instant k lines after a frame start, in units of 2^−32 tick. -/
def lineInstant (rate lines k : Nat) (start : Int) : Int :=
  start + (k * 48000 * (rateND rate).2 * frac / ((rateND rate).1 * lines) : Nat)

/-- Lines from a frame's start to the instant that δ is measured at: line 7, or line 12 for essence form (R540). -/
def offsetLine (form : Nat) : Nat := if form = 2 then 11 else 6

/-- Of three instants' distances from `y`, the nearest, in units of 2^−32 tick. -/
def nearest (a b c : Int) : Int := if a.natAbs ≤ b.natAbs ∧ a.natAbs ≤ c.natAbs then a else if b.natAbs ≤ c.natAbs then b else c

/-- δ in ns, against plane `p` with `lines`, of a source standing at `ns` against its own plane `q` (R540). [DEDUCED, log 32] -/
def offsetAgainst (s : State) (q srcLines form p lines : Nat) (ns : Int) : Option Int :=
  match s.rate q, s.rate p with
  | some rq, some rp =>
    if q = p ∧ srcLines = lines then some ns
    else
      let k := offsetLine form
      let y := lineInstant rq srcLines k (start32 rq (s.planeRt q).startNum) + ns * (3 * frac : Nat) / 62500
      let f := (s.planeRt p).frame
      let d := fun j => y - lineInstant rp lines k (start32 rp (startNumOf s p rp j))
      some (divRound (nearest (d (f - 1)) (d f) (d (f + 1)) * 62500) (3 * frac : Nat))
  | _, _ => none

/-- |δ| is at most the in-step window (R172): 32 µs or half the interface line period. -/
def inWindow (rate lines : Nat) (ns : Int) : Bool :=
  decide (ns.natAbs ≤ 32000) && decide (ns.natAbs * 2 * (rateND rate).1 * lines ≤ 1000000000 * (rateND rate).2)

/-- Words per second of a data stream of an interface, over the divisor D of its rate (R174). [DEDUCED, log 47] -/
def wordRate (width : Nat) : Nat := if width = 1 then 74250000 else if width = 2 then 148500000 else Config.streamWordRate width

/-- A time difference in ns as whole sample periods, halves away from zero (R174). -/
def samplePeriods (width rate : Nat) (ns : Int) : Int :=
  let d := (rateND rate).2
  let num := (ns.natAbs * wordRate width * (if d = 1 then 1 else 1000)) * 2 + 1000000000 * (if d = 1 then 1 else 1001)
  let n := num / (2 * 1000000000 * (if d = 1 then 1 else 1001))
  if ns < 0 then -(n : Int) else n

end Sys2Proof.Machine
end

