-- ==== Sys2Proof/Machine/Berths.lean ====
section
/-! DEFINITION.  The Wharf's memory: slot sizes, pools, berths and pyramids (spec/07_wharf.md). -/

namespace Sys2Proof.Machine
open Sys2Proof

/-! ### Sizes (R191, R195, R205 to R207) -/

/-- Whole pages of 4,096 bytes that hold `n` bytes (R191). -/
def pagesFor (n : Nat) : Nat := (n + 4095) / 4096

/-- ceil(S): whole sample ticks per frame of a rate (R108, R195). -/
def ceilS (rate : Nat) : Nat := (48000 * (rateND rate).2 + (rateND rate).1 - 1) / (rateND rate).1

/-- Pages of one slot (R195): descriptor, ANC area, audio area, picture area. -/
def slotPages (format audio : Nat) : Nat :=
  1 + 64 + pagesFor (audio * ceilS (fmtRate format) * 4) + pagesFor ((fmtW format * fmtH format * fmtBpp format + 7) / 8)

/-- Slots of a berth (R196, R202). -/
def berthSlots (s : State) (delay : Nat) : Nat := (if s.obj.trims.shallow then 2 else 3) + delay

/-- Pages of a stream's berth with a delay. -/
def berthPages (s : State) (x : StreamObj) (delay : Nat) : Nat := slotPages x.format x.audioCount * berthSlots s delay

/-- Pages of a die's berth pool: the nominal sizes of R191. [DEDUCED, log 52] -/
def berthPool (die : Nat) : Nat := if die = 0 then 5888671 else 10078125

/-- Pages of a die's pyramid pool (R191, R206). [DEDUCED, log 52] -/
def pyramidPool : Nat := 366210

/-- Pages of a die's margin (R191). [DEDUCED, log 52] -/
def marginPages (die : Nat) : Nat := if die = 0 then 610351 else 615234

/-- Pages that a long audio delay takes (R207: 336,000 bytes). -/
def longDelayPages : Nat := pagesFor 336000

/-- Die of an audio destination channel (R251). -/
def audioDie (ch : Nat) : Nat := if ch < 0x8000 then 0 else 1

/-- Die of an input bay's lane. -/
def bayDie (bay : Nat) : Nat := if bay / 64 < 64 then 0 else 1

/-! ### The pools -/

/-- A berth of an input stream, by its first bay. -/
def State.berth (s : State) (bay : Nat) : BerthRt := tget {} s.wharf.berths bay

/-- Change a berth. -/
def State.onBerth (s : State) (bay : Nat) (f : BerthRt → BerthRt) : State :=
  s.onWharf fun w => { w with berths := tmod {} w.berths bay f }

/-- The stream holds berth memory. -/
def berthed (s : State) (bay : Nat) : Bool := decide ((s.berth bay).pages ≠ 0)

/-- Pages of a die's pool that are in use. -/
def berthUsed (w : WharfRt) (die : Nat) : Nat :=
  ((w.berths.map fun e => if e.2.die = die then e.2.pages else 0).sum) +
    (w.longChans.filter fun ch => audioDie ch = die).length * longDelayPages

/-- Pages of a die's pool that are free. -/
def berthFree (s : State) (die : Nat) : Nat := berthPool die - berthUsed s.wharf die

/-- The die on which a berth of a size stands: its source lane's, else the other whole (R196). -/
def berthDie (s : State) (bay pages : Nat) : Option Nat :=
  let home := bayDie bay
  if pages ≤ berthFree s home then some home else if pages ≤ berthFree s (1 - home) then some (1 - home) else none

/-- A stream's frame-sync setting. -/
def State.fsync (s : State) (bay : Nat) : FsyncObj := tget {} s.obj.fsync bay

/-- Write a stream's frame-sync setting, its generation advanced. -/
def putFsync (bay : Nat) (o : FsyncObj) (s : State) : State :=
  (s.onObj fun x => { x with fsync := tset {} x.fsync bay { o with gen := genNext (s.fsync bay).gen } }).touch 0x06 bay

/-- The plane on which a berth is read (R213). -/
def readPlane (s : State) (bay : Nat) : Nat :=
  let p := (s.fsync bay).readPlane
  if p = 255 then (s.stream bay).plane else p

/-- What stays of a berth that is freed: its counts since the last cold start (R216). -/
def BerthRt.counts (b : BerthRt) : BerthRt :=
  { repeats := b.repeats, drops := b.drops, concealed := b.concealed, black := b.black, ancOverflow := b.ancOverflow }

/-- Free a berth's memory; a command that awaits it completes (R214). -/
def freeBerth (bay : Nat) (s : State) : State :=
  let s1 := match (s.berth bay).freeing with
    | some id => finish id .done 0 s
    | none => s
  s1.onBerth bay BerthRt.counts

/-- Make an empty berth of a size, if it fits (R196). -/
def makeBerth (bay pages slots : Nat) (s : State) : Option State :=
  match berthDie s bay pages with
  | some die => some (s.onBerth bay fun b => { b.counts with die := die, pages := pages, slots := slots })
  | none => none

/-- Give a berth another size, if it fits once its present memory is free; its counts stay. -/
def resizeBerth (bay pages slots : Nat) (s : State) : Option State :=
  let b := s.berth bay
  let s1 := s.onWharf fun w => { w with berths := tset {} w.berths bay {} }
  match berthDie s1 bay pages with
  | some die => some (s1.onBerth bay fun _ => { b with die := die, pages := pages, slots := slots })
  | none => none

/-- A berth without content: it starts again under R199 (R197). -/
def BerthRt.emptied (b : BerthRt) : BerthRt := { b with paired := false, last := 0, frames := [] }

/-- The berth of an amended stream: kept where the slot size stands, else made anew if it fits (R197). -/
def amendBerth (bay : Nat) (x : StreamObj) (s : State) : Option State :=
  if berthed s bay then
    let n := berthPages s x (s.fsync bay).delay
    if n = (s.berth bay).pages then some s
    else (resizeBerth bay n (berthSlots s (s.fsync bay).delay) s).map fun s => s.onBerth bay BerthRt.emptied
  else some s

/-- The stream may be berthed: an input lane stream of serial or essence form (R197). -/
def berthable (x : StreamObj) : Bool := decide (x.st ≠ .undef) && decide (x.form = 1 ∨ x.form = 2)

/-- The berth is no longer awaiting its end (R214). -/
def keepBerth (bay : Nat) (by_ : Nat) (s : State) : State :=
  match (s.berth bay).freeing with
  | some id => (finish id .superseded by_ s).onBerth bay fun b => { b with freeing := none }
  | none => s

/-- A berth that SYNC-ALL gives a stream, with the settings of R214; one that awaits its end stays. [DEDUCED, log 123] -/
def syncBerth (by_ bay : Nat) (s : State) : Option State :=
  if (s.berth bay).freeing.isSome then some (putFsync bay { s.fsync bay with enable := true } (keepBerth bay by_ s))
  else if berthed s bay ∨ berthable (s.stream bay) = false then some s
  else (makeBerth bay (berthPages s (s.stream bay) 0) (berthSlots s 0) s).map fun s1 =>
    putFsync bay { enable := true, readPlane := 255, delay := 0, lossFill := false, lossGen := 0, lossHoldMs := 2000 } s1

/-- Berths of SYNC-ALL for several streams, or none of them. -/
def syncBerths (by_ : Nat) : List Nat → State → Option State
  | [], s => some s
  | b :: r, s => match syncBerth by_ b s with
    | some s1 => syncBerths by_ r s1
    | none => none

/-! ### Pyramids (R205, R206) -/

/-- Pages of one level of a pyramid. -/
def levelPages (format level : Nat) : Nat :=
  let k := 2 ^ level
  pagesFor (((fmtW format + k - 1) / k) * ((fmtH format + k - 1) / k) * (if fmtSampling format = 3 then 8 else 4))

/-- Pages of a pyramid: three frames of levels 1 to 4. -/
def pyramidPages (format : Nat) : Nat := 3 * (levelPages format 1 + levelPages format 2 + levelPages format 3 + levelPages format 4)

/-- A source's pyramid. -/
def State.pyramid (s : State) (src : Nat) : PyramidRt := tget {} s.wharf.pyramids src

/-- The source has a pyramid. -/
def hasPyramid (s : State) (src : Nat) : Bool := decide ((s.pyramid src).pages ≠ 0)

/-- Free pages of a die's pyramid pool. -/
def pyramidFree (s : State) (die : Nat) : Nat :=
  pyramidPool - (s.wharf.pyramids.map fun e => if e.2.die = die then e.2.pages else 0).sum

/-- Die of a source: lanes, heads and generators stand half on each. -/
def sourceDie (src : Nat) : Nat :=
  if src < 0x2000 then bayDie src else if src < 0x2100 then headOf src / 16 else (src - 0x2100) / 8 / 8

/-- Make a source's pyramid, if it has none and one fits. -/
def makePyramid (src : Nat) (s : State) : Option State :=
  if hasPyramid s src then some s
  else match sourceInfo s src with
    | none => none
    | some i =>
      let n := pyramidPages i.format
      if n ≤ pyramidFree s (sourceDie src) then
        some (s.onWharf fun w => { w with pyramids := tset {} w.pyramids src { die := sourceDie src, pages := n, format := i.format } })
      else none

/-- A frame of a source is complete in its pyramid, which keeps three (R206, R294). -/
def pushFrame (src : Nat) (f : InFrame) (s : State) : State :=
  if hasPyramid s src then
    s.onWharf fun w => { w with pyramids := tmod {} w.pyramids src fun p => { p with frames := (p.frames ++ [f]).drop (p.frames.length + 1 - 3) } }
  else s

/-- A layer slot routes the source, now or in its queue. -/
def layerUses (s : State) (src : Nat) : Bool :=
  (s.obj.routes.any fun e => decide (destRange e.1 = 2 ∧ e.2.source = some src)) ||
    (s.basin.routes.any fun e => decide (destRange e.1 = 2) && e.2.queue.any fun q => decide (q.source = some src))

/-- A layer slot of head h routes the source. -/
def headUses (s : State) (h src : Nat) : Bool := s.obj.routes.any fun e => decide (destRange e.1 = 2 ∧ slotHead e.1 = h ∧ e.2.source = some src)

/-- The frames of some heads end: a pyramid is freed with the last frame that reads it, unless a layer slot still uses it (R206). -/
def sweepPyramids (heads : List Nat) (s : State) : State :=
  s.onWharf fun w => { w with pyramids := (w.pyramids.map fun e =>
    (e.1, { e.2 with users := (e.2.users.filter fun h => !heads.contains h) ++ heads.filter fun h => headUses s h e.1 })).filter fun e => layerUses s e.1 || !e.2.users.isEmpty }

/-- A source's format has changed: its pyramid is rebuilt, and is not ready until a complete frame arrives (R206). -/
def rebuildPyramid (src format : Nat) (s : State) : State :=
  if hasPyramid s src ∧ (s.pyramid src).format ≠ format then
    s.onWharf fun w => { w with pyramids := tset {} w.pyramids src { die := sourceDie src, pages := pyramidPages format, format := format } }
  else s

end Sys2Proof.Machine
end

