-- ==== Sys2Proof/Machine/Queues.lean ====
section
/-! DEFINITION.  The Lockkeeper's take queues: arming, limits, removal and re-arming
(spec/06_basin_and_lockkeeper.md). -/

namespace Sys2Proof.Machine
open Sys2Proof

/-! ### Reading the queues (R158, R161) -/

/-- The entry of a destination's queue for a frame. -/
def entryAt (s : State) (d : Nat) (f : Int) : Option Entry := (s.routeRt d).queue.find? fun e => e.frame = f

/-- The entry of a destination's queue for an open frame: uncommitted, or moved there by a late commit (R117) before the frame's own; a
take admitted later for that frame stands in its place (R158, R162). [DEDUCED, log 40] -/
def openEntryAt (s : State) (d : Nat) (f : Int) : Option Entry := entryAt s d f

/-- Takes armed for one frame of one plane, all destinations together (R161). -/
def armedFor (s : State) (p : Nat) (f : Int) : Nat :=
  (s.basin.routes.map fun e => (e.2.queue.filter fun q => q.plane = p ∧ q.frame = f).length).sum

/-- Some queued take names a source handle for which `p` holds. -/
def queuedSource (s : State) (p : Nat → Bool) : Bool :=
  s.basin.routes.any fun e => e.2.queue.any fun q => match q.source with
    | some h => p h
    | none => false

/-- Some destination for which `p` holds has a queued take. -/
def queuedDest (s : State) (p : Nat → Bool) : Bool := s.basin.routes.any fun e => p e.1 && !e.2.queue.isEmpty

/-- Some route has a source handle for which `p` holds. -/
def routedSource (s : State) (p : Nat → Bool) : Bool :=
  s.obj.routes.any fun e => match e.2.source with
    | some h => p h
    | none => false

/-- Destinations whose route has a source, ascending. -/
def routesFrom (s : State) (h : Nat) : List Nat := (s.obj.routes.filter fun e => e.2.source = some h).map Prod.fst

/-! ### Changing the queues -/

/-- Put an entry in a queue, by frame. -/
def insertEntry (e : Entry) : List Entry → List Entry
  | [] => [e]
  | q :: r => if e.frame < q.frame then e :: q :: r else q :: insertEntry e r

/-- Note for the next Tandem record that a queue changed (R164). -/
def noteQueue (d : Nat) (s : State) : State := s.onTwin fun t => { t with queues := setAdd t.queues d }

/-- Take an entry out of a queue. -/
def takeOut (d : Nat) (e : Entry) (s : State) : State := noteQueue d (s.onRouteRt d fun r => { r with queue := r.queue.filter fun q => q ≠ e })

/-- Put an entry into a queue. -/
def putIn (d : Nat) (e : Entry) (s : State) : State := noteQueue d (s.onRouteRt d fun r => { r with queue := insertEntry e r.queue })

/-- The final completion of a salvo whose takes are all accounted for (R168). -/
def salvoDone (id total execRef execLater lost : Nat) (last : Int) (byTag byCh : Nat) (s : State) : State :=
  if execRef + execLater + lost < total then s
  else if lost = total then finish id .superseded (byTag + 65536 * byCh) s
  else if 0 < lost then finish id .partly (execRef + execLater) s
  else finish id (if execLater = 0 then .done else .deferred) (execRef + 65536 * execLater + 2 ^ 32 * ofInt 32 last) s

/-- Settle a salvo's job if its takes are all accounted for. -/
def settleSalvo (id : Nat) (s : State) : State :=
  match s.job id with
  | some j => match j.kind with
    | .salvo total a b lost _ last tag ch => salvoDone id total a b lost last tag ch s
    | _ => s
  | none => s

/-- A take was cancelled or superseded by a command, named as R84 says: its command completes, or counts it lost. [DEDUCED, log 13] -/
def loseTake (e : Entry) (by_ : Nat) (s : State) : State :=
  match s.job e.job with
  | none => s
  | some j => match j.kind with
    | .salvo total a b lost ref last _ _ =>
      settleSalvo e.job (onJob e.job (fun _ => .salvo total a b (lost + 1) ref last (by_ % 65536) (by_ / 65536)) s)
    | .take d => finishNow e.job .superseded (s.route d).gen by_ s
    | _ => finish e.job .superseded by_ s

/-- Drop an entry: it leaves its queue, and its command learns of it. -/
def dropEntry (d : Nat) (e : Entry) (by_ : Nat) (s : State) : State := loseTake e by_ (takeOut d e s)

/-- Drop several entries, in order. -/
def dropEntries (by_ : Nat) : List (Nat × Entry) → State → State
  | [], s => s
  | (d, e) :: r, s => dropEntries by_ r (dropEntry d e by_ s)

/-- Uncommitted entries for which `p` holds, by destination and frame. -/
def openEntries (s : State) (p : Nat → Entry → Bool) : List (Nat × Entry) :=
  s.basin.routes.flatMap fun r => (r.2.queue.filter fun e => !e.committed && p r.1 e).map fun e => (r.1, e)

/-- A take executed at frame `f`: its command completes, or counts it (R166, R168). -/
def executedTake (e : Entry) (f : Int) (gen : Nat) (s : State) : State :=
  match s.job e.job with
  | none => s
  | some j => match j.kind with
    | .salvo total a b lost ref last tag ch =>
      let k := if f = e.natural then JobKind.salvo total (a + 1) b lost ref (max last f) tag ch
        else JobKind.salvo total a (b + 1) lost ref (max last f) tag ch
      settleSalvo e.job (onJob e.job (fun _ => k) s)
    | _ => finishJob e.job (if f = e.natural then .done else .deferred) s.now gen (ofInt 64 f) s

/-! ### Placing takes on frames (R161) -/

/-- The frame of a plane is open: its grid holds it, it is not committed, and no take has been moved past it. -/
def frameOpen (s : State) (p : Nat) (f : Int) : Bool :=
  let q := s.planeRt p
  decide (f ∉ q.closed) && (match q.committed with
    | some c => decide (c < f)
    | none => true)

/-- The frame after one that has not begun. -/
def frameAfter (f : Int) : Int := f + 1

/-- The first frame from `f` on that is open with room for `need` takes, and the open frames passed for want of room. -/
def findFrame (s : State) (p : Nat) (need : Int → Nat) : Nat → Int → Int × List Int
  | 0, f => (f, [])
  | k + 1, f =>
    if frameOpen s p f = false then findFrame s p need k (frameAfter f)
    else if armedFor s p f + need f ≤ 4096 then (f, [])
    else let r := findFrame s p need k (frameAfter f); (r.1, f :: r.2)

/-- Frames to look at before one must be found: 65,536 queues of 4 entries fill at most 64 frames, beside those closed. -/
def frameFuel (s : State) (p : Nat) : Nat := (s.planeRt p).closed.length + 72

/-- Close a frame of a plane for want of room (R161). -/
def closeFrame (p : Nat) (s : State) (f : Int) : State :=
  raise 0x0582 1 p (ofInt 32 f) (s.onPlaneRt p fun q => { q with closed := q.closed ++ [f] })

/-- Takes that a destination adds to a frame: none where it replaces its own uncommitted entry. -/
def needAt (s : State) (f : Int) (d : Nat) : Nat := if (openEntryAt s d f).isSome then 0 else 1

/-- Arm an entry for its frame, which is open: it replaces the entry for that frame (R158, R162), else it needs a free place.
None where it would be the fifth. -/
def armEntry (d : Nat) (e : Entry) (by_ : Nat) (s : State) : Option State :=
  match openEntryAt s d e.frame with
  | some old => some (putIn d e (dropEntry d old by_ s))
  | none => if (s.routeRt d).queue.length < 4 then some (putIn d e s) else none

/-- Place one take from frame `f` on, closing what it is moved past. -/
def placeTake (d : Nat) (e : Entry) (f : Int) (by_ : Nat) (s : State) : Option (State × Int) :=
  let r := findFrame s e.plane (fun g => needAt s g d) (frameFuel s e.plane) f
  (armEntry d { e with frame := r.1 } by_ (r.2.foldl (closeFrame e.plane) s)).map fun t => (t, r.1)

/-- Arm entries for one frame, each in its turn; the failing one's place in the list otherwise. -/
def armAll (f : Int) (by_ : Nat) : Nat → List (Nat × Entry) → State → State ⊕ Nat
  | _, [], s => .inl s
  | i, (d, e) :: r, s => match armEntry d { e with frame := f } by_ s with
    | some t => armAll f by_ (i + 1) r t
    | none => .inr i

/-- Place takes of a salvo whole on one frame (R161, R168). -/
def placeWhole (p : Nat) (es : List (Nat × Entry)) (f : Int) (by_ : Nat) (s : State) : State × Int ⊕ Nat :=
  let r := findFrame s p (fun g => (es.map fun x => needAt s g x.1).sum) (frameFuel s p) f
  match armAll r.1 by_ 0 es (r.2.foldl (closeFrame p) s) with
  | .inl t => .inl (t, r.1)
  | .inr i => .inr i

/-- Place takes of a splitting salvo one by one (R168), the first armed frame being kept. -/
def placeSplit (f : Int) (by_ : Nat) : Nat → List (Nat × Entry) → Option Int → State → State × Int ⊕ Nat
  | _, [], first, s => .inl (s, first.getD f)
  | i, (d, e) :: r, first, s => match placeTake d e f by_ s with
    | some (t, g) => placeSplit f by_ (i + 1) r (some (first.getD g)) t
    | none => .inr i

/-! ### Re-arming at adoption (R111) -/

/-- Re-arm a plane's takes for the frames after `m` when a step makes frame `k` the next (R111). [DEDUCED, log 31] -/
def rearmTakes (p : Nat) (m k : Int) (s : State) : State :=
  let f : Entry → Entry := fun e => if e.plane = p then { e with frame := rearmed m k e.frame, natural := rearmed m k e.natural } else e
  let moved := (s.basin.routes.filter fun r => r.2.queue.any fun e => decide (e.plane = p)).map Prod.fst
  let s1 := s.onBasin fun b => { b with routes := b.routes.map fun r => (r.1, { r.2 with queue := r.2.queue.map f }) }
  let s2 := s1.onPlaneRt p fun q => { q with closed := q.closed.map (rearmed m k) }
  let s3 := s2.onMbox fun x => { x with jobs := x.jobs.map fun j => match j.kind with
    | .salvo total a b lost ref last tag ch =>
      if s.basin.routes.any (fun r => r.2.queue.any fun e => decide (e.job = j.id ∧ e.plane = p)) then
        { j with kind := .salvo total a b lost (rearmed m k ref) last tag ch }
      else j
    | _ => j }
  moved.foldl (fun s d => noteQueue d s) s3

end Sys2Proof.Machine
end

