-- ==== Sys2Proof/Machine/Streams.lean ====
section
/-! DEFINITION.  Lane streams, their definitions, and manifests with their epochs
(spec/02_streams_holds_handles.md). -/

namespace Sys2Proof.Machine
open Sys2Proof

/-! ### Manifests (R25, R46, R47) -/

/-- The key of a lane direction's manifest. -/
def manKey (dir lane : Nat) : Nat := dir * 128 + lane

/-- A lane direction's manifest object. -/
def State.manifest (s : State) (k : Nat) : ManifestObj := tget {} s.obj.manifests k

/-- Change a manifest object. -/
def State.onManifest (s : State) (k : Nat) (f : ManifestObj → ManifestObj) : State :=
  s.onObj fun o => { o with manifests := tmod {} o.manifests k f }

/-- A lane direction's manifest in change. -/
def State.manifestRt (s : State) (k : Nat) : ManifestRt := tget {} s.manifests k

/-- Change a manifest in change. -/
def State.onManifestRt (s : State) (k : Nat) (f : ManifestRt → ManifestRt) : State := s.onManifests fun t => tmod {} t k f

/-- The streams that occupy bays of a lane direction: LIVE and RELEASING ones, with their keys. -/
def members (s : State) (dir lane : Nat) : List (Nat × StreamObj) :=
  s.obj.streams.filter fun e => keyDir e.1 = dir ∧ keyLane e.1 = lane ∧ (e.2.st = .live ∨ e.2.st = .releasing)

/-- log2 of a stream width. -/
def log2Width (w : Nat) : Nat := if w = 1 then 0 else if w = 2 then 1 else if w = 4 then 2 else if w = 8 then 3 else 4

/-- The manifest byte of a bay of a lane (R46). -/
def manifestByte (ms : List (Nat × StreamObj)) (bay : Nat) : Nat :=
  match ms.find? fun e => e.1 % 64 ≤ bay ∧ bay < e.1 % 64 + e.2.width with
  | none => 0
  | some e => if bay = e.1 % 64 then 128 + 16 * e.2.form + log2Width e.2.width else 64 + 16 * e.2.form

/-- The manifest digest (R46): CRC-32 over the 64 manifest bytes. -/
def manifestDigest (ms : List (Nat × StreamObj)) : Nat := crc32 ((List.range 64).map fun b => BitVec.ofNat 8 (manifestByte ms b))

/-- The streams that a list of handles names. -/
def listed (s : State) (dir : Nat) (hs : List Nat) : List (Nat × StreamObj) := hs.map fun h => (streamKey dir h, s.stream (streamKey dir h))

/-- Two streams of one lane direction share a bay. -/
def sharesBay (a b : Nat × StreamObj) : Bool := overlap (keyBay a.1) a.2.width (keyBay b.1) b.2.width

/-! ### Streams becoming LIVE or undefined (R40, R53) -/

/-- The numbers from `a`, `n` of them. -/
def span (a n : Nat) : List Nat := (List.range n).map (a + ·)

/-- The audio and ANC destination handles that a stream owns, and its video destination. -/
def ownedDests (k : Nat) (x : StreamObj) : List Nat := keyBay k :: (span x.audioFirst x.audioCount ++ span x.ancFirst x.ancCount)

/-- Remove a destination's route and generation (R157); its lock stays, and committed entries of its queue. [DEDUCED, log 45, 58] -/
def dropRoute (s : State) (d : Nat) : State :=
  let s1 := dropEntries 0 (openEntries s fun x _ => decide (x = d)) s
  let s2 := s1.onRoute d fun r => { source := none, gen := 1, locked := r.locked, lockGen := r.lockGen }
  (s2.onRouteRt d fun r => { queue := r.queue, protect := r.protect }).touch 0x05 d

/-- A channel setting is as when its stream is defined: it follows the video route (R265). -/
def followAgain (s : State) (ch : Nat) : State :=
  s.onObj fun o => { o with chans := tmod {} o.chans ch fun x => { x with brokenAway := false } }

/-- What a stream leaves behind when its handle becomes free (R40, R157, R197, R244, R248, R282). [DEDUCED, log 58] -/
def clearStream (k : Nat) (x : StreamObj) (s : State) : State :=
  if keyDir k = 0 then
    let b := keyBay k
    let s1 := freeBerth b s
    let s2 := s1.onObj fun o => { o with fsync := tset {} o.fsync b { gen := (s.fsync b).gen },
                                         detectors := tset {} o.detectors b { gen := (tget {} o.detectors b).gen } }
    let s3 := (span x.audioFirst x.audioCount).foldl (fun s ch => s.hdmWrite (sourceChanAddr ch) (toLe 8 0)) (s2.zeroRecord 128 (sourceAddr b))
    (s3.onMeas fun m => { m with src := tset {} m.src b {}, chans := m.chans.filter fun e => !(decide (x.audioFirst ≤ e.1) && decide (e.1 < x.audioFirst + x.audioCount)) }).onAudio fun a => { a with streams := tset {} a.streams b {} }
  else
    let s1 := (ownedDests k x).foldl dropRoute s
    let s2 := (span x.audioFirst x.audioCount).foldl followAgain s1
    let s3 := s2.onObj fun o => { o with destForm := tset {} o.destForm (keyBay k) { gen := (tget {} o.destForm (keyBay k)).gen } }
    let s4 := (span x.audioFirst x.audioCount).foldl (fun s ch => s.zeroRecord 16 (destChanAddr ch)) (s3.zeroRecord 128 (destAddr (keyBay k)))
    s4.onAudio fun a => { a with dst := a.dst.filter fun e => !(decide (x.audioFirst ≤ e.1) && decide (e.1 < x.audioFirst + x.audioCount)) }

/-- A stream becomes undefined, its generation advanced (R53). [DEDUCED, log 45, 58] -/
def setUndef (k : Nat) (s : State) : State :=
  let x := s.stream k
  let s1 := clearStream k x s
  let s2 := s1.onObj fun o => { o with streams := tset {} o.streams k { gen := genNext x.gen } }
  (s2.onStreams fun t => tset {} t k {}).touch 0x02 k

/-- A DEFINED stream becomes LIVE, its generation advanced (R53): nothing of it has arrived yet, and under SYNC-ALL it has
a berth (R214). -/
def setLive (k : Nat) (s : State) : State :=
  let x := s.stream k
  let s1 := s.onStream k fun y => { y with st := .live, gen := genNext x.gen }
  let s2 := s1.onStreams fun t => tset {} t k { effFormat := x.format, effPlane := x.plane, frameSeq := 0 }
  let s3 := if keyDir k = 0 then
      let b := keyBay k
      let e := if berthed s2 b then s2.onBerth b BerthRt.emptied
        else if s2.obj.trims.syncAll then (syncBerth 0 b s2).getD s2 else s2
      e.onAudio fun a => { a with streams := tset {} a.streams b {} }
    else s2.onBasin fun r => { r with routes := tmod {} r.routes (keyBay k) fun q => { q with essSeq := 0 } }
  s3.touch 0x02 k

/-- The change of a lane direction's manifest (R53): RELEASING streams that the list omits become undefined; with `add`, DEFINED
ones that it names become LIVE. -/
def switchManifest (dir lane : Nat) (hs : List Nat) (add : Bool) (epoch : Nat) (s : State) : State :=
  let gone := (members s dir lane).filter fun e => decide (e.2.st = .releasing) && !hs.contains (keyBay e.1)
  let new := if add then (listed s dir hs).filter fun e => decide (e.2.st = .defined) else []
  let s1 := gone.foldl (fun s e => setUndef e.1 s) s
  let s2 := new.foldl (fun s e => setLive e.1 s) s1
  let k := manKey dir lane
  (s2.onManifest k fun m => { m with epoch := epoch % 256, gen := genNext m.gen }).touch 0x02 (0x10000 + k)

/-! ### DEFINE_STREAM (R42, R43, R539) -/

/-- The stream handle and direction of a record name an object. -/
def streamGen (c : Cmd) (s : State) : Option Nat :=
  if c.u16 0 < 8192 ∧ c.u8 2 ≤ 1 then some (s.stream (streamKey (c.u8 2) (c.u16 0))).gen else none

/-- DEFINE_STREAM (R42). -/
def defineStreamInfo : CmdInfo := { opcode := 0x0201, content := true, length := fun _ => 24, gen := streamGen }

/-- The audio channels lie in the range of the direction and of the lane's die (R251). [DEDUCED, log 59] -/
def audioRangeOk (dir bay first count : Nat) : Bool :=
  let lo := (if dir = 0 then 0x4000 else 0x2000) + 0x6000 * bayDie bay
  decide (count = 0) || (decide (lo ≤ first) && decide (first + count ≤ lo + 0x6000))

/-- Row 1 of R539. [DEDUCED, log 59] -/
def defineRange (c : Cmd) : List (Bool × Nat) :=
  let h := c.u16 0
  let d := c.u8 2
  let w := c.u8 3
  [(decide (h < 8192) && (!streamWidths.contains w || placementOk h w), 0x20), (decide (d ≤ 1), 0x22), (streamWidths.contains w, 0x23),
   (decide (1 ≤ c.u8 4 ∧ c.u8 4 ≤ 3), 0x24), (decide (c.u8 5 ≤ 1), 0x25), (decide (c.u8 8 < 8), 0x28),
   (decide (c.u8 9 ≤ 64 ∧ ¬(c.u8 4 = 3 ∧ c.u8 9 = 0)), 0x29), (audioRangeOk d h (c.u16 0x0A) (c.u8 9), 0x2A),
   (if d = 0 then decide (c.u16 0x0C = 0) else decide (c.u8 0x0E = 0 ∨ (0xF000 ≤ c.u16 0x0C ∧ c.u16 0x0C + c.u8 0x0E ≤ 0x10000)), 0x2C),
   (decide (c.u8 0x0E ≤ if d = 0 then 0 else 16), 0x2E), (decide (c.u8 0x0F = 0), 0x2F), (decide (c.u32 0x14 = 0), 0x34)]

/-- Another defined stream of the direction uses one of the audio channels (R39). -/
def audioTaken (s : State) (k first count : Nat) : Bool :=
  decide (0 < count) && s.obj.streams.any fun e => decide (e.1 ≠ k ∧ keyDir e.1 = keyDir k ∧ e.2.st ≠ .undef ∧ 0 < e.2.audioCount) &&
    overlap first count e.2.audioFirst e.2.audioCount

/-- Another defined stream owns one of the ANC destinations (R39). -/
def ancTaken (s : State) (k first count : Nat) : Bool :=
  decide (0 < count) && s.obj.streams.any fun e => decide (e.1 ≠ k ∧ keyDir e.1 = keyDir k ∧ e.2.st ≠ .undef ∧ 0 < e.2.ancCount) &&
    overlap first count e.2.ancFirst e.2.ancCount

/-- The handle stands in a pending manifest of its lane direction. -/
def inPending (s : State) (k : Nat) : Bool :=
  match (s.manifestRt (manKey (keyDir k) (keyLane k))).pending with
  | some p => p.handles.contains (keyBay k)
  | none => false

/-- Row 2 of R539. -/
def defineState (c : Cmd) (s : State) : List (Bool × Nat) :=
  let k := streamKey (c.u8 2) (c.u16 0)
  let x := s.stream k
  let amend := c.u8 5 = 1
  [(if amend then decide (x.st = .live) else decide (x.st = .undef) || (decide (x.st = .defined) && !inPending s k), 0x20),
   (!amend || decide (c.u8 3 = x.width), 0x23), (!amend || decide (c.u8 4 = x.form), 0x24), ((s.rate (c.u8 8)).isSome, 0x28),
   (!audioTaken s k (c.u16 0x0A) (c.u8 9), 0x2A), (!ancTaken s k (c.u16 0x0C) (c.u8 0x0E), 0x2C)]

/-- Row 3 of R539. [DEDUCED, log 15] [DESIGN CHOICE, log 127] -/
def defineFormat (c : Cmd) (s : State) : List (Bool × Nat) :=
  let w := c.u8 3
  let f := c.u16 6
  if c.u8 4 = 3 then [(decide (w = 1), 0x23), (decide (f = 0xFFFF), 0x26)]
  else if c.u8 4 = 1 then
    [(!serialSome f || serialIn w f, 0x23), (serialIn w f && decide (s.rate (c.u8 8) = some (fmtRate f)), 0x26),
     (decide (c.u8 9 ≤ if w = 1 then 16 else 32), 0x29)]
  else
    [(!essenceSome f (c.u8 9) (c.u32 0x10) || essenceFits w f (c.u8 9) (c.u32 0x10), 0x23), (essenceSome f (c.u8 9) (c.u32 0x10) && decide (s.rate (c.u8 8) = some (fmtRate f)), 0x26)]

/-- The definition a record gives, in a state and with a generation. -/
def definition (c : Cmd) (st : StreamSt) (gen : Nat) : StreamObj :=
  { st := st, width := c.u8 3, form := c.u8 4, format := c.u16 6, plane := c.u8 8, audioFirst := if c.u8 9 = 0 then 0 else c.u16 0x0A,
    audioCount := c.u8 9, ancFirst := c.u16 0x0C, ancCount := c.u8 0x0E, ancAllow := if c.u32 0x10 = 0 then 10000 else c.u32 0x10, gen := gen }

/-- Write a stream's definition. -/
def putStream (k : Nat) (x : StreamObj) (s : State) : State := (s.onObj fun o => { o with streams := tset {} o.streams k x }).touch 0x02 k

/-- The reserved berth of a DEFINED stream that is redefined: made anew for its new size, or given up where it does not fit. [DEDUCED, log 55] -/
def redefineBerth (k : Nat) (x : StreamObj) (s : State) : State :=
  if keyDir k = 0 ∧ berthed s (keyBay k) then
    if berthable x then match amendBerth (keyBay k) x s with
      | some t => t
      | none => freeBerth (keyBay k) s
    else freeBerth (keyBay k) s
  else s

/-- The amended definition of a LIVE stream acts on its data from the frame tick of R86, on the new plane (R43). -/
def amendStream (k : Nat) (x : StreamObj) (s : State) : Option State :=
  let s1 := if keyDir k = 0 then amendBerth (keyBay k) x s else some s
  s1.map fun t => (putStream k x t).onStreamRt k fun r => { r with effAt := some (x.plane, armFrame s x.plane) }

/-- The effect of DEFINE_STREAM. -/
def defineStream (c : Cmd) (s : State) : Res :=
  let k := streamKey (c.u8 2) (c.u16 0)
  let x := s.stream k
  match firstBad (defineRange c) with
  | some off => rej .range off s
  | none => match firstBad (defineState c s) with
    | some off => rej .state off s
    | none => match firstBad (defineFormat c s) with
      | some off => rej .format off s
      | none =>
        if c.u8 5 = 1 then
          if definition c .live x.gen = x then ok s
          else match amendStream k (definition c .live (genNext x.gen)) s with
            | some t => ok t
            | none => rej .capacity 0xFFFF s
        else if definition c .defined x.gen = x then ok s
        else
          let y := definition c .defined (if x.st = .undef then 1 else genNext x.gen)
          ok (redefineBerth k y (putStream k y s))

/-! ### RELEASE_STREAM (R44, R45) -/

/-- RELEASE_STREAM (R44). -/
def releaseStreamInfo : CmdInfo := { opcode := 0x0202, content := true, length := fun _ => 8, gen := streamGen }

/-- A source handle is the stream or one of its audio channels. -/
def sourceOf (k : Nat) (x : StreamObj) (h : Nat) : Bool :=
  decide (keyDir k = 0) && (decide (h = keyBay k) || (decide (x.audioFirst ≤ h) && decide (h < x.audioFirst + x.audioCount)))

/-- A destination handle is the stream or one that it owns. -/
def destOf (k : Nat) (x : StreamObj) (d : Nat) : Bool :=
  decide (keyDir k = 1) && (decide (d = keyBay k) || (decide (x.audioFirst ≤ d) && decide (d < x.audioFirst + x.audioCount)) ||
    (decide (x.ancFirst ≤ d) && decide (d < x.ancFirst + x.ancCount)))

/-- The stream is a routed source, or stands in a queued take (R45). [DESIGN CHOICE, log 129] -/
def streamBusy (s : State) (k : Nat) (x : StreamObj) : Bool :=
  routedSource s (sourceOf k x) || queuedSource s (sourceOf k x) || queuedDest s (destOf k x)

/-- An uncommitted take that names the stream. -/
def namesStream (k : Nat) (x : StreamObj) (d : Nat) (e : Entry) : Bool :=
  destOf k x d || (match e.source with
    | some h => sourceOf k x h
    | none => false)

/-- A LIVE stream is released: it carries nothing from now on; an output sends idle fill from the frame tick of R86 (R40). -/
def releaseLive (c : Cmd) (k : Nat) (x : StreamObj) (s : State) : State :=
  let s1 := dropEntries (byCommand c) (openEntries s (namesStream k x)) s
  let s2 := (s1.onStream k fun y => { y with st := .releasing, gen := genNext y.gen }).touch 0x02 k
  if keyDir k = 1 then s2.onStreamRt k fun r => { r with fillAt := some (x.plane, armFrame s x.plane) } else s2

/-- The effect of RELEASE_STREAM. -/
def releaseStream (c : Cmd) (s : State) : Res :=
  match firstBad [(decide (c.u16 0 < 8192), 0x20), (decide (c.u8 2 ≤ 1), 0x22)] with
  | some off => rej .range off s
  | none =>
    let k := streamKey (c.u8 2) (c.u16 0)
    let x := s.stream k
    match x.st with
    | .undef => rej .state 0xFFFF s
    | .releasing => rej .state 0xFFFF s
    | .defined => if inPending s k then rej .state 0x20 s else ok (setUndef k s)
    | .live => if streamBusy s k x && !bitOf (c.u8 3) 0 then rej .state 0xFFFF s else ok (releaseLive c k x s)

/-! ### SET_MANIFEST (R47 to R55) -/

/-- SET_MANIFEST (R48). -/
def setManifestInfo : CmdInfo :=
  { opcode := 0x0203, content := true, length := fun c => 8 + 2 * c.u8 2,
    gen := fun c s => if c.u8 0 < 128 ∧ c.u8 1 ≤ 1 then some (s.manifest (manKey (c.u8 1) (c.u8 0))).gen else none }

/-- The handles a record lists. -/
def manifestList (c : Cmd) : List Nat := (List.range (c.u8 2)).map fun i => c.u16 (8 + 2 * i)

/-- The first place of a list for which `p` holds, given what stands before it. -/
def firstPlace (p : List Nat → Nat → Bool) : Nat → List Nat → List Nat → Option Nat
  | _, _, [] => none
  | i, seen, h :: r => if p seen h then some i else firstPlace p (i + 1) (seen ++ [h]) r

/-- The failing condition of R47: status and DETAIL. [DESIGN CHOICE, log 128] -/
def manifestFault (s : State) (dir lane : Nat) (hs : List Nat) : Option (Status × Nat) :=
  let obj := fun h => (streamKey dir h, s.stream (streamKey dir h))
  let ms := members s dir lane
  match firstPlace (fun seen h => seen.contains h) 0 [] hs with
  | some i => some (.range, 0x28 + 2 * i)
  | none => match firstPlace (fun _ h => decide (8192 ≤ h) || decide (h / 64 ≠ lane) || decide ((obj h).2.st = .undef)) 0 [] hs with
    | some i => some (.range, 0x28 + 2 * i)
    | none =>
      if hs.any (fun h => decide ((obj h).2.st = .releasing) || (decide ((obj h).2.st = .defined) && ms.any (sharesBay (obj h)))) ∨
          ms.any (fun e => decide (e.2.st = .live) && !hs.contains (keyBay e.1)) then some (.state, 0xFFFF)
      else match firstPlace (fun seen h => decide ((obj h).2.st = .defined) &&
          seen.any fun g => decide ((obj g).2.st = .defined) && sharesBay (obj g) (obj h)) 0 [] hs with
        | some i => some (.capacity, 0x28 + 2 * i)
        | none => none

/-- The lane direction switches at an epoch (R51, R55, R355): an ACTIVE one, and a transmit direction that is moored. -/
def atEpoch (s : State) (dir lane : Nat) : Bool :=
  let l := s.lane lane
  if dir = 0 then decide (l.rx = .active) else decide (l.tx = .active) || decide (l.tx = .moored)

/-- A pending manifest is replaced: its command completes as SUPERSEDED (R52). -/
def dropPendingManifest (k by_ : Nat) (s : State) : State :=
  match (s.manifestRt k).pending with
  | none => s
  | some p => (finish p.job .superseded by_ s).onManifestRt k fun m => { m with pending := none }

/-- An announced moor of a transmit direction is withdrawn by a command (R353, R361). -/
def withdrawMoor (lane by_ : Nat) (s : State) : State :=
  match (s.lane lane).txMoor with
  | none => s
  | some (_, id) => (finish id .superseded by_ s).onLane lane fun l => { l with txMoor := none, idleFor := 0 }

/-- A pending manifest of the transmit direction that R51 has not yet given a barge: a new choice begins. -/
def ManifestRt.hold (m : ManifestRt) (dir : Nat) (p : PendManifest) : ManifestRt :=
  { m with pending := some p, announce := if dir = 1 then none else m.announce, carried := false }

/-- The effect of an accepted SET_MANIFEST. -/
def acceptManifest (c : Cmd) (s : State) : Res :=
  let dir := c.u8 1
  let lane := c.u8 0
  let k := manKey dir lane
  let s1 := dropPendingManifest k (byCommand c) s
  if atEpoch s dir lane then
    let p : PendManifest := { handles := manifestList c, job := s.mbox.nextJob, timeoutTicks := msTicks (if c.u16 4 = 0 then 1000 else c.u16 4) }
    let s2 := s1.onManifestRt k fun m => m.hold dir p
    queued (.manifest k) (if dir = 1 then withdrawMoor lane (byCommand c) s2 else s2)
  else ok (switchManifest dir lane (manifestList c) true ((s.manifest k).epoch + 1) s1)

/-- The effect of SET_MANIFEST. [DEDUCED, log 57] -/
def setManifest (c : Cmd) (s : State) : Res :=
  match firstBad [(decide (c.u8 0 < 128), 0x20), (decide (c.u8 1 ≤ 1), 0x21), (decide (c.u8 2 ≤ 64), 0x22),
      (decide (c.u8 1 = 1 ∨ c.u16 4 ≤ 60000), 0x24)] with
  | some off => rej .range off s
  | none => match manifestFault s (c.u8 1) (c.u8 0) (manifestList c) with
    | some (st, d) => rej st d s
    | none =>
      if c.u8 1 = 0 ∧ s.obj.trims.syncAll then
        match syncBerths (byCommand c) ((manifestList c).filter fun h => decide ((s.stream h).st = .defined)) s with
        | some t => acceptManifest c t
        | none => rej .capacity 0xFFFF s
      else acceptManifest c s

/-! ### Epochs (R49 to R54, R344, R538) -/

/-- Signed distance in 32-bit barge numbers. [DEDUCED, log 57] -/
def seqAhead (a b : Nat) : Int := toInt 32 ((a + 2 ^ 32 - b % 2 ^ 32) % 2 ^ 32)

/-- An EPOCH record of the receive direction (R344), the last received barge being `lastSeq`. -/
def epochRecord (lane : Nat) (record : List Byte) (s : State) : State :=
  let a : Announce := { epoch := leNat (record.take 1), seq := leNat ((record.drop 4).take 4), digest := leNat ((record.drop 8).take 4) }
  let k := manKey 0 lane
  let lead := seqAhead a.seq (s.lane lane).lastSeq
  if lead ≤ 0 ∨ (s.manifestRt k).announce = some a then s
  else
    let s1 := s.onManifestRt k fun m => { m with announce := some a, pending := m.pending.map fun p => { p with late := p.late || decide (lead < 64) } }
    if lead < 64 then raise 0x0283 1 lane a.seq s1 else s1

/-- The announced epoch barge of a receive direction begins (R49, R53). [DEDUCED, log 57] -/
def receiveEpoch (lane : Nat) (a : Announce) (s : State) : State :=
  let k := manKey 0 lane
  let s1 := s.onManifestRt k fun m => { m with announce := none, pending := none }
  match (s.manifestRt k).pending with
  | none => raise 0x0282 2 lane a.seq (s1.onManifest k fun m => { m with epoch := a.epoch })
  | some p =>
    let good := a.digest = manifestDigest (listed s 0 p.handles)
    let s2 := switchManifest 0 lane p.handles good a.epoch s1
    let s3 := if good then s2 else raise 0x0281 2 lane a.digest s2
    finishNow p.job (if good then .done else .format) (s2.manifest k).gen (if good then 0 else 0xFFFF) s3

/-- The epoch barge of a transmit direction begins (R51, R53). -/
def transmitEpoch (lane : Nat) (a : Announce) (s : State) : State :=
  let k := manKey 1 lane
  let s1 := s.onManifestRt k fun m => { m with announce := none, pending := none, carried := false }
  match (s.manifestRt k).pending with
  | none => s1
  | some p =>
    let s2 := switchManifest 1 lane p.handles true a.epoch s1
    finishNow p.job .done (s2.manifest k).gen 0 s2

/-- An announced epoch barge begins. [DEDUCED, log 57] -/
def manifestEpoch (dir lane : Nat) (s : State) : State :=
  match (s.manifestRt (manKey dir lane)).announce with
  | none => s
  | some a => if dir = 0 then receiveEpoch lane a s else transmitEpoch lane a s

/-- No announcement has come within TIMEOUT (R49): the pending manifest is discarded. -/
def manifestTimeout (lane : Nat) (s : State) : State :=
  let m := s.manifestRt (manKey 0 lane)
  match m.pending, m.announce with
  | some p, none =>
    if p.timeoutTicks ≤ p.age then (finish p.job .timedOut 0 s).onManifestRt (manKey 0 lane) fun m => { m with pending := none } else s
  | _, _ => s

/-- One more tick of every pending manifest's age. -/
def ageManifests (s : State) : State :=
  s.onManifests fun t => t.map fun e => (e.1, { e.2 with pending := e.2.pending.map fun p => { p with age := p.age + 1 } })

/-! ### The meanings -/

/-- DEFINE_STREAM. -/
def execDefineStream (c : Cmd) (s : State) : Answer := answer (runCmd defineStreamInfo defineStream c s)

/-- RELEASE_STREAM. -/
def execReleaseStream (c : Cmd) (s : State) : Answer := answer (runCmd releaseStreamInfo releaseStream c s)

/-- SET_MANIFEST. -/
def execSetManifest (c : Cmd) (s : State) : Answer := answer (runCmd setManifestInfo setManifest c s)

/-- EPOCH_RECORD (R344). -/
def execEpochRecord (lane : Nat) (record : List Byte) (s : State) : Answer := answer (epochRecord lane record s)

/-- MANIFEST_EPOCH (R53). -/
def execManifestEpoch (direction lane : Nat) (s : State) : Answer := answer (manifestEpoch direction lane s)

/-- MANIFEST_TIMEOUT (R49). -/
def execManifestTimeout (lane : Nat) (s : State) : Answer := answer (manifestTimeout lane s)

end Sys2Proof.Machine
end

