-- ==== Sys2Proof/Machine/Layers.lean ====
section
/-! DEFINITION.  Composer layers: their settings, levels, line-buffer needs and read costs, and the checks of a take on a
layer slot (spec/10_pewter_composer.md). -/

namespace Sys2Proof.Machine
open Sys2Proof

/-! ### A layer's setting: the SET_LAYER payload (R315) -/

/-- A field of a layer's payload. -/
def lay (b : List Byte) (off n : Nat) : Nat := leNat ((b.drop off).take n)

/-- KIND (R290): 0 off, 1 video, 2 graphics. -/
def layKind (b : List Byte) : Nat := lay b 2 1

/-- VTAPS2. -/
def layTwo (b : List Byte) : Bool := bitOf (lay b 5 1) 0

/-- The rectangle X, Y, W, H. -/
def layRect (b : List Byte) : Nat × Nat × Nat × Nat := (lay b 8 2, lay b 0x0A 2, lay b 0x0C 2, lay b 0x0E 2)

/-- W. -/
def layW (b : List Byte) : Nat := lay b 0x0C 2

/-- H. -/
def layH (b : List Byte) : Nat := lay b 0x0E 2

/-- A slot's setting in a configuration; an empty one is off. -/
def HeadCfg.layer (c : HeadCfg) (slot : Nat) : List Byte := tget [] c.layers slot

/-- Slots of a configuration whose KIND is not 0, ascending. -/
def HeadCfg.enabled (c : HeadCfg) : List Nat := (c.layers.filter fun e => layKind e.2 ≠ 0).map Prod.fst

/-- The destination handle of a layer slot (R287). -/
def slotHandle (head slot : Nat) : Nat := 0xE000 + head * 128 + slot

/-- A handle is a bay of a head. -/
def headBay (head h : Nat) : Bool := decide (0x2000 ≤ h ∧ h < 0x2100 ∧ headOf h = head)

/-! ### Sources and levels (R292) -/

/-- The format a source has at present, none where it has none. -/
def sourceFormat (s : State) (src : Nat) : Option Nat :=
  match sourceInfo s src with
  | some i => if i.live ∧ i.format ≠ 0xFFFF then some i.format else none
  | none => none

/-- Level 0 of a source can be read: an input lane stream with a berth of at least 3 slots. -/
def level0 (s : State) (src : Nat) : Bool := decide (src < 0x2000) && decide (3 ≤ (s.berth src).slots)

/-- ceil(n / 2^l). -/
def halved (n l : Nat) : Nat := (n + 2 ^ l - 1) / 2 ^ l

/-- The used width of a crop; 0 selects the source's. -/
def cropW (b : List Byte) (format : Nat) : Nat := if lay b 0x14 2 = 0 then fmtW format else lay b 0x14 2

/-- The used height of a crop. -/
def cropH (b : List Byte) (format : Nat) : Nat := if lay b 0x16 2 = 0 then fmtH format else lay b 0x16 2

/-- The level the rule of R292 chooses, before availability. -/
def levelRule (cw ch w h : Nat) : Nat :=
  ((List.range 5).filter fun l => w ≤ halved cw l ∧ h ≤ halved ch l).foldl max 0

/-- The level a layer reads: level 1 where level 0 is chosen and not available, or raised under R300. -/
def layerLevel (s : State) (b : List Byte) (src format : Nat) (raised : Bool) : Nat :=
  let l := levelRule (cropW b format) (cropH b format) (layW b) (layH b)
  if l = 0 ∧ (raised ∨ level0 s src = false) then 1 else l

/-! ### Needs and costs (R299) -/

/-- Line-buffer pixels and bytes per frame of a layer from a source, with two taps or a raised level where those hold. -/
def layerLoad (s : State) (b : List Byte) (src : Option Nat) (two raised : Bool) : Nat × Nat :=
  if layKind b = 2 then (0, 2 * layW b * layH b)
  else if layKind b = 1 then
    match src with
    | none => (0, 0)
    | some h => match sourceFormat s h with
      | none => (0, 0)
      | some f =>
        let l := layerLevel s b h f raised
        ((if two || layTwo b then 2 else 6) * halved (fmtW f) l, (if l = 0 then 6 else 4) * (halved (cropW b f) l * halved (cropH b f) l))
  else (0, 0)

/-- Loads of a configuration, one slot's source being given apart; no layer fallen back. -/
def headLoad (s : State) (head : Nat) (c : HeadCfg) (override : Nat → Option (Option Nat)) : Nat × Nat :=
  (c.layers.map fun e => layerLoad s e.2 ((override e.1).getD (s.route (slotHandle head e.1)).source) false false).foldl
    (fun a x => (a.1 + x.1, a.2 + x.2)) (0, 0)

/-- The line-buffer pool of a head (R299). -/
def linePool : Nat := 393216

/-- A head's read budget in bytes per frame (R299). -/
def readBudget (rate : Nat) : Nat := 6250000000 * (rateND rate).2 / (rateND rate).1

/-- The budget of a head on a plane. -/
def headBudget (s : State) (c : HeadCfg) : Nat :=
  match c.plane with
  | some p => match s.rate p with
    | some r => readBudget r
    | none => 0
  | none => 0

/-! ### Coverage (R289) -/

/-- A layer covers a pixel. [DEDUCED, log 74] -/
def covers (b : List Byte) (x y : Nat) : Bool :=
  let r := layRect b
  decide (r.1 ≤ x ∧ x < r.1 + r.2.2.1 ∧ r.2.1 ≤ y ∧ y < r.2.1 + r.2.2.2)

/-- Slots of a quadrant (R287); without SPLIT every slot is of quadrant 0. -/
def inQuadrant (split : Bool) (q slot : Nat) : Bool := if split then decide (slot / 32 = q) else decide (q = 0)

/-- Enabled layers of a quadrant, with their slots. -/
def quadLayers (c : HeadCfg) (q : Nat) : List (Nat × List Byte) := c.layers.filter fun e => layKind e.2 ≠ 0 && inQuadrant c.split q e.1

/-- The highest slot that covers the first pixel, in raster order, of a quadrant that more than 8 layers cover.  Such a pixel
lies on a top edge and on a left edge. -/
def overCovered (c : HeadCfg) (q : Nat) : Option Nat :=
  let ls := quadLayers c q
  let ys := (ls.map fun e => (layRect e.2).2.1).foldl setAdd []
  let xs := (ls.map fun e => (layRect e.2).1).foldl setAdd []
  ((ys.flatMap fun y => xs.map fun x => (x, y)).filter fun p => decide (p.1 < fmtW c.format ∧ p.2 < fmtH c.format)).findSome? fun p =>
    let hit := ls.filter fun e => covers e.2 p.1 p.2
    if 8 < hit.length then some ((hit.map Prod.fst).foldl max 0) else none

/-! ### A head never shows itself (R291) -/

/-- Heads whose bays a head's layer slots are routed from. -/
def headsShown (s : State) (g : Nat) : List Nat :=
  (s.obj.routes.filterMap fun e => if destRange e.1 = 2 ∧ slotHead e.1 = g then (match e.2.source with
    | some h => if 0x2000 ≤ h ∧ h < 0x2100 then some (headOf h) else none
    | none => none) else none).foldl setAdd []

/-- Heads reached from a set through layer routes, in at most so many steps. -/
def headsReached (s : State) : Nat → List Nat → List Nat
  | 0, gs => gs
  | n + 1, gs => headsReached s n ((gs.flatMap (headsShown s)).foldl setAdd gs)

/-- A head shows another, or is it. -/
def headShows (s : State) (g h : Nat) : Bool := (headsReached s 32 [g]).contains h

/-! ### Takes on layer slots (R291) -/

/-- The checks of R291: status and offset. -/
def layerTakeFault (s : State) (d src : Nat) : Option (Status × Nat) :=
  let h := slotHead d
  let c := (s.headObj h).cfg
  if c.plane.isNone ∨ layKind (c.layer (slotNo d)) ≠ 1 then some (.state, 0x00)
  else if 0x2000 ≤ src ∧ src < 0x2100 ∧ headShows s (headOf src) h = true then some (.state, 0x02)
  else match sourceInfo s src with
    | none => none
    | some i =>
      if i.form = 3 then some (.format, 0x02)
      else
        let n := headLoad s h c fun k => if k = slotNo d then some (some src) else none
        if linePool < n.1 ∨ headBudget s c < n.2 then some (.capacity, 0x02)
        else if (makePyramid src s).isNone then some (.capacity, 0x02)
        else none

end Sys2Proof.Machine
end

