-- ==== Sys2Proof/Machine/Audio.lean ====
section
/-! DEFINITION.  The audio shuffler: gains, sums, crossfades, delay lines, buffers and slips (spec/09_audio.md). -/

namespace Sys2Proof.Machine
open Sys2Proof

/-! ### Arithmetic (R222, R267 to R270) -/

/-- The 24-bit sample of a word. -/
def sample24 (w : Nat) : Int := toInt 24 (w / 256)

/-- Bits [7:4] of a word. -/
def wordBits (w : Nat) : Nat := w / 16 % 16

/-- A word of a sample and bits [7:4]. -/
def wordOf (x : Int) (bits : Nat) : Nat := ofInt 24 x * 256 + bits * 16

/-- 10^(a/b) × 2^24 is at least g − 1/2, compared exactly. -/
def gainReaches (a : Int) (b g : Nat) : Bool :=
  if 0 ≤ a then decide ((2 * g - 1) ^ b ≤ 10 ^ a.natAbs * 2 ^ (25 * b)) else decide ((2 * g - 1) ^ b * 10 ^ a.natAbs ≤ 2 ^ (25 * b))

/-- The largest g of so many bits that is reached, `g0` being reached. -/
def gainSearch (a : Int) (b : Nat) : Nat → Nat → Nat
  | 0, g => g
  | k + 1, g => if gainReaches a b (g + 2 ^ k) then gainSearch a b k (g + 2 ^ k) else gainSearch a b k g

/-- The coefficient of GAIN_DB (R267), without INVERT: floor(10^(GAIN_DB / 1,310,720) × 2^24 + 1/2). -/
def gainCoeff (db : Int) : Nat :=
  let d := Nat.gcd db.natAbs 1310720
  gainSearch (db / d) (1310720 / d) 28 0

/-- Bring a value into 32 bits, signed. -/
def sat32 (x : Int) : Int := clampI (-2147483648) 2147483647 x

/-- A contribution value (R268). -/
def contrValue (s g : Int) : Int := sat32 ((s * g + 524288) / 1048576)

/-- A contribution value falls outside its range before saturation. -/
def contrOver (s g : Int) : Bool := decide ((s * g + 524288) / 1048576 ≠ contrValue s g)

/-- The sum of contributions in order, and whether any step saturated (R268). -/
def sumValue (word : Nat → Nat) : List Contr → Int × Bool → Int × Bool
  | [], a => a
  | c :: r, a =>
    let s := sample24 (word c.source)
    let v := contrValue s c.g
    sumValue word r (sat32 (a.1 + v), a.2 || contrOver s c.g || decide (sat32 (a.1 + v) ≠ a.1 + v))

/-- The crossfade of R269 at sample k of N. -/
def crossfade (a b : Int) (k n : Nat) : Int :=
  if n ≤ k then b
  else
    let w : Int := (k * 65536 / n : Nat)
    (a * (65536 - w) + b * w + 32768) / 65536

/-- Rounding to 24 bits (R270). -/
def round24 (x : Int) : Int := clampI (-8388608) 8388607 ((x + 8) / 16)

/-- Through the running crossfades, oldest first, to the present sum (R271): value and saturation. -/
def fadeValue (word : Nat → Nat) (now : Nat) (last : List Contr) : List Fade → Int × Bool → Int × Bool
  | [], a => a
  | f :: r, a =>
    let target := match r with
      | [] => last
      | g :: _ => g.old
    let b := sumValue word target (0, false)
    fadeValue word now last r (crossfade a.1 b.1 (now - f.start) f.n, a.2 || b.2)

/-- A channel's value x at stage 4, and saturation. -/
def mixValue (word : Nat → Nat) (now : Nat) (sum : List Contr) (fades : List Fade) : Int × Bool :=
  match fades with
  | [] => sumValue word sum (0, false)
  | f :: _ => fadeValue word now sum fades (sumValue word f.old (0, false))

/-- Crossfades that still run: an ended one takes with it those it was nested on. -/
def pruneFades (now : Nat) : List Fade → List Fade
  | [] => []
  | f :: r => if r.any (fun g => decide (g.start + g.n ≤ now)) then pruneFades now r else if f.start + f.n ≤ now then pruneFades now r else f :: r

/-! ### The generated channel-status bits (R270) -/

/-- One bit through the AES3 CRCC: x^8 + x^4 + x^3 + x^2 + 1. [PRESUMED, log 12] -/
def crccBit (c : Nat) (b : Bool) : Nat := if (c / 128 % 2 == 1) != b then Nat.xor (c * 2 % 256) 0x1D else c * 2 % 256

/-- The first 23 bytes of the generated block. -/
def statusBytes : List Byte := 0x85#8 :: 0#8 :: 0x29#8 :: List.replicate 20 0#8

/-- The CRCC byte of the generated block, its most significant bit first in transmission (AES3). [PRESUMED, log 12] -/
def statusCrcc : Nat := (bitsOf statusBytes).foldl crccBit 0xFF

/-- The channel-status bit of place i of the generated block of 192. -/
def statusBit (i : Nat) : Bool := if i < 184 then (bitsOf statusBytes).getD i false else bitOf statusCrcc (191 - i)

/-- Bits [7:4] of the n-th generated word: V 0, U 0, C, and Z on every 192nd. [DEDUCED, log 67] -/
def generatedBits (n : Nat) : Nat := 2 * bit (statusBit (n % 192)) + bit (n % 192 = 0)

/-! ### The audio of the state -/

/-- The audio of an input stream. -/
def State.aud (s : State) (bay : Nat) : AudStream := tget {} s.audio.streams bay

/-- Change the audio of an input stream. -/
def State.onAud (s : State) (bay : Nat) (f : AudStream → AudStream) : State :=
  s.onAudio fun a => { a with streams := tmod {} a.streams bay f }

/-- A source channel in service. -/
def State.srcChan (s : State) (ch : Nat) : SrcChan := tget {} s.audio.src ch

/-- Change a source channel. -/
def State.onSrcChan (s : State) (ch : Nat) (f : SrcChan → SrcChan) : State :=
  s.onAudio fun a => { a with src := tmod {} a.src ch f }

/-- A destination channel in service. -/
def State.dstChan (s : State) (ch : Nat) : DstChan := tget {} s.audio.dst ch

/-- Change a destination channel. -/
def State.onDstChan (s : State) (ch : Nat) (f : DstChan → DstChan) : State :=
  s.onAudio fun a => { a with dst := tmod {} a.dst ch f }

/-- A destination channel's processing setting. -/
def State.chanObj (s : State) (ch : Nat) : ChanObj := tget {} s.obj.chans ch

/-- The setting of a channel that is in force at its output. -/
def inForce (s : State) (ch : Nat) : ChanObj := ((s.dstChan ch).cur).getD (s.chanObj ch)

/-- Position of a destination channel in its stream. -/
def dstPos (s : State) (ch : Nat) : Nat :=
  match audioOwner s ch with
  | some k => ch - (s.stream k).audioFirst
  | none => 0

/-- The channel that carries a linked pair's settings: its even channel (R253). -/
def leadOf (s : State) (ch : Nat) : Nat := if (inForce s ch).linked ∧ dstPos s ch % 2 = 1 then ch - 1 else ch

/-- The source channel on which a channel's main contribution stands (R265), by following or by its own route; a following channel has none
while formats differ (R156). -/
def mainOf (s : State) (ch : Nat) : Option Nat :=
  if (inForce s ch).brokenAway then (s.route ch).source
  else match audioOwner s ch with
    | none => none
    | some k => match (s.route (keyBay k)).source with
      | some h =>
        let x := s.stream h
        let c := ch - (s.stream k).audioFirst
        if h < 0x2000 ∧ x.st = .live ∧ c < x.audioCount ∧ (s.routeRt (keyBay k)).mismatch = false then some (x.audioFirst + c) else none
      | none => none

/-- A source channel's contributions are heard: its stream is LIVE and not faded for a loss or reset (R276). -/
def audible (s : State) (src : Nat) : Bool :=
  match audioSource s src with
  | some k => !(s.aud k).faded
  | none => false

/-- A contribution with a gain. -/
def contrOf (src : Nat) (db : Int) (mute invert : Bool) : Contr :=
  { source := src, g := (if mute then 0 else if invert then -(gainCoeff db : Int) else gainCoeff db), unity := decide (db = 0) && !mute && !invert }

/-- The sum a channel should have now: its contributions in order, and whether the first is the main one. -/
def wantedSum (s : State) (ch : Nat) : List Contr × Bool :=
  let l := leadOf s ch
  let o := inForce s l
  let main := ((mainOf s l).map fun h => contrOf (h + (ch - l)) o.gainDb o.minusInf o.invert).filter fun c => audible s c.source
  let mixes := ([o.mix1, o.mix2, o.mix3].filterMap id).filterMap fun m =>
    let c := contrOf (m.source + (ch - l)) m.gainDb (decide (m.gainDb = -2147483648)) m.invert
    if audible s c.source then some c else none
  (main.toList ++ mixes, main.isSome)

/-- A sum includes a non-audio source. -/
def sumNonAudio (s : State) (cs : List Contr) : Bool := cs.any fun c => (s.srcChan c.source).nonAudio

/-- Bring a channel to the sum it should have, by a crossfade of `n` samples; hard where a non-audio source is in either sum
(R271, R274).  A take starts its crossfade though its sum be the same: one that runs becomes its old side. -/
def refade (taken : Bool) (n : Nat) (s : State) (ch : Nat) : State :=
  let d := s.dstChan ch
  let w := wantedSum s ch
  if d.sum = w.1 ∧ d.hasMain = w.2 ∧ (taken = false ∨ pruneFades s.now d.fades = []) then s
  else
    let m := if sumNonAudio s d.sum ∨ sumNonAudio s w.1 then 0 else n
    let run := pruneFades s.now d.fades
    let keep := if 2 ≤ run.length then run.drop (run.length - 1) else run
    s.onDstChan ch fun d => { d with sum := w.1, hasMain := w.2, fades := keep ++ [{ old := d.sum, start := s.now, n := m }] }

/-- Refade by the channel's default crossfade. -/
def refadeDefault (s : State) (ch : Nat) : State := refade false (16 * (inForce s ch).xfade) s ch

/-- Audio destination channels of LIVE output streams, ascending by stream. -/
def liveChannels (s : State) : List Nat := (liveOutputs s).flatMap fun k => span (s.stream k).audioFirst (s.stream k).audioCount

/-- Every channel takes up what its sources now give, by its default crossfade. -/
def refadeAll (s : State) : State := (liveChannels s).foldl refadeDefault s

/-- The route a channel's main contribution follows has changed: a crossfade in units of 16 samples, or the default (R265,
R270). -/
def routeFade (xfade : Option Nat) (s : State) (ch : Nat) : State :=
  refade true (16 * xfade.getD (inForce s ch).xfade) (s.onDstChan ch fun d => { d with cleanRoute := true }) ch

/-- The channels of an output stream that follow its video route (R265). -/
def followers (s : State) (k : Nat) : List Nat :=
  (span (s.stream k).audioFirst (s.stream k).audioCount).filter fun ch => !(inForce s (leadOf s ch)).brokenAway

/-- A stream's audio fades to silence: it is lost or its buffers are reset (R276). -/
def fadeStream (bay : Nat) (s : State) : State := refadeAll (s.onAud bay fun a => { a with faded := true })

/-! ### Source buffers (R257 to R259) -/

/-- Source channels of a LIVE input stream. -/
def sourceChannels (s : State) (bay : Nat) : List Nat := span (s.stream bay).audioFirst (s.stream bay).audioCount

/-- The fill of a stream's channel-0 buffer. -/
def audFill (s : State) (bay : Nat) : Nat := (s.srcChan (s.stream bay).audioFirst).buf.length

/-- The number of the oldest sample that a stream's buffers hold: those that wait in a berth have not reached them. -/
def firstHeld (s : State) (bay : Nat) : Nat := (s.aud bay).written - audFill s bay - (s.srcChan (s.stream bay).audioFirst).berth.length

/-- A standby reads a stream by the helm's pairing (R258): samples whose turn has passed are dropped, and reading begins. -/
def readByPairing (bay : Nat) (s : State) : State :=
  let skip := (s.aud bay).read - firstHeld s bay
  let s1 := (sourceChannels s bay).foldl (fun s ch => s.onSrcChan ch fun c => { c with buf := c.buf.drop skip }) s
  refadeAll (s1.onAud bay fun a => { a with primed := true, faded := false, winMin := 128, winMax := 0 })

/-- On a standby that holds a pairing, reading begins when the samples it names have come in (R388); until then they pass by. -/
def awaitPairing (s : State) (bay : Nat) : State :=
  let a := s.aud bay
  if s.isHelm ∨ a.primed ∨ a.pairing.isNone then s
  else
    let s1 := s.onAud bay fun a => { a with read := (a.read + 1) % 2 ^ 64 }
    if firstHeld s1 bay ≤ (s1.aud bay).read ∧ audFill s1 bay ≠ 0 then readByPairing bay s1 else s1

/-- A buffer reset (R259): contents go, destinations fade, priming begins afresh. -/
def resetBuffer (bay fill : Nat) (s : State) : State :=
  let s1 := (sourceChannels s bay).foldl (fun s ch => s.onSrcChan ch fun c => { c with buf := [] }) s
  let s2 := s1.onAud bay fun a => { a with primed := false, pairing := none, sync := false, clean := 0, slip := none, winMin := 128, winMax := 0,
                                           resets := inc a.resets }
  raise 0x0983 2 bay fill (fadeStream bay s2)

/-- The word written for a sample that is missing: sample 0 with [7:4] of the word before (R257), marked as missing by bit 32. -/
def arrivedWord (last w : Nat) : Nat := if w < 2 ^ 32 then w else 2 ^ 32 + wordBits last * 16

/-- Write words into a channel's buffer, in arrival order; a missing one is 2^32. -/
def writeWords (s : State) (ch : Nat) (ws : List Nat) : State :=
  ws.foldl (fun s w => s.onSrcChan ch fun c => { c with buf := c.buf ++ [arrivedWord c.lastIn w], lastIn := arrivedWord c.lastIn w }) s

/-- Words of a stream arrive: into its buffers, or into the audio area of its berth (R257). -/
def audioArrives (bay : Nat) (words : List (Nat × List Nat)) (s : State) : State :=
  let first := (s.stream bay).audioFirst
  let lost := (words.map fun e => (e.2.filter fun w => 2 ^ 32 ≤ w).length).sum
  let count := tget [] words first
  let s1 := s.onAud bay fun a => { a with missing := satAdd 32 a.missing lost, written := (a.written + count.length) % 2 ^ 64 }
  if berthed s bay then
    words.foldl (fun s e => s.onSrcChan e.1 fun c => { c with berth := c.berth ++ e.2.map fun w => (s.elapsed, w) }) s1
  else if 128 < audFill s1 bay + count.length then resetBuffer bay (audFill s1 bay) s1
  else words.foldl (fun s e => writeWords s e.1 e.2) s1

/-- The mean lag of a berth in ticks: (1 + DELAY_FRAMES) frames (R200, R201). [DEDUCED, log 65] -/
def berthLag (s : State) (bay : Nat) : Nat :=
  match s.rate (readPlane s bay) with
  | some r => (1 + (s.fsync bay).delay) * 48000 * (rateND r).2 / (rateND r).1
  | none => 0

/-- Words of a berthed stream reach its buffers when their lag has passed. -/
def berthFeeds (s : State) (bay : Nat) : State :=
  let lag := if berthed s bay then berthLag s bay else 0
  let due := fun (c : SrcChan) => (c.berth.filter fun e => e.1 + lag ≤ s.elapsed).map Prod.snd
  let n := (due (s.srcChan (s.stream bay).audioFirst)).length
  if n = 0 then s
  else
    let fed := (sourceChannels s bay).foldl (fun t ch =>
      let ws := due (t.srcChan ch)
      let t1 := t.onSrcChan ch fun c => { c with berth := c.berth.filter fun e => s.elapsed < e.1 + lag }
      if 128 < audFill s bay + n then t1 else writeWords t1 ch ws) s
    if 128 < audFill s bay + n then resetBuffer bay (audFill s bay) fed else fed

/-! ### Slips (R260 to R263) -/

/-- A pipeline as its 32 words. -/
def pipe32 (p : List Nat) : List Nat := List.replicate (32 - p.length) 0 ++ p.drop (p.length - 32)

/-- The index that R262 chooses for a pair. -/
def slipIndex (p0 p1 : List Nat) : Nat :=
  let m := (List.range 32).map fun i => max (sample24 (p0.getD i 0)).natAbs (sample24 (p1.getD i 0)).natAbs
  m.findIdx fun x => x = m.foldl min (2 ^ 24)

/-- Take `n` words from a buffer onto the pipeline. -/
def takeWords (n : Nat) (c : SrcChan) : SrcChan :=
  { c with buf := c.buf.drop n, pipe := c.pipe ++ (c.buf.take n ++ List.replicate (n - c.buf.length) 0) }

/-- Remove element j and take two words (a drop), or repeat element j and take none. -/
def slipPipe (drop : Bool) (j : Nat) (c : SrcChan) : SrcChan :=
  let p := pipe32 c.pipe
  if drop then takeWords 2 { c with pipe := p.eraseIdx j } else { c with pipe := p.take (j + 1) ++ p.drop j }

/-- The other channel of a source channel's pair, none for an unpaired last one (R252). -/
def pairOf (x : StreamObj) (ch : Nat) : Option Nat :=
  let c := ch - x.audioFirst
  if c % 2 = 1 then some (ch - 1) else if c + 1 < x.audioCount then some (ch + 1) else none

/-- Slip one pair of a stream (R262); a non-audio pair's slip stands at element 0, and mutes what the pair feeds (R275). -/
def slipPair (x : StreamObj) (drop : Bool) (s : State) (ch : Nat) : State :=
  let c0 := s.srcChan ch
  let j := if c0.nonAudio then 0
    else slipIndex (pipe32 c0.pipe) (match pairOf x ch with
      | some o => pipe32 (s.srcChan o).pipe
      | none => [])
  let f := fun c => { slipPipe drop j c with muteFrom := if c0.nonAudio then some s.now else c.muteFrom }
  let s1 := s.onSrcChan ch f
  match pairOf x ch with
  | some o => s1.onSrcChan o f
  | none => s1

/-- A sample in a stream's pipelines is missing, or came from a damaged barge (R264). -/
def pipesDoubtful (s : State) (bay : Nat) : Bool := (sourceChannels s bay).any fun ch => (s.srcChan ch).pipe.any fun w => decide (2 ^ 32 ≤ w)

/-- A destination fed from a stream that slips: its bits are generated from here on (R270). -/
def unclean (x : StreamObj) (e : Nat × DstChan) : Nat × DstChan :=
  if e.2.sum.any fun c => x.audioFirst ≤ c.source ∧ c.source < x.audioFirst + x.audioCount then (e.1, { e.2 with cleanRoute := false }) else e

/-- A slip takes effect on every pair of the stream (R262): counted, its destinations' bits generated from here on; on a standby
whose pipelines held a doubtful sample, its destinations are doubtful for 32 samples (R264). -/
def slipNow (bay : Nat) (drop : Bool) (s : State) : State :=
  let x := s.stream bay
  let evens := (sourceChannels s bay).filter fun ch => (ch - x.audioFirst) % 2 = 0
  let shaky := !s.isHelm && pipesDoubtful s bay
  let s1 := evens.foldl (slipPair x drop) s
  let s2 := s1.onAud bay fun a => { a with slip := none, lastSlip := s.now, read := if drop then a.read + 1 else a.read - 1, drops := if drop then inc a.drops else a.drops,
                                           repeats := if drop then a.repeats else inc a.repeats, doubtful := if shaky then 32 else a.doubtful }
  s2.onAudio fun a => { a with dst := a.dst.map (unclean x) }

/-- The effect tick of a slip decided now (R261): the first F(n), of any enabled plane, whose deadline is not past. [DEDUCED, log 66] -/
def slipTick (s : State) : Option Nat :=
  ((enabledPlanes s).map fun p => (frameTick s p (armFrame s p)).toNat).foldl (fun m t => some (match m with
    | none => t
    | some u => min u t)) none

/-- A decision by which no slip was decided: after 1,000 of them the stream is SYNC (R263). -/
def noSlip (s : State) (bay : Nat) : State :=
  let a := s.aud bay
  let n := min 1000 (a.clean + 1)
  let s1 := s.onAud bay fun a => { a with clean := n, sync := a.sync || decide (n = 1000) }
  if n = 1000 ∧ a.sync = false then raise 0x0982 0 bay 0 s1 else s1

/-- A slip is decided: it is pending, SYNC is cleared, and AUDIO_SYNC_LOST raised (R261, R263). [DEDUCED, log 66] -/
def slipDecided (bay : Nat) (drop : Bool) (t : Nat) (s : State) : State :=
  raise 0x0981 1 bay (bit drop) (s.onAud bay fun a => { a with slip := some (drop, t), clean := 0, sync := false })

/-- One stream's slip decision (R260, R263): the helm's; a standby makes none of its own, and only closes its window.  A window
in which no tick has been counted is already decided on (log entry 7). [DEDUCED, log 66] -/
def decideSlip (s : State) (bay : Nat) : State :=
  let a := s.aud bay
  if a.primed = false ∨ a.winMax < a.winMin then s
  else
    let s1 := s.onAud bay fun a => { a with fillMin := a.winMin, fillMax := a.winMax, winMin := 128, winMax := 0 }
    if s.isHelm = false ∨ a.slip.isSome ∨ (16 ≤ a.winMin ∧ a.winMax ≤ 112) then noSlip s1 bay
    else match slipTick s with
      | none => s1
      | some t =>
        let drop := decide (16 ≤ a.winMin)
        (slipDecided bay drop t s1).onTwin fun w => { w with slips := w.slips ++ [(bay, drop, t)] }

/-- Slip decisions of the tick, every 480 ticks (R260). -/
def slipDecisions (s : State) : State := if s.now % 480 = 0 then (liveInputs s).foldl decideSlip s else s

/-- A pending slip whose effect tick is the present one takes effect (R262). -/
def slipEffect (bay : Nat) (s : State) : State :=
  match (s.aud bay).slip with
  | some (drop, t) => if t = s.now then slipNow bay drop s else s
  | none => s

/-- Priming completes at the first tick at which the fill reaches 64, on the helm (R258). [DEDUCED, log 66] -/
def completePriming (s : State) (bay : Nat) : State :=
  let a := s.aud bay
  if s.isHelm ∧ a.primed = false ∧ streamLive s bay ∧ 64 ≤ audFill s bay then
    let n := firstHeld s bay
    let s1 := s.onAud bay fun a => { a with primed := true, pairing := some (s.now, n), read := n, faded := false, winMin := 128, winMax := 0, clean := 0 }
    refadeAll (s1.onTwin fun w => { w with primings := w.primings ++ [(bay, s.now, n)] })
  else s

/-! ### One tick of a source channel (R255 stage 1, R273) -/

/-- Two consecutive words carry an ST 337 sync pair. -/
def syncPair (a b : Nat) : Bool :=
  let x := a / 256
  let y := b / 256
  (decide (x / 256 = 0xF872) && decide (y / 256 = 0x4E1F)) || (decide (x / 16 = 0x6F872) && decide (y / 16 = 0x54E1F)) ||
    (decide (x = 0x96F872) && decide (y = 0xA54E1F))

/-- A word is the first of a sync pair. -/
def isPa (w : Nat) : Bool :=
  let x := w / 256
  decide (x / 256 = 0xF872 ∨ x / 16 = 0x6F872 ∨ x = 0x96F872)

/-- One word leaves the pipeline, and one comes in unless a slip has just refilled it. -/
def passWord (primed : Bool) (c : SrcChan) : SrcChan :=
  let p := if c.pipe.length ≤ 32 then pipe32 c.pipe else c.pipe
  let rest := { c with pipe := p.tail, prev := c.out, out := p.headD 0 % 2 ^ 32 }
  let fed := if 32 < p.length then rest else if primed then takeWords 1 rest else { rest with pipe := rest.pipe ++ [0] }
  let z := bitOf (wordBits fed.out) 0
  let bits := if z then [bitOf (wordBits fed.out) 1] else if fed.csBits.isEmpty then [] else fed.csBits ++ [bitOf (wordBits fed.out) 1]
  let full := decide (bits.length = 192)
  { fed with csBits := if full then [] else bits, csNonAudio := if full then bits.getD 1 false else fed.csNonAudio,
             since := if syncPair c.out fed.out then 0 else min 8192 (c.since + 1) }

/-- Judge a pair, or an unpaired channel, for non-audio after the words of the tick have left. [DEDUCED, log 67] -/
def judgeNonAudio (x : StreamObj) (s : State) (ch : Nat) : State :=
  let c := s.srcChan ch
  let o := (pairOf x ch).map s.srcChan
  let p : SrcChan → Bool := fun k => decide (k.since = 0) || k.csNonAudio
  let q : SrcChan → Bool := fun k => decide (8192 ≤ k.since) && !k.csNonAudio
  let v := if p c || (o.map p).getD false then true else if q c && (o.map q).getD true then false else c.nonAudio
  let s1 := s.onSrcChan ch fun c => { c with nonAudio := v }
  match pairOf x ch with
  | some j => s1.onSrcChan j fun c => { c with nonAudio := v }
  | none => s1

/-- A slip's mute of a pair ends with the next Pa that leaves either channel, or after 8,192 samples (R275). [DEDUCED, log 67] -/
def endMute (x : StreamObj) (s : State) (ch : Nat) : State :=
  let c := s.srcChan ch
  let pa := isPa c.out || ((pairOf x ch).map fun o => isPa (s.srcChan o).out).getD false
  match c.muteFrom with
  | none => s
  | some t =>
    if (pa ∧ t < s.now) ∨ t + 8192 ≤ s.now then
      let f := fun (c : SrcChan) => { c with muteFrom := none }
      let s1 := s.onSrcChan ch f
      match pairOf x ch with
      | some o => s1.onSrcChan o f
      | none => s1
    else s

/-- One tick of an input stream's audio: a slip due, words through the pipelines, non-audio judged, fills noted, an emptied buffer
reset. -/
def tickSource (s : State) (bay : Nat) : State :=
  let x := s.stream bay
  if x.audioCount = 0 then s
  else
    let s1 := slipEffect bay (berthFeeds s bay)
    let a := s1.aud bay
    let evens := (sourceChannels s bay).filter fun ch => (ch - x.audioFirst) % 2 = 0
    let s2 := (sourceChannels s bay).foldl (fun s ch => s.onSrcChan ch (passWord a.primed)) s1
    let s3 := evens.foldl (endMute x) (evens.foldl (judgeNonAudio x) s2)
    let f := audFill s3 bay
    let s4 := s3.onAud bay fun a =>
      { a with read := if a.primed then (a.read + 1) % 2 ^ 64 else a.read, winMin := if a.primed then min a.winMin f else a.winMin,
               winMax := if a.primed then max a.winMax f else a.winMax, doubtful := a.doubtful - 1 }
    if a.primed ∧ f = 0 then resetBuffer bay 0 s4 else s4

/-! ### One tick of a destination channel (R255 stages 2 to 7) -/

/-- A channel's only contribution is its main one at unity, without crossfade, and it has no mix entry (R274). -/
def loneContr (s : State) (ch : Nat) : Option Nat :=
  let d := s.dstChan ch
  let o := inForce s (leadOf s ch)
  match d.sum with
  | [c] => if c.unity ∧ d.hasMain ∧ (pruneFades s.now d.fades).isEmpty ∧ o.mix1.isNone ∧ o.mix2.isNone ∧ o.mix3.isNone then some c.source else none
  | _ => none

/-- A destination channel's pair is pair-transparent (R274): the source pair it carries whole. -/
def pairTransparent (s : State) (ch : Nat) : Bool :=
  match audioOwner s ch with
  | none => false
  | some k => match pairOf (s.stream k) ch with
    | none => false
    | some o =>
      let a := min ch o
      let b := max ch o
      match loneContr s a, loneContr s b with
      | some u, some v => match audioSource s u with
        | some bay => decide (v = u + 1) && decide ((u - (s.stream bay).audioFirst) % 2 = 0) && decide (v < (s.stream bay).audioFirst + (s.stream bay).audioCount)
            && decide ((inForce s a).delay = (inForce s b).delay) && (s.aud bay).sync
        | none => false
      | _, _ => false

/-- The first non-audio source of a channel's sum, a slip's mute included (R275). -/
def muteSource (s : State) (d : DstChan) : Option Nat :=
  (d.sum.find? fun c => (s.srcChan c.source).nonAudio).map fun c => c.source

/-- A source of the channel's sum is muted by a slip on a non-audio pair (R275). -/
def slipMuted (s : State) (d : DstChan) : Bool :=
  d.sum.any fun c => (s.srcChan c.source).muteFrom.isSome

/-- Read a delay line, newest word first; what it has not yet filled reads zero. [DEDUCED, log 65] -/
def tapAt (line : List Nat) (d : Nat) : Nat := line.getD d 0

/-- Through the running delay crossfades, oldest first, to the present tap (R271, R272). [DEDUCED, log 65] -/
def tapValue (line : List Nat) (now last : Nat) : List (Nat × Nat × Nat) → Int → Int
  | [], a => a
  | (_, t, n) :: r, a => tapValue line now last r (crossfade a (16 * sample24 (tapAt line ((r.map Prod.fst).headD last))) (now - t) n)

/-- Delay crossfades that still run: an ended one takes with it those it was nested on. -/
def pruneTaps (now : Nat) : List (Nat × Nat × Nat) → List (Nat × Nat × Nat)
  | [] => []
  | f :: r => if (f :: r).any (fun g => decide (g.2.1 + g.2.2 ≤ now)) then pruneTaps now r else f :: r

/-- One tick of a destination channel. -/
def tickDest (s : State) (ch : Nat) : State :=
  let d0 := s.dstChan ch
  let d := { d0 with fades := pruneFades s.now d0.fades }
  let o := inForce s (leadOf s ch)
  let word := fun src => (s.srcChan src).out
  let t := pairTransparent s ch
  let m := mixValue word s.now d.sum d.fades
  let y := round24 m.1
  let clip := m.2 || decide (y ≠ (m.1 + 8) / 16)
  let main := match d.sum with
    | [c] => if d.hasMain ∧ d.cleanRoute then some c.source else none
    | _ => none
  let own := main.isSome || t
  let bits := match main with
    | some h => wordBits (word h)
    | none => generatedBits d.genCount
  let w := if t then (match d.sum with
    | c :: _ => word c.source
    | [] => 0) else wordOf y bits
  let taps := pruneTaps s.now d.tapFades
  let line := (w :: d.line).take ((taps.map Prod.fst).foldl max o.delay + 1)
  let r := match taps with
    | [] => tapAt line o.delay
    | f :: _ => wordOf (round24 (tapValue line s.now o.delay taps (16 * sample24 (tapAt line f.1)))) (wordBits (tapAt line o.delay))
  let bad := muteSource s d
  let mute := (bad.isSome && !t) || slipMuted s d
  let outw := if mute then wordOf 0 (generatedBits d.genCount) else r
  let s1 := s.onDstChan ch fun _ =>
    { d with out := outw, line := line, tapFades := taps, genCount := if own ∧ mute = false then 0 else d.genCount + 1,
             muted := mute, transparent := t, peak := max d.peak (sample24 outw).natAbs, saturations := if clip then inc d.saturations else d.saturations,
             mutes := if mute ∧ d.muted = false then inc d.mutes else d.mutes, lossFade := (mainOf s ch).any fun h => !audible s h }
  if mute ∧ d.muted = false then raise 0x0984 1 ch (bad.getD ((d.sum.map fun c => c.source).headD 0)) s1 else s1

/-- The audio work of a tick: every source, then every destination. -/
def tickAudio (s : State) : State :=
  let s1 := (liveInputs s).foldl tickSource s
  let s2 := (liveChannels s1).foldl tickDest s1
  (liveInputs s2).foldl completePriming ((liveInputs s2).foldl awaitPairing s2)

/-! ### Settings that act from their frame -/

/-- What a setting does at its frame: it acts at the frame tick of plane p, but a return to following waits for the switch
point of that frame, which stands under key p + 8 (R265). -/
def dueOf (p : Nat) (n : Int) (old o : ChanObj) : List (Nat × Int × ChanObj) :=
  if old.brokenAway ∧ o.brokenAway = false then [(p, n, { o with brokenAway := true }), (p + 8, n, o)] else [(p, n, o)]

/-- A new setting of a channel: the object at once, its effect at frame n of R116 of the owning stream's plane. -/
def putChan (ch : Nat) (o : ChanObj) (s : State) : State :=
  let old := inForce s ch
  let s1 := (s.onObj fun x => { x with chans := tset {} x.chans ch { o with gen := genNext (s.chanObj ch).gen } }).touch 0x09 ch
  match audioOwner s ch with
  | some k =>
    let p := (s.stream k).plane
    let n := armFrame s p
    s1.onDstChan ch fun d => { d with cur := some old, due := (d.due.filter fun e => ¬(e.1 % 8 = p ∧ e.2.1 = n)) ++ dueOf p n old o }
  | none => s1

/-- A change of delay begins a crossfade between the taps, hard where encoded data is in the sum; a third completes the oldest (R271, R272,
R274). -/
def fadeTaps (s : State) (d : DstChan) (old n : Nat) : List (Nat × Nat × Nat) :=
  let run := pruneTaps s.now d.tapFades
  run.drop (run.length - 1) ++ [(old, s.now, if sumNonAudio s d.sum then 0 else n)]

/-- A channel takes a setting: gains and mixes by a crossfade, the delay by one between its taps (R271, R272). [DEDUCED, log 65] -/
def applyChan (ch : Nat) (o : ChanObj) (last : Bool) (s : State) : State :=
  let old := inForce s ch
  let s1 := s.onDstChan ch fun d => { d with cur := if last then none else some o, tapFades := if o.delay ≠ old.delay then fadeTaps s d old.delay (16 * o.xfade) else d.tapFades,
                                             cleanRoute := d.cleanRoute || decide (o.brokenAway ≠ old.brokenAway) }
  refadeDefault s1 ch

/-- Settings of a channel that are due at the present frame tick of a plane (key p) or switch point (key p + 8). -/
def chanDue (q : Nat) (s : State) (ch : Nat) : State :=
  let d := s.dstChan ch
  let f := (s.planeRt (q % 8)).frame
  match d.due.filter fun e => e.1 = q ∧ e.2.1 ≤ f with
  | [] => s
  | es =>
    let rest := d.due.filter fun e => ¬(e.1 = q ∧ e.2.1 ≤ f)
    es.foldl (fun s e => applyChan ch e.2.2 rest.isEmpty s) (s.onDstChan ch fun d => { d with due := rest })

/-- Frames on which settings wait move with an adopted step (R86, R111). [DEDUCED, log 31] -/
def rearmChans (p : Nat) (m k : Int) (s : State) : State :=
  s.onAudio fun a => { a with dst := a.dst.map fun e => (e.1, { e.2 with due := e.2.due.map fun x => if x.1 % 8 = p then (x.1, rearmed m k x.2.1, x.2.2) else x }) }

end Sys2Proof.Machine
end

