-- ==== Sys2Proof/Machine/Takes.lean ====
section
/-! DEFINITION.  The Basin and the Lockkeeper: takes, salvos, locks, paths, cuts and generators
(spec/06_basin_and_lockkeeper.md). -/

namespace Sys2Proof.Machine
open Sys2Proof

/-! ### The checks of a take (R154, R166) -/

/-- A source channel is in a linked pair. -/
def srcLinked (s : State) (ch : Nat) : Bool := (tget {} s.obj.srcLinks ch : SrcLinkObj).linked

/-- Position of a source channel in its LIVE stream. -/
def srcPos (s : State) (ch : Nat) : Nat :=
  match audioSource s ch with
  | some k => ch - (s.stream k).audioFirst
  | none => 0

/-- The source kinds of a destination range (R154). -/
def sourceKindOk (d h : Nat) : Bool :=
  match destRange d with
  | 1 => decide (0x4000 ≤ h)
  | 3 => decide (h < 0x2000)
  | _ => decide (h < 0x2180)

/-- The source is LIVE, or an enabled generator's or head's stream. -/
def sourceLive (s : State) (d h : Nat) : Bool :=
  if destRange d = 1 then (audioSource s h).isSome
  else match sourceInfo s h with
    | some i => i.live
    | none => false

/-- The width and format rule of a video destination. -/
def carriable (s : State) (d h : Nat) : Bool :=
  match sourceInfo s h with
  | some i => destRange d ≠ 0 || (decide (i.width = (s.stream (streamKey 1 d)).width) && decide (i.format = (s.stream (streamKey 1 d)).format))
  | none => true

/-- The link rule of R266 between a destination channel and a source channel. -/
def linkRule (s : State) (d h : Nat) : Bool :=
  if (s.chanObj d).linked then srcLinked s h && decide (srcPos s h % 2 = 0) else !srcLinked s h

/-- Check 6 of R166: the owning chapter's checks of the destination and of the source, as status and offset in the entry. -/
def ownerFault (s : State) (d : Nat) (src : Option Nat) : Option (Status × Nat) :=
  match destRange d with
  | 1 =>
    if (s.chanObj d).linked ∧ dstPos s d % 2 = 1 then some (.state, 0)
    else match src with
      | some h => if linkRule s d h then none else some (.format, 2)
      | none => none
  | 2 => match src with
    | some h => layerTakeFault s d h
    | none => let c := (s.headObj (slotHead d)).cfg
              if c.plane.isNone ∨ layKind (c.layer (slotNo d)) ≠ 1 then some (.state, 0) else none
  | 3 => match src with
    | some h => if (s.stream h).form = 3 then some (.format, 2) else if (tget {} s.obj.anc d : AncObj).mode = 0 then some (.state, 0) else none
    | none => if (tget {} s.obj.anc d : AncObj).mode = 0 then some (.state, 0) else none
  | _ => none

/-- The destination is LIVE, or owned by a LIVE stream (check 2); a layer slot is judged by its owner. -/
def destLive (s : State) (d : Nat) : Bool := decide (destRange d = 2) || (destStream s d).isSome

/-- Takes on the destination are accepted from a session (R171). -/
def unlocked (s : State) (d session : Nat) : Bool :=
  !(s.route d).locked && (decide ((s.routeRt d).protect = 0) || decide ((s.routeRt d).protect = session))

/-- The source that EFLAGS and SOURCE name: none with DISCONNECT. -/
def takeSource (src eflags : Nat) : Option Nat := if bitOf eflags 0 then none else some src

/-- The destination has audio: a destination channel, or a video destination that carries audio channels (R165, R166 check 1). [DEDUCED, log 16] -/
def destHasAudio (s : State) (d : Nat) : Bool :=
  match destRange d with
  | 0 => decide ((s.stream (streamKey 1 d)).audioCount ≠ 0)
  | 1 => true
  | _ => false

/-- Checks 1 to 7 of R166: status and offset from the entry's DEST. [DEDUCED, log 16] -/
def takeFault (s : State) (d src eflags session : Nat) : Option (Status × Nat) :=
  let so := takeSource src eflags
  if 192 < fieldOf eflags 4 12 ∨ (bitOf eflags 1 ∧ destHasAudio s d = false) then some (.range, 4)
  else if destLive s d = false then some (.state, 0)
  else if so.any (fun h => !sourceKindOk d h) then some (.range, 2)
  else if so.any (fun h => !sourceLive s d h) then some (.state, 2)
  else if so.any (fun h => destRange d = 0 && !carriable s d h) then some (.format, 2)
  else match ownerFault s d so with
    | some f => some f
    | none => if unlocked s d session then none else some (.state, 0)

/-- TARGET_FRAME lies within 60 s (check 8, R160). -/
def targetNear (s : State) (p : Nat) (atFrame : Bool) (tf : Int) : Bool := !atFrame || decide (frameTick s p tf - 8 ≤ s.now + 2880000)

/-- Where a take begins to look for its frame, and the frame at which it would be DONE (R160). -/
def takeFrames (s : State) (p : Nat) (atFrame : Bool) (tf : Int) : Int × Int :=
  let n := armFrame s p
  if atFrame then (if (s.planeRt p).nextFrame ≤ tf ∧ (s.now : Int) ≤ frameTick s p tf - 8 then (tf, tf) else (n, tf)) else (n, n)

/-- The plane of a destination. -/
def planeOf (s : State) (d : Nat) : Nat := (destPlane s d).getD 0

/-- The entry that a take arms, its frame still to be found. [DEDUCED, log 44] -/
def newEntry (s : State) (c : Cmd) (d src eflags : Nat) (natural : Int) : Entry :=
  { plane := planeOf s d, source := takeSource src eflags, xfade := if bitOf eflags 1 then some (fieldOf eflags 4 12) else none,
    natural := natural, job := s.mbox.nextJob, session := c.session, ch := c.ch, tag := c.tag }

/-- Ungate the heads that a take names: the source's, and a layer slot's (R313). -/
def ungate (h : Nat) (s : State) : State := if (s.head h).gated then s.onHead h fun r => { r with gated := false } else s

/-- What an accepted take brings with it at admission: heads ungated, a layer's pyramid made (R206, R313). [DEDUCED, log 72] -/
def takePrepares (s : State) (x : Nat × Entry) : State :=
  let s1 := if destRange x.1 = 2 then ungate (slotHead x.1) s else s
  match x.2.source with
  | some h =>
    let s2 := if 0x2000 ≤ h ∧ h < 0x2100 ∧ destRange x.1 ≠ 1 then ungate (headOf h) s1 else s1
    if destRange x.1 = 2 then (makePyramid h s2).getD s2 else s2
  | none => s1

/-! ### TAKE, SALVO and CANCEL (R165 to R169) -/

/-- Count armed takes of the tick (R163). -/
def countArmed (n : Nat) (s : State) : State := s.onMbox fun m => { m with armed := m.armed + n }

/-- TAKE (R165). -/
def takeInfo : CmdInfo := { opcode := 0x0501, content := true, length := fun _ => 16, gen := fun c s => some (s.route (c.u16 0)).gen }

/-- The effect of TAKE. -/
def take (c : Cmd) (s : State) : Res :=
  let d := c.u16 0
  match takeFault s d (c.u16 2) (c.u16 4) c.session with
  | some (st, off) => rej st (0x20 + off) s
  | none =>
    let p := planeOf s d
    let at_ := bitOf (c.u16 6) 0
    let tf := toInt 64 (c.u64 8)
    if targetNear s p at_ tf = false then rej .range 0x28 s
    else
      let f := takeFrames s p at_ tf
      let e := newEntry s c d (c.u16 2) (c.u16 4) f.2
      match placeTake d e f.1 (byCommand c) (takePrepares s (d, e)) with
      | some (t, n) => { queued (.take d) (countArmed 1 t) with detail := ofInt 64 n, job := .take d }
      | none => rej .capacity 0x20 s

/-- SALVO (R167). -/
def salvoInfo : CmdInfo := { opcode := 0x0502, content := true, length := fun c => 16 + 6 * c.u16 0 }

/-- DEST, SOURCE and EFLAGS of a salvo's entry i. -/
def salvoEntry (c : Cmd) (i : Nat) : Nat × Nat × Nat := (c.u16 (0x10 + 6 * i), c.u16 (0x12 + 6 * i), c.u16 (0x14 + 6 * i))

/-- The take that a salvo's entry i is. -/
def salvoTake (s : State) (c : Cmd) (natural : Int) (i : Nat) : Nat × Entry :=
  let x := salvoEntry c i
  (x.1, newEntry s c x.1 x.2.1 x.2.2 natural)

/-- The first failing check of a salvo's entries in ascending order, each checked as a TAKE with what the entries before it have brought
with them (R166, R168): checks 1 to 7, two entries of one DEST, another plane, TARGET_FRAME, the queue. [DEDUCED, log 16] -/
def salvoFault (c : Cmd) (p0 : Option Nat) : List Nat → List Nat → State → Option (Status × Nat)
  | _, [], _ => none
  | seen, i :: r, s =>
    let x := salvoEntry c i
    let at_ := bitOf (c.u16 2) 1
    let tf := toInt 64 (c.u64 8)
    let f := takeFrames s (p0.getD 0) at_ tf
    let e := salvoTake s c f.2 i
    match takeFault s x.1 x.2.1 x.2.2 c.session with
    | some (st, off) => some (st, 0x30 + 6 * i + off)
    | none =>
      if seen.contains x.1 ∨ destPlane s x.1 ≠ p0 then some (.range, 0x30 + 6 * i)
      else if targetNear s (p0.getD 0) at_ tf = false then some (.range, 0x28)
      else if (placeTake e.1 e.2 f.1 (byCommand c) s).isNone then some (.capacity, 0x30 + 6 * i)
      else salvoFault c p0 (x.1 :: seen) r (takePrepares s e)

/-- The effect of SALVO. [DEDUCED, log 18] -/
def salvo (c : Cmd) (s : State) : Res :=
  let n := c.u16 0
  if c.checkGen then rej .range 0x0006 s
  else if n = 0 ∨ 512 < n then rej .range 0x20 s
  else
    let p0 := destPlane s (salvoEntry c 0).1
    match salvoFault c p0 [] (List.range n) s with
    | some (st, off) => rej st off s
    | none =>
      let p := p0.getD 0
      let f := takeFrames s p (bitOf (c.u16 2) 1) (toInt 64 (c.u64 8))
      let es := (List.range n).map (salvoTake s c f.2)
      let s1 := es.foldl takePrepares s
      let r := if bitOf (c.u16 2) 0 then placeSplit f.1 (byCommand c) 0 es none s1 else placeWhole p es f.1 (byCommand c) s1
      match r with
      | .inr i => rej .capacity (0x30 + 6 * i) s
      | .inl (t, g) => { queued (.salvo n 0 0 0 f.2 g 0 0) (countArmed n t) with detail := ofInt 64 g, job := .salvo n 0 0 0 f.2 g 0 0 }

/-- CANCEL (R169). -/
def cancelInfo : CmdInfo := { opcode := 0x0503, content := true, length := fun _ => 8 }

/-- The uncommitted entries a CANCEL reaches. -/
def cancelReach (c : Cmd) (s : State) (d : Nat) (e : Entry) : Bool :=
  if c.u8 0 = 0 then decide (e.ch = c.u8 1 ∧ e.tag = c.u16 2 ∧ e.session = c.session)
  else decide (d = c.u16 4) && (decide ((s.routeRt d).protect = 0) || decide ((s.routeRt d).protect = c.session) || decide (e.session = c.session))

/-- The effect of CANCEL. -/
def cancel (c : Cmd) (s : State) : Res :=
  if 1 < c.u8 0 then rej .range 0x20 s
  else match openEntries s (cancelReach c s) with
    | [] => rej .state (if c.u8 0 = 0 then 0x21 else 0x24) s
    | es => okWith es.length (dropEntries (byCommand c) es s)

/-! ### LOCK_DESTINATION (R170, R171) -/


/-- COUNT of a record, 0 selecting 1. -/
def lockCount (c : Cmd) : Nat := if c.u16 2 = 0 then 1 else c.u16 2

/-- LOCK_DESTINATION (R170). [DEDUCED, log 13] -/
def lockDestinationInfo : CmdInfo := { opcode := 0x0504, content := true, length := fun _ => 8, gen := fun c s => if lockCount c = 1 then some (s.route (c.u16 0)).lockGen else none }

/-- The command can act on a handle (R171). -/
def lockable (s : State) (mode session d : Nat) : Bool :=
  let free := decide ((s.routeRt d).protect = 0) || decide ((s.routeRt d).protect = session)
  if mode = 2 then true else if mode = 1 then !(s.route d).locked && free else (s.route d).locked || free

/-- Change one handle's lock (R171); its generation advances when the state changes. -/
def lockOne (c : Cmd) (s : State) (d : Nat) : State :=
  let mode := c.u8 4
  let r := s.route d
  let want := decide (mode = 2)
  let prot := if mode = 1 then c.session else 0
  if r.locked = want ∧ (s.routeRt d).protect = prot then s
  else
    let s1 := (s.onRoute d fun r => { r with locked := want, lockGen := genNext r.lockGen }).touch 0x05 (0x10000 + d)
    let s2 := s1.onRouteRt d fun r => { r with protect := prot }
    if mode = 0 then s2
    else dropEntries (byCommand c) (openEntries s2 fun x e => decide (x = d) && (decide (mode = 2) || decide (e.session ≠ c.session))) s2

/-- The effect of LOCK_DESTINATION. [DEDUCED, log 18, 49] -/
def lockDestination (c : Cmd) (s : State) : Res :=
  let d := c.u16 0
  let n := lockCount c
  if c.checkGen ∧ 1 < n then rej .range 0x22 s
  else match firstBad [(decide (n ≤ 4096 ∧ d + n ≤ 65536 ∧ destRange d = destRange (d + n - 1)), 0x22), (decide (c.u8 4 ≤ 2), 0x24)] with
    | some off => rej .range off s
    | none =>
      if (span d n).all (lockable s (c.u8 4) c.session) then ok ((span d n).foldl (lockOne c) s) else rej .state 0x20 s

/-! ### SET_GENERATOR (R180 to R182) -/

/-- SET_GENERATOR (R180). -/
def setGeneratorInfo : CmdInfo :=
  { opcode := 0x0505, content := true, length := fun _ => 16, gen := fun c s => if c.u8 0 < 16 then some (s.gen (c.u8 0)).gen else none }

/-- A handle is a bay of a generator. -/
def genBay (g h : Nat) : Bool := decide (0x2100 ≤ h ∧ h < 0x2180 ∧ (h - 0x2100) / 8 = g)

/-- A route or a queued take names one of a generator's bays. -/
def genUsed (s : State) (g : Nat) : Bool := routedSource s (genBay g) || queuedSource s (genBay g)

/-- The generator a record gives. -/
def genSetting (c : Cmd) (gen : Nat) : GenObj :=
  { plane := if c.u8 1 = 255 then none else some (c.u8 1), width := c.u8 2, pattern := c.u8 3, format := c.u16 4, colour := c.u8 6, form := c.u8 7,
    flatY := c.u16 8, flatCb := c.u16 0x0A, flatCr := c.u16 0x0C, gen := gen }

/-- Two settings differ in what a user of the generator depends on (R182). -/
def genReshaped (a b : GenObj) : Bool :=
  decide (a.plane ≠ b.plane ∨ a.width ≠ b.width ∨ a.format ≠ b.format ∨ a.colour ≠ b.colour ∨ a.form ≠ b.form)

/-- The effect of SET_GENERATOR: a change of pattern shows from the generator's next frame start. [DEDUCED, log 48] -/
def setGenerator (c : Cmd) (s : State) : Res :=
  let g := c.u8 0
  let w := c.u8 2
  match firstBad [(decide (g < 16), 0x20), (decide (c.u8 1 < 8 ∨ c.u8 1 = 255), 0x21), (decide (w ∈ [1, 2, 4, 8, 16]), 0x22), (decide (c.u8 3 ≤ 5), 0x23),
      (decide (c.u8 6 ≤ 1), 0x26), (decide (c.u8 7 = 1 ∨ c.u8 7 = 2), 0x27), (decide (c.u16 8 < 1024), 0x28), (decide (c.u16 0x0A < 1024), 0x2A),
      (decide (c.u16 0x0C < 1024), 0x2C)] with
  | some off => rej .range off s
  | none =>
    let old := s.gen g
    let new := genSetting c old.gen
    let rate := if c.u8 1 = 255 then none else s.rate (c.u8 1)
    if c.u8 1 ≠ 255 ∧ rate.isNone then rej .state 0xFFFF s
    else if w = 16 then rej .format 0x22 s
    else if serialIn w (c.u16 4) = false ∨ (rate.isSome ∧ rate ≠ some (fmtRate (c.u16 4))) then rej .format 0x24 s
    else if genReshaped old new ∧ genUsed s g then rej .state 0xFFFF s
    else if new = old then ok s
    else
      let s1 := (s.onObj fun o => { o with gens := tset {} o.gens g { new with gen := genNext old.gen } }).touch 0x05 (0x20000 + g)
      if genReshaped old new then ok (s1.onBasin fun b => { b with genPend := tset {} b.genPend g {} })
      else if tget {} s.basin.genPend g ≠ ({} : GenObj) then ok s1
      else ok (s1.onBasin fun b => { b with genPend := tset {} b.genPend g { (tget {} b.genPend g : GenObj) with
        plane := old.plane, width := old.width, format := old.format, colour := old.colour, form := old.form, pattern := old.pattern,
        flatY := old.flatY, flatCb := old.flatCb, flatCr := old.flatCr, gen := old.gen } })

/-- What a generator shows now: the setting before a pattern change, until its next frame start. [DEDUCED, log 48] -/
def genShown (s : State) (g : Nat) : GenObj := if tget {} s.basin.genPend g = ({} : GenObj) then s.gen g else tget {} s.basin.genPend g

/-! ### Paths and offsets (R172, R173, R198) -/

/-- δ of a source against a destination's plane, as its latest complete frame gives it; 0 against its own plane for heads and
generators. -/
def sourceOffset (s : State) (d h : Nat) : Option Int :=
  match destPlane s d, sourceInfo s h with
  | some p, some i =>
    if i.kind = 0 then
      match (s.streamRt h).offset with
      | some ns => offsetAgainst s i.plane (switchLines i.format) i.form p (destLines s d) ns
      | none => none
    else if i.plane = p then some 0
    else offsetAgainst s i.plane (switchLines i.format) i.form p (destLines s d) 0
  | _, _ => none

/-- An offset is in a destination's window (R172). -/
def inStepWith (s : State) (d : Nat) (off : Option Int) : Bool :=
  match off, destPlane s d with
  | some ns, some p => match s.rate p with
    | some r => inWindow r (destLines s d) ns
    | none => false
  | _, _ => false

/-- The lane source of a standing route has completed no frame since the route was made (R173). [DEDUCED, log 46] -/
def unseenSince (s : State) (d h : Nat) : Bool :=
  decide (h < 0x2000) && decide ((s.route d).source = some h) && (match (s.streamRt h).doneAt with
    | some t => decide (t < (s.routeRt d).madeAt)
    | none => true)

/-- Whether SYNC-ALL rules frame n of a plane (R22): a change due at that frame or an earlier one counts. -/
def syncAt (s : State) (p : Nat) (n : Int) : Bool :=
  match (s.planeRt p).latDue with
  | some m => if m ≤ n then s.obj.trims.syncAll else (s.planeRt p).latSync
  | none => (s.planeRt p).latSync

/-- The path of a take at its commit, SYNC-ALL in force or not: path, offset for the cut, and whether the data comes from a berth (R173,
R198). [DEDUCED, log 46] -/
def choosePath (s : State) (d : Nat) (src : Option Nat) (sync : Bool) : Path × Option Int × Bool :=
  match src with
  | none => (.disconnected, none, false)
  | some h =>
    if destRange d = 1 then (.cutThrough, none, false)
    else if destRange d = 0 ∧ (s.stream (streamKey 1 d)).form = 3 then (.cutThrough, none, false)
    else
      let p := planeOf s d
      let off := if unseenSince s d h then none else sourceOffset s d h
      let own := decide (h < 0x2000) && berthed s h && decide ((s.berth h).freeing = none)
      let cut := fun (o : Option Int) (v : Bool) => if inStepWith s d o then (Path.cutThrough, o, v) else (Path.rough, o, v)
      if own ∧ sync then
        if readPlane s h = p then (.berth, some 0, true)
        else cut (offsetAgainst s (readPlane s h) (switchLines (s.stream h).format) (s.stream h).form p (destLines s d) 0) true
      else if inStepWith s d off then (.cutThrough, off, false)
      else if own ∧ readPlane s h = p then (.berth, some 0, true)
      else (.rough, off, false)

/-- The Δ of a route from a lane stream: its input barge that comes now feeds the output barge that begins 3.0 µs, four barges, later
(R16, R380); modulo 2^32. [DEDUCED, log 139] -/
def routeDelta (s : State) (src : Option Nat) : Nat :=
  match src with
  | some h => if h < 0x2000 then (s.tow.bargeSeq + 4 + 2 ^ 32 - (s.lane (h / 64)).lastSeq % 2 ^ 32) % 2 ^ 32 else 0
  | none => 0

/-! ### Cuts (R174, R175, R179) -/

/-- Sample periods in a time of num/den ns, halves away from zero (R174). -/
def periodsIn (width rate num den : Nat) : Nat :=
  let d := (rateND rate).2
  let k := if d = 1 then 1 else 1000
  let m := if d = 1 then 1 else 1001
  (2 * num * wordRate width * k + den * 1000000000 * m) / (2 * den * 1000000000 * m)

/-- The blanking that a serial rough cut sends until the new source's next EAV, in sample periods. [DEDUCED, log 46] -/
def roughFill (width rate lines : Nat) (delta : Int) : Nat :=
  let per : Int := 1000000000 * (rateND rate).2
  let unit : Int := (rateND rate).1 * lines
  periodsIn width rate ((delta * unit) % per).toNat unit.toNat

/-- δ of what feeds a destination now (R174): the source's as last measured, black keeping that of the route before it; a destination
never routed is timed to its plane's switch points (R157). [DEDUCED, log 46] -/
def oldOffset (s : State) (d : Nat) : Option Int := if (s.routeRt d).everRouted then (s.routeRt d).offset else some 0

/-- What a serial cut does to the interface (R174): line 6's change of an in-step cut, or the fill of a rough one; a free value where an
offset was not measured. [DESIGN CHOICE, log 6] [DEDUCED, log 46] -/
def makeCut (d : Nat) (e : Entry) (s : State) : State :=
  let x := s.stream (streamKey 1 d)
  let rate := (s.rate e.plane).getD 0
  if destRange d ≠ 0 ∨ x.form ≠ 1 then s
  else if e.source.isNone then s.onRouteRt d fun r => { r with line6 := 0, fill := 0 }
  else if e.path = .rough then
    match e.offset, oldOffset s d with
    | some new, some old => s.onRouteRt d fun r => { r with line6 := 0, fill := roughFill x.width rate (switchLines x.format) (new - old) }
    | _, _ => let v := s.draw; v.2.onRouteRt d fun r => { r with line6 := 0, fill := v.1 }
  else match oldOffset s d with
    | some old => s.onRouteRt d fun r => { r with line6 := samplePeriods x.width rate (e.offset.getD 0 - old), fill := 0 }
    | none => let v := s.draw; v.2.onRouteRt d fun r => { r with line6 := toInt 32 (v.1 % 2 ^ 32), fill := 0 }

/-- A rough cut is counted and raised (R179). -/
def countRough (d : Nat) (e : Entry) (s : State) : State :=
  if e.path = .rough then
    raise 0x0581 1 d (match e.offset with
      | some o => ofInt 32 (clampI (-2147483648) 2147483647 o)
      | none => 0x80000000) (s.onRouteRt d fun r => { r with rough := inc r.rough })
  else s

/-- The route of a destination after a take (R153, R157). -/
def takeRoute (d : Nat) (e : Entry) (s : State) : State :=
  let lost := match e.source with
    | some h => decide (h < 0x2000) && decide ((s.streamRt h).lost ≠ 0)
    | none => false
  let fill := !e.via || (e.source.map fun h => (s.berth h).filling).getD false
  let gen := (e.source.map fun h => (s.fsync h).lossFill).getD false
  let s1 := (s.onRoute d fun r => { r with source := e.source, gen := genNext r.gen }).touch 0x05 d
  s1.onRouteRt d fun r =>
    { r with path := e.path, via := e.via, offset := if e.source.isNone then r.offset else e.offset, inStep := decide (e.path = .berth) || inStepWith s d e.offset,
             delta := e.delta, mismatch := false, lastTick := s.now, madeAt := s.elapsed, takes := inc r.takes, lossFill := lost && fill, lossGen := lost && fill && gen, everRouted := true }

/-- A take's effect on sound and layers: following channels and broken-away ones crossfade; a layer keeps the old source's frame
until the new one is ready (R178, R265, R295). -/
def takeFollows (d : Nat) (e : Entry) (s : State) : State :=
  match destRange d with
  | 0 => (followers s (streamKey 1 d)).foldl (routeFade e.xfade) s
  | 1 =>
    let s1 := (s.onObj fun o => { o with chans := tmod {} o.chans d fun x => { x with brokenAway := true } }).onDstChan d fun x =>
      { x with cur := x.cur.map fun y => { y with brokenAway := true },
               due := x.due.map fun y => if y.1 < 8 then (y.1, y.2.1, { y.2.2 with brokenAway := true }) else y }
    let s2 := routeFade e.xfade s1 d
    if (inForce s d).linked then routeFade e.xfade s2 (d + 1) else s2
  | 2 => s.onHead (slotHead d) fun h => { h with layers := tmod {} h.layers (slotNo d) fun l =>
      { l with stale := true, ready := false, format := (e.source.bind (sourceFormat s)).getD 0, changed := false, twoTap := false, raised := false, noRoom := false } }
  | _ => s

/-- The format in which a source's data is now read. [DEDUCED, log 19, 64] -/
def effSource (s : State) (h : Nat) : Option Nat :=
  if h < 0x2000 then (if (s.stream h).st = .undef then none else if (s.streamRt h).dual then some 0xFFFE else some (s.streamRt h).effFormat) else (sourceInfo s h).map fun i => i.format

/-- The format in which a video destination's stream is now built. [DEDUCED, log 19] -/
def effDest (s : State) (d : Nat) : Nat := (s.streamRt (streamKey 1 d)).effFormat

/-- The channels that follow a video destination take up what it now carries (R156). -/
def refollow (d : Nat) (s : State) : State := (followers s (streamKey 1 d)).foldl refadeDefault s

/-- A video destination and its source's formats: a difference stops the carrying and raises ROUTE_FORMAT_MISMATCH (R156). [DEDUCED, log 19] -/
def judgeMatch (s : State) (d : Nat) : State :=
  match (s.route d).source with
  | some h =>
    if destRange d = 0 ∧ streamLive s (streamKey 1 d) ∧ (s.routeRt d).mismatch = false ∧ (effSource s h).any (fun f => f ≠ effDest s d) then
      refollow d (raise 0x0583 2 d h (s.onRouteRt d fun r => { r with mismatch := true }))
    else s
  | none => s

/-- Execute a committed take at its destination's switch point (R153, R159, R166); formats that have parted since the take was
admitted show now (R156). [DEDUCED, log 19, 45] -/
def executeTake (d : Nat) (e : Entry) (s : State) : State :=
  let s1 := takeOut d e s
  let s2 := if destLive s d then judgeMatch (takeFollows d e (takeRoute d e (countRough d e (makeCut d e s1)))) d else s1
  executedTake e e.frame (s2.route d).gen s2

/-- Committed entries of a destination whose switch point falls in the present tick or before it. -/
def dueEntries (s : State) (d : Nat) : List Entry :=
  (s.routeRt d).queue.filter fun e => e.committed ∧ switchTick s e.plane (destFormat s d) e.frame ≤ s.now

/-- The switch point of a destination (R113, R159). -/
def switchPoint (d : Nat) (s : State) : State := (dueEntries s d).foldl (fun s e => executeTake d e s) s

/-- Destinations with a committed entry. -/
def committedDests (s : State) : List Nat := (s.basin.routes.filter fun r => r.2.queue.any fun e => e.committed).map Prod.fst

/-- Every switch point of the tick. -/
def switchPoints (s : State) : State := (committedDests s).foldl (fun s d => switchPoint d s) s

/-! ### Formats that part, sources that drift (R156, R173) -/

/-- The codes agree again: the source is carried from the next switch point (R156). -/
def clearMatch (s : State) (d : Nat) : State :=
  match (s.route d).source with
  | some h => if (s.routeRt d).mismatch ∧ effSource s h = some (effDest s d) then refollow d (s.onRouteRt d fun r => { r with mismatch := false }) else s
  | none => s.onRouteRt d fun r => { r with mismatch := false }

/-- A routed source's latest frame: the offsets of the routes that it feeds past no berth, and its drift against those that were cut in
step (R173), raised once, until it is in step with all of them again. -/
def judgeDrift (h : Nat) (s : State) : State :=
  let fed := (routesFrom s h).filter fun d => destRange d ≠ 1 ∧ ((s.routeRt d).path = .cutThrough ∨ (s.routeRt d).path = .rough) ∧ (s.routeRt d).via = false
  let ds := fed.filter fun d => (s.routeRt d).path = .cutThrough
  let off := fun d => sourceOffset s d h
  let s1 := fed.foldl (fun s d => s.onRouteRt d fun r => { r with offset := if (off d).isSome then off d else r.offset }) s
  match ds.find? fun d => (off d).isSome && !inStepWith s d (off d) with
  | some d =>
    if (s.streamRt h).drift then s1
    else raise 0x0584 1 h (ofInt 32 (clampI (-2147483648) 2147483647 ((off d).getD 0))) (s1.onStreamRt h fun r => { r with drift := true })
  | none => if (s.streamRt h).drift then s1.onStreamRt h fun r => { r with drift := false } else s1

/-! ### READ_ROUTES (R187) -/

/-- READ_ROUTES (R187). -/
def readRoutesInfo : CmdInfo := { opcode := 0x0506, readOnly := true, length := fun _ => 8 }

/-- One record of READ_ROUTES. -/
def routeRecord (s : State) (d : Nat) : List Byte :=
  let o := s.route d
  let r := s.routeRt d
  let off := match o.source with
    | some h => if r.via then r.offset else sourceOffset s d h
    | none => none
  let lock := if o.locked then 2 else if r.protect ≠ 0 then 1 else 0
  recordBytes 32 [(0, 2, d), (2, 2, o.source.getD 0), (4, 1, bit o.source.isSome + 2 * bit r.via + 4 * bit (o.source.isSome && (decide (r.path = .berth) || inStepWith s d off)) + 8 * bit r.mismatch + 16 * lock),
    (5, 1, r.queue.length), (6, 2, r.protect), (8, 4, o.gen), (0x0C, 4, match off with
      | some x => ofInt 32 (clampI (-2147483647) 2147483647 x)
      | none => 0x80000000), (0x10, 8, r.lastTick), (0x18, 4, r.rough), (0x1C, 4, r.takes)]

/-- The effect of READ_ROUTES. -/
def readRoutes (c : Cmd) (s : State) : Res :=
  let d := c.u16 0
  let n := c.u16 2
  match firstBad [(decide (1 ≤ n ∧ n ≤ 2048 ∧ d + n ≤ 65536 ∧ destRange d = destRange (d + n - 1)), 0x22)] with
  | some off => rej .range off s
  | none => reply c 4 (32 * n) 0 ((span d n).flatMap (routeRecord s)) s

/-! ### Pounds (R183, R184) -/

/-- A die's pounds. -/
def State.pounds (s : State) (die : Nat) : PoundRt := tget {} s.basin.pounds die

/-- Change a die's pounds. -/
def State.onPounds (s : State) (die : Nat) (f : PoundRt → PoundRt) : State :=
  s.onBasin fun b => { b with pounds := tmod {} b.pounds die f }

/-- A rotation begins, 10 s after the last: the spare takes up the next traffic pound's slice in shadow (R183).  A chip that sheds
background work begins none (R414). [DEDUCED, log 50] -/
def poundRotation (die : Nat) (s : State) : State :=
  let p := s.pounds die
  if p.spare.isNone ∨ p.shadow.isSome ∨ p.testing ∨ p.failed ∨ s.shedding ∨ s.elapsed < p.rotAt + 480000 then s
  else s.onPounds die fun p => { p with shadow := some p.nextSlice, barges := 0, mismatch := false, rotAt := s.elapsed }

/-- A shadow mismatch is told as the traffic moves (R184); one that its checker has reported is not reported again. -/
def tellMismatch (die old : Nat) (reported : Bool) (s : State) : State :=
  raise 0x0585 2 (old + 256 * die) 0 (if reported then s else report { code := 0x0401, west := decide (die = 1), subject := old } s)

/-- The shadow's 16 barges have passed, in which the spare gave `shadow` and the traffic pound `traffic`: traffic moves to the former spare
(R183); a mismatch still moves it (R184). [DEDUCED, log 50] -/
def poundMove (die : Nat) (shadow traffic : List Byte) (s : State) : State :=
  let p := s.pounds die
  match p.shadow, p.spare with
  | some k, some new =>
    if p.barges < 16 then s
    else
      let old := p.traffic.getD k 0
      let s1 := s.onPounds die fun p => { p with traffic := p.traffic.set k new, spare := some old, nextSlice := (k + 1) % 8, shadow := none, barges := 0,
                                                 mismatch := false, testing := true, testAt := s.elapsed }
      if p.mismatch ∨ shadow ≠ traffic then tellMismatch die old p.mismatch s1 else s1
  | _, _ => s

/-- The outgoing pound's self-test ends: passed, it is the spare; failed, it is retired (R184). [DEDUCED, log 50] -/
def poundTested (die : Nat) (pass : Bool) (s : State) : State :=
  let p := s.pounds die
  match p.spare with
  | some n =>
    if !p.testing then s
    else if pass then s.onPounds die fun p => { p with testing := false }
    else
      raise 0x0586 3 (n + 256 * die) 0 (report { code := 0x0402, west := decide (die = 1), subject := n }
        (s.onPounds die fun p => { p with testing := false, spare := none, retired := setAdd p.retired n, failed := true }))
  | none => s

/-- A die's pounds through one tick: a rotation that is due begins, and a self-test that has run 9 s has not passed (R183). [DEDUCED, log 50] -/
def tickPounds (s : State) (die : Nat) : State :=
  let s1 := poundRotation die s
  if (s1.pounds die).testing ∧ (s1.pounds die).testAt + 432000 < s1.elapsed then poundTested die false s1 else s1

/-- One more barge carried in shadow. -/
def poundBarge (die : Nat) (s : State) : State :=
  if (s.pounds die).shadow.isSome then s.onPounds die fun p => { p with barges := min 16 (p.barges + 1) } else s

/-! ### The meanings -/

/-- The takes that a TAKE or SALVO arms, `run` being its effect, do not fit the tick (R163): it waits, and with it every command
after it in the tick's admission order. -/
def armGate (s : State) (run : State) : State :=
  if 8192 < run.mbox.armed then s.onMbox fun m => { m with admitted := 256 } else run

/-- TAKE. -/
def execTake (c : Cmd) (s : State) : Answer := answer (armGate s (runCmd takeInfo take c s))

/-- SALVO. -/
def execSalvo (c : Cmd) (s : State) : Answer := answer (armGate s (runCmd salvoInfo salvo c s))

/-- CANCEL. -/
def execCancel (c : Cmd) (s : State) : Answer := answer (runCmd cancelInfo cancel c s)

/-- LOCK_DESTINATION. -/
def execLockDestination (c : Cmd) (s : State) : Answer := answer (runCmd lockDestinationInfo lockDestination c s)

/-- SET_GENERATOR. -/
def execSetGenerator (c : Cmd) (s : State) : Answer := answer (runCmd setGeneratorInfo setGenerator c s)

/-- READ_ROUTES. -/
def execReadRoutes (c : Cmd) (s : State) : Answer := answer (runCmd readRoutesInfo readRoutes c s)

/-- SWITCH_POINT (R113). -/
def execSwitchPoint (dest : Nat) (s : State) : Answer := answer (switchPoint dest s)

/-- POUND_ROTATION (R183). -/
def execPoundRotation (die : Nat) (s : State) : Answer := answer (poundRotation die s)

/-- POUND_TRAFFIC_MOVE (R183). -/
def execPoundTrafficMove (outputs : PoundOutputs) (s : State) : Answer := answer (poundMove outputs.die outputs.shadow outputs.traffic s)

/-- POUND_SELF_TEST_COMPLETE (R184). -/
def execPoundSelfTestComplete (die : Nat) (pass : Bool) (s : State) : Answer := answer (poundTested die pass s)

end Sys2Proof.Machine
end

