-- ==== Sys2Proof/Machine/References.lean ====
section
/-! DEFINITION.  The reference selector: slots, qualification, discipline, switches, disputes and holdover
(spec/05_references.md). -/

namespace Sys2Proof.Machine
open Sys2Proof

/-! ### Slots (R125, R132) -/

/-- A slot's configuration. -/
def State.refObj (s : State) (r : Nat) : RefObj := tget {} s.obj.refs r

/-- A slot in service. -/
def State.slot (s : State) (r : Nat) : SlotRt := tget {} s.refs.slots r

/-- Change a slot in service. -/
def State.onSlot (s : State) (r : Nat) (f : SlotRt → SlotRt) : State :=
  s.onRefs fun x => { x with slots := tmod {} x.slots r f }

/-- Slots 8 and 9 are pins. -/
def isPin (r : Nat) : Bool := decide (8 ≤ r)

/-- STATE of R150. -/
def RefSt.code : RefSt → Nat
  | .disabled => 0
  | .unqualified => 1
  | .qualifying => 2
  | .qualified => 3
  | .selected => 4

/-- The quality class in force (R138). -/
def qualityOf (s : State) (r : Nat) : Nat := if isPin r then (s.refObj r).quality else (s.slot r).quality

/-- STATE of a slot (R132): the QUALIFIED slot that the selector follows is SELECTED. -/
def slotState (s : State) (r : Nat) : RefSt := if s.refs.selected = some r ∧ (s.slot r).st = .qualified then .selected else (s.slot r).st

/-- A slot is a candidate: QUALIFIED, selected or not. -/
def candidate (s : State) (r : Nat) : Bool := decide ((s.slot r).st = .qualified)

/-- Units of 2^−32 tick in a time of ns, to the nearest. -/
def units32 (ns : Int) : Int := divRound (ns * (3 * frac : Nat)) 62500

/-- E in ns. -/
def eNs (s : State) : Int := divRound (s.time.e * 62500) (3 * frac : Nat)

/-- N and D of the rate that a slot's positions are counted by: a pin's declared rate, one a second for a beacon. -/
def slotRate (s : State) (r : Nat) : Nat × Nat :=
  if isPin r then (match s.rate (s.refObj r).plane with
    | some q => rateND q
    | none => (1, 1)) else (1, 1)

/-- N times a time in ns, brought into (−S/2, +S/2] of the frame length S = D / N seconds. -/
def wrapNum (nd : Nat × Nat) (ns : Int) : Int :=
  let len : Int := 1000000000 * nd.2
  let y := (ns * nd.1) % len
  if 2 * y ≤ len then y else y - len

/-- A phase in ns brought into (−S/2, +S/2] of a plane's frame length S (R139). -/
def wrapFrame (s : State) (p : Nat) (ns : Int) : Int :=
  match s.rate p with
  | none => 0
  | some q => divRound (wrapNum (rateND q) ns) (rateND q).1

/-- The distance of a pin's pulse from a frame start of its plane on the time model (R129, R139): frame start less pulse, in ns, in
(−S/2, +S/2]. -/
def pinPhase (s : State) (p : Nat) (at_ : Int) : Int :=
  wrapFrame s p (divRound ((s.plane p).phase * 62500) (3 * frac : Nat) - eNs s - at_)

/-- PHASE_NS of R150: a slot's phase against T + E at its last measurement, 0 where it has none. -/
def slotPhase (s : State) (r : Nat) : Int :=
  match (s.slot r).pos with
  | none => 0
  | some x => if isPin r then pinPhase s (s.refObj r).plane x else x - eNs s

/-- A disqualifying condition is present on a slot (R134). [DEDUCED, log 35] -/
def conditionOn (s : State) (r : Nat) : Bool :=
  let x := s.slot r
  x.missing || x.freqBad || x.gridBad ||
    (!isPin r && (decide ((s.lane (s.refObj r).lane).rx ≠ .active) || (x.seen && decide (x.quality = 255))))

/-! ### Holdover (R142, R143) -/

/-- One more tick of a frequency, in a history that holds the last first (R142). -/
def histAdd (f : Int) : List (Int × Nat) → List (Int × Nat)
  | (g, n) :: rest => if g = f then (g, n + 1) :: rest else (f, 1) :: (g, n) :: rest
  | [] => [(f, 1)]

/-- The last `k` ticks of a history. -/
def histKeep : Nat → List (Int × Nat) → List (Int × Nat)
  | _, [] => []
  | k, (g, n) :: rest => if k = 0 then [] else (g, min n k) :: histKeep (k - n) rest

/-- The frequency to hold (R142): the mean of the history, or the one held before where it is shorter than 1 s. -/
def meanFreq (hist : List (Int × Nat)) (prev : Int) : Int :=
  let n := (hist.map Prod.snd).sum
  if n < 48000 then prev else divRound (hist.map fun e => e.1 * (e.2 : Int)).sum n

/-- The span of the frequency correction (R104). -/
def clampFreq (f : Int) : Int := clampI (-350000000) 350000000 f

/-- Holdover begins. -/
def enterHoldover (s : State) : State :=
  let h := clampFreq (meanFreq s.refs.hist s.refs.holdFreq)
  let s1 := s.onRefs fun x =>
    { x with holdover := true, holdStart := s.now, holdAge := 0, holdFreq := h, outOfSpec := false, selected := none, delayStep := 0, jumpStep := 0 }
  raise 0x0484 2 (s.refs.last.getD 255) 0 (s1.onTime fun t => { t with tmState := .holdover, freq := h })

/-- e(t) × 48,000² × 172,800, in ns, after `t` ticks of holdover (R143). -/
def estimateNum (o : PolicyObj) (t : Nat) : Nat := o.offsetPpb * t * 48000 * 172800 + o.driftPpb * t * t

/-- The scale of `estimateNum`. -/
def estimateDen : Nat := 48000 * 48000 * 172800

/-- e reaches the budget before the end of tick `t` of holdover. [DEDUCED, log 34] -/
def overBudget (o : PolicyObj) (t : Nat) : Bool := decide (o.budgetNs * estimateDen < estimateNum o (t + 1))

/-- The first tick count, below `lo + 2^k`, in which the budget is reached, none below `lo`. [DEDUCED, log 34] -/
def crossSearch (o : PolicyObj) : Nat → Nat → Nat
  | 0, lo => lo
  | k + 1, lo => if overBudget o (lo + 2 ^ k - 1) then crossSearch o k lo else crossSearch o k (lo + 2 ^ k)

/-- CROSSING_TICK (R143, R150). [DEDUCED, log 34] -/
def crossingTick (s : State) : Nat :=
  let o := s.obj.policy
  if !s.refs.holdover then 0
  else if o.offsetPpb = 0 ∧ o.driftPpb = 0 then 2 ^ 64 - 1
  else min (2 ^ 64 - 1) (s.refs.holdStart + crossSearch o 64 0)

/-- ESTIMATE_NS (R150). -/
def estimateNs (s : State) : Nat := if s.refs.holdover then min 0xFFFFFFFF (estimateNum s.obj.policy s.refs.holdAge / estimateDen) else 0

/-- The helm's estimate reaches its budget: HOLDOVER_OUT_OF_SPEC, once (R143, R144). [DEDUCED, log 34] -/
def budgetCrossing (s : State) : State :=
  if s.isHelm ∧ s.refs.holdover ∧ s.refs.outOfSpec = false ∧ overBudget s.obj.policy s.refs.holdAge then
    raise 0x0485 3 0 (estimateNs s) (s.onRefs fun x => { x with outOfSpec := true })
  else s

/-! ### Disqualification and qualification (R133, R134) -/

/-- The helm's selected slot leaves QUALIFIED: the selector decides at step 6, but a pending switch becomes holdover at once (R138, R140, R144). -/
def deselect (r : Nat) (s : State) : State :=
  if s.isHelm ∧ s.refs.selected = some r then
    (if s.refs.pending.isEmpty then s.onRefs fun y => { y with selected := none, delayStep := 0 } else enterHoldover s)
  else s

/-- A slot is disqualified (R134). -/
def disqualify (r cause : Nat) (s : State) : State :=
  let x := s.slot r
  if x.st = .disabled then s
  else
    let s1 := s.onSlot r fun x => { x with st := .unqualified, lastCause := cause, timer := 0, downAt := some s.elapsed }
    if x.st = .unqualified then s1 else deselect r (raise 0x0482 2 r cause s1)

/-- The qualification time of a slot has run, and its frequency has been judged. -/
def timeServed (s : State) (r : Nat) : Bool := decide ((s.refObj r).qualTime * 48000 ≤ (s.slot r).timer) && (s.slot r).freqJudged

/-- A QUALIFYING slot whose time has run becomes QUALIFIED (R133). -/
def qualify (r : Nat) (s : State) : State :=
  if (s.slot r).st = .qualifying ∧ conditionOn s r = false ∧ timeServed s r then
    raise 0x0481 1 r (qualityOf s r) (s.onSlot r fun x => { x with st := .qualified })
  else s

/-- The first tick, after that of its disqualification, at which no condition is present: the timer starts from zero. -/
def startTimer (r : Nat) (s : State) : State :=
  let x := s.slot r
  if x.st = .unqualified ∧ conditionOn s r = false ∧ x.downAt ≠ some s.elapsed then s.onSlot r fun x => { x with st := .qualifying, timer := 0 } else s

/-- A slot has been silent too long (R134, cause 1): two consecutive beacons overdue; or no pulse within two frame periods of the last one,
or, where none has come, of the enabling. [DEDUCED, log 35] -/
def silentTooLong (s : State) (r : Nat) : Bool :=
  let x := s.slot r
  let q := slotRate s r
  if isPin r then match x.lastPulse with
    | some l => decide (6000000000 * (q.2 : Int) < ((s.now : Int) * 62500 - 3 * l) * q.1)
    | none => decide (2 * 48000 * q.2 ≤ x.silent * q.1)
  else decide (2 ≤ x.missedRun)

/-- What was measured of a slot is void: it has gone MISSING or its lane is down (R134). -/
def SlotRt.unmeasured (x : SlotRt) : SlotRt :=
  { x with meas := [], cover := 0, freqJudged := false, freqBad := false, havePred := false, gridBad := false, offGrid := [] }

/-- A slot is found MISSING. -/
def missing (r : Nat) (s : State) : State :=
  let x := s.slot r
  if x.st = .disabled ∨ x.missing ∨ silentTooLong s r = false then s
  else disqualify r 1 (s.onSlot r fun x => { x.unmeasured with missing := true })

/-- A beacon slot's lane has left ACTIVE, or is ACTIVE again (R134, cause 6). -/
def watchLane (r : Nat) (s : State) : State :=
  let x := s.slot r
  if isPin r ∨ x.st = .disabled then s
  else
    let up := decide ((s.lane (s.refObj r).lane).rx = .active)
    if up then (if x.laneDown then s.onSlot r fun x => { x with laneDown := false, due := none, missedRun := 0 } else s)
    else if x.laneDown then s
    else disqualify r 6 (s.onSlot r fun x => { x.unmeasured with laneDown := true })

/-- A lane's receive direction has changed state: the beacon slots that name it are judged, and the interval of its last beacon is void. -/
def laneMoved (lane : Nat) (s : State) : State :=
  (List.range 8).foldl (fun s r => if (s.refObj r).lane = lane then watchLane r s else s)
    (s.onLane lane fun l => { l with offFrom := none, offSum := 0, offCount := 0 })

/-- The frequency of measurements, the slope of their positions with the corrections of the tick spacing added back, by least squares, in
10^−12 against the root clock, its mean spread removed (R128, R131); none where they show no slope. [DEDUCED, log 133] -/
def slopeOf (nd : Nat × Nat) (spreadPpb : Nat) (m : List (Int × Int × Int)) : Option Int :=
  match m with
  | [] => none
  | (t0, y0, c0) :: _ =>
    let n : Int := m.length
    let pts := m.map fun e => (e.1 - t0, (e.2.1 - y0) * 3000000000000 + (e.2.2 - c0) * 62500 * nd.1)
    let st := (pts.map Prod.fst).sum
    let d := n * (pts.map fun e => e.1 * e.1).sum - st * st
    if d = 0 then none
    else some (divRound (n * (pts.map fun e => e.1 * e.2).sum - st * (pts.map Prod.snd).sum) (d * (3 * nd.1 : Nat)) - 1000 * spreadPpb)

/-- The frequency of a slot over the 1 s that ends `withinNs` into the present tick is judged (R128, R134, cause 2), once its measurements
cover a whole window. -/
def judgeFreqAt (withinNs r : Nat) (s : State) : State :=
  let x := s.slot r
  if x.st = .disabled ∨ x.cover < 48000 then s
  else match slopeOf (slotRate s r) s.obj.policy.spreadPpb (x.meas.filter fun e => decide ((s.now : Int) * 62500 + 3 * withinNs ≤ (e.1 + 1000000000) * 3)) with
    | none => s
    | some f =>
      let bad := decide (10000000 < f.natAbs)
      let s1 := s.onSlot r fun x => { x with freq := f, freqJudged := true, freqBad := bad }
      if bad ∧ x.freqBad = false then disqualify r 2 s1 else s1

/-- The frequency of a slot over the last 1 s, as a tick begins. -/
def judgeFreq (r : Nat) (s : State) : State := judgeFreqAt 0 r s

/-- One slot through one tick. -/
def tickSlot (s : State) (r : Nat) : State :=
  let x := s.slot r
  if x.st = .disabled then s
  else
    let s1 := s.onSlot r fun x => { x with silent := x.silent + 1, cover := if x.meas = [] then 0 else x.cover + 1,
                                           timer := if x.st = .qualifying then x.timer + 1 else x.timer,
                                           offGrid := x.offGrid.filter fun t => s.elapsed < t + 48000 }
    qualify r (startTimer r (judgeFreq r (missing r (watchLane r s1))))

/-- The slots, the 1 s window and the holdover time through one tick. -/
def tickSlots (s : State) : State :=
  (List.range 10).foldl tickSlot (s.onRefs fun x => { x with window := x.window + 1, holdAge := if x.holdover then x.holdAge + 1 else 0 })

/-! ### Switches (R138 to R140) -/

/-- Change E: a phase step, which each plane adopts under R111; every slot's phase against T + E moves against it. -/
def stepE (d : Int) (s : State) : State := s.onTime fun t => { t with e := t.e + d }

/-- REFERENCE_SWITCHED (R151): the slot, the one before it, and the step. -/
def tellSwitch (r : Nat) (old : Option Nat) (ns : Int) (s : State) : State :=
  raise 0x0483 1 (r + 256 * old.getD 255) (ofInt 32 (clampI (-2147483648) 2147483647 ns)) s

/-- A switch that steps E is pending on every enabled plane (R140). -/
def switchPending (d : Int) (s : State) : State :=
  if d = 0 then s else s.onRefs fun x => { x with pending := (enabledPlanes s).map fun p => (p, none) }

/-- Switch to a slot, its phase error passing to E as a step (R139): DATA is the step of E. -/
def switchRef (r : Nat) (s : State) : State :=
  let d := units32 (slotPhase s r)
  let s1 := s.onRefs fun x =>
    { x with selected := some r, last := some r, holdover := false, holdStart := 0, holdAge := 0, outOfSpec := false, hist := [], delayStep := 0, jumpStep := 0 }
  let s2 := (stepE d (switchPending d s1)).onTime fun t => { t with tmState := .disciplined, freq := clampFreq (s.slot r).freq }
  tellSwitch r (s.refs.selected.or s.refs.last) (-(slotPhase s r)) s2

/-- Rank of a slot: quality first, then priority; lower is better. -/
def rankOf (s : State) (r : Nat) : Nat := qualityOf s r * 256 + (s.refObj r).priority

/-- The candidate of best rank, the lower slot number among equals. -/
def bestSlot (s : State) : Option Nat :=
  ((List.range 10).filter fun r => candidate s r).foldl (fun b r => match b with
    | none => some r
    | some q => if rankOf s r < rankOf s q then some r else some q) none

/-- Hold: holdover if the time model was disciplined (R138). -/
def hold (s : State) : State := if s.refs.holdover then s else if s.time.tmState = .disciplined then enterHoldover s else s

/-- The slot is, or becomes, the one selected. -/
def choose (r : Nat) (s : State) : State := if s.refs.selected = some r then s else switchRef r s

/-- The selector's decision (R138), unless a switch is pending (R140). -/
def selectRef (s : State) : State :=
  if !s.isHelm ∨ s.refs.pending.isEmpty = false then s
  else match s.obj.policy.mode with
    | .forceHoldover => hold s
    | .forceSlot => if candidate s s.obj.policy.forced then choose s.obj.policy.forced s else hold s
    | .auto => match bestSlot s, s.refs.selected with
      | some b, some c => if candidate s c ∧ rankOf s c ≤ rankOf s b then s else choose b s
      | some b, none => choose b s
      | none, _ => hold s

/-- The selected slot as its tracking sees it (R136, R145): not in holdover, and QUALIFIED here. -/
def tracked (s : State) : Option Nat := if s.refs.holdover then none else s.refs.selected.filter fun r => candidate s r

/-- Discipline of a tick (R136): the frequency follows the selected slot, steered towards zero phase error in 10 s. -/
def discipline (s : State) : State :=
  match tracked s with
  | some r => if s.isHelm then s.onTime fun t => { t with freq := clampFreq ((s.slot r).freq + clampI (-500000) 500000 (slotPhase s r * 100)) } else s
  | none => s

/-- The tick counts in the history of the selected slot's measured frequency (R142). -/
def noteHistory (s : State) : State :=
  match tracked s with
  | some r => s.onRefs fun x => { x with hist := histKeep 2880000 (histAdd (s.slot r).freq x.hist) }
  | none => s

/-- What waits to pass to E as a phase step passes: an announced jump (R137), and, with no switch pending, a change of the selected
slot's delay, told as a switch from that slot to itself (R139, R148). [DEDUCED, log 36] -/
def passSteps (s : State) : State :=
  let j := s.refs.jumpStep
  let s1 := stepE (units32 j) (s.onRefs fun x => { x with jumpStep := 0 })
  let d := s.refs.delayStep
  match s.refs.selected with
  | some r =>
    if d = 0 ∨ s.refs.pending.isEmpty = false then s1
    else tellSwitch r (some r) (-d) (stepE (units32 d) (switchPending (units32 d) (s1.onRefs fun x => { x with delayStep := 0 })))
  | none => s1

/-- Lines of the destination whose switch point comes last on a plane (R113, R140). -/
def lastLines (s : State) (p : Nat) : Nat :=
  if s.obj.streams.any fun e => decide (8192 ≤ e.1 ∧ e.2.st = .live ∧ e.2.plane = p ∧ switchLines e.2.format = 750) then 750 else 1125

/-- A pending switch is complete on the planes whose frame k has passed its switch points (R140). -/
def completeSwitch (s : State) : State :=
  let over_ : Nat × Option Int → Bool := fun e => match e.2, s.rate e.1 with
    | some k, some r => decide (switchTickNum r (startNumOf s e.1 r k) (lastLines s e.1) ≤ s.now)
    | _, none => true
    | none, _ => false
  s.onRefs fun x => { x with pending := x.pending.filter fun e => !over_ e }

/-- A plane has adopted: frame k of a pending switch is known, or nothing was left to adopt (R139, R140). -/
def adoptSwitch (p : Nat) (k : Option Int) (s : State) : State :=
  s.onRefs fun x => { x with pending := match k with
    | some f => x.pending.map fun e => if e.1 = p ∧ e.2.isNone then (p, some f) else e
    | none => x.pending.filter fun e => ¬(e.1 = p ∧ e.2.isNone) }

/-! ### Disputes (R141) -/

/-- Two slots' frequencies differ by more than 0.5 ppm. -/
def apart (s : State) (a b : Nat) : Bool := decide (500000 < ((s.slot a).freq - (s.slot b).freq).natAbs)

/-- Votes for one of the pair: QUALIFIED slots of any rank within 0.1 ppm of it. -/
def votesFor (s : State) (a b : Nat) : Nat :=
  ((List.range 10).filter fun r => r ≠ a ∧ r ≠ b ∧ candidate s r ∧ ((s.slot r).freq - (s.slot a).freq).natAbs ≤ 100000).length

/-- Slots equal in rank to the selected one. -/
def equals (s : State) (c : Nat) : List Nat := (List.range 10).filter fun r => r ≠ c ∧ candidate s r ∧ rankOf s r = rankOf s c

/-- No dispute stands. -/
def endDispute (s : State) : State := s.onRefs fun x => { x with pair := none, pairRun := 0 }

/-- A dispute ends at once when either slot leaves QUALIFIED; a standby has none (R141, R144). -/
def dropDispute (s : State) : State :=
  match s.refs.pair with
  | some (a, b) => if s.isHelm ∧ candidate s a ∧ candidate s b then s else endDispute s
  | none => s

/-- The poll of a standing dispute: the slot with strictly more votes is selected. -/
def pollVotes (a b : Nat) (s : State) : State :=
  if s.refs.pending.isEmpty = false then s
  else if s.refs.selected = some a ∧ votesFor s a b < votesFor s b a then switchRef b s
  else if s.refs.selected = some b ∧ votesFor s b a < votesFor s a b then switchRef a s
  else s

/-- A standing dispute at the end of a 1 s window: it ends with the tenth window of agreement, and is polled until then. -/
def pollDispute (a b : Nat) (s : State) : State :=
  if apart s a b then pollVotes a b (s.onRefs fun x => { x with pairRun := 0 })
  else if 9 ≤ s.refs.pairRun then endDispute s
  else pollVotes a b (s.onRefs fun x => { x with pairRun := x.pairRun + 1 })

/-- The windows of difference of the selected slot's equals, at the end of a window. -/
def disputeRuns (s : State) : List (Nat × Nat) :=
  match s.refs.selected with
  | none => []
  | some c => if candidate s c then ((equals s c).filter fun r => apart s c r).map fun r => (r, tget 0 s.refs.runs r + 1) else []

/-- The search for a dispute at the end of a 1 s window. -/
def seekDispute (s : State) : State :=
  match s.refs.selected, s.refs.runs.find? fun e => decide (10 ≤ e.2) with
  | some c, some (r, _) =>
    raise 0x0486 2 (c + 256 * r) (((s.slot c).freq - (s.slot r).freq).natAbs / 1000)
      (s.onRefs fun x => { x with pair := some (c, r), pairRun := 0, runs := x.runs.filter fun e => decide (e.1 ≠ r) })
  | _, _ => s

/-- The disputes at the end of a 1 s window, which are the helm's (R141, R144). -/
def windowDispute (s : State) : State :=
  if !s.isHelm then s.onRefs fun x => { x with runs := [] }
  else
    let s1 := s.onRefs fun x => { x with runs := disputeRuns s }
    match s.refs.pair with
    | some (a, b) => pollDispute a b s1
    | none => seekDispute s1

/-- A 1 s window ends, `withinNs` into its tick: frequencies are judged, and disputes (R134, R141). [DEDUCED, log 133] -/
def frequencyWindow (withinNs : Nat) (s : State) : State :=
  if s.refs.window < 48000 then s
  else windowDispute (dropDispute ((List.range 10).foldl (fun s r => judgeFreqAt withinNs r s) (s.onRefs fun x => { x with window := 0 })))

/-! ### Beacons (R126 to R128, R134, R137) -/

/-- A measurement joins those of the last 1 s. -/
def addMeas (t y corr : Int) (m : List (Int × Int × Int)) : List (Int × Int × Int) := (t, y, corr) :: m.filter fun e => decide (t ≤ e.1 + 1000000000)

/-- A beacon slot's phase measurement (R128): the reference time less its arrival on T, and its place among the others; more than 1 µs from
the prediction it disqualifies (R134, cause 3). -/
def measurePhase (r : Nat) (t pos : Int) (s : State) : State :=
  let x := s.slot r
  if x.st = .disabled then s
  else
    let s1 := s.onSlot r fun x => { x with pos := some pos, havePred := true, meas := addMeas t pos s.time.corr x.meas }
    if x.havePred ∧ 1000 < (pos - x.pos.getD pos).natAbs then disqualify r 3 s1 else startTimer r s1

/-- The next barge in which a beacon is due after barge `seq` (R126). -/
def nextDue (seq : Nat) : Nat := (seq / 1024 + 1) * 1024 % 2 ^ 32

/-- A barge has arrived: the beacon due in barge s is overdue when barge s + 64 comes without it (R134). -/
def watchDue (seq r : Nat) (s : State) : State :=
  let x := s.slot r
  match x.due with
  | none => s.onSlot r fun x => { x with due := some (nextDue seq) }
  | some d =>
    let k := seqAhead seq d
    if k < -1024 ∨ 1024 ≤ k then s.onSlot r fun x => { x with due := some (nextDue seq) }
    else if k < 64 then s
    else
      missing r (s.onSlot r fun x => { x with due := some (wrapAdd 32 d 1024), anomalies := satAdd 16 x.anomalies 1, missedRun := min 2 (x.missedRun + 1) })

/-- A jump announced by a beacon (R137): told once per announcement; good where it comes 2,048 barges ahead and every beacon since says the same. [DEDUCED, log 35] -/
def noteJump (r : Nat) (pending : Bool) (seq at_ : Nat) (ns : Int) (s : State) : State :=
  let x := s.slot r
  if !pending then s.onSlot r fun x => { x with jumpOk := false }
  else if x.jump = some (at_, ns) then s
  else raise 0x0488 0 r (ofInt 32 ns) (s.onSlot r fun x => { x with jump := some (at_, ns), jumpOk := x.jump.isNone && decide (2048 ≤ seqAhead at_ seq) })

/-- A jump of all references: a slot's prediction and measurements move with it (R137); so does any equal jump still to come. [DEDUCED, log 35] -/
def jumpSlot (ns : Int) (e : Nat × SlotRt) : Nat × SlotRt :=
  let x := e.2
  let y := if isPin e.1 then { x with pos := x.pos.map fun p => p - ns }
    else { x with pos := x.pos.map fun p => p + ns, meas := x.meas.map fun m => (m.1, m.2.1 + ns, m.2.2) }
  (e.1, if (x.jump.map Prod.snd) = some ns then { y with jump := none, jumpOk := false } else y)

/-- The announced jump of a slot, its barge having arrived (R137): every slot's prediction shifts, and on the selected slot the jump
passes to E at step 6. [DEDUCED, log 35] -/
def applyJump (r : Nat) (ns : Int) (s : State) : State :=
  let s1 := s.onRefs fun x => { x with slots := x.slots.map (jumpSlot ns) }
  let s2 := s1.onTow fun t => { t with lanes := t.lanes.map fun e => (e.1, { e.2 with offSum := e.2.offSum - ns * (e.2.offCount : Int) }) }
  if s.refs.selected = some r ∧ s.isHelm ∧ s.refs.holdover = false then s2.onRefs fun x => { x with jumpStep := x.jumpStep + ns } else s2

/-- A barge has arrived that an announcement may name (R137); an announcement that is not good moves nothing. -/
def jumpDue (seq r : Nat) (s : State) : State :=
  let x := s.slot r
  match x.jump with
  | some (q, ns) =>
    if seqAhead seq q < 0 then s
    else
      let s1 := s.onSlot r fun x => { x with jump := none, jumpOk := false }
      if x.jumpOk then applyJump r ns s1 else s1
  | none => s

/-- A beacon record, in barge `seq`, of a slot in service (R127, R134). -/
def beaconRecord (r : Nat) (record : List Byte) (seq : Nat) (s : State) : State :=
  let f := fun off n => leNat ((record.drop off).take n)
  if (s.slot r).st = .disabled then s
  else
    let s1 := s.onSlot r fun x => { x with missing := false, missedRun := 0, due := some (nextDue seq), seen := true, quality := f 0 1, utcOffset := toInt 16 (f 2 2),
                                           sourceId := f 0x10 8 }
    let s2 := noteJump r (bitOf (f 1 1) 0) seq (f 8 4) (toInt 32 (f 0x0C 4)) s1
    if f 0 1 = 255 then disqualify r 7 s2 else startTimer r s2

/-- BEACON_RECORD: a beacon record with the measurement of the interval that it ends. [DEDUCED, log 35] -/
def beacon (r : Nat) (record : List Byte) (a : BeaconArrival) (s : State) : State :=
  if 8 ≤ r ∨ (s.slot r).st = .disabled ∨ (s.lane (s.refObj r).lane).rx ≠ .active then s
  else
    let seq := leNat ((record.drop 4).take 4)
    let t := a.rxNs - eNs s
    beaconRecord r record seq (measurePhase r t ((a.txSeconds * 1000000000 + a.txNanos : Nat) - (t - (s.refObj r).delayNs)) (jumpDue seq r s))

/-! ### Pins (R129, R134, R135) -/

/-- Eight like intervals of a rate other than the declared one (R135): the rate in mHz. -/
def otherRate (q : Nat × Nat) (gaps : List Int) : Option Nat :=
  match gaps with
  | g :: _ =>
    if gaps.length = 8 ∧ gaps.all (fun x => decide ((gaps.all fun y => decide ((x - y).natAbs ≤ 100)) = true)) ∧
        1000 * q.1 < (g * q.1 - (1000000000 * q.2 : Nat)).natAbs ∧ 0 < gaps.sum then
      some ((8 * 1000000000000 + gaps.sum.toNat / 2) / gaps.sum.toNat)
    else none
  | [] => none

/-- While a pin is disqualified its rate is watched (R135). -/
def watchRate (r : Nat) (s : State) : State :=
  let x := s.slot r
  match if x.st = .unqualified then otherRate (slotRate s r) x.gaps else none with
  | some m =>
    let s1 := s.onSlot r fun x => { x with lastCause := 5, gridBad := true, measuredRate := m }
    if x.measuredRate = m then s1 else raise 0x0487 2 r m s1
  | none => s

/-- An off-grid pulse (R134, cause 4): counted and left out of measurement, it disqualifies as the third within 48,000 ticks.  A slot that is
disqualified expects the next one by it. [DEDUCED, log 35] -/
def offGridPulse (r : Nat) (inst : Int) (s : State) : State :=
  let times := (s.slot r).offGrid.filter (fun t => s.elapsed < t + 48000) ++ [s.elapsed]
  let s1 := s.onSlot r fun x => { x with anomalies := satAdd 16 x.anomalies 1, offGrid := times }
  let s2 := if 3 ≤ times.length then disqualify r 4 (s1.onSlot r fun x => { x with gridBad := true }) else s1
  if (s2.slot r).st = .unqualified then s2.onSlot r fun x => { x with pos := some inst } else s2

/-- A pulse on its slot's grid, or the first: a measurement (R128, R129). -/
def onGridPulse (r : Nat) (inst : Int) (s : State) : State :=
  let x := s.slot r
  let y := match x.meas, x.pos with
    | (_, y, _) :: _, some p => y + wrapNum (slotRate s r) (p - inst)
    | _, _ => 0
  s.onSlot r fun x => { x with pos := some inst, havePred := true, gridBad := false, measuredRate := if x.havePred then 0 else x.measuredRate,
                               meas := addMeas inst y s.time.corr x.meas }

/-- A valid pulse on a frame-reference pin, its rising edge at `atNs` of T (R129, R134, R135). -/
def validPulse (r : Nat) (atNs : Int) (s : State) : State :=
  let x := s.slot r
  let q := slotRate s r
  let inst := atNs - (s.refObj r).delayNs
  let gaps := match x.lastPulse with
    | some l => x.gaps ++ [atNs - l]
    | none => x.gaps
  let s1 := s.onSlot r fun x => { x with lastPulse := some atNs, gaps := gaps.drop (gaps.length - 8), missing := false }
  let s2 := if x.havePred ∧ 1000 * q.1 < (wrapNum q (inst - x.pos.getD inst)).natAbs then offGridPulse r inst s1 else onGridPulse r inst s1
  startTimer r (watchRate r s2)

/-- The input filter of a pin (R129): it rejects pulses narrower than 20 ns and accepts those of 25 ns or more; what it does between is a
free value. [DESIGN CHOICE, log 6, 138] -/
def filterPulse (widthNs : Nat) (s : State) : Bool × State :=
  if widthNs < 20 then (false, s) else if 25 ≤ widthNs then (true, s) else (decide (s.draw.1 % 2 = 0), s.draw.2)

/-- A pulse on a frame-reference pin (R129). -/
def pinPulse (pin : Nat) (atNs : Int) (widthNs : Nat) (s : State) : State :=
  let r := 8 + pin
  if 1 < pin ∨ (s.slot r).st = .disabled then s
  else
    let w := filterPulse widthNs s
    if w.1 then validPulse r atNs w.2 else w.2.onSlot r fun x => { x with filtered := satAdd 16 x.filtered 1 }

/-! ### A step of T (R107, R133, R541) -/

/-- T is set `ns` on: what a slot holds against T moves with it, so that no timer and no prediction sees the step. -/
def retimeSlot (ns : Int) (e : Nat × SlotRt) : Nat × SlotRt :=
  let x := e.2
  (e.1, { x with pos := x.pos.map fun p => if isPin e.1 then p + ns else p - ns, lastPulse := x.lastPulse.map fun p => p + ns,
                 meas := x.meas.map fun m => (m.1 + ns, if isPin e.1 then m.2.1 else m.2.1 - ns, m.2.2) })

/-- T is set to a tick: what is measured against it follows. -/
def setTick (t : Nat) (s : State) : State :=
  let ns := divRound (((t : Int) - s.time.tick) * 62500) 3
  let s1 := (s.onTime fun x => { x with tick := t }).onRefs fun x => { x with slots := x.slots.map (retimeSlot ns) }
  s1.onTow fun w => { w with lanes := w.lanes.map fun e => (e.1, { e.2 with offSum := e.2.offSum + ns * (e.2.offCount : Int) }) }

/-! ### SET_REFERENCE (R147, R148) -/

/-- SET_REFERENCE (R147). -/
def setReferenceInfo : CmdInfo :=
  { opcode := 0x0401, content := true, length := fun _ => 16, gen := fun c s => if c.u8 0 < 10 then some (s.refObj (c.u8 0)).gen else none }

/-- The configuration a record gives. -/
def refSetting (c : Cmd) (gen : Nat) : RefObj :=
  { enable := decide (c.u8 1 = 1), priority := c.u8 2, quality := c.u8 3, lane := c.u8 4, plane := c.u8 5, qualTime := if c.u16 6 = 0 then 8 else c.u16 6,
    delayNs := c.i32 8, gen := gen }

/-- The field checks of R147. [DEDUCED, log 35] -/
def refRange (c : Cmd) : List (Bool × Nat) :=
  let pin := decide (8 ≤ c.u8 0)
  [(decide (c.u8 0 < 10), 0x20), (decide (c.u8 1 ≤ 1), 0x21), (decide (1 ≤ c.u8 2 ∧ c.u8 2 ≤ 16), 0x22),
   (if pin then decide (c.u8 3 ≤ 254) else decide (c.u8 3 = 0), 0x23), (if pin then decide (c.u8 4 = 0) else decide (c.u8 4 < 128), 0x24),
   (if pin then decide (c.u8 5 < 8) else decide (c.u8 5 = 0), 0x25), (decide (c.u16 6 ≤ 600), 0x26), (decide ((c.i32 8).natAbs ≤ 100000), 0x28)]

/-- Another enabled beacon slot names the lane. -/
def laneNamed (s : State) (r lane : Nat) : Bool := (List.range 8).any fun q => q ≠ r && (s.refObj q).enable && decide ((s.refObj q).lane = lane)

/-- A slot as it is when it is enabled or rebound: UNQUALIFIED, nothing measured. [DEDUCED, log 35] -/
def freshSlot (s : State) (x : SlotRt) : SlotRt :=
  { st := .unqualified, lastCause := x.lastCause, downAt := some s.elapsed, anomalies := x.anomalies, filtered := x.filtered }

/-- A change of DELAY_NS (R148): the slot's prediction and measurements shift; on the selected slot the difference waits for step 6. [DEDUCED, log 36] -/
def redelay (r : Nat) (d : Int) (s : State) : State :=
  let s1 := s.onSlot r fun x =>
    { x with pos := x.pos.map fun p => if isPin r then p - d else p + d, meas := if isPin r then x.meas else x.meas.map fun m => (m.1, m.2.1 + d, m.2.2) }
  if s.isHelm ∧ tracked s = some r then s1.onRefs fun x => { x with delayStep := x.delayStep + d } else s1

/-- What a changed configuration does to the slot (R148). [DEDUCED, log 36] -/
def applyRef (r : Nat) (old new : RefObj) (s : State) : State :=
  if !old.enable then (if new.enable then s.onSlot r (freshSlot s) else s)
  else if !new.enable then (disqualify r 8 s).onSlot r fun x => { freshSlot s x with st := .disabled }
  else if old.lane ≠ new.lane ∨ old.plane ≠ new.plane then (disqualify r 8 s).onSlot r (freshSlot s)
  else qualify r (redelay r (new.delayNs - old.delayNs) s)

/-- The effect of SET_REFERENCE; the selector decides at step 6 of the tick. -/
def setReference (c : Cmd) (s : State) : Res :=
  match firstBad (refRange c) with
  | some off => rej .range off s
  | none =>
    let r := c.u8 0
    let old := s.refObj r
    let new := refSetting c old.gen
    if (!isPin r && laneNamed s r new.lane) || (isPin r && (s.rate new.plane).isNone) then rej .state 0xFFFF s
    else if new = old then ok s
    else ok (applyRef r old new ((s.onObj fun o => { o with refs := tset {} o.refs r { new with gen := genNext old.gen } }).touch 0x04 r))

/-! ### SET_SELECTION_POLICY and READ_REFERENCES (R149, R150) -/

/-- SET_SELECTION_POLICY (R149). -/
def setSelectionPolicyInfo : CmdInfo := { opcode := 0x0402, content := true, length := fun _ => 24, gen := fun _ s => some s.obj.policy.gen }

/-- MODE of R149. -/
def RefMode.code : RefMode → Nat
  | .auto => 0
  | .forceSlot => 1
  | .forceHoldover => 2

/-- The effect of SET_SELECTION_POLICY. -/
def setSelectionPolicy (c : Cmd) (s : State) : Res :=
  match firstBad [(decide (c.u8 0 ≤ 2), 0x20), (decide (c.u8 1 < 10), 0x21), (decide (c.u32 4 ≤ 2500000), 0x24), (decide (c.u32 8 ≤ 100000), 0x28),
      (decide (c.u32 0x0C ≤ 10000), 0x2C), (decide (1 ≤ c.u32 0x10 ∧ c.u32 0x10 ≤ 1000000000), 0x30)] with
  | some off => rej .range off s
  | none =>
    let old := s.obj.policy
    let new : PolicyObj := { mode := if c.u8 0 = 0 then .auto else if c.u8 0 = 1 then .forceSlot else .forceHoldover, forced := c.u8 1, spreadPpb := c.u32 4,
                             driftPpb := c.u32 8, offsetPpb := c.u32 0x0C, budgetNs := c.u32 0x10, gen := old.gen }
    if new.spreadPpb ≠ old.spreadPpb ∧ (s.time.tmState = .disciplined ∨ s.time.tmState = .holdover) then rej .state 0xFFFF s
    else if new = old then ok s
    else ok (budgetCrossing ((s.onObj fun o => { o with policy := { new with gen := genNext old.gen } }).touch 0x04 0x10000))

/-- READ_REFERENCES (R150). -/
def readReferencesInfo : CmdInfo := { opcode := 0x0403, readOnly := true, length := fun _ => 8 }

/-- Milliseconds left to qualification. -/
def qualRemain (s : State) (r : Nat) : Nat :=
  if (s.slot r).st = .qualifying then ((s.refObj r).qualTime * 48000 - (s.slot r).timer + 47) / 48 else 0

/-- The reference block (R150). [DEDUCED, log 42] -/
def referenceBlock (s : State) : List Byte :=
  let x := s.refs
  recordBytes 384 ([(0, 8, s.now), (8, 1, x.selected.getD 255), (9, 1, s.time.tmState.code), (0x0A, 1, s.obj.policy.mode.code), (0x0B, 1, bit !x.pending.isEmpty),
      (0x0C, 4, s.obj.policy.gen), (0x10, 8, if x.holdover then x.holdStart else 0), (0x18, 8, crossingTick s), (0x20, 4, estimateNs s), (0x24, 4, ofInt 32 x.holdFreq),
      (0x28, 2, match x.pair with
        | some (a, b) => a + 256 * b
        | none => 0xFFFF)] ++
    (List.range 10).flatMap fun r =>
      let b := 0x40 + r * 0x20
      let y := s.slot r
      [(b, 1, (slotState s r).code), (b + 1, 1, y.lastCause), (b + 2, 1, qualityOf s r), (b + 3, 1, (s.refObj r).priority), (b + 4, 4, (s.refObj r).gen), (b + 8, 4, ofInt 32 y.freq),
       (b + 0x0C, 4, ofInt 32 (clampI (-2147483648) 2147483647 (slotPhase s r))), (b + 0x10, 4, qualRemain s r), (b + 0x14, 2, y.anomalies), (b + 0x16, 2, y.filtered),
       (b + 0x18, 4, y.measuredRate)])

/-- The effect of READ_REFERENCES. -/
def readReferences (c : Cmd) (s : State) : Res := reply c 0 384 0 (referenceBlock s) s

/-! ### Step 6 of a tick -/

/-- Reference discipline of a tick (R118): the window that ends, the selector, the steps that wait, the frequency, switches that are
complete, so that the selector decides at the first tick after (R140), and the estimate. -/
def stepReferences (s : State) : State :=
  budgetCrossing (completeSwitch (discipline (noteHistory (passSteps (selectRef (frequencyWindow 0 (dropDispute s)))))))

/-! ### The meanings -/

/-- SET_REFERENCE. -/
def execSetReference (c : Cmd) (s : State) : Answer := answer (runCmd setReferenceInfo setReference c s)

/-- SET_SELECTION_POLICY. -/
def execSetSelectionPolicy (c : Cmd) (s : State) : Answer := answer (runCmd setSelectionPolicyInfo setSelectionPolicy c s)

/-- READ_REFERENCES. -/
def execReadReferences (c : Cmd) (s : State) : Answer := answer (runCmd readReferencesInfo readReferences c s)

/-- FRAME_REF_PULSE (R129). -/
def execFrameRefPulse (pin : Nat) (pulse : PinPulse) (s : State) : Answer := answer (pinPulse pin pulse.atNs pulse.widthNs s)

/-- BEACON_RECORD (R127). -/
def execBeaconRecord (slot : Nat) (record : List Byte) (arrival : BeaconArrival) (s : State) : Answer := answer (beacon slot record arrival s)

/-- REFERENCE_MISSING (R134). -/
def execReferenceMissing (slot : Nat) (s : State) : Answer := answer (missing slot s)

/-- QUALIFICATION_COMPLETE (R133). -/
def execQualificationComplete (slot : Nat) (s : State) : Answer := answer (qualify slot s)

/-- REFERENCE_FREQUENCY_WINDOW (R134, R141). -/
def execReferenceFrequencyWindow (withinNs : Nat) (s : State) : Answer := answer (frequencyWindow withinNs s)

/-- HOLDOVER_BUDGET_CROSSING (R143). -/
def execHoldoverBudgetCrossing (s : State) : Answer := answer (budgetCrossing s)

end Sys2Proof.Machine
end

