-- ==== Sys2Proof/Machine/Wharf.lean ====
section
/-! DEFINITION.  The Wharf: frame synchronisation, loss of sources, scrubbing and repair, and its commands
(spec/07_wharf.md). -/

namespace Sys2Proof.Machine
open Sys2Proof

/-! ### Input frames (R173, R199, R203, R540) -/

/-- From a frame's start instant to its START (R176, R199): 11 lines for essence form. -/
def startLead (s : State) (bay : Nat) : Int :=
  let x := s.stream bay
  match s.rate x.plane with
  | some q => if x.form = 2 then lineInstant q (switchLines x.format) 11 0 else 0
  | none => 0

/-- A LIVE input stream's frame begins in a barge of a sequence number, arriving at `atNs` of T + E: it is known to its berth, and
has a slot to be written into (R199). -/
def frameBegins (bay seq : Nat) (atNs : Int) (s : State) : State :=
  let s1 := s.onStreamRt bay fun r => { r with frameSeq := wrapAdd 32 r.frameSeq 1, sinceStart := 0, frameDamaged := false }
  if berthed s bay then
    let b := s.berth bay
    let slot := match b.frames.getLast? with
      | some f => (f.slot + 1) % b.slots
      | none => 0
    let f : InFrame := { seq := seq, start := units32 atNs - s.time.e - startLead s bay, slot := slot }
    (s1.onBerth bay fun b => { b with frames := (b.frames ++ [f]).drop (b.frames.length + 1 - (b.slots + 1)) }).onTwin fun t => { t with frames := t.frames ++ [(bay, f)] }
  else s1

/-- δ of a frame against its stream's own plane (R540), its start standing at `ns` of T + E. -/
def ownOffset (s : State) (x : StreamObj) (ns : Int) : Option Int :=
  match s.rate x.plane with
  | none => none
  | some q =>
    let lines := switchLines x.format
    let den : Int := (rateND q).1 * lines
    let len : Int := 1000000000 * (rateND q).2 * lines
    let lead : Int := if x.form = 2 then 11 * 1000000000 * (rateND q).2 else 0
    let grid := divRound (((s.planeRt x.plane).gridPhase - (s.planeRt x.plane).gridE) * 62500) (3 * frac : Nat)
    let y := ((ns - eNs s - grid) * den - lead) % len
    some (divRound (if 2 * y ≤ len then y else y - len) den)

/-- Packets that fit a limit of bytes, each costing what `cost` says, and those left out. [DEDUCED, log 60] -/
def fitPackets (cost : AncPkt → Nat) : Nat → List AncPkt → List AncPkt × List AncPkt
  | _, [] => ([], [])
  | room, k :: r =>
    if cost k ≤ room then let x := fitPackets cost (room - cost k) r; (k :: x.1, x.2) else let x := fitPackets cost room r; (x.1, k :: x.2)

/-- Bytes of a packet as a unit: header, payload, padding (R219, R221); it stands so in a slot's ANC area too. [DEDUCED, log 60] -/
def ancCost (k : AncPkt) : Nat := 4 + (2 * k.words.length + 7) / 4 * 4

/-- A frame in its stowed form: at most 262,144 bytes of packets; and the packets left out (R194). -/
def stowed (f : FrameData) : FrameData × Nat :=
  let x := fitPackets ancCost 262144 f.anc
  ({ f with anc := x.1 }, x.2.length)

/-- A frame of a LIVE input stream is complete at `doneNs` of T + E: its offset is measured, and restoration, its berth and pyramids
take it (R173, R194, R203, R206). [DEDUCED, log 53] -/
def frameCompletes (bay : Nat) (startNs doneNs : Int) (f : FrameData) (s : State) : State :=
  let x := s.stream bay
  let w := stowed f
  let s1 := s.onStreamRt bay fun r => { r with offset := if x.form = 3 then none else ownOffset s x startNs, good := if r.frameDamaged then 0 else min 2 (r.good + 1),
                                               doneAt := some s.elapsed }
  let s2 := if berthed s bay then s1.onBerth bay fun b =>
      { b with ancOverflow := satAdd 16 b.ancOverflow w.2, frames := match b.frames.reverse with
        | g :: r => (({ g with complete := true, damagedLines := f.damaged.length, data := w.1 } : InFrame) :: r).reverse
        | [] => [] }
    else s1
  let s3 := pushFrame bay { seq := (s.streamRt bay).frameSeq, start := units32 doneNs - s.time.e, complete := true, damagedLines := f.damaged.length, data := w.1 } s2
  judgeDrift bay s3

/-- One barge of a stream arrived: damaged or not (R203). -/
def streamBarge (bay : Nat) (damaged : Bool) (s : State) : State :=
  s.onStreamRt bay fun r => if damaged then { r with frameDamaged := true } else { r with damagedFor := 0 }

/-! ### The decisions of R199 -/

/-- The pairing rule of R199 on a list of known frames, oldest first, with b and h: the frame read and the counts of repeats and
drops; none where nothing can be read. -/
def pickPaired (b h : Int) : List InFrame → InFrame → Nat → InFrame × Nat × Nat
  | [], last, drops => (last, if drops = 0 then 1 else 0, drops - 1)
  | f :: r, last, drops =>
    if drops = 0 then (if b + h < f.start then (last, 1, 0) else pickPaired b h r f 1)
    else if f.start ≤ b - h then pickPaired b h r f (drops + 1) else (last, 0, drops - 1)

/-- The newest frame that starts at or before `b`. -/
def newestBy (b : Int) (fs : List InFrame) : Option InFrame := (fs.filter fun f => f.start ≤ b).getLast?

/-- The frames that follow one in a berth's ring. -/
def framesAfter (seq : Nat) (fs : List InFrame) : List InFrame :=
  if fs.any fun f => f.seq = seq then (fs.dropWhile fun f => f.seq ≠ seq).tail else fs

/-- The frame last read, as the ring still shows it. -/
def frameRead (b : BerthRt) : InFrame := (b.frames.find? fun f => f.seq = b.last).getD { seq := b.last }

/-- The lag of the frame read is more than (1 + D) frames: under SHALLOW the frame before is being overwritten (R201). -/
def farLag (s : State) (bay : Nat) (b : BerthRt) : Bool :=
  match s.rate (readPlane s bay) with
  | some q => decide (((1 + (s.fsync bay).delay) * 1000000 * (rateND q).2 : Nat) < b.lagUs * (rateND q).1)
  | none => false

/-- Count the damaged lines of a frame that was read (R201): concealed, or black under SHALLOW where the lag is too long. [DEDUCED, log 53] -/
def countDamage (s : State) (bay : Nat) (b : BerthRt) : BerthRt :=
  let n := (frameRead b).damagedLines
  if s.obj.trims.shallow && farLag s bay b then { b with black := satAdd 16 b.black n } else { b with concealed := satAdd 32 b.concealed n }

/-- Lag of a berth read for an output frame that starts at `t`, in µs (R216). -/
def lagOf (t : Int) (f : InFrame) : Nat := ((t - f.start) * 62500 / (3000 * frac : Nat)).toNat

/-- A berth reads a frame for its output frame: repeats and drops are counted, and the choice goes into the Tandem record (R199). [DEDUCED, log 53] -/
def berthReads (bay : Nat) (f : InFrame) (repeats drops : Nat) (t : Int) (s : State) : State :=
  let counted : BerthRt → BerthRt := fun y => if (s.berth bay).paired then countDamage s bay y else y
  (s.onBerth bay fun y => { counted y with paired := true, last := f.seq, repeats := satAdd 32 y.repeats repeats, drops := satAdd 32 y.drops drops, lagUs := lagOf t f }).onTwin
    fun w => { w with picks := w.picks ++ [(bay, f.seq)] }

/-- The berth's decision for output frame `m` of its read plane (R199). [DEDUCED, log 53] -/
def berthPick (bay : Nat) (m : Int) (s : State) : State :=
  let p := readPlane s bay
  match s.rate p with
  | none => s
  | some q =>
    let b0 := s.berth bay
    let t := start32 q (startNumOf s p q m)
    let len : Int := frameLen32 q
    let b := t - len / 2 - (s.fsync bay).delay * len
    if b0.paired then
      let r := pickPaired b (len / 16) (framesAfter b0.last b0.frames) (frameRead b0) 0
      berthReads bay r.1 r.2.1 r.2.2 t s
    else match newestBy b b0.frames with
      | some f => berthReads bay f 0 0 t s
      | none => s

/-- The decisions of every berth read on a plane, at the commit deadline of its frame (R199, R204). -/
def berthDecisions (p : Nat) (m : Int) (s : State) : State :=
  ((s.wharf.berths.map Prod.fst).filter fun b => berthed s b ∧ readPlane s b = p ∧ streamLive s b ∧ (s.streamRt b).lost = 0).foldl (fun s b => berthPick b m s) s

/-! ### Loss and restoration (R203, R204) -/

/-- Ticks of so many frame periods of a stream's plane have passed, strictly. -/
def periodsPassed (s : State) (x : StreamObj) (n ticks : Nat) : Bool :=
  match s.rate x.plane with
  | some q => decide (n * 48000 * (rateND q).2 < ticks * (rateND q).1)
  | none => false

/-- At least one frame period of a stream's plane, of so many ticks. [DEDUCED, log 54] -/
def periodFull (s : State) (x : StreamObj) (ticks : Nat) : Bool :=
  match s.rate x.plane with
  | some q => decide (48000 * (rateND q).2 ≤ ticks * (rateND q).1)
  | none => false

/-- The cause for which an input stream is lost now, 0 if none (R203). [DEDUCED, log 54] -/
def lossCause (s : State) (bay : Nat) : Nat :=
  let x := s.stream bay
  let r := s.streamRt bay
  if x.st = .releasing then 1
  else if (s.lane (bay / 64)).rx ≠ .active then 2
  else if periodsPassed s x 2 r.sinceStart then 3
  else if periodFull s x r.damagedFor then 4
  else 0

/-- Destinations of a source that do not take it from a berth. -/
def plainDests (s : State) (h : Nat) : List Nat := (routesFrom s h).filter fun d => (s.routeRt d).via = false

/-- A stream is lost (R203): its audio fades, and its destinations without a berth go to the fill (R204). [DEDUCED, log 55] -/
def loseStream (bay cause : Nat) (s : State) : State :=
  let s1 := s.onStreamRt bay fun r => { r with lost := cause, lossCause := cause, lostFor := 0, good := 0, filling := false, losses := inc r.losses }
  let s2 := (plainDests s1 bay).foldl (fun s d => s.onRouteRt d fun r => { r with lossFill := true }) s1
  raise 0x0681 2 bay cause ((fadeStream bay s2).onTwin fun t => { t with losses := t.losses ++ [(bay, cause)] })

/-- A stream is restored (R203): its berth pairs afresh, its buffers are primed afresh. -/
def restoreStream (bay : Nat) (s : State) : State :=
  let ms := min 0xFFFFFFFF ((s.streamRt bay).lostFor / 48)
  let s1 := s.onStreamRt bay fun r => { r with lost := 0, lostFor := 0, filling := false, offset := none }
  let s2 := if berthed s bay then s1.onBerth bay fun b => { b with paired := false } else s1
  let s3 := (sourceChannels s2 bay).foldl (fun s ch => s.onSrcChan ch fun c => { c with buf := [] }) s2
  let s4 := s3.onAud bay fun a => { a with primed := false, pairing := none, sync := false, clean := 0, slip := none }
  raise 0x0682 1 bay ms (s4.onTwin fun t => { t with restored := t.restored ++ [bay] })

/-- The judgement of one input stream at a commit deadline (R203). -/
def judgeLoss (s : State) (bay : Nat) : State :=
  let r := s.streamRt bay
  if r.lost = 0 then (if lossCause s bay = 0 then s else loseStream bay (lossCause s bay) s)
  else if r.lossCause ≠ 1 ∧ (s.stream bay).st = .releasing then loseStream bay 1 s
  else if r.lossCause ≠ 1 ∧ 2 ≤ r.good ∧ lossCause s bay = 0 then restoreStream bay s
  else s

/-- Input streams that can be lost: LIVE and RELEASING ones. -/
def inputsInUse (s : State) : List Nat := (s.obj.streams.filter fun e => e.1 < 8192 ∧ (e.2.st = .live ∨ e.2.st = .releasing)).map Prod.fst

/-- Loss and restoration of every input stream, at a commit deadline of any plane. [DEDUCED, log 54] -/
def judgeLosses (s : State) : State := (inputsInUse s).foldl judgeLoss s

/-- A lost stream's hold has run out: its berth goes over to the fill (R204). [DEDUCED, log 55] -/
def lossHoldExpiry (bay : Nat) (s : State) : State :=
  let r := s.streamRt bay
  if r.lost ≠ 0 ∧ berthed s bay ∧ r.filling = false ∧ msTicks (s.fsync bay).lossHoldMs ≤ r.lostFor then
    raise 0x0683 1 bay (bit (s.fsync bay).lossFill) ((s.onStreamRt bay fun r => { r with filling := true }).onBerth bay fun b => { b with filling := true })
  else s

/-- A read plane's frame begins: the berths whose hold has run out send the loss fill to their destinations from here on (R204). [DEDUCED, log 55] -/
def fillFrames (p : Nat) (s : State) : State :=
  ((s.wharf.berths.filter fun e => e.2.filling && decide (readPlane s e.1 = p)).map Prod.fst).foldl (fun s b =>
    if (s.streamRt b).lost = 0 then s
    else ((routesFrom s b).filter fun d => (s.routeRt d).via).foldl (fun s d => s.onRouteRt d fun r => { r with lossFill := true, lossGen := (s.fsync b).lossFill }) s) s

/-- One tick of the input streams' times. -/
def tickInputs (s : State) : State :=
  let s1 := (inputsInUse s).foldl (fun s b => s.onStreamRt b fun r =>
    { r with sinceStart := r.sinceStart + 1, damagedFor := r.damagedFor + 1, lostFor := if r.lost = 0 then 0 else r.lostFor + 1 }) s
  (inputsInUse s1).foldl (fun s b => lossHoldExpiry b s) s1

/-- The switch point of a destination's current frame falls in the present tick. -/
def switchNow (s : State) (d : Nat) : Bool :=
  match destPlane s d with
  | some p => (s.rate p).isSome && decide (switchTick s p (destFormat s d) (s.planeRt p).frame = s.now)
  | none => false

/-- A destination's loss fill at its switch point (R204): a restored stream returns, and a lost one's black gives way to the
generator that LOSS_FILL selects. [DEDUCED, log 55] -/
def turnFill (s : State) (d h : Nat) : State :=
  let back := streamLive s h && decide ((s.streamRt h).lost = 0)
  if (s.routeRt d).lossFill = false ∨ 0x2000 ≤ h then s
  else if back then
    let s1 := s.onRouteRt d fun r => { r with lossFill := false, lossGen := false }
    if (routesFrom s1 h).any fun x => (s1.routeRt x).lossFill then s1 else s1.onBerth h fun b => { b with filling := false }
  else s.onRouteRt d fun r => { r with lossGen := (s.fsync h).lossFill }

/-- What a switch point without a take does to a destination: a restored source returns, agreeing formats are carried again, and a
route from a berth that is to be freed is cut to the lane input (R156, R204, R214). -/
def quietSwitch (s : State) (d : Nat) : State :=
  match (s.route d).source with
  | none => s
  | some h =>
    let s2 := if d < 0x2000 then turnFill (clearMatch s d) d h else s
    if (s2.routeRt d).via ∧ (s2.berth h).freeing.isSome then
      let c := choosePath s2 d (some h) (s2.planeRt (planeOf s2 d)).latSync
      let e : Entry := { plane := planeOf s2 d, source := some h, path := c.1, offset := c.2.1, via := c.2.2 }
      (countRough d e (makeCut d e s2)).onRouteRt d fun r => { r with path := e.path, via := e.via, offset := e.offset, inStep := inStepWith s2 d e.offset }
    else s2

/-- Berths whose freeing has no destination left on the berth path (R214). -/
def freeIdle (s : State) : State :=
  ((s.wharf.berths.filter fun e => e.2.freeing.isSome).map Prod.fst).foldl (fun s b =>
    if (routesFrom s b).any fun d => (s.routeRt d).via then s else freeBerth b s) s

/-- The switch points of the tick that carry no take. -/
def quietSwitches (s : State) : State :=
  freeIdle (((s.obj.routes.map Prod.fst).filter fun d => destRange d ≠ 1 ∧ switchNow s d = true).foldl quietSwitch s)

/-! ### SET_FRAME_SYNC (R213, R214) -/

/-- SET_FRAME_SYNC (R213). -/
def setFrameSyncInfo : CmdInfo :=
  { opcode := 0x0601, content := true, length := fun _ => 16, gen := fun c s => if c.u16 0 < 8192 then some (s.fsync (c.u16 0)).gen else none }

/-- The setting a record gives. -/
def fsyncSetting (c : Cmd) (gen : Nat) : FsyncObj :=
  { enable := decide (c.u8 2 = 1), readPlane := c.u8 3, delay := c.u8 4, lossFill := decide (c.u8 5 = 1), lossGen := c.u8 6,
    lossHoldMs := if c.u32 8 = 0xFFFFFFFF then 2000 else c.u32 8, gen := gen }

/-- Destinations that take a source's berth. -/
def berthDests (s : State) (bay : Nat) : List Nat := (routesFrom s bay).filter fun d => (s.routeRt d).via

/-- A berth enabled, or changed in its delay, if its memory fits. -/
def fitBerth (bay : Nat) (o : FsyncObj) (s : State) : Option State :=
  let x := s.stream bay
  let n := berthPages s x o.delay
  let k := berthSlots s o.delay
  if berthed s bay then (if n = (s.berth bay).pages then some s else resizeBerth bay n k s) else makeBerth bay n k s

/-- Write the setting, and note a changed delay for the standby (R202). -/
def writeFsync (bay : Nat) (o : FsyncObj) (s : State) : State :=
  if o = s.fsync bay then s
  else
    let s1 := putFsync bay o s
    if o.delay ≠ (s.fsync bay).delay then s1.onTwin fun t => { t with delays := t.delays ++ [(bay, o.delay, s.now)] } else s1

/-- The effect of SET_FRAME_SYNC. -/
def setFrameSync (c : Cmd) (s : State) : Res :=
  let bay := c.u16 0
  let x := s.stream bay
  let old := s.fsync bay
  let new := fsyncSetting c old.gen
  let plane := if new.readPlane = 255 then x.plane else new.readPlane
  match firstBad [(decide (bay < 8192), 0x20), (decide (c.u8 2 ≤ 1), 0x22), (decide (c.u8 3 < 8 ∨ c.u8 3 = 255), 0x23), (decide (c.u8 4 ≤ 60), 0x24),
      (decide (c.u8 5 ≤ 1), 0x25), (decide (c.u8 6 < 16), 0x26), (decide (c.u32 8 ≤ 600000 ∨ c.u32 8 = 0xFFFFFFFF), 0x28)] with
  | some off => rej .range off s
  | none =>
    if x.st = .undef ∨ x.st = .releasing then rej .state 0xFFFF s
    else if x.form = 3 then rej .format 0x20 s
    else if (s.rate plane).isSome ∧ s.rate plane ≠ s.rate x.plane then rej .format 0x23 s
    else if (s.rate plane).isNone then rej .state 0xFFFF s
    else if !new.enable ∧ s.obj.trims.syncAll then rej .state 0xFFFF s
    else if plane ≠ readPlane s bay ∧ (berthDests s bay).isEmpty = false then rej .state 0xFFFF s
    else if new.enable then
      match fitBerth bay new s with
      | some t => ok (writeFsync bay new (keepBerth bay (byCommand c) t))
      | none => rej .capacity 0xFFFF s
    else if !berthed s bay then ok (writeFsync bay new s)
    else if (berthDests s bay).isEmpty then ok (freeBerth bay (writeFsync bay new s))
    else queued (.frameSync bay) ((writeFsync bay new (keepBerth bay (byCommand c) s)).onBerth bay fun b => { b with freeing := some s.mbox.nextJob })

/-! ### SET_WHARF_POLICY, READ_BERTHS, READ_WHARF (R215 to R217) -/

/-- SET_WHARF_POLICY (R215). -/
def setWharfPolicyInfo : CmdInfo := { opcode := 0x0604, content := true, length := fun _ => 8, gen := fun _ s => some s.obj.wharfPol.gen }

/-- The effect of SET_WHARF_POLICY. [DEDUCED, log 14] -/
def setWharfPolicy (c : Cmd) (s : State) : Res :=
  let h := if c.u16 0 = 0 then 24 else c.u16 0
  match firstBad [(decide (12 ≤ h ∧ h ≤ 168), 0x20), (decide (c.u8 2 ≤ 1), 0x22)] with
  | some off => rej .range off s
  | none =>
    let old := s.obj.wharfPol
    let new : WharfPolObj := { scrubHours := h, hardRepair := decide (c.u8 2 = 1), gen := old.gen }
    if new = old then ok s else ok ((s.onObj fun o => { o with wharfPol := { new with gen := genNext old.gen } }).touch 0x06 0x10000)

/-- READ_BERTHS (R216). -/
def readBerthsInfo : CmdInfo := { opcode := 0x0602, readOnly := true, length := fun _ => 8 }

/-- One record of READ_BERTHS. -/
def berthRecord (s : State) (bay : Nat) : List Byte :=
  let b := s.berth bay
  let r := s.streamRt bay
  recordBytes 32 [(0, 2, bay), (2, 1, bit (b.die ≠ bayDie bay) + 2 * bit (r.lost ≠ 0) + 4 * bit b.filling + 8 * bit b.paired), (3, 1, b.slots), (4, 1, readPlane s bay),
    (5, 1, r.lossCause), (8, 4, b.lagUs), (0x0C, 4, b.repeats), (0x10, 4, b.drops), (0x14, 4, b.concealed), (0x18, 2, b.black), (0x1A, 2, b.ancOverflow), (0x1C, 4, r.losses)]

/-- The effect of READ_BERTHS. -/
def readBerths (c : Cmd) (s : State) : Res :=
  let h := c.u16 0
  let n := c.u16 2
  if n = 0 ∨ 512 < n then rej .range 0x22 s
  else
    let found := (s.wharf.berths.map Prod.fst).filter fun b => berthed s b ∧ h ≤ b ∧ b < h + n
    reply c 4 (32 * n) found.length (found.flatMap (berthRecord s)) s

/-- READ_WHARF (R217). -/
def readWharfInfo : CmdInfo := { opcode := 0x0603, readOnly := true, length := fun _ => 8 }

/-- A stack. -/
def State.stack (s : State) (k : Nat) : StackRt := tget {} s.wharf.hbm k

/-- Change a stack. -/
def State.onStack (s : State) (k : Nat) (f : StackRt → StackRt) : State := s.onWharf fun w => { w with hbm := tmod {} w.hbm k f }

/-- 256-byte units of a stack that a pass reads (R208). -/
def scrubUnits : Nat := 93750000

/-- The reply of READ_WHARF. -/
def wharfBytes (s : State) : List Byte :=
  let dies := (List.range 2).flatMap fun k =>
    let b := k * 0x20
    let on := s.wharf.berths.filter fun e => decide (e.2.die = k) && decide (e.2.pages ≠ 0)
    [(b, 4, berthFree s k), (b + 4, 4, ((on.filter fun e => bayDie e.1 ≠ k).map fun e => e.2.pages).sum), (b + 8, 4, pyramidFree s k),
     (b + 0x0C, 4, (s.wharf.longChans.filter fun ch => audioDie ch = k).length * longDelayPages), (b + 0x10, 4, marginPages k - tget 0 s.wharf.marginLost k),
     (b + 0x14, 4, on.length), (b + 0x18, 4, (s.wharf.pyramids.filter fun e => e.2.die = k).length)]
  let hbm := (List.range 4).flatMap fun k =>
    let b := 0x40 + k * 0x20
    let x := s.stack k
    [(b, 4, x.corrected), (b + 4, 4, x.uncorrected), (b + 8, 2, x.softRows), (b + 0x0A, 2, x.hardRows), (b + 0x0C, 2, 1536 - x.used), (b + 0x0E, 1, x.activePcs),
     (b + 0x0F, 1, bit x.spareUsed), (b + 0x10, 4, min 1000 (x.unit * 1000 / scrubUnits)), (b + 0x14, 4, x.passes)]
  recordBytes 192 (dies ++ hbm)

/-- The effect of READ_WHARF. -/
def readWharf (c : Cmd) (s : State) : Res := reply c 0 192 0 (wharfBytes s) s

/-! ### Scrubbing and repair (R208 to R212) -/

/-- Pseudo-channel of a row word (R218). -/
def rowPc (row : Nat) : Nat := row % 32

/-- Pseudo-channel and bank of a row word. -/
def rowBank (row : Nat) : Nat := row % 2048

/-- The pseudo-channel in which a 256-byte unit of a stack stands (R189): unit u goes to active pseudo-channel u mod 31, the spare (31)
serving in the place of the one it replaced. [DEDUCED, log 124] -/
def pcOfUnit (x : StackRt) (u : Nat) : Nat :=
  let a := u % max 1 x.activePcs
  if x.spared = some a then 31 else a

/-- The pseudo-channel of the unit that the scrubber reads next (R208): the addressed units first, then those of the pseudo-channel
that is out of use. [DEDUCED, log 124] -/
def scrubPc (x : StackRt) : Nat := if x.unit < scrubUnits - scrubUnits / 32 then pcOfUnit x x.unit else x.spared.getD 31

/-- Ticks that a pass lasts: SCRUB_HOURS, doubled under ECO (R208). -/
def passTicks (s : State) (k : Nat) : Nat := (s.stack k).hours * 3600 * 48000 * (if s.obj.trims.eco then 2 else 1)

/-- The scrubber's next read falls due, its pass being spread evenly over the period; a chip that sheds background work reads none (R414). [DEDUCED, log 124] -/
def scrubDue (s : State) (k : Nat) : Bool :=
  let x := s.stack k
  !s.shedding && decide (x.unit < scrubUnits) && decide (passTicks s k * x.unit ≤ (s.elapsed - x.passStart) * scrubUnits)

/-- A pseudo-channel is to be spared (R211): copied to the spare, or left in service where that is used. [DEDUCED, log 56] -/
def sparePc (k pc : Nat) (s : State) : State :=
  let x := s.stack k
  if x.spared = some pc ∨ x.copying = some pc ∨ x.unspared.contains pc then s
  else if x.spareUsed ∨ x.copying.isSome then s.onStack k fun x => { x with unspared := setAdd x.unspared pc }
  else s.onStack k fun x => { x with copying := some pc }

/-- A row needs repair (R210, R211); while another is under repair it waits. [DEDUCED, log 56] -/
def repairRow (k row : Nat) (s : State) : State :=
  let x := s.stack k
  if x.repaired.contains row ∨ x.repairing = some row ∨ x.toRepair.contains row then s
  else if x.repaired.any fun r => rowBank r = rowBank row then sparePc k (rowPc row) s
  else if x.repairing.isSome then s.onStack k fun x => { x with toRepair := x.toRepair ++ [row] }
  else s.onStack k fun x => { x with repairing := some row }

/-- A corrected error of a row (R208, R210): the word is written back unless traffic has overtaken it, and the row is repaired once two
passes have found one. -/
def scrubCorrected (k row : Nat) (overtaken : Bool) (s : State) : State :=
  let x := s.stack k
  let again := x.badRows.any fun r => decide (r % 2 ^ 32 = row ∧ r / 2 ^ 32 ≠ x.passes)
  let s1 := s.onStack k fun x => { x with corrected := inc x.corrected, passCorrected := inc x.passCorrected, badRows := setAdd x.badRows (row + 2 ^ 32 * x.passes),
                                          writeBacks := if overtaken then x.writeBacks else inc x.writeBacks, cancelled := if overtaken then inc x.cancelled else x.cancelled }
  let s2 := report { code := 0x0201, west := decide (2 ≤ k), subject := k, detail := row } s1
  if again then repairRow k row s2 else s2

/-- The region that holds a word, as WHARF_UNCORRECTABLE names it (R218). -/
def WordOwner.region : WordOwner → Option Nat
  | .unused => none
  | .berth _ _ _ => some 0
  | .pyramid _ _ _ _ _ => some 1
  | .audioDelay _ _ => some 2
  | .hdm _ => some 3

/-- The line of the frame in a slot is damaged (R201, R209). -/
def damageLine (slot line : Nat) (f : InFrame) : InFrame :=
  if f.slot = slot ∧ f.data.damaged.contains line = false then { f with damagedLines := f.damagedLines + 1, data := { f.data with damaged := f.data.damaged ++ [line] } } else f

/-- An uncorrectable word is contained in the region that holds it (R209). -/
def containWord (o : WordOwner) (s : State) : State :=
  match o with
  | .unused => s
  | .hdm word => s.onHost fun h => { h with poison := setAdd h.poison word }
  | .berth bay slot line => if berthed s bay then s.onBerth bay fun b => { b with frames := b.frames.map (damageLine slot line) } else s
  | .pyramid source slot level x y =>
    if hasPyramid s source then s.onWharf fun w => { w with pyramids := tmod {} w.pyramids source fun p =>
      { p with frames := p.frames.mapIdx fun i f => if i = slot then { f with blackened := f.blackened ++ [(level, x, y)] } else f } } else s
  | .audioDelay channel place => s.onDstChan channel fun d => { d with line := d.line.set place 0, zeroed := inc d.zeroed }

/-- The uncorrectable errors of the last hour in a failing pseudo-channel left in service (R211). -/
def unsparedErrors (s : State) (k pc : Nat) : List (Nat × Nat) := (s.stack k).errTimes.filter fun e => e.1 = pc ∧ s.elapsed < e.2 + 172800000

/-- An uncorrectable error (R209 to R211). [DEDUCED, log 56] -/
def scrubUncorrectable (k row : Nat) (owner : WordOwner) (s : State) : State :=
  let x := s.stack k
  let s1 := s.onStack k fun x => { x with uncorrected := inc x.uncorrected }
  let s2 := containWord owner s1
  let s3 := match owner.region with
    | some g => raise 0x0687 3 k g (s2.onWharf fun w => { w with regions := tmod 0 w.regions (k * 4 + g) inc })
    | none => s2
  let s4 := report { code := 0x0202, west := decide (2 ≤ k), subject := k, detail := row } s3
  if x.unspared.contains (rowPc row) then
    let s5 := s4.onStack k fun x => { x with errTimes := x.errTimes.filter (fun e => s.elapsed < e.2 + 172800000) ++ [(rowPc row, s.elapsed)] }
    if 16 ≤ (unsparedErrors s5 k (rowPc row)).length then report { code := 0x0203, west := decide (2 ≤ k), subject := k, detail := row } s5 else s5
  else if x.repaired.contains row then sparePc k (rowPc row) s4
  else repairRow k row s4

/-- The row of a finding, its pseudo-channel being that of the unit read (R189). -/
def foundRow (x : StackRt) (row : Nat) : Nat := row / 32 * 32 + scrubPc x

/-- The scrubber reads the next unit when it is due (R208).  The code corrects what stands in one symbol and detects the rest (R190).
[DEDUCED, log 124] [DEDUCED, log 124] -/
def scrubRead (k : Nat) (found : ScrubFound) (s : State) : State :=
  if scrubDue s k = false then s
  else
    let s1 := s.onStack k fun x => { x with unit := x.unit + 1 }
    match found with
    | .clean => s1
    | .errors symbols row owner overtaken =>
      let r := foundRow (s.stack k) row
      if symbols = 0 then s1 else if symbols = 1 then scrubCorrected k r overtaken s1 else scrubUncorrectable k r owner s1

/-- A pass ends once every unit has been read (R208); the period of R215 applies from the next. -/
def scrubPass (k : Nat) (s : State) : State :=
  let x := s.stack k
  if x.unit < scrubUnits then s
  else raise 0x0688 0 k x.passCorrected (s.onStack k fun x =>
    { x with unit := 0, passes := inc x.passes, passCorrected := 0, passStart := s.elapsed, hours := s.obj.wharfPol.scrubHours })

/-- A soft repair ends (R210). -/
def softRepaired (k : Nat) (s : State) : State :=
  match (s.stack k).repairing with
  | none => s
  | some row =>
    let s1 := s.onStack k fun x => { x with repairing := none, repaired := setAdd x.repaired row, softRows := satAdd 16 x.softRows 1, used := min 1536 (x.used + 1), toRepair := [] }
    let s2 := (s1.onObj fun o => { o with repairRows := o.repairRows ++ [(k, row)] }).touch 0x06 (0x20000 + k)
    let s3 := raise 0x0684 1 k row s2
    let x := s3.stack k
    let s4 := if 1152 ≤ x.used ∧ x.budgetLow = false then raise 0x0686 2 k (1536 - x.used) (s3.onStack k fun x => { x with budgetLow := true }) else s3
    let s5 := if 64 ≤ (x.repaired.filter fun r => rowPc r = rowPc row).length then sparePc k (rowPc row) s4 else s4
    (s.stack k).toRepair.foldl (fun s r => repairRow k r s) s5

/-- The copy to the spare ends (R211). -/
def spareCopied (k : Nat) (s : State) : State :=
  match (s.stack k).copying with
  | none => s
  | some pc => raise 0x0685 2 k pc (s.onStack k fun x => { x with copying := none, spareUsed := true, spared := some pc })

/-! ### The meanings -/

/-- SET_FRAME_SYNC. -/
def execSetFrameSync (c : Cmd) (s : State) : Answer := answer (runCmd setFrameSyncInfo setFrameSync c s)

/-- READ_BERTHS. -/
def execReadBerths (c : Cmd) (s : State) : Answer := answer (runCmd readBerthsInfo readBerths c s)

/-- READ_WHARF. -/
def execReadWharf (c : Cmd) (s : State) : Answer := answer (runCmd readWharfInfo readWharf c s)

/-- SET_WHARF_POLICY. -/
def execSetWharfPolicy (c : Cmd) (s : State) : Answer := answer (runCmd setWharfPolicyInfo setWharfPolicy c s)

/-- LOSS_HOLD_EXPIRY (R204). -/
def execLossHoldExpiry (bay : Nat) (s : State) : Answer := answer (lossHoldExpiry bay s)

/-- PATROL_SCRUB_READ (R208). -/
def execPatrolScrubRead (stack : Nat) (found : ScrubFound) (s : State) : Answer := answer (scrubRead stack found s)

/-- SCRUB_PASS_COMPLETE (R208). -/
def execScrubPassComplete (stack : Nat) (s : State) : Answer := answer (scrubPass stack s)

/-- SOFT_REPAIR_COMPLETE (R210). -/
def execSoftRepairComplete (stack : Nat) (s : State) : Answer := answer (softRepaired stack s)

/-- SPARE_COPY_COMPLETE (R211). -/
def execSpareCopyComplete (stack : Nat) (s : State) : Answer := answer (spareCopied stack s)

/-- PRIMING_COMPLETE (R258). -/
def execPrimingComplete (bay : Nat) (s : State) : Answer := answer (completePriming s bay)

/-- SLIP_DECISION (R260). -/
def execSlipDecision (s : State) : Answer := answer (slipDecisions s)

/-- SLIP_EFFECT (R261). -/
def execSlipEffect (bay : Nat) (s : State) : Answer := answer (slipEffect bay s)

end Sys2Proof.Machine
end

