-- ==== Sys2Proof/Machine/AudioCmds.lean ====
section
/-! DEFINITION.  The commands of audio shuffling (spec/09_audio.md, R277 to R281). -/

namespace Sys2Proof.Machine
open Sys2Proof

/-! ### What a range of destination channels may be -/

/-- The DEFINED or LIVE stream, of a direction, that a range of channels lies within. -/
def rangeStream (s : State) (dir ch n : Nat) : Option (Nat × StreamObj) :=
  s.obj.streams.find? fun e => keyDir e.1 = dir ∧ (e.2.st = .defined ∨ e.2.st = .live) ∧ e.2.audioFirst ≤ ch ∧ ch + n ≤ e.2.audioFirst + e.2.audioCount

/-- Every channel of the range is an audio destination channel (R37). -/
def destChannels (ch n : Nat) : Bool := decide (0x2000 ≤ ch) && decide (ch + n ≤ 0xE000)

/-- The generation of one destination channel's setting; a range has none. -/
def chanGen (count : Nat) (c : Cmd) (s : State) : Option Nat :=
  if count = 1 ∧ destChannels (c.u16 0) 1 then some (s.chanObj (c.u16 0)).gen else none

/-- Position of a channel in the stream that holds it. -/
def posIn (x : StreamObj) (ch : Nat) : Nat := ch - x.audioFirst

/-- The range begins with the odd channel of a linked pair, without its even one. [DEDUCED, log 68] -/
def cutsPair (s : State) (x : StreamObj) (ch : Nat) : Bool := (s.chanObj ch).linked && decide (posIn x ch % 2 = 1)

/-- The channels that a setting of one channel of a range falls on: both of a linked pair through its even one (R253). -/
def settled (s : State) (x : StreamObj) (ch : Nat) : List Nat :=
  if (s.chanObj ch).linked then (if posIn x ch % 2 = 0 then [ch, ch + 1] else []) else [ch]

/-- Change one channel's setting, if it changes. -/
def changeChan (f : ChanObj → ChanObj) (s : State) (ch : Nat) : State :=
  let o := s.chanObj ch
  if f o = o then s else putChan ch (f o) s

/-- Change the settings of a range of channels. -/
def changeChans (x : StreamObj) (ch n : Nat) (f : ChanObj → ChanObj) (s : State) : State :=
  ((span ch n).flatMap (settled s x)).foldl (changeChan f) s

/-- The checks that every command on a range of destination channels makes, its own range checks between, then its effect. [DEDUCED, log 18] -/
def onRange (c : Cmd) (n : Nat) (own : List (Bool × Nat)) (s : State) (body : StreamObj → Res) : Res :=
  let ch := c.u16 0
  match firstBad ([(destChannels ch n, 0x20), (decide (1 ≤ n ∧ n ≤ 64), 0x22), (!c.checkGen || decide (n = 1), 0x22)] ++ own) with
  | some off => rej .range off s
  | none => match rangeStream s 1 ch n with
    | none => rej .state 0x20 s
    | some (_, x) => if cutsPair s x ch then rej .state 0x20 s else body x

/-- GAIN_DB stands in the range of R267. -/
def gainOk (db : Int) : Bool := decide (db = -2147483648) || (decide (-7864320 ≤ db) && decide (db ≤ 1572864))

/-! ### SET_CHANNEL_GAIN (R277) -/

/-- SET_CHANNEL_GAIN (R277). -/
def setChannelGainInfo : CmdInfo := { opcode := 0x0901, content := true, length := fun _ => 16, gen := fun c s => chanGen (c.u8 2) c s }

/-- The effect of SET_CHANNEL_GAIN. [DEDUCED, log 68] -/
def setChannelGain (c : Cmd) (s : State) : Res :=
  let db := c.i32 4
  let inf := decide (db = -2147483648)
  onRange c (c.u8 2) [(gainOk db, 0x24)] s fun x =>
    ok (changeChans x (c.u16 0) (c.u8 2) (fun o => { o with gainDb := if inf then 0 else db, minusInf := inf, invert := bitOf (c.u8 3) 0 }) s)

/-! ### SET_CHANNEL_DELAY (R278) -/

/-- SET_CHANNEL_DELAY (R278). -/
def setChannelDelayInfo : CmdInfo := { opcode := 0x0902, content := true, length := fun _ => 8, gen := fun c s => chanGen (c.u8 2) c s }

/-- Channels of a list that do not hold long-delay memory yet. -/
def newLong (s : State) (chs : List Nat) : List Nat := chs.filter fun ch => !s.wharf.longChans.contains ch

/-- Long-delay memory fits for the channels of a list that have none (R207, R278). -/
def longFits (s : State) (chs : List Nat) : Bool :=
  let new := newLong s chs
  decide (s.wharf.longChans.length + new.length ≤ 8192) &&
    (List.range 2).all fun die => decide ((new.filter fun ch => audioDie ch = die).length * longDelayPages ≤ berthFree s die)

/-- The effect of SET_CHANNEL_DELAY. -/
def setChannelDelay (c : Cmd) (s : State) : Res :=
  let t := c.u32 4
  onRange c (c.u8 2) [(decide (t ≤ 96000), 0x24)] s fun x =>
    let chs := (span (c.u16 0) (c.u8 2)).flatMap (settled s x)
    if 12000 < t ∧ longFits s chs = false then rej .capacity 0x24 s
    else
      let s1 := s.onWharf fun w => { w with longChans := if 12000 < t then chs.foldl setAdd w.longChans else chs.foldl setDel w.longChans }
      ok (changeChans x (c.u16 0) (c.u8 2) (fun o => { o with delay := t }) s1)

/-! ### SET_MIX (R279) -/

/-- SET_MIX (R279). -/
def setMixInfo : CmdInfo := { opcode := 0x0903, content := true, length := fun _ => 16, gen := fun c s => chanGen 1 c s }

/-- Put a mix entry into its place. -/
def withMix (entry : Nat) (m : Option MixEnt) (o : ChanObj) : ChanObj :=
  if entry = 1 then { o with mix1 := m } else if entry = 2 then { o with mix2 := m } else { o with mix3 := m }

/-- The effect of SET_MIX: the source is judged as a TAKE's, by checks 3, 4 and 6 of R166. [DEDUCED, log 68] -/
def setMix (c : Cmd) (s : State) : Res :=
  let ch := c.u16 0
  let on := bitOf (c.u8 3) 0
  let src := c.u16 4
  onRange c 1 [(decide (1 ≤ c.u8 2 ∧ c.u8 2 ≤ 3), 0x22), (!on || sourceKindOk ch src, 0x24), (gainOk (c.i32 8), 0x28)] s fun x =>
    let m : MixEnt := { source := src, invert := bitOf (c.u8 3) 1, gainDb := c.i32 8 }
    if on ∧ sourceLive s ch src = false then rej .state 0x24 s
    else if on ∧ linkRule s ch src = false then rej .format 0x24 s
    else ok (changeChans x ch 1 (withMix (c.u8 2) (if on then some m else none)) s)

/-! ### SET_CHANNEL_OPTIONS (R280) -/

/-- The command names destination channels: an output stream holds its first channel.  A number that both kinds share is
taken as the destination's (log entry 20). -/
def optionsDest (c : Cmd) (s : State) : Bool :=
  destChannels (c.u16 0) 1 && (decide (c.u16 0 < 0x4000) || (rangeStream s 1 (c.u16 0) 1).isSome || (rangeStream s 0 (c.u16 0) 1).isNone)

/-- The object of SET_CHANNEL_OPTIONS: the destination channel's setting, or the source channel's link setting. -/
def optionsGen (c : Cmd) (s : State) : Option Nat :=
  if c.u8 2 = 1 ∧ 0x2000 ≤ c.u16 0 then some (if optionsDest c s then (s.chanObj (c.u16 0)).gen else (tget {} s.obj.srcLinks (c.u16 0) : SrcLinkObj).gen)
  else none

/-- SET_CHANNEL_OPTIONS (R280). -/
def setChannelOptionsInfo : CmdInfo := { opcode := 0x0904, content := true, length := fun _ => 8, gen := optionsGen }

/-- A mix entry names a source channel. -/
def mixNames (h : Nat) (o : ChanObj) : Bool := [o.mix1, o.mix2, o.mix3].any fun m => match m with
  | some e => decide (e.source = h)
  | none => false

/-- The destination channel has a route, a mix entry or a queued take. -/
def destInUse (s : State) (ch : Nat) : Bool :=
  let o := s.chanObj ch
  (s.route ch).source.isSome || o.mix1.isSome || o.mix2.isSome || o.mix3.isSome || !(s.routeRt ch).queue.isEmpty

/-- A route, a mix entry or a queued take of a destination channel names the source channel. -/
def srcInUse (s : State) (h : Nat) : Bool :=
  (s.obj.routes.any fun e => decide (destRange e.1 = 1) && decide (e.2.source = some h)) || (s.obj.chans.any fun e => mixNames h e.2) ||
    s.basin.routes.any fun e => decide (destRange e.1 = 1) && e.2.queue.any fun q => decide (q.source = some h)

/-- Link or unlink source channels. [DEDUCED, log 68] -/
def linkSources (link : Bool) (s : State) (ch : Nat) : State :=
  let o : SrcLinkObj := tget {} s.obj.srcLinks ch
  if o.linked = link then s
  else (s.onObj fun x => { x with srcLinks := tset {} x.srcLinks ch { linked := link, gen := genNext o.gen } }).touch 0x09 (0x10000 + ch)

/-- The channel setting that the flags of SET_CHANNEL_OPTIONS give. -/
def optionSetting (c : Cmd) (o : ChanObj) : ChanObj :=
  let f := c.u8 3
  { o with brokenAway := if bitOf f 0 then !bitOf f 1 else o.brokenAway, linked := if bitOf f 2 then bitOf f 3 else o.linked,
           xfade := if bitOf f 4 then c.u16 4 else o.xfade }

/-- SET_CHANNEL_OPTIONS on destination channels. -/
def destOptions (c : Cmd) (s : State) : Res :=
  let ch := c.u16 0
  let n := c.u8 2
  let f := c.u8 3
  let link := bitOf f 2
  onRange c n [(!bitOf f 4 || decide (c.u16 4 ≤ 192), 0x24)] s fun x =>
    if link ∧ (posIn x ch % 2 = 1 ∨ n % 2 = 1) then rej .range 0x20 s
    else if link ∧ (span ch n).any (fun d => (s.chanObj d).linked ≠ bitOf f 3 ∧ destInUse s d = true) then rej .state 0x20 s
    else ok (changeChans x ch n (optionSetting c) s)

/-- SET_CHANNEL_OPTIONS on source channels. -/
def srcOptions (c : Cmd) (s : State) : Res :=
  let ch := c.u16 0
  let n := c.u8 2
  let f := c.u8 3
  match firstBad [(decide (0x4000 ≤ ch ∧ ch + n ≤ 0x10000), 0x20), (decide (1 ≤ n ∧ n ≤ 64), 0x22), (!c.checkGen || decide (n = 1), 0x22),
      (!bitOf f 0 && !bitOf f 4, 0x23)] with
  | some off => rej .range off s
  | none => match rangeStream s 0 ch n with
    | none => rej .state 0x20 s
    | some (_, x) =>
      if bitOf f 2 = false then ok s
      else if posIn x ch % 2 = 1 ∨ n % 2 = 1 then rej .range 0x20 s
      else if (span ch n).any (fun h => (tget {} s.obj.srcLinks h : SrcLinkObj).linked ≠ bitOf f 3 ∧ srcInUse s h = true) then rej .state 0x20 s
      else ok ((span ch n).foldl (linkSources (bitOf f 3)) s)

/-- The effect of SET_CHANNEL_OPTIONS. [DEDUCED, log 20] -/
def setChannelOptions (c : Cmd) (s : State) : Res := if optionsDest c s then destOptions c s else srcOptions c s

/-! ### READ_AUDIO_SOURCES (R281) -/

/-- READ_AUDIO_SOURCES (R281). -/
def readAudioSourcesInfo : CmdInfo := { opcode := 0x0906, readOnly := true, length := fun _ => 8 }

/-- One record of READ_AUDIO_SOURCES. -/
def audioRecord (s : State) (bay : Nat) : List Byte :=
  let a := s.aud bay
  recordBytes 32 [(0, 2, bay), (2, 1, bit a.primed + 2 * bit a.sync + 4 * bit a.slip.isSome + 8 * bit (berthed s bay) + 16 * bit ((s.streamRt bay).lost ≠ 0)),
    (4, 2, a.fillMin), (6, 2, a.fillMax), (8, 4, a.drops), (0x0C, 4, a.repeats), (0x10, 4, a.resets), (0x14, 4, a.missing), (0x18, 8, a.lastSlip)]

/-- The effect of READ_AUDIO_SOURCES. -/
def readAudioSources (c : Cmd) (s : State) : Res :=
  let h := c.u16 0
  let n := c.u16 2
  if n = 0 ∨ 512 < n then rej .range 0x22 s
  else
    let found := (liveInputs s).filter fun b => h ≤ b ∧ b < h + n ∧ (s.stream b).audioCount ≠ 0
    reply c 4 (32 * n) found.length (found.flatMap (audioRecord s)) s

/-! ### The Chart record of a destination channel (R282) -/

/-- 0.01 dB values are compared exactly: v over `full` reaches 10^(k/2000). -/
def levelReaches (v full : Nat) (k : Int) : Bool :=
  if 0 ≤ k then decide (full ^ 2000 * 10 ^ k.natAbs ≤ v ^ 2000) else decide (full ^ 2000 ≤ v ^ 2000 * 10 ^ k.natAbs)

/-- The largest value of a range that the level reaches, by halving. [DEDUCED, log 63] -/
def levelSearch (v full : Nat) : Nat → Int → Int
  | 0, k => k
  | n + 1, k => if levelReaches v full (k + 2 ^ n) then levelSearch v full n (k + 2 ^ n) else levelSearch v full n k

/-- A sample magnitude in 0.01 dBFS, rounded to the nearest; −12,000 for digital silence. -/
def dbfs (v : Nat) : Int := if v = 0 then -12000 else
  let k := levelSearch v 8388608 15 (-32768)
  if decide ((8388608 ^ 4000 * (if 0 ≤ 2 * k + 1 then 10 ^ (2 * k + 1).natAbs else 1)) ≤ v ^ 4000 * (if 0 ≤ 2 * k + 1 then 1 else 10 ^ (2 * k + 1).natAbs)) then k + 1 else k

/-- The flags of a destination channel record. -/
def channelFlags (s : State) (ch : Nat) : Nat :=
  let d := s.dstChan ch
  let o := inForce s (leadOf s ch)
  1 + 2 * bit (!o.brokenAway) + 4 * bit o.linked + 8 * bit d.transparent + 16 * bit d.muted + 32 * bit (!(pruneFades s.now d.fades).isEmpty || !(pruneTaps s.now d.tapFades).isEmpty) +
    64 * bit d.lossFade + 128 * bit (s.wharf.longChans.contains ch)

/-- Publish a destination channel's record; its peak starts afresh. -/
def publishChannel (s : State) (ch : Nat) : State :=
  let d := s.dstChan ch
  let b := recordBytes 16 [(4, 2, channelFlags s ch), (6, 2, ofInt 16 (dbfs d.peak)), (8, 4, d.mutes), (0x0C, 4, d.saturations)]
  (s.chartWrite (destChanAddr ch) b).onDstChan ch fun d => { d with peak := 0 }

/-! ### The meanings -/

/-- SET_CHANNEL_GAIN. -/
def execSetChannelGain (c : Cmd) (s : State) : Answer := answer (runCmd setChannelGainInfo setChannelGain c s)

/-- SET_CHANNEL_DELAY. -/
def execSetChannelDelay (c : Cmd) (s : State) : Answer := answer (runCmd setChannelDelayInfo setChannelDelay c s)

/-- SET_MIX. -/
def execSetMix (c : Cmd) (s : State) : Answer := answer (runCmd setMixInfo setMix c s)

/-- SET_CHANNEL_OPTIONS. -/
def execSetChannelOptions (c : Cmd) (s : State) : Answer := answer (runCmd setChannelOptionsInfo setChannelOptions c s)

/-- READ_AUDIO_SOURCES. -/
def execReadAudioSources (c : Cmd) (s : State) : Answer := answer (runCmd readAudioSourcesInfo readAudioSources c s)

end Sys2Proof.Machine
end

