-- ==== Sys2Proof/Machine/Essence.lean ====
section
/-! DEFINITION.  The essence container: units, their payloads, the frame built from them and the parse of a received one
(spec/08_bridging_and_measurement.md, R219 to R223, R230, R231). -/

namespace Sys2Proof.Machine
open Sys2Proof

/-! ### Bits and samples (R221) -/

/-- The bits of a number, the highest of `n` first. -/
def bitsHigh (n v : Nat) : List Bool := (List.range n).map fun i => bitOf v (n - 1 - i)

/-- The number of bits, the first highest. -/
def highBits (bs : List Bool) : Nat := bs.foldl (fun a b => 2 * a + bit b) 0

/-- Bits cut into groups of `n`, as numbers, the first bit of a group highest. -/
def highGroups (n : Nat) : Nat → List Bool → List Nat
  | 0, _ => []
  | k + 1, bs => highBits (bs.take n) :: highGroups n k (bs.drop n)

/-- Bits of a sample of a format. -/
def fmtBits (f : Nat) : Nat := if fmtDepth f = 0 then 10 else 12

/-- Samples of one active line (R221): two a pixel for 4:2:2, three or four otherwise. -/
def lineSamples (f : Nat) : Nat := fmtW f * (if fmtSampling f = 0 then 2 else if fmtSampling f = 3 then 4 else 3)

/-- A picture line's payload: samples in their pixel-group order, packed from the high bit down. [PRESUMED, log 112] -/
def packLine (f : Nat) (samples : List Nat) : List Byte :=
  let bs := samples.flatMap (bitsHigh (fmtBits f))
  (highGroups 8 ((bs.length + 7) / 8) bs).map (BitVec.ofNat 8)

/-- The samples of a picture line's payload. -/
def unpackLine (f : Nat) (bytes : List Byte) : List Nat := highGroups (fmtBits f) (lineSamples f) (bytes.flatMap fun b => bitsHigh 8 b.toNat)

/-! ### Units (R219) -/

/-- One unit: its header, its payload, and zero bytes up to a multiple of 4. -/
def essUnit (ty index : Nat) (payload : List Byte) : List Byte :=
  toLe 2 (ty + 16 * (index % 4096)) ++ toLe 2 payload.length ++ payload ++ List.replicate ((4 - payload.length % 4) % 4) 0#8

/-- The frame header unit (R221). -/
def headerUnit (format audioCount : Nat) (damaged : Bool) (pid seq samples : Nat) : List Byte :=
  essUnit 1 0 (recordBytes 32 [(0, 2, format), (2, 1, audioCount), (3, 1, bit damaged), (4, 4, pid), (8, 4, seq), (0x0C, 2, samples)])

/-- A picture line unit. -/
def lineUnit (format index : Nat) (samples : List Nat) : List Byte := essUnit 2 index (packLine format samples)

/-- An ANC unit (R221). -/
def ancUnit (k : AncPkt) : List Byte :=
  essUnit 3 k.line (toLe 2 (bit k.chroma + 2 * bit k.hanc) ++ toLe 2 k.pos ++ k.words.flatMap (toLe 2))

/-- An audio unit: sample rows from sample number `first` on. -/
def audioUnit (first : Nat) (rows : List (List Nat)) : List Byte := essUnit 4 first (rows.flatMap fun r => r.flatMap (toLe 4))

/-- The end unit of a frame whose bytes before it are given. -/
def endUnit (bytes : List Byte) : List Byte := essUnit 15 0 (toLe 4 (crc32 bytes))

/-- Audio rows in blocks of 48, the last shorter (R231). -/
def audioBlocks : Nat → Nat → List (List Nat) → List (Nat × List (List Nat))
  | 0, _, _ => []
  | k + 1, first, rows => if rows = [] then [] else (first, rows.take 48) :: audioBlocks k (first + 48) (rows.drop 48)

/-- Words of a list of bytes, `n` bytes each. -/
def wordsOf (n : Nat) : Nat → List Byte → List Nat
  | 0, _ => []
  | k + 1, bs => leNat (bs.take n) :: wordsOf n k (bs.drop n)

/-- Rows of `c` words. -/
def rowsOf (c : Nat) : Nat → List Nat → List (List Nat)
  | 0, _ => []
  | k + 1, ws => ws.take c :: rowsOf c k (ws.drop c)

/-- The ANC packet of a unit. -/
def ancOf (index : Nat) (p : List Byte) : AncPkt :=
  { line := index, chroma := bitOf (leNat (p.take 1)) 0, hanc := bitOf (leNat (p.take 1)) 1, pos := leNat ((p.drop 2).take 2),
    words := (wordsOf 2 ((p.length - 4) / 2) (p.drop 4)).map (· % 1024) }

/-! ### The parse of a received frame (R220) -/

/-- What one unit gave. -/
inductive EssGot where
  | header
  | line (index : Nat) (samples : List Nat)
  | lostLine (index : Nat)
  | anc (k : AncPkt)
  | audio (rows : List (List Nat))
  | ended
  | skipped
  deriving DecidableEq, Repr

/-- Known bytes, none where one is lost. -/
def allKnown : List (Option Nat) → Option (List Byte)
  | [] => some []
  | some b :: r => (allKnown r).map (BitVec.ofNat 8 b :: ·)
  | none :: _ => none

/-- Rows of missing samples. -/
def missingRows (n channels : Nat) : List (List Nat) := List.replicate n (List.replicate channels (2 ^ 32))

/-- A field of the frame's header unit, 0 where the header is lost. -/
def InRt.header (r : InRt) (off n : Nat) : Nat := match allKnown ((r.bytes.drop (4 + off)).take n) with
  | some b => leNat b
  | none => 0

/-- A bad unit ends the frame's parse (R220); the rest is damaged lines. -/
def InRt.spoilt (r : InRt) (counted : Bool) : InRt := { r with phase := 2, units := [], data := { r.data with errors := r.data.errors + bit counted } }

/-- The picture line that must come next at the earliest. -/
def InRt.nextLine (r : InRt) : Nat := ((r.lines.map Prod.fst ++ r.data.damaged).map (· + 1)).foldl max 0

/-- A picture line unit: taken where its length is the format's, damaged otherwise. -/
def InRt.takeLine (r : InRt) (f index len : Nat) (p : Option (List Byte)) : EssGot × InRt :=
  let r1 := { r with width := len, active := r.active + 1 }
  match p with
  | some b =>
    if len * 8 = lineSamples f * fmtBits f then (.line index (unpackLine f b), { r1 with lines := r1.lines ++ [(index, unpackLine f b)] })
    else (.lostLine index, { r1 with data := { r1.data with damaged := r1.data.damaged ++ [index] } })
  | none => (.lostLine index, { r1 with data := { r1.data with damaged := r1.data.damaged ++ [index] } })

/-- An audio unit: the samples that did not come before it are missing (R257). [DEDUCED, log 113] -/
def InRt.takeAudio (r : InRt) (index n : Nat) (p : Option (List Byte)) : EssGot × InRt :=
  let c := r.channels
  let rows := missingRows (index - r.samples) c ++ (match p with
    | some b => rowsOf c n (wordsOf 4 (n * c) b)
    | none => missingRows n c)
  (.audio rows, { r with samples := r.samples + rows.length, data := { r.data with audio := r.data.audio ++ rows } })

/-- A whole unit that is in order and of a proper size (R219 to R221); `p` is its payload, none where some of it is lost. -/
def InRt.takeUnit (r : InRt) (f ty index len : Nat) (p : Option (List Byte)) : Option (EssGot × InRt) :=
  if ty = 1 then (if r.phase = 0 ∧ len = 32 then some (.header, { r with phase := 1 }) else none)
  else if r.phase = 0 then none
  else if ty = 2 then (if r.nextLine ≤ index ∧ index < fmtH f then some (r.takeLine f index len p) else none)
  else if ty = 3 then
    (if len < 12 then none else match p with
      | some b => let k := ancOf index b; some (.anc k, { r with data := { r.data with anc := r.data.anc ++ [k], ancSeen := r.data.ancSeen + 1 } })
      | none => some (.skipped, r))
  else if ty = 4 then
    (let n := len / (4 * max 1 r.channels)
     if 1 ≤ n ∧ n ≤ 48 ∧ len = 4 * r.channels * n ∧ r.samples ≤ index then some (r.takeAudio index n p) else none)
  else if ty = 15 ∧ len = 4 then some (.ended, { r with phase := 2 })
  else none

/-- The check of the end unit (R221), where every byte of the frame is known. -/
def InRt.checkEnd (r : InRt) (crc : Option (List Byte)) : InRt :=
  match allKnown r.bytes, crc with
  | some b, some c => if leNat c = crc32 b then r else { r with data := { r.data with errors := r.data.errors + 1 } }
  | _, _ => r

/-- The next unit of the running frame, if all of it has come; `whole` says that no more will come, and then a unit that reaches beyond
the end ends the parse (R220).  A lost unit header ends it too, uncounted. [DEDUCED, log 113] -/
def InRt.nextUnit (r : InRt) (f : Nat) (whole : Bool) : Option (EssGot × InRt) :=
  if r.phase = 2 ∨ r.units.length < 4 then none
  else match allKnown (r.units.take 4) with
    | none => some (.skipped, r.spoilt false)
    | some h =>
      let w := leNat (h.take 2)
      let len := leNat (h.drop 2)
      let size := 4 + len + (4 - len % 4) % 4
      if r.units.length < size then (if whole then some (.skipped, r.spoilt true) else none)
      else match r.takeUnit f (w % 16) (w / 16) len (allKnown ((r.units.drop 4).take len)) with
        | none => some (.skipped, r.spoilt true)
        | some (got, r1) =>
          let r2 := if got = .ended then r1.checkEnd (allKnown ((r.units.drop 4).take len)) else r1
          some (got, { r2 with bytes := r2.bytes ++ r.units.take size, units := r.units.drop size })

/-! ### Pictures -/

/-- A line of black of a format (R225): narrow-range codes in the pixel-group order. -/
def blackLine (f : Nat) : List Nat :=
  let lo := if fmtDepth f = 0 then 0x040 else 0x100
  let mid := if fmtDepth f = 0 then 0x200 else 0x800
  (List.range (lineSamples f)).map fun i =>
    if fmtSampling f = 0 then (if i % 2 = 0 then mid else lo) else if fmtSampling f = 1 then (if i % 3 = 1 then lo else mid) else lo

/-- The picture of lines that came, black where none did. -/
def picture (f : Nat) (line : Nat → Option (List Nat)) : List (List Nat) := (List.range (fmtH f)).map fun i => (line i).getD (blackLine f)

/-- A line of a list of numbered lines. -/
def lineAt (lines : List (Nat × List Nat)) (i : Nat) : Option (List Nat) := (lines.find? fun l => l.1 = i).map Prod.snd

/-- A received essence frame as content; lines that did not come are damaged (R201, R220), and the samples of SAMPLES that did not
come are missing. -/
def InRt.essenceData (r : InRt) (f : Nat) : FrameData :=
  let declared := r.header 0 2
  let short := r.header 0x0C 2 - r.samples
  { r.data with
    format := f, lines := picture f (lineAt r.lines), audio := r.data.audio ++ missingRows short r.channels,
    payloadId := if r.header 4 4 = 0 then none else some (r.header 4 4), marked := bitOf (r.header 3 1) 0,
    damaged := (List.range (fmtH f)).filter fun i => (lineAt r.lines i).isNone,
    errors := r.data.errors + bit (decide (r.phase ≠ 2)),
    seen := if fmtListed declared && decide (r.active = fmtH declared) && decide (r.width * 8 = lineSamples declared * fmtBits declared) then declared else 0xFFFE }

end Sys2Proof.Machine
end

