-- ==== Sys2Proof/Machine/Raster.lean ====
section
/-! DEFINITION.  Serial form: data streams, TRS, line numbers, CRC words, ancillary and audio packets, payload ID and timecode packets
(spec/08_bridging_and_measurement.md, R224 to R229, R232, R233).  What the manual takes from the interface standards stands in log entry 114. -/

namespace Sys2Proof.Machine
open Sys2Proof

/-! ### The shape of an interface (R32, R113, R174, R225) -/

/-- Lines of a frame of each data stream. -/
def interfaceLines (f : Nat) : Nat := if fmtRaster f = 0 then 750 else 1125

/-- Data streams that an interface multiplexes word by word. [PRESUMED, log 114] -/
def dataStreams (width : Nat) : Nat := max 2 (width * 148500000 / max 1 (wordRate width))

/-- Frames per second of a rate, a fractional rate counted as its integer partner. -/
def nominalRate (rate : Nat) : Nat := let q := rateND rate; (q.1 + q.2 - 1) / q.2

/-- Words that each data stream carries in a line, EAV to EAV (R174). [PRESUMED, log 114] -/
def lineWords (width f : Nat) : Nat := wordRate width / (interfaceLines f * max 1 (nominalRate (fmtRate f)))

/-- Rows of active lines that each data stream carries. -/
def activeRows (f : Nat) : Nat := if fmtRaster f = 0 then 720 else 1080

/-- Words that an interface carries for a pixel. [PRESUMED, log 114] -/
def pixelWords (f : Nat) : Nat := if fmtSampling f = 0 ∧ fmtDepth f = 0 then 2 else 4

/-- Active words of each data stream in a line. [PRESUMED, log 114] -/
def activeWords (width f : Nat) : Nat := fmtW f * fmtH f * pixelWords f / (dataStreams width * activeRows f)

/-- Words of horizontal ancillary space of each data stream in a line: what EAV, line number, CRC and SAV leave. -/
def hancWords (width f : Nat) : Nat := lineWords width f - 12 - activeWords width f

/-- The row of active picture that an interface line carries (R225); the first field's rows come first. -/
def activeRow (f ln : Nat) : Option Nat :=
  if fmtRaster f = 0 then (if 26 ≤ ln ∧ ln ≤ 745 then some (ln - 26) else none)
  else if fmtScan f = 0 then (if 42 ≤ ln ∧ ln ≤ 1121 then some (ln - 42) else none)
  else if 21 ≤ ln ∧ ln ≤ 560 then some (ln - 21)
  else if 584 ≤ ln ∧ ln ≤ 1123 then some (ln - 584 + 540)
  else none

/-- The interface line that carries a row. -/
def rowLine (f row : Nat) : Nat :=
  if fmtRaster f = 0 then row + 26 else if fmtScan f = 0 then row + 42 else if row < 540 then row + 21 else row - 540 + 584

/-- The row of the whole picture at which a line of the frame stands: fields are woven. -/
def wovenRow (f i : Nat) : Nat := if fmtScan f = 0 then i else if i < fmtH f / 2 then 2 * i else 2 * (i - fmtH f / 2) + 1

/-- A line's place in the frame, from its row of the whole picture. -/
def fieldRow (f y : Nat) : Nat := if fmtScan f = 0 then y else y / 2 + y % 2 * (fmtH f / 2)

/-- The line belongs to the second field. [PRESUMED, log 114] -/
def secondField (f ln : Nat) : Bool := decide (fmtRaster f ≠ 0) && decide (fmtScan f ≠ 0) && decide (564 ≤ ln)

/-- The vertical ancillary lines of a format (R227). -/
def vancLine (f ln : Nat) : Bool :=
  if fmtRaster f = 0 then decide (9 ≤ ln ∧ ln ≤ 25)
  else if fmtScan f = 0 then decide (9 ≤ ln ∧ ln ≤ 41)
  else decide ((9 ≤ ln ∧ ln ≤ 20) ∨ (571 ≤ ln ∧ ln ≤ 583))

/-! ### Words of a line -/

/-- Words of equal data streams multiplexed word by word. -/
def mux (streams : List (List Nat)) : List Nat :=
  (List.range (streams.headD []).length).flatMap fun i => streams.map fun x => x.getD i 0

/-- One of `n` multiplexed data streams, from word `j` on. -/
def demux {α : Type} (n : Nat) (d : α) (words : List α) (j : Nat) : List α := (List.range (words.length / n)).map fun i => words.getD (i * n + j) d

/-- The fourth word of a TRS: F, V and H with their protection bits. [PRESUMED, log 114] -/
def trsWord (f v h : Bool) : Nat :=
  512 + 256 * bit f + 128 * bit v + 64 * bit h + 32 * bit (v != h) + 16 * bit (f != h) + 8 * bit (f != v) + 4 * bit ((f != v) != h)

/-- A TRS of one data stream. -/
def trs (f v h : Bool) : List Nat := [0x3FF, 0, 0, trsWord f v h]

/-- F, V and H of a TRS word, where its protection bits agree with them. -/
def readTrs (w : Nat) : Option (Bool × Bool × Bool) :=
  let f := bitOf w 8
  let v := bitOf w 7
  let h := bitOf w 6
  if trsWord f v h = w then some (f, v, h) else none

/-- The two line number words. [PRESUMED, log 114] -/
def lineNumber (ln : Nat) : List Nat :=
  let a := ln % 128 * 4
  [a + (if a < 256 then 512 else 0), 512 + ln / 128 % 16 * 4]

/-- The line number of two words. -/
def readLineNumber (a b : Nat) : Nat := a / 4 % 128 + 128 * (b / 4 % 16)

/-- One bit through the CRC of generator x^18 + x^5 + x^4 + 1, each word's bit 0 first (R225). -/
def crc18Bit (c : Nat) (b : Bool) : Nat := if (c % 2 == 1) != b then Nat.xor (c / 2) 0x23000 else c / 2

/-- The CRC-18 of words. -/
def crc18 (ws : List Nat) : Nat := (ws.flatMap fun w => (List.range 10).map (bitOf w)).foldl crc18Bit 0

/-- The two CRC words. [PRESUMED, log 114] -/
def crcWords (c : Nat) : List Nat := [c % 512, c / 512].map fun x => x + (if x < 256 then 512 else 0)

/-- The blanking code of a data stream (R225): colour difference travels in the even ones. [PRESUMED, log 114] -/
def blankWord (f j : Nat) : Nat := if fmtSampling f ≤ 1 ∧ j % 2 = 0 then 0x200 else 0x040

/-- The words of one line of a raster: `prev` is the active part of the line before, as sent, stream by stream; `hanc` and `active` are
the words of this line's horizontal ancillary space and active part, cut or filled with blanking. -/
def rasterLine (width f ln : Nat) (prev hanc active : List (List Nat)) : List Nat :=
  let v := (activeRow f ln).isNone
  let field := secondField f ln
  let fill := fun (j k : Nat) (x : List (List Nat)) => ((x.getD j []) ++ List.replicate k (blankWord f j)).take k
  mux ((List.range (dataStreams width)).map fun j =>
    let head := trs field v true ++ lineNumber ln
    head ++ crcWords (crc18 (prev.getD j [] ++ head)) ++ fill j (hancWords width f) hanc ++ trs field v false ++ fill j (activeWords width f) active)

/-- The active part of a line as sent, stream by stream. -/
def activeOf (width f : Nat) (line : List Nat) : List (List Nat) :=
  let n := dataStreams width
  (List.range n).map fun j => (demux n 0 line j).drop (12 + hancWords width f)

/-- A line that passes, its line number and CRC words written afresh over the line as sent (R174, R224). -/
def renumber (width f ln : Nat) (prev : List (List Nat)) (line : List Nat) : List Nat :=
  let n := dataStreams width
  mux ((List.range n).map fun j =>
    let x := demux n 0 line j
    let head := x.take 4 ++ lineNumber ln
    head ++ crcWords (crc18 (prev.getD j [] ++ head)) ++ x.drop 8)

/-! ### Picture and active words (R225, R226) -/

/-- An interface whose active words are the picture's samples in their order: two data streams of 4:2:2, 10-bit. -/
def plainMapping (width f : Nat) : Bool := decide (width ≤ 2) && decide (fmtSampling f = 0) && decide (fmtDepth f = 0)

/-- The active words of one interface row, stream by stream, of a picture: `line` gives its lines.  The interface standards map the
rest. [DEDUCED, log 115] -/
def rowWords (width f : Nat) (line : Nat → List Nat) (row : Nat) : List (List Nat) :=
  let n := dataStreams width
  if plainMapping width f then (List.range n).map (demux n 0 (line row))
  else (List.range n).map fun j => (Config.mapActive width f ((List.range (fmtH f)).map line) row j).map (· % 1024)

/-- The picture line that one interface row of words gives, or that all of them give where the standards map the picture. -/
def rowSamples (width f : Nat) (rows : List (Nat × List (List Nat))) (i : Nat) : Option (List Nat) :=
  if plainMapping width f then ((rows.find? fun r => r.1 = i).map fun r => mux r.2)
  else if rows.length = activeRows f then some (((Config.unmapActive width f (rows.map Prod.snd) i).map (· % 4096) ++ List.replicate (lineSamples f) 0).take (lineSamples f))
  else none

/-! ### ANC packets (R221, R227; ST 291-1) -/

/-- A byte with its parity in bit 8 and that inverted in bit 9. [PRESUMED, log 114] -/
def parityWord (v : Nat) : Nat :=
  let p := ((List.range 8).map fun i => bit (bitOf v i)).sum % 2
  v % 256 + 256 * p + 512 * (1 - p)

/-- The checksum word of a packet's words. [PRESUMED, log 114] -/
def checksumWord (ws : List Nat) : Nat :=
  let c := (ws.map (· % 512)).sum % 512
  c + (if c < 256 then 512 else 0)

/-- The words of a packet of DID, SDID or DBN, and user words. -/
def packetWords (did sdid : Nat) (udw : List Nat) : List Nat :=
  let b := [parityWord did, parityWord sdid, parityWord udw.length] ++ udw
  b ++ [checksumWord b]

/-- DID of a packet. -/
def AncPkt.did (k : AncPkt) : Nat := k.words.getD 0 0 % 256

/-- SDID or DBN of a packet. -/
def AncPkt.sdid (k : AncPkt) : Nat := k.words.getD 1 0 % 256

/-- User words of a packet. -/
def AncPkt.udw (k : AncPkt) : List Nat := (k.words.drop 3).dropLast

/-- A packet's checksum and parities hold (R229). -/
def AncPkt.good (k : AncPkt) : Bool :=
  decide (4 ≤ k.words.length) && decide (k.words.length = k.words.getD 2 0 % 256 + 4) && ((k.words.take 3).all fun w => decide (parityWord w = w)) &&
    decide (checksumWord k.words.dropLast = k.words.getLastD 0)

/-- Words that a packet takes on a data stream, its flag included. -/
def AncPkt.size (k : AncPkt) : Nat := k.words.length + 3

/-- A packet on a data stream. -/
def AncPkt.sent (k : AncPkt) : List Nat := [0, 0x3FF, 0x3FF] ++ k.words

/-- The packets in a space of a data stream. [PRESUMED, log 114] -/
def scanPackets (line : Nat) (chroma hanc : Bool) : Nat → Nat → List Nat → List AncPkt
  | 0, _, _ => []
  | k + 1, pos, ws =>
    match ws with
    | 0 :: 0x3FF :: 0x3FF :: r =>
      let n := r.getD 2 0 % 256 + 4
      if n ≤ r.length then { line := line, chroma := chroma, hanc := hanc, pos := pos, words := r.take n } :: scanPackets line chroma hanc k (pos + n + 3) (r.drop n)
      else []
    | _ :: r => scanPackets line chroma hanc k (pos + 1) r
    | [] => []

/-- The packets of a line of words, all data streams in turn. -/
def linePackets (width f ln : Nat) (line : List Nat) : List AncPkt :=
  let n := dataStreams width
  (List.range n).flatMap fun j =>
    let x := demux n 0 line j
    let h := hancWords width f
    let vertical := if (activeRow f ln).isNone then x.drop (12 + h) else []
    scanPackets ln (decide (j % 2 = 0)) true h 0 ((x.drop 8).take h) ++ scanPackets ln (decide (j % 2 = 0)) false vertical.length 0 vertical

/-- The DID of an audio data or control packet (R237's rule). -/
def audioDid (did : Nat) : Bool := decide (did / 16 = 0xA ∨ did / 16 = 0xE)

/-- A payload ID packet. -/
def AncPkt.isPid (k : AncPkt) : Bool := decide (k.did = 0x41) && decide (k.sdid = 1)

/-- A timecode packet. -/
def AncPkt.isTc (k : AncPkt) : Bool := decide (k.did = 0x60) && decide (k.sdid = 0x60)

/-- An audio packet. -/
def AncPkt.isAudio (k : AncPkt) : Bool := audioDid k.did

/-! ### Audio packets (R228, R229, R254; ST 299) -/

/-- DID of the audio data packets of a group, from 0. [PRESUMED, log 114] -/
def dataDid (g : Nat) : Nat := [0xE7, 0xE6, 0xE5, 0xE4, 0xA7, 0xA6, 0xA5, 0xA4].getD g 0xE7

/-- DID of a group's audio control packets. [PRESUMED, log 114] -/
def controlDid (g : Nat) : Nat := [0xE3, 0xE2, 0xE1, 0xE0, 0xA3, 0xA2, 0xA1, 0xA0].getD g 0xE3

/-- The four user words of a sample word (R222): Z, the 24 sample bits, V, U, C and even parity. [PRESUMED, log 114] -/
def audioUdw (w : Nat) : List Nat :=
  let x := w / 256 % 2 ^ 24
  let vuc := w / 32 % 8
  let flags := bit (bitOf w 7) + 2 * bit (bitOf w 6) + 4 * bit (bitOf w 5)
  let p := (((List.range 24).map fun i => bit (bitOf x i)).sum + ((List.range 3).map fun i => bit (bitOf vuc i)).sum) % 2
  [8 * bit (bitOf w 4) + 16 * (x % 16), x / 16 % 256, x / 4096 % 256, x / 2 ^ 20 + 16 * flags + 128 * p].map parityWord

/-- The sample word of four user words. -/
def audioOfUdw (u : List Nat) : Nat :=
  let a := u.getD 0 0
  let d := u.getD 3 0
  (a / 16 % 16 + 16 * (u.getD 1 0 % 256) + 4096 * (u.getD 2 0 % 256) + 2 ^ 20 * (d % 16)) * 256 +
    128 * bit (bitOf d 4) + 64 * bit (bitOf d 5) + 32 * bit (bitOf d 6) + 16 * bit (bitOf a 3)

/-- The six check bits of a column of bits: x^6 + x^5 + x^3 + x^2 + x + 1. [PRESUMED, log 114] -/
def bchOf (bs : List Bool) : Nat :=
  bs.foldl (fun c b => if (c / 32 % 2 == 1) != b then Nat.xor (c * 2 % 64) 0x2F else c * 2 % 64) 0

/-- The six error-correction words of the 24 words before them. -/
def eccWords (ws : List Nat) : List Nat :=
  let cs := (List.range 8).map fun i => bchOf (ws.map fun w => bitOf w i)
  (List.range 6).map fun k => parityWord (((List.range 8).map fun i => bit (bitOf (cs.getD i 0) (5 - k)) * 2 ^ i).sum)

/-- An audio data packet of a group: DBN, clock phase, the words of its four channels, and whether they were moved past the switch line. -/
def audioPacket (g dbn clock : Nat) (moved : Bool) (words : List Nat) : List Nat :=
  let clk := [clock % 256, clock / 256 % 16 + 16 * bit moved + 32 * (clock / 4096 % 2)].map parityWord
  let udw := clk ++ ((List.range 4).flatMap fun i => audioUdw (words.getD i 0))
  let head := [0, 0x3FF, 0x3FF, parityWord (dataDid g), parityWord dbn, parityWord 24] ++ udw
  packetWords (dataDid g) dbn (udw ++ eccWords head)

/-- An audio control packet of a group: rate codes of its channel pairs and its active channels. [PRESUMED, log 114] -/
def controlPacket (g : Nat) (rate0 rate1 active : Nat) : List Nat :=
  packetWords (controlDid g) 0 ([0, 2 * rate0 + 32 * rate1, active, 0, 0, 0, 0, 0, 0, 0, 0].map parityWord)

/-- The group of an audio data packet. -/
def groupOf (k : AncPkt) : Option Nat := (List.range 8).find? fun g => dataDid g = k.did

/-- Words of the channels of a group that a data packet carries; 2^32 each where the packet fails (R229). -/
def packetAudio (k : AncPkt) : List Nat :=
  (List.range 4).map fun i => if k.good ∧ k.words.length = 28 then audioOfUdw ((k.udw.drop (2 + 4 * i)).take 4) else 2 ^ 32

/-- The samples that packets carry for so many channels: the k-th packet of each group makes sample k (R229, R254). -/
def deembed (channels : Nat) (ps : List AncPkt) : List (List Nat) :=
  let groups := (List.range ((channels + 3) / 4)).map fun g => (ps.filter fun k => groupOf k = some g).map packetAudio
  let n := (groups.map List.length).foldl max 0
  (List.range n).map fun i => (groups.flatMap fun g => g.getD i (List.replicate 4 (2 ^ 32))).take channels

/-! ### Payload ID (R232; ST 352) -/

/-- Byte 1 of the payload ID of an interface. [PRESUMED, log 116] -/
def pidInterface (width f level : Nat) : Nat :=
  match width with
  | 1 => if fmtRaster f = 0 then 0x84 else 0x85
  | 2 => if level = 1 then 0x8A else 0x89
  | 4 => if fmtRaster f ≤ 2 then 0xC1 else 0xC0
  | 8 => 0xCE
  | _ => 0xD0

/-- The picture rate code of a payload ID. [PRESUMED, log 116] -/
def pidRate (rate : Nat) : Nat := [2, 3, 5, 6, 7, 4, 8, 9, 0xA, 0xB, 0xD, 0xE, 0xF].getD rate 0

/-- The sampling code of a payload ID. [PRESUMED, log 116] -/
def pidSampling (sampling : Nat) : Nat := [0, 1, 2, 6].getD sampling 0

/-- The four bytes of the payload ID of a serial stream, byte 1 lowest (R221, R232). [PRESUMED, log 116] -/
def payloadIdOf (width f level : Nat) : Nat :=
  let prog := fmtScan f = 0
  let byte2 := pidRate (fmtRate f) + 64 * bit (prog || fmtScan f = 2) + 128 * bit prog
  let wide := fmtRaster f = 2 ∨ fmtRaster f = 4
  pidInterface width f level + 256 * byte2 + 65536 * (pidSampling (fmtSampling f) + 64 * bit (decide wide)) + 2 ^ 24 * (1 + fmtDepth f)

/-- A payload ID packet. -/
def pidPacket (line id : Nat) : AncPkt := { line := line, words := packetWords 0x41 1 ((toLe 4 id).map fun b => parityWord b.toNat) }

/-- The payload ID of a packet. -/
def pidOf (k : AncPkt) : Nat := leNat (k.udw.map fun w => BitVec.ofNat 8 w)

/-! ### Timecode packets (R233, R239; ST 12-2) -/

/-- The 64 bits of a time address, its flags and user bits, as 16 nibbles. [PRESUMED, log 117] -/
def tcNibbles (rate addr : Nat) (drop pair : Bool) : List Nat :=
  let d := fun i => addr / 16 ^ i % 16
  let base25 := rate = 2 ∨ rate = 7
  [d 0, 0, d 1 + 4 * bit drop, 0, d 2, 0, d 3 + 8 * bit (pair && !decide base25), 0, d 4, 0, d 5, 0, d 6, 0, d 7 + 8 * bit (pair && decide base25), 0]

/-- A timecode packet of a type: 0 LTC, 1 VITC1. [PRESUMED, log 117] -/
def tcPacket (line ty rate addr : Nat) (drop pair : Bool) : AncPkt :=
  { line := line, words := packetWords 0x60 0x60 ((tcNibbles rate addr drop pair).mapIdx fun i n => parityWord (16 * n + 8 * (if i < 8 then ty / 2 ^ i % 2 else 0))) }

/-- The type of a timecode packet. -/
def tcType (k : AncPkt) : Nat := ((List.range 8).map fun i => bit (bitOf (k.udw.getD i 0) 3) * 2 ^ i).sum

/-- Time address, flags (drop-frame, colour frame, field or pair flag) and user bits of a timecode packet. [PRESUMED, log 117] -/
def readTc (rate : Nat) (k : AncPkt) : Nat × Nat × Nat :=
  let n := fun i => k.udw.getD i 0 / 16 % 16
  let addr := n 0 + 16 * (n 2 % 4) + 2 ^ 8 * n 4 + 2 ^ 12 * (n 6 % 8) + 2 ^ 16 * n 8 + 2 ^ 20 * (n 10 % 8) + 2 ^ 24 * n 12 + 2 ^ 28 * (n 14 % 4)
  let pair := if rate = 2 ∨ rate = 7 then bitOf (n 14) 3 else bitOf (n 6) 3
  (addr, bit (bitOf (n 2) 2) + 2 * bit (bitOf (n 2) 3) + 4 * bit pair, ((List.range 8).map fun i => n (2 * i + 1) * 16 ^ i).sum)

end Sys2Proof.Machine
end

