-- ==== Sys2Proof/Machine/Picture.lean ====
section
/-! DEFINITION.  The generators' pictures, bit for bit (spec/06_basin_and_lockkeeper.md, R180 and R181). -/

namespace Sys2Proof.Machine
open Sys2Proof

/-- R', G' and B' of a bar, in hundredths of full amplitude (R181). [PRESUMED, log 118] -/
def barRgb (amplitude k : Nat) : Nat × Nat × Nat :=
  let on := fun (b : Bool) => if b then amplitude else 0
  (on (k = 0 || k = 1 || k = 4 || k = 5), on (k < 4), on (k % 2 = 0 && k < 8))

/-- The bar in which a column stands: eight equal vertical bars. -/
def barAt (w x : Nat) : Nat := min 7 (x * 8 / max 1 w)

/-- The luma weights of R' and B' of a COLOUR, in ten-thousandths. [PRESUMED, log 118] -/
def lumaWeights (colour : Nat) : Nat × Nat := if colour = 0 then (2126, 722) else (2627, 593)

/-- Y' of R'G'B' in hundredths, in millionths. -/
def lumaOf (colour : Nat) (c : Nat × Nat × Nat) : Nat :=
  let k := lumaWeights colour
  k.1 * c.1 + (10000 - k.1 - k.2) * c.2.1 + k.2 * c.2.2

/-- A narrow-range code 64 + 876 v of v in millionths, rounded half up. -/
def narrowCode (v : Nat) : Nat := 64 + (2 * 876 * v + 1000000) / 2000000

/-- A narrow-range colour-difference code of a component in hundredths against Y' in millionths, its weight in ten-thousandths:
512 + 448 (c − Y') / (1 − k), rounded half up. -/
def differenceCode (k c y : Nat) : Nat :=
  (512 + Int.fdiv (2 * 448 * ((10000 * c : Nat) - (y : Int)) * 10000 + 1000000 * (10000 - k : Nat)) (2 * 1000000 * (10000 - k : Nat))).toNat

/-- Components of a generator's pixel, 10-bit: R'G'B' where `rgb`, else Y', Cb, Cr. -/
def patternCode (g : GenObj) (rgb : Bool) (w h x y : Nat) : Nat × Nat × Nat :=
  let bars := fun (a : Nat) =>
    let c := barRgb a (barAt w x)
    let l := lumaOf g.colour c
    let k := lumaWeights g.colour
    if rgb then (narrowCode (10000 * c.1), narrowCode (10000 * c.2.1), narrowCode (10000 * c.2.2))
    else (narrowCode l, differenceCode k.2 c.2.2 l, differenceCode k.1 c.1 l)
  let ramp := 64 + (2 * 876 * x + (w - 1)) / (2 * (w - 1))
  let grb := fun (a b c : Nat) => if rgb then (c, a, b) else (a, b, c)
  match g.pattern with
  | 0 => if rgb then (64, 64, 64) else (64, 512, 512)
  | 1 => bars 100
  | 2 => bars 75
  | 3 => if rgb then (ramp, ramp, ramp) else (ramp, 512, 512)
  | 4 => grb g.flatY g.flatCb g.flatCr
  | _ => if 2 * y < h then grb 0x198 0x300 0x300 else grb 0x110 0x200 0x200

/-- Samples of a pixel row in their pixel-group order (R221), of components by column: for 4:2:2 the colour difference of even columns. [PRESUMED, log 112] -/
def rowOfCodes (f : Nat) (code : Nat → Nat × Nat × Nat) (alpha : Nat → Nat) : List Nat :=
  (List.range (fmtW f)).flatMap fun x =>
    let c := code x
    match fmtSampling f with
    | 0 => if x % 2 = 0 then [c.2.1, c.1] else [(code (x - 1)).2.2, c.1]
    | 1 => [c.2.1, c.1, c.2.2]
    | 2 => [c.1, c.2.1, c.2.2]
    | _ => [c.1, c.2.1, c.2.2, alpha x]

/-- A picture line of a generator, of its place in the frame: 12-bit formats carry the 10-bit values shifted left by 2 (R181). -/
def patternLine (g : GenObj) (i : Nat) : List Nat :=
  let f := g.format
  let y := wovenRow f i
  let row := rowOfCodes f (patternCode g (decide (2 ≤ fmtSampling f)) (fmtW f) (fmtH f) · y) fun x => Config.generatorAlpha g.pattern x y % 1024
  if fmtDepth f = 0 then row else row.map (· * 4)

/-- A sample of a picture: component 0 Y' or R', 1 Cb or G', 2 Cr or B', 3 alpha; the columns of 4:2:2 colour difference count by pairs. -/
def pictureSample (f : Nat) (lines : List (List Nat)) (c x y : Nat) : Nat :=
  let l := lines.getD (fieldRow f y) []
  let v := match fmtSampling f with
    | 0 => if c = 0 then l.getD (2 * x + 1) 0 else l.getD (4 * x + 2 * (c - 1)) 0
    | 1 => l.getD (3 * x + (if c = 0 then 1 else if c = 1 then 0 else 2)) 0
    | 2 => l.getD (3 * x + c) 0
    | _ => l.getD (4 * x + c) 0
  if fmtDepth f = 1 then v % 4096 else v % 1024

/-- The lumas of a picture line, 10-bit: Y', or the largest of R', G' and B'; 12-bit samples reduced by (v + 2) >> 2 (R239). -/
def lineLuma (f : Nat) (l : List Nat) : List Nat :=
  let red := fun v => if fmtDepth f = 1 then min 1023 ((v + 2) / 4) else v
  (List.range (fmtW f)).map fun x =>
    match fmtSampling f with
    | 0 => red (l.getD (2 * x + 1) 0)
    | 1 => red (l.getD (3 * x + 1) 0)
    | 2 => max (red (l.getD (3 * x) 0)) (max (red (l.getD (3 * x + 1) 0)) (red (l.getD (3 * x + 2) 0)))
    | _ => max (red (l.getD (4 * x) 0)) (max (red (l.getD (4 * x + 1) 0)) (red (l.getD (4 * x + 2) 0)))

end Sys2Proof.Machine
end

