-- ==== Sys2Proof/Machine/Pixel.lean ====
section
/-! DEFINITION.  The arithmetic of a composed pixel: pyramid levels, the Planisher, matrices, LUTs, blending, graphics planes,
Hallmark and Assay (spec/07_wharf.md R205, spec/10_pewter_composer.md R292 to R312). -/

namespace Sys2Proof.Machine
open Sys2Proof

/-! ### Source samples and levels (R205, R293) -/

/-- A 12-bit sample reduced to 10 bits. -/
def reduce12 (v : Nat) : Nat := min 1023 ((v + 2) / 4)

/-- A stowed sample as 10 bits. -/
def stowed10 (d : FrameData) (c x y : Nat) : Nat :=
  let v := pictureSample d.format d.lines c x y
  if fmtDepth d.format = 1 then reduce12 v else v

/-- A component has half the columns: the chroma of 4:2:2. -/
def halfColumns (format c : Nat) : Bool := decide (fmtSampling format = 0) && decide (c = 1 ∨ c = 2)

/-- A level-0 sample: 10-bit 4:4:4 (R293). -/
def level0Sample (d : FrameData) (c x y : Nat) : Nat :=
  let p := fun k => stowed10 d c (min k (fmtW d.format / 2 - 1)) y
  if halfColumns d.format c then (if x % 2 = 0 then p (x / 2) else (p ((x - 1) / 2) + p ((x + 1) / 2) + 1) / 2)
  else stowed10 d c x y

/-- A sample of a level as it was computed, by the rules of R205; past the edge the last column or row repeats. -/
def levelSample (d : FrameData) : Nat → Nat → Nat → Nat → Nat
  | 0, c, x, y => level0Sample d c x y
  | l + 1, c, x, y =>
    let w := halved (fmtW d.format) l
    let h := halved (fmtH d.format) l
    if l = 0 ∧ halfColumns d.format c then
      (stowed10 d c x (min (2 * y) (h - 1)) + stowed10 d c x (min (2 * y + 1) (h - 1)) + 1) / 2
    else
      let p := fun i j => levelSample d l c (min i (w - 1)) (min j (h - 1))
      (p (2 * x) (2 * y) + p (2 * x + 1) (2 * y) + p (2 * x) (2 * y + 1) + p (2 * x + 1) (2 * y + 1) + 2) / 4

/-- Bits of a component's place in the word of a level: component 0 in [9:0], 1 in [19:10], 2 in [29:20] (R301); fields of 16 bits for
4:4:4:4 (R205). [DEDUCED, log 120] -/
def levelShift (format c : Nat) : Nat := if fmtSampling format = 3 then 16 * c else 10 * c

/-- The word of a level's sample: 32 bits, 64 bits for 4:4:4:4 (R205). -/
def levelWord (d : FrameData) (l x y : Nat) : Nat :=
  ((List.range (if fmtSampling d.format = 3 then 4 else 3)).map fun c => levelSample d l c x y * 2 ^ levelShift d.format c).sum

/-- The word of black. -/
def blackWord (format : Nat) : Nat :=
  ((List.range (if fmtSampling format = 3 then 4 else 3)).map fun c => (if fmtSampling format ≤ 1 ∧ 1 ≤ c then 512 else 64) * 2 ^ levelShift format c).sum

/-- A component of a level's sample as it is read: black where an uncorrectable error took the word (R209). -/
def readSample (f : InFrame) (l c x y : Nat) : Nat :=
  let w := if f.blackened.contains (l, x, y) then blackWord f.data.format else levelWord f.data l x y
  fieldOf w (levelShift f.data.format c) 10

/-! ### The Planisher (R297, R298) -/

/-- The source position of an output column or row, in units of 2^−16 sample. -/
def planePos (x n size : Nat) : Int := ((2 * x + 1) * n * 65536 / (2 * size) : Nat) - 32768

/-- The integer index of a position. -/
def posIndex (p : Int) : Int := p / 65536

/-- The phase of a position. -/
def posPhase (p : Int) : Nat := (p % 65536).toNat / 1024

/-- The bilinear set of a first start: the tap before the phase, and its neighbour. -/
def bilinear (tap phase k : Nat) : Int := if k = tap then 256 - 4 * phase else if k = tap + 1 then 4 * phase else 0

/-- A coefficient of a configuration's bank: direction 0 horizontal, 1 vertical. -/
def coefficient (cfg : HeadCfg) (bank dir phase k : Nat) : Int :=
  match cfg.banks.find? fun e => e.1 = bank * 2 + dir with
  | some e => e.2.getD (phase * 8 + k) 0
  | none => bilinear (if dir = 0 then 3 else 2) phase k

/-- Bring a value into the 10-bit codes. -/
def clamp10 (v : Int) : Nat := (clampI 0 1023 v).toNat

/-- A filter's output from its taps, centred on the 256 of R298. -/
def filterOut (coef : Nat → Int) (taps : List Nat) : Nat :=
  clamp10 (((taps.mapIdx fun k (v : Nat) => coef k * (v : Int)).sum + 128) / 256)

/-- Bring a source index into a cropped size. -/
def clampIdx (i : Int) (n : Nat) : Nat := (clampI 0 ((n : Int) - 1) i).toNat

/-- What a layer reads: its source frame, format, level and whether two taps are in force. -/
structure LayerRead where
  frame : InFrame
  format : Nat
  level : Nat
  two : Bool
  deriving DecidableEq, Repr

/-- The sample of the crop, clamped to it and to the level (R292, R297). -/
def cropSample (b : List Byte) (r : LayerRead) (c : Nat) (i j : Int) : Nat :=
  let wl := halved (cropW b r.format) r.level
  let hl := halved (cropH b r.format) r.level
  let x := lay b 0x10 2 / 2 ^ r.level + clampIdx i wl
  let y := lay b 0x12 2 / 2 ^ r.level + clampIdx j hl
  readSample r.frame r.level c (min x (halved (fmtW r.format) r.level - 1)) (min y (halved (fmtH r.format) r.level - 1))

/-- The Planisher's output for a component at column x, row y of a layer (R297). -/
def planish (cfg : HeadCfg) (b : List Byte) (r : LayerRead) (c x y : Nat) : Nat :=
  let bank := lay b 0x18 1
  let px := planePos x (halved (cropW b r.format) r.level) (layW b)
  let py := planePos y (halved (cropH b r.format) r.level) (layH b)
  let cv := fun k => if r.two then bilinear 2 (posPhase py) k else coefficient cfg bank 1 (posPhase py) k
  let col := fun (i : Int) => filterOut cv ((List.range 6).map fun (k : Nat) => cropSample b r c i (posIndex py + k - 2))
  filterOut (fun k => coefficient cfg bank 0 (posPhase px) k) ((List.range 8).map fun (k : Nat) => col (posIndex px + k - 3))

/-! ### Matrices and LUTs (R301, R302) -/

/-- Three components. -/
abbrev Rgb := Nat × Nat × Nat

/-- Component i of a triple. -/
def Rgb.at (p : Rgb) (i : Nat) : Nat := if i = 0 then p.1 else if i = 1 then p.2.1 else p.2.2

/-- A signed 16-bit field of a matrix record. -/
def matField (m : List Byte) (off : Nat) : Int := toInt 16 (leNat ((m.drop off).take 2))

/-- One output component of a matrix record (R301). -/
def matRow (m : List Byte) (p : Rgb) (i : Nat) : Nat :=
  let acc := ((List.range 3).map fun j => matField m (2 * (3 * i + j)) * ((p.at j : Int) - matField m (0x12 + 2 * j))).sum
  clamp10 ((acc + 2048) / 4096 + matField m (0x18 + 2 * i))

/-- A matrix record applied to three components. -/
def matApply (m : List Byte) (p : Rgb) : Rgb := (matRow m p 0, matRow m p 1, matRow m p 2)

/-- A matrix record of nine coefficients, three input and three output offsets. -/
def matRecord (cs pre post : List Int) : List Byte := (cs ++ pre ++ post).flatMap (fun z => toLe 2 (ofInt 16 z)) ++ toLe 2 0

/-- The output matrix of a first start. -/
def outMatrix0 : List Byte := matRecord [871, 2929, 296, -469, -1579, 2048, 2048, -1860, -188] [64, 64, 64] [64, 512, 512]

/-- The layer matrix of a first start: BT.709 Y'CbCr to R'G'B'. -/
def layerMatrix0 : List Byte := matRecord [4096, 0, 6450, 4096, -767, -1917, 4096, 7601, 0] [0, 512, 512] [0, 0, 0]

/-- A pre-blend entry. -/
def preLut (cfg : HeadCfg) (bank k : Nat) : Nat := tget (k * 64 + k / 16) (tget [] cfg.luts bank) k

/-- A post-blend entry. -/
def postEntry (cfg : HeadCfg) (i : Nat) : Nat := tget (min (i / 4) 1023) (tget [] cfg.luts 4) i

/-- The post-blend LUT (R302). -/
def postLut (cfg : HeadCfg) (v : Nat) : Nat := (postEntry cfg (v / 16) * (16 - v % 16) + postEntry cfg (v / 16 + 1) * (v % 16) + 8) / 16

/-- Change the three components one by one. -/
def Rgb.map (p : Rgb) (f : Nat → Nat) : Rgb := (f p.1, f p.2.1, f p.2.2)

/-- Join two triples. -/
def Rgb.zip (p q : Rgb) (f : Nat → Nat → Nat) : Rgb := (f p.1 q.1, f p.2.1 q.2.1, f p.2.2 q.2.2)

/-- A colour packed as the Assay word: R' in [29:20], G' in [19:10], B' in [9:0] (R312). -/
def unpackRgb (w : Nat) : Rgb := (fieldOf w 20 10, fieldOf w 10 10, fieldOf w 0 10)

/-- The Assay word of a code (R312). -/
def packRgb (p : Rgb) : Nat := p.1 * 2 ^ 20 + p.2.1 * 2 ^ 10 + p.2.2

/-! ### Graphics planes (R306) -/

/-- A 4-bit value as 10 bits. -/
def expand4 (n : Nat) : Nat := n * 64 + n * 4 + n / 4

/-- The colour of an ARGB 4:4:4:4 word. -/
def argbRgb (w : Nat) : Rgb := (expand4 (fieldOf w 8 4), expand4 (fieldOf w 4 4), expand4 (fieldOf w 0 4))

/-- The alpha of an ARGB 4:4:4:4 word. -/
def argbAlpha (w : Nat) : Nat := expand4 (fieldOf w 12 4)

/-- HDM offset of buffer b of plane g of head h. -/
def graphicsBase (h g b : Nat) : Nat := 0x40000000 + h * 0x1E000000 + (2 * g + b) * 0x2000000

/-- Width of the full raster of a head. -/
def rasterW (cfg : HeadCfg) : Nat := if cfg.split then 2 * fmtW cfg.format else fmtW cfg.format

/-- Height of the full raster of a head. -/
def rasterH (cfg : HeadCfg) : Nat := if cfg.split then 2 * fmtH cfg.format else fmtH cfg.format

/-- The graphics word at a pixel of the full raster, from the front buffer. -/
def graphicsWord (s : State) (h g x y : Nat) : Nat :=
  let o := s.headObj h
  s.hdmNat (graphicsBase h g (bit (bitOf o.front g)) + (y * rasterW o.cfg + x) * 2) 2

/-! ### Blending (R303, R304) -/

/-- What a layer gives at a pixel: code and alpha_px, or nothing where its absence fill is transparent. -/
structure LayerPixel where
  code : Rgb
  alphaPx : Nat
  deriving DecidableEq, Repr

/-- The absence fill of a layer (R295). -/
def absenceFill (b : List Byte) : Option LayerPixel :=
  match lay b 0x1A 1 with
  | 0 => some { code := (64, 64, 64), alphaPx := 1023 }
  | 1 => some { code := unpackRgb (lay b 0x1C 4), alphaPx := 1023 }
  | _ => none

/-- The frame that a layer shows: in its source's pyramid, or kept since the pyramid was rebuilt or freed (R206, R295). -/
def shownFrame (s : State) (src seq : Nat) (l : LayerRt) : InFrame := ((s.pyramid src).frames.find? fun x => x.seq = seq).getD l.held

/-- What a video layer reads, none while it shows its absence fill. -/
def layerRead (s : State) (b : List Byte) (l : LayerRt) : Option LayerRead :=
  match l.src, l.frame with
  | some h, some f => if l.absent ∨ l.noRoom then none
    else
      let fr := shownFrame s h f l
      some { frame := fr, format := fr.data.format, level := l.level, two := l.twoTap || layTwo b }
  | _, _ => none

/-- What a layer gives at column x, row y of its rectangle; (fx, fy) is the pixel in the full raster. -/
def layerPixel (s : State) (h slot : Nat) (b : List Byte) (x y fx fy : Nat) : Option LayerPixel :=
  let o := s.headObj h
  if layKind b = 2 then
    let w := graphicsWord s h (lay b 3 1) fx fy
    some { code := argbRgb w, alphaPx := argbAlpha w }
  else match layerRead s b (tget {} (s.head h).layers slot) with
    | none => absenceFill b
    | some r =>
      let c := fun k => planish o.cfg b r k x y
      some { code := matApply (b.drop 0x20) (c 0, c 1, c 2),
             alphaPx := if bitOf (lay b 5 1) 1 ∧ fmtSampling r.format = 3 then c 3 else 1023 }

/-- alpha of R303: alpha_px under the layer's opacity. -/
def layerAlpha (alphaPx opacity : Nat) : Nat := (alphaPx * (opacity + opacity / 512) + 512) / 1024

/-- One layer blended in linear light (R303). -/
def blendFine (src dst a : Nat) : Nat := (src * a + dst * (1024 - a) + 512) / 1024

/-- One layer blended in the code domain (R304). -/
def blendLegacy (code dst a8 : Nat) : Nat := (code * a8 + dst * (255 - a8)) / 256

/-- The order in which a layer is blended: (z, slot) under FINE, slot under LEGACY. -/
def layerOrder (legacy : Bool) (e : Nat × List Byte) : Nat := if legacy then e.1 else lay e.2 4 1 * 128 + e.1

/-- Put a layer in its place of the order. -/
def insertLayer (legacy : Bool) (e : Nat × List Byte) : List (Nat × List Byte) → List (Nat × List Byte)
  | [] => [e]
  | f :: r => if layerOrder legacy e < layerOrder legacy f then e :: f :: r else f :: insertLayer legacy e r

/-- Enabled layers that cover a pixel of a quadrant, in the order in which they are blended. -/
def coveringLayers (legacy : Bool) (cfg : HeadCfg) (q x y : Nat) : List (Nat × List Byte) :=
  ((quadLayers cfg q).filter fun e => covers e.2 x y).foldr (insertLayer legacy) []

/-- The quadrant of a full-raster pixel, and its coordinates there. -/
def quadPixel (cfg : HeadCfg) (fx fy : Nat) : Nat × Nat × Nat :=
  if cfg.split then (fx / fmtW cfg.format + 2 * (fy / fmtH cfg.format), fx % fmtW cfg.format, fy % fmtH cfg.format) else (0, fx, fy)

/-- One step of R303. -/
def fineStep (s : State) (h x y fx fy : Nat) (dst : Rgb) (e : Nat × List Byte) : Rgb :=
  let cfg := (s.headObj h).cfg
  match layerPixel s h e.1 e.2 (x - (layRect e.2).1) (y - (layRect e.2).2.1) fx fy with
  | none => dst
  | some p =>
    let al := layerAlpha p.alphaPx (lay e.2 6 2)
    let a := al + al / 512
    (p.code.map (preLut cfg (lay e.2 0x19 1))).zip dst fun src d => blendFine src d a

/-- One step of R304. -/
def legacyStep (s : State) (h x y fx fy : Nat) (dst : Rgb) (e : Nat × List Byte) : Rgb :=
  match layerPixel s h e.1 e.2 (x - (layRect e.2).1) (y - (layRect e.2).2.1) fx fy with
  | none => dst
  | some p =>
    let a8 := layerAlpha p.alphaPx (lay e.2 6 2) / 4
    p.code.zip dst fun code d => blendLegacy code d a8

/-- The code of a pixel before Hallmark. -/
def blendedCode (s : State) (h fx fy : Nat) : Rgb :=
  let cfg := (s.headObj h).cfg
  let legacy := (s.head h).legacy
  let q := quadPixel cfg fx fy
  let ls := coveringLayers legacy cfg q.1 q.2.1 q.2.2
  let bg := unpackRgb cfg.background
  if legacy then ls.foldl (legacyStep s h q.2.1 q.2.2 fx fy) bg
  else (ls.foldl (fineStep s h q.2.1 q.2.2 fx fy) (bg.map (preLut cfg 0))).map (postLut cfg)

/-! ### Hallmark (R309, R311) -/

/-- The Hallmark region that covers a pixel. -/
def hallAt (rs : List (Nat × HallReg)) (x y : Nat) : Option HallReg :=
  (rs.find? fun e => e.2.enable && decide (e.2.x ≤ x ∧ x < e.2.x + e.2.w ∧ e.2.y ≤ y ∧ y < e.2.y + e.2.h)).map Prod.snd

/-- The warning pattern (R311). -/
def warningRgb (x y : Nat) : Rgb := if (x + y) / 16 % 2 = 0 then (940, 64, 64) else (940, 940, 940)

/-- Hallmark over a code. -/
def hallmarkCode (rs : List (Nat × HallReg)) (x y : Nat) (code : Rgb) : Rgb :=
  match hallAt rs x y with
  | none => code
  | some r =>
    if r.warning then warningRgb (x - r.x) (y - r.y)
    else
      let w := tget 0 r.pixels ((y - r.y) * r.w + (x - r.x))
      let ha := argbAlpha w + argbAlpha w / 512
      (argbRgb w).zip code fun hc c => (hc * ha + c * (1024 - ha) + 512) / 1024

/-- The code of R303 or R304 after Hallmark. -/
def composedCode (s : State) (h fx fy : Nat) : Rgb := hallmarkCode (s.headObj h).hallActive fx fy (blendedCode s h fx fy)

/-! ### Assay (R312) -/

/-- The CRC-32 of a region over the frame being composed. -/
def assayCrc (s : State) (h : Nat) (a : AssayObj) : Nat :=
  crc32 ((List.range a.h).flatMap fun j => (List.range a.w).flatMap fun i => toLe 4 (packRgb (composedCode s h (a.x + i) (a.y + j))))

/-! ### The head's output (R305) -/

/-- The output matrix's components at a pixel. -/
def outCode (s : State) (h fx fy : Nat) : Rgb :=
  let cfg := (s.headObj h).cfg
  matApply (if cfg.outMatrix = [] then outMatrix0 else cfg.outMatrix) (composedCode s h fx fy)

/-- A sample of a head's output at column x, row y of a quadrant (R305). -/
def headSample (s : State) (h q c x y : Nat) : Nat :=
  let cfg := (s.headObj h).cfg
  let w := fmtW cfg.format
  let ox := if cfg.split then q % 2 * w else 0
  let oy := if cfg.split then q / 2 * fmtH cfg.format else 0
  let p := fun k => (outCode s h (ox + min k (w - 1)) (oy + y)).at c
  let v := if halfColumns cfg.format c then ((if x = 0 then p 0 else p (x - 1)) + 2 * p x + p (x + 1) + 2) / 4 else p x
  if fmtDepth cfg.format = 1 then v * 4 else v

/-- The picture lines of a head's stream (R305). -/
def headLines (s : State) (h q : Nat) : List (List Nat) :=
  let f := (s.headObj h).cfg.format
  (List.range (fmtH f)).map fun i =>
    rowOfCodes f (fun x => (headSample s h q 0 x (wovenRow f i), headSample s h q 1 x (wovenRow f i), headSample s h q 2 x (wovenRow f i))) fun _ => 1023

/-- What a head's stream carries in a frame. -/
def headData (s : State) (h q : Nat) : FrameData := { format := (s.headObj h).cfg.format, lines := headLines s h q }

/-- The handles of a head's streams: one raster, or four quadrants (R284). -/
def headStreams (h : Nat) (split : Bool) : List Nat := if split then (List.range 4).map fun q => 0x2000 + h * 8 + 2 * q else [0x2000 + h * 8]

/-- What a generator's stream carries in a frame (R181). -/
def genData (g : GenObj) : FrameData := { format := g.format, lines := (List.range (fmtH g.format)).map (patternLine g) }

/-- The quadrant of a head's handle. -/
def quadOf (src : Nat) : Nat := (src - 0x2000) % 8 / 2

end Sys2Proof.Machine
end

