-- ==== Sys2Proof/Machine/Composer.lean ====
section
/-! DEFINITION.  Composer heads: the pending copy and its commit, layer readiness and fallbacks, graphics flips, Hallmark images,
Assay runs, gating, and their commands (spec/10_pewter_composer.md). -/

namespace Sys2Proof.Machine
open Sys2Proof

/-! ### A head's copies (R288, R289) -/

/-- A layer slot in service. -/
def State.layer (s : State) (h slot : Nat) : LayerRt := tget {} (s.head h).layers slot

/-- Change a layer slot in service. -/
def State.onLayer (s : State) (h slot : Nat) (f : LayerRt → LayerRt) : State :=
  s.onHead h fun r => { r with layers := tmod {} r.layers slot f }

/-- The copy that a write to the pending copy starts from: the pending one, else the one about to apply, else the active one. -/
def pendingCfg (s : State) (h : Nat) : HeadCfg :=
  match (s.head h).pend, (s.head h).commit with
  | some c, _ => c
  | none, some k => k.cfg
  | none, none => (s.headObj h).cfg

/-- The generation that the commands on a head compare with. -/
def headGen (c : Cmd) (s : State) : Option Nat := if c.u8 0 < 32 then some (s.headObj (c.u8 0)).gen else none

/-- Another session owns the head's pending copy: its number (R288). -/
def ownedByOther (c : Cmd) (s : State) : Option Nat :=
  let o := (s.head (c.u8 0)).owner
  if o ≠ 0 ∧ o ≠ c.session then some o else none

/-- Write the pending copy: it belongs to the session from its first change on (R288). -/
def writePend (c : Cmd) (cfg : HeadCfg) (s : State) : State :=
  let h := c.u8 0
  let s1 := ungate h s
  if cfg = pendingCfg s h then s1
  else s1.onHead h fun r => { r with pend := some cfg, owner := if r.owner = 0 then c.session else r.owner }

/-- A write to the pending copy: its range checks, then the owner, then the state and format checks, then the write. -/
def pendWrite (c : Cmd) (range : List (Bool × Nat)) (rest : List (Bool × Status × Nat)) (cfg : HeadCfg) (s : State) : Res :=
  match firstBad ((decide (c.u8 0 < 32), 0x20) :: range) with
  | some off => rej .range off s
  | none => match ownedByOther c s with
    | some o => rej .busy o s
    | none => match rest.find? fun x => !x.1 with
      | some (_, st, off) => rej st off s
      | none => ok (writePend c cfg s)

/-- The input and output offsets of a matrix record stand in their ranges (R301): offsets of those that do not. -/
def matrixRange (c : Cmd) (at_ : Nat) : List (Bool × Nat) :=
  (List.range 6).map fun i => let v := c.i16 (at_ + 0x12 + 2 * i); (decide (-1024 ≤ v ∧ v ≤ 1023), 0x20 + at_ + 0x12 + 2 * i)

/-! ### SET_HEAD, SET_LAYER, SET_COEFFICIENTS, SET_LUT (R314 to R317) -/

/-- SET_HEAD (R314). -/
def setHeadInfo : CmdInfo := { opcode := 0x0A01, content := true, length := fun _ => 64, gen := headGen }

/-- The format rule of R285. -/
def headFormatOk (rate : Option Nat) (split : Bool) (f : Nat) : Bool :=
  decide (fmtScan f = 0) && decide (fmtSampling f ≠ 3) && decide (rate = some (fmtRate f)) && serialIn (if split then 2 else 8) f

/-- The chip applies a command that the helm admitted, out of a Tandem record: its jobs carry no number. [DEDUCED, log 76] -/
def replaying (s : State) : Bool := decide (s.mbox.nextJob = 0)

/-- The effect of SET_HEAD (R314); a head that failed its start check is retired and takes none (R423). [DEDUCED, log 70, 71] -/
def setHead (c : Cmd) (s : State) : Res :=
  let p := c.u8 1
  let split := decide (c.u8 2 = 1)
  pendWrite c ([(decide (p < 8 ∨ p = 255), 0x21), (decide (c.u8 2 ≤ 1), 0x22)] ++ matrixRange c 0x10)
    [(replaying s || !(s.head (c.u8 0)).retired, .state, 0xFFFF), (decide (p = 255) || (s.rate p).isSome, .state, 0x21), (decide (p = 255) || headFormatOk (s.rate p) split (c.u16 4), .format, 0x24)]
    { pendingCfg s (c.u8 0) with headSet := c.bytes 0 64, plane := if p = 255 then none else some p, split := split, format := c.u16 4,
                                 background := c.u32 8 % 2 ^ 30, outMatrix := c.bytes 0x10 32 } s

/-- SET_LAYER (R315). -/
def setLayerInfo : CmdInfo := { opcode := 0x0A02, content := true, length := fun _ => 64, gen := headGen }

/-- The rectangle lies in the raster, or in the slot's quadrant (R315): both measure the head's format. -/
def rectOk (cfg : HeadCfg) (b : List Byte) : Bool :=
  let r := layRect b
  decide (0 < r.2.2.1 ∧ 0 < r.2.2.2) && !cfg.headSet.isEmpty && decide (r.1 + r.2.2.1 ≤ fmtW cfg.format ∧ r.2.1 + r.2.2.2 ≤ fmtH cfg.format)

/-- The effect of SET_LAYER. [DEDUCED, log 70] -/
def setLayer (c : Cmd) (s : State) : Res :=
  let k := c.u8 2
  let cfg := pendingCfg s (c.u8 0)
  pendWrite c ([(decide (c.u8 1 < 128), 0x21), (decide (k ≤ 2), 0x22), (decide (k ≠ 2 ∨ c.u8 3 < 4), 0x23), (decide (c.u16 6 ≤ 1023), 0x26),
      (decide (k = 0) || rectOk cfg (c.bytes 0 64), 0x28), (decide (c.u8 0x18 < 16), 0x38), (decide (c.u8 0x19 < 4), 0x39), (decide (c.u8 0x1A ≤ 2), 0x3A)] ++
      (if k = 1 then matrixRange c 0x20 else []))
    [] { cfg with layers := tset [] cfg.layers (c.u8 1) (c.bytes 0 64) } s

/-- SET_COEFFICIENTS (R316). -/
def setCoefficientsInfo : CmdInfo := { opcode := 0x0A03, content := true, length := fun _ => 1032, gen := headGen }

/-- A coefficient of the record. -/
def coefAt (c : Cmd) (phase k : Nat) : Int := c.i16 (8 + (phase * 8 + k) * 2)

/-- The checks of one phase: each coefficient, then the sum, reported at its first coefficient. [DEDUCED, log 74] -/
def phaseChecks (c : Cmd) (phase : Nat) : List (Bool × Nat) :=
  ((List.range 8).map fun k =>
    (decide (-512 ≤ coefAt c phase k ∧ coefAt c phase k ≤ 511) && decide (c.u8 2 = 0 ∨ k < 6 ∨ coefAt c phase k = 0), 0x28 + (phase * 8 + k) * 2)) ++
  [(decide (((List.range 8).map (coefAt c phase)).sum = 256), 0x28 + phase * 16)]

/-- The effect of SET_COEFFICIENTS. [DEDUCED, log 74] -/
def setCoefficients (c : Cmd) (s : State) : Res :=
  let cfg := pendingCfg s (c.u8 0)
  let key := c.u8 1 * 2 + c.u8 2
  pendWrite c ([(decide (c.u8 1 < 16), 0x21), (decide (c.u8 2 ≤ 1), 0x22)] ++ (List.range 64).flatMap (phaseChecks c)) []
    { cfg with banks := tset [] cfg.banks key ((List.range 64).flatMap fun p => (List.range 8).map (coefAt c p)) } s

/-- SET_LUT (R317). -/
def setLutInfo : CmdInfo := { opcode := 0x0A04, content := true, length := fun _ => 4096, gen := headGen }

/-- The value an unlisted entry of a table has: that of a first start (R302). -/
def lutDefault (lut k : Nat) : Nat := if lut = 4 then min (k / 4) 1023 else k * 64 + k / 16

/-- Write entries of a table from `first` on. -/
def writeLut (lut : Nat) (t : List (Nat × Nat)) : Nat → List Nat → List (Nat × Nat)
  | _, [] => t
  | k, v :: r => writeLut lut (tset (lutDefault lut k) t k v) (k + 1) r

/-- The effect of SET_LUT. -/
def setLut (c : Cmd) (s : State) : Res :=
  let cfg := pendingCfg s (c.u8 0)
  let lut := c.u8 1
  let n := c.u16 6
  let vs := (List.range n).map fun i => c.u16 (0x10 + 2 * i)
  pendWrite c ([(decide (lut ≤ 4), 0x21), (decide (1 ≤ n ∧ n ≤ 2040) && decide (c.u16 4 + n ≤ if lut = 4 then 4097 else 1024), 0x26)] ++
      (if lut = 4 then vs.mapIdx fun i v => (decide (v ≤ 1023), 0x30 + 2 * i) else []))
    [] { cfg with luts := tset [] cfg.luts lut (writeLut lut (tget [] cfg.luts lut) (c.u16 4) vs) } s

/-! ### COMMIT_HEAD (R289, R321) -/

/-- COMMIT_HEAD (R321). -/
def commitHeadInfo : CmdInfo := { opcode := 0x0A09, content := true, length := fun _ => 8, gen := headGen }

/-- A layer slot destination of a head. -/
def headSlot (h d : Nat) : Bool := decide (destRange d = 2) && decide (slotHead d = h)

/-- A route or a queued take names a bay or a layer slot of the head (R289 order 1). -/
def headNamed (s : State) (h : Nat) : Bool :=
  routedSource s (headBay h) || queuedSource s (headBay h) || (s.obj.routes.any fun e => headSlot h e.1 && e.2.source.isSome) || queuedDest s (headSlot h)

/-- PLANE, FORMAT or SPLIT would change. -/
def reshapes (a b : HeadCfg) : Bool := decide (a.plane ≠ b.plane) || decide (a.format ≠ b.format) || decide (a.split ≠ b.split)

/-- The highest enabled video slot. -/
def topVideo (c : HeadCfg) : Nat := ((c.layers.filter fun e => layKind e.2 = 1).map Prod.fst).foldl max 0

/-- Orders 1 to 4 of R289: status and DETAIL. -/
def commitFault (s : State) (h : Nat) (c : HeadCfg) : Option (Status × Nat) :=
  if reshapes (s.headObj h).cfg c ∧ headNamed s h = true then some (.state, 0xFFFF)
  else match (List.range 4).findSome? (overCovered c) with
    | some slot => some (.capacity, 0xFFFF + slot * 65536)
    | none =>
      let n := headLoad s h c fun _ => none
      if linePool < n.1 ∨ (c.plane.isSome ∧ headBudget s c < n.2) then some (.capacity, 0xFFFF + topVideo c * 65536) else none

/-- A layer after a commit: judged from its source's present format, not fallen back. -/
def freshLayer (s : State) (h : Nat) (e : Nat × LayerRt) : Nat × LayerRt :=
  (e.1, { e.2 with format := ((s.route (slotHandle h e.1)).source.bind (sourceFormat s)).getD 0, changed := false, twoTap := false, raised := false, noRoom := false })

/-- Buffers exchanged: the planes of `flips` show their other buffer, whose record is cleared with the new back buffer's (R307). -/
def flipPlanes (h flips : Nat) (s : State) : State :=
  let planes := (List.range 4).filter fun g => bitOf flips g
  (s.onHeadObj h fun o => { o with front := Nat.xor o.front flips }).onHead h fun r =>
    { r with dirty := r.dirty.filter fun e => !planes.contains (e.1 / 2) }

/-- A commit applies: the whole configuration, the generation, the flips; its command completes (R289, R307). -/
def applyCommit (h : Nat) (k : HeadCommit) (s : State) : State :=
  let g := genNext (s.headObj h).gen
  let s1 := ((flipPlanes h k.flips s).onHeadObj h fun o => { o with cfg := k.cfg, gen := g }).touch 0x0A h
  let s2 := s1.onHead h fun r =>
    let same := decide (r.pend = some k.cfg) || r.pend.isNone
    { r with commit := none, pend := if same then none else r.pend, owner := if same then 0 else r.owner,
             layers := r.layers.map (freshLayer s h) }
  finishNow k.job .done g 0 s2

/-- A commit that changes PLANE, FORMAT or SPLIT applies at once. [DEDUCED, log 70] -/
def reshapeHead (h : Nat) (k : HeadCommit) (s : State) : State :=
  (applyCommit h k s).onHead h fun r => { r with legacy := s.obj.trims.legacy, legDue := none, done := none, layers := [] }

/-- The partner would have to receive graphics pages first (R307). -/
def hasPartner (s : State) : Bool := decide (s.twin.st = .paired)

/-- Pages recorded in the back buffers of the planes of `flips`, by buffer (head × 8 + buffer). -/
def flipPages (s : State) (h flips : Nat) : List (Nat × List Nat) :=
  (((List.range 4).filter fun g => bitOf flips g).map fun g =>
    let b := 2 * g + (1 - bit (bitOf (s.headObj h).front g))
    (h * 8 + b, tget [] (s.head h).dirty b)).filter fun e => !e.2.isEmpty

/-- The frame at which a commit admitted now applies. -/
def commitFrame (s : State) (cfg : HeadCfg) : Int :=
  match cfg.plane with
  | some p => armFrame s p
  | none => 0

/-- A commit admitted: merged with one that has not applied yet, whose command is superseded (R289). [DEDUCED, log 70] -/
def queueCommit (c : Cmd) (h flips : Nat) (cfg : HeadCfg) (s : State) : State :=
  let s1 := match (s.head h).commit with
    | some k => finish k.job .superseded (byCommand c) s
    | none => s
  let old := ((s.head h).commit.map fun k => (k.flips, k.waiting)).getD (0, false)
  let pages := if hasPartner s then flipPages s h flips else []
  let waits := old.2 || !pages.isEmpty || (!s.isHelm && decide (flips ≠ 0))
  let s2 := s1.onTwin fun t => { t with backlog := pages.foldl (fun b e => tset [] b e.1 e.2) t.backlog, pagesSent := t.pagesSent ++ pages }
  s2.onHead h fun r => { r with commit := some { job := s.mbox.nextJob, frame := commitFrame s cfg, flips := Nat.lor old.1 flips, waiting := waits,
                                                 session := c.session, cfg := cfg } }

/-- The effect of COMMIT_HEAD. [DEDUCED, log 70] -/
def commitHead (c : Cmd) (s : State) : Res :=
  let h := c.u8 0
  let flips := fieldOf (c.u8 1) 1 4
  let discard := bitOf (c.u8 1) 0
  if 32 ≤ h then rej .range 0x20 s
  else if discard ∧ flips ≠ 0 then rej .range 0x21 s
  else match ownedByOther c s with
    | some o => rej .busy o s
    | none =>
      let s0 := ungate h s
      if discard then ok (s0.onHead h fun r => { r with pend := none, owner := 0 })
      else if (s.head h).pend.isNone ∧ flips = 0 then ok s0
      else
        let cfg := pendingCfg s h
        match commitFault s h cfg with
        | some (st, d) => rej st d s
        | none =>
          if flips ≠ 0 ∧ ((s.head h).commit.map HeadCommit.waiting).getD false then rej .busy 0 s
          else if reshapes (s.headObj h).cfg cfg then
            let k : HeadCommit := { flips := Nat.lor flips (((s.head h).commit.map HeadCommit.flips).getD 0), cfg := cfg }
            let s1 := match (s.head h).commit with
              | some j => finish j.job .superseded (byCommand c) s0
              | none => s0
            ok (reshapeHead h k s1)
          else queued (.commitHead h) (queueCommit c h flips cfg s0)

/-- The last page of a head's flip has been acknowledged: the commit applies at the first frame whose deadline follows (R307). -/
def graphicsDone (h : Nat) (s : State) : State :=
  match (s.head h).commit with
  | some k =>
    if k.waiting then
      let n := match k.cfg.plane with
        | some p => armFrameAt s p (s.now + 1)
        | none => 0
      (s.onTwin fun t => { t with backlog := t.backlog.filter fun e => e.1 / 8 ≠ h }).onHead h fun r =>
        { r with commit := some { k with waiting := false, frame := n } }
    else s
  | none => s

/-- A host write to HDM records the pages of back buffers that it touches (R307). -/
def markGraphics (addr len : Nat) (s : State) : State :=
  ((List.range ((addr % 4096 + len + 4095) / 4096)).map fun i => addr / 4096 + i).foldl (fun s page =>
    let a := page * 4096
    if 0x40000000 ≤ a ∧ a < 0x40000000 + 32 * 0x1E000000 then
      let h := (a - 0x40000000) / 0x1E000000
      let b := (a - 0x40000000) % 0x1E000000 / 0x2000000
      if b < 8 ∧ bitOf (s.headObj h).front (b / 2) ≠ decide (b % 2 = 1) then
        s.onHead h fun r => { r with dirty := tmod [] r.dirty b fun ps => setAdd ps ((a - 0x40000000) % 0x1E000000 % 0x2000000 / 4096) }
      else s
    else s) s

/-! ### READ_HEAD (R322) -/

/-- READ_HEAD (R322). -/
def readHeadInfo : CmdInfo := { opcode := 0x0A08, readOnly := true, length := fun _ => 8 }

/-- The SET_HEAD payload of a head never set: disabled, with the output matrix of a first start. -/
def emptyHeadSet (h : Nat) : List Byte := (BitVec.ofNat 8 h :: 0xFF#8 :: List.replicate 14 0#8) ++ outMatrix0 ++ List.replicate 16 0#8

/-- The SET_LAYER payload of a slot never set: off, with the layer matrix of a first start. -/
def emptyLayer (h slot : Nat) : List Byte := (BitVec.ofNat 8 h :: BitVec.ofNat 8 slot :: List.replicate 30 0#8) ++ layerMatrix0

/-- The 8,256-byte reply. -/
def headBytes (h : Nat) (c : HeadCfg) : List Byte :=
  (if c.headSet = [] then emptyHeadSet h else c.headSet) ++ (List.range 128).flatMap fun slot => if c.layer slot = [] then emptyLayer h slot else c.layer slot

/-- The effect of READ_HEAD. -/
def readHead (c : Cmd) (s : State) : Res :=
  let h := c.u8 0
  if 32 ≤ h then rej .range 0x20 s
  else if 1 < c.u8 1 then rej .range 0x21 s
  else reply c 4 8256 0 (headBytes h (if c.u8 1 = 1 then (s.headObj h).cfg else pendingCfg s h)) s

/-! ### SET_ASSAY (R318) -/

/-- An Assay region in service. -/
def State.assayRt (s : State) (h r : Nat) : AssayRt := tget {} (s.head h).assay r

/-- Change an Assay region in service. -/
def State.onAssay (s : State) (h r : Nat) (f : AssayRt → AssayRt) : State := s.onHead h fun x => { x with assay := tmod {} x.assay r f }

/-- SET_ASSAY (R318). -/
def setAssayInfo : CmdInfo :=
  { opcode := 0x0A05, content := true, length := fun _ => 24,
    gen := fun c s => if c.u8 0 < 32 ∧ c.u8 1 < 16 then some (tget {} (s.headObj (c.u8 0)).assay (c.u8 1)).gen else none }

/-- The effect of SET_ASSAY: from frame n of R116. [DEDUCED, log 75] -/
def setAssay (c : Cmd) (s : State) : Res :=
  let h := c.u8 0
  let r := c.u8 1
  let m := c.u8 2
  let cfg := (s.headObj h).cfg
  match firstBad [(decide (h < 32), 0x20), (decide (r < 16), 0x21), (decide (m ≤ 2), 0x22), (decide (m ≠ 1 ∨ 1 ≤ c.u16 4), 0x24),
      (decide (m = 0 ∨ (c.u16 8 + c.u16 0x0C ≤ rasterW cfg ∧ c.u16 0x0A + c.u16 0x0E ≤ rasterH cfg)), 0x28)] with
  | some off => rej .range off s
  | none =>
    let old : AssayObj := tget {} (s.headObj h).assay r
    let o : AssayObj := { mode := m, frames := if m = 1 then c.u16 4 else 0, x := c.u16 8, y := c.u16 0x0A, w := c.u16 0x0C, h := c.u16 0x0E,
                          expected := c.u32 0x10, gen := genNext old.gen }
    let s1 := match (s.assayRt h r).job with
      | some id => finish id .superseded (byCommand c) s
      | none => s
    let s2 := ((ungate h s1).onHeadObj h fun x => { x with assay := tset {} x.assay r o }).touch 0x0A (0x10000 + h * 16 + r)
    let s3 := s2.onAssay h r fun a => { a with since := some (commitFrame s cfg), job := if m = 1 then some s.mbox.nextJob else none }
    if m = 1 then queued (.assay h r) s3 else ok s3

/-- A setting of a region comes into force (R318). [DEDUCED, log 75] -/
def startAssay (h r : Nat) (s : State) : State :=
  let o : AssayObj := tget {} (s.headObj h).assay r
  s.onAssay h r fun a => { a with since := none, setting := o, st := if o.mode = 0 then 0 else 1, left := o.frames, runMismatches := 0, coming := none }

/-- The result of a region's frame is published: counted, a mismatch raised at most once a second, a counted run ended (R312, R318). [DEDUCED, log 75] -/
def publishAssay (h r : Nat) (s : State) : State :=
  let a := s.assayRt h r
  match a.coming with
  | none => s
  | some crc =>
    let bad := decide (crc ≠ a.setting.expected)
    let s1 := s.onAssay h r fun a => { a with coming := none, lastCrc := crc, okCount := if bad then a.okCount else inc a.okCount,
                                              mismatches := if bad then inc a.mismatches else a.mismatches, runMismatches := if bad then inc a.runMismatches else a.runMismatches }
    let due : Bool := match a.lastRaised with
      | some t => decide (t + 48000 ≤ s.elapsed)
      | none => true
    let s2 := if bad ∧ due then raise 0x0A85 2 (h + 256 * r) crc (s1.onAssay h r fun a => { a with lastRaised := some s.elapsed }) else s1
    if a.setting.mode = 1 then
      if a.left ≤ 1 then
        let n := (s2.assayRt h r).runMismatches
        let s3 := raise 0x0A86 0 (h + 256 * r) n (s2.onAssay h r fun a => { a with left := 0, st := 2, job := none })
        match a.job with
        | some id => finish id .done (n + 2 ^ 32 * crc) s3
        | none => s3
      else s2.onAssay h r fun a => { a with left := a.left - 1 }
    else s2

/-! ### Hallmark commands (R310, R319, R320) -/

/-- The Hallmark write key in force (R310, R480). -/
def hallKey (s : State) : Option (List Byte) := (tget {} s.obj.keys 2 : KeySlot).current

/-- WRITE_HALLMARK (R319). -/
def writeHallmarkInfo : CmdInfo := { opcode := 0x0A06, content := true, length := fun _ => 4096, gen := headGen }

/-- SET_HALLMARK_REGION (R320). -/
def setHallmarkRegionInfo : CmdInfo := { opcode := 0x0A07, content := true, length := fun _ => 80, gen := headGen }

/-- The checks of R310 with the MAC at an offset of the payload, and what follows them. [DEDUCED, log 76] -/
def hallAuth (c : Cmd) (macAt : Nat) (s : State) (body : State → Res) : Res :=
  let h := c.u8 0
  if 32 ≤ h then rej .range 0x20 s
  else if replaying s then body s
  else match hallKey s with
    | none => rej .state 0xFFFF s
    | some key =>
      if macOf key (c.bytes 0 macAt) ≠ c.bytes macAt 48 then rej .auth (0x20 + macAt) (raise 0x0A84 3 h 1 s)
      else if c.u64 0x10 ≤ s.obj.hallCounter then rej .auth 0x30 (raise 0x0A84 3 h 2 s)
      else body s

/-- A Hallmark command is accepted: its COUNTER is the last one. [DEDUCED, log 76] -/
def hallAccept (c : Cmd) (s : State) : State := (ungate (c.u8 0) (s.onObj fun o => { o with hallCounter := c.u64 0x10 })).touch 0x0A 0x20000

/-- A committed image becomes active, and the pending one is reloaded from it.  In the waiting image a region's `warning` says that its pixels are not newly written: only
then does a warning pattern stay (R311). -/
def hallActivate (h : Nat) (img : List (Nat × HallReg)) (s : State) : State :=
  let old := (s.headObj h).hallActive
  let new := img.map fun e => (e.1, { e.2 with warning := e.2.warning && (tget {} old e.1 : HallReg).warning })
  ((s.onHeadObj h fun o => { o with hallActive := new }).onHead h fun r =>
    { r with hallPend := new, hallNew := [], hallLost := r.hallLost.filter fun k => (tget {} img k).warning }).touch 0x0A (0x30000 + h)

/-- COMMIT: the pending image becomes active at frame n of R116, or at once on a head that has no plane. -/
def hallCommit (h : Nat) (s : State) : State :=
  let img := (s.head h).hallPend.map fun e => (e.1, { e.2 with warning := !(s.head h).hallNew.contains e.1 })
  let s1 := s.onHead h fun r => { r with hallNew := [] }
  match (s.headObj h).cfg.plane with
  | some p => s1.onHead h fun r => { r with hallQueue := r.hallQueue ++ [(armFrame s p, img)] }
  | none => hallActivate h img s1

/-- Write pixels in raster order of a rectangle w wide at (x, y) of a region `rw` wide. -/
def writePixels (rw x y w : Nat) (t : List (Nat × Nat)) : Nat → List Nat → List (Nat × Nat)
  | _, [] => t
  | i, v :: r => writePixels rw x y w (tset 0 t ((y + i / w) * rw + x + i % w) v) (i + 1) r

/-- The effect of WRITE_HALLMARK. [DEDUCED, log 76] -/
def writeHallmark (c : Cmd) (s : State) : Res :=
  hallAuth c 0xFD0 s fun s =>
    let h := c.u8 0
    let k := c.u8 2
    let reg : HallReg := tget {} (s.head h).hallPend k
    let n := c.u16 8 * c.u16 0x0A
    match firstBad [(decide (k < 8) && reg.enable, 0x22), (decide (n ≤ 2000) && decide (c.u16 4 + c.u16 8 ≤ reg.w ∧ c.u16 6 + c.u16 0x0A ≤ reg.h), 0x24)] with
    | some off => rej .range off s
    | none =>
      let base := if bitOf (c.u8 1) 1 then [] else reg.pixels
      let px := writePixels reg.w (c.u16 4) (c.u16 6) (c.u16 8) base 0 ((List.range n).map fun i => c.u16 (0x18 + 2 * i))
      let fresh := bitOf (c.u8 1) 1 || decide (0 < n)
      let s1 := (hallAccept c s).onHead h fun r =>
        { r with hallPend := tset {} r.hallPend k { reg with pixels := px }, hallNew := if fresh then setAdd r.hallNew k else r.hallNew }
      ok (if bitOf (c.u8 1) 0 then hallCommit h s1 else s1)

/-- The other enabled regions of a pending image. -/
def otherRegions (img : List (Nat × HallReg)) (k : Nat) : List HallReg := (img.filter fun e => e.1 ≠ k ∧ e.2.enable = true).map Prod.snd

/-- A region may stand where it is put (R309, R320). -/
def regionFits (cfg : HeadCfg) (img : List (Nat × HallReg)) (k : Nat) (r : HallReg) : Bool :=
  decide (r.x + r.w ≤ rasterW cfg ∧ r.y + r.h ≤ rasterH cfg) && ((otherRegions img k).all fun q => !(overlap r.x r.w q.x q.w && overlap r.y r.h q.y q.h)) &&
    decide (r.w * r.h + ((otherRegions img k).map fun q => q.w * q.h).sum ≤ 65536)

/-- The effect of SET_HALLMARK_REGION. -/
def setHallmarkRegion (c : Cmd) (s : State) : Res :=
  hallAuth c 0x20 s fun s =>
    let h := c.u8 0
    let k := c.u8 1
    let img := (s.head h).hallPend
    let on := decide (c.u8 2 = 1)
    let r : HallReg := { enable := on, x := c.u16 4, y := c.u16 6, w := c.u16 8, h := c.u16 0x0A }
    match firstBad [(decide (k < 8), 0x21), (decide (c.u8 2 ≤ 1), 0x22), (!on || regionFits (s.headObj h).cfg img k r, 0x24)] with
    | some off => rej .range off s
    | none =>
      let s1 := (hallAccept c s).onHead h fun x => { x with hallPend := tset {} x.hallPend k (if on then r else {}), hallNew := setAdd x.hallNew k }
      ok (if bitOf (c.u8 3) 0 then hallCommit h s1 else s1)

/-- An uncorrectable error in a region's active pixels: the region shows the warning pattern from the next frame on (R311). -/
def hallWarn (h k : Nat) (s : State) : State := raise 0x0A83 3 h k (s.onHead h fun r => { r with hallLost := setAdd r.hallLost k })

/-- The warning patterns that begin with a frame of the head (R311). -/
def showWarnings (h : Nat) (s : State) : State :=
  (s.onHeadObj h fun o => { o with hallActive := (s.head h).hallLost.foldl (fun t k => tmod {} t k fun r => { r with warning := true }) o.hallActive }).onHead h
    fun r => { r with hallLost := [] }

/-! ### Fallbacks (R300) -/

/-- What a layer needs as it now stands. -/
def layerNeed (s : State) (h : Nat) (e : Nat × List Byte) : Nat × Nat :=
  let l := s.layer h e.1
  if l.noRoom then (0, 0) else layerLoad s e.2 (s.route (slotHandle h e.1)).source l.twoTap l.raised

/-- What a head's layers need as they now stand: pixels and bytes per frame. -/
def headNeed (s : State) (h : Nat) : Nat × Nat :=
  ((s.headObj h).cfg.layers.map (layerNeed s h)).foldl (fun a x => (a.1 + x.1, a.2 + x.2)) (0, 0)

/-- The pool or the budget is exceeded. -/
def overLimit (s : State) (h : Nat) : Bool := decide (linePool < (headNeed s h).1) || decide (headBudget s (s.headObj h).cfg < (headNeed s h).2)

/-- The level the rule gives a layer with its source's present format. -/
def presentLevel (s : State) (h slot : Nat) (b : List Byte) (raised : Bool) : Nat :=
  match (s.route (slotHandle h slot)).source with
  | some src => match sourceFormat s src with
    | some f => layerLevel s b src f raised
    | none => 0
  | none => 0

/-- Note the fallbacks of a layer for the Tandem record. -/
def noteFall (h slot : Nat) (s : State) : State :=
  let l := s.layer h slot
  s.onTwin fun t => { t with layerFalls := t.layerFalls ++ [(slotHandle h slot, l.twoTap, l.raised, l.noRoom)] }

/-- A layer whose format changed falls back, step by step, while room is still wanting. -/
def fallLayer (h slot : Nat) (b : List Byte) : Nat → State → State
  | 0, s => s
  | k + 1, s =>
    let l := s.layer h slot
    let d := slotHandle h slot
    if overLimit s h = false ∨ l.noRoom then s
    else if l.twoTap = false ∧ layTwo b = false then
      fallLayer h slot b k (noteFall h slot (raise 0x0A82 2 d 1 (s.onLayer h slot fun l => { l with twoTap := true, fallbacks := inc l.fallbacks })))
    else if l.raised = false ∧ presentLevel s h slot b false = 0 then
      fallLayer h slot b k (noteFall h slot (raise 0x0A82 2 d 2 (s.onLayer h slot fun l => { l with raised := true, fallbacks := inc l.fallbacks })))
    else noteFall h slot (raise 0x0A81 1 d 2 (s.onLayer h slot fun l => { l with noRoom := true, fallbacks := inc l.fallbacks }))

/-- Undo a fallen-back layer's last step. -/
def undoFall (l : LayerRt) : Option LayerRt :=
  if l.noRoom then some { l with noRoom := false } else if l.raised then some { l with raised := false }
  else if l.twoTap then some { l with twoTap := false } else none

/-- Restore a fallen-back layer, step by step, while room allows. -/
def restoreLayer (h slot : Nat) : Nat → State → State
  | 0, s => s
  | k + 1, s => match undoFall (s.layer h slot) with
    | none => s
    | some l =>
      let t := s.onLayer h slot fun _ => l
      if overLimit t h then s else restoreLayer h slot k (noteFall h slot t)

/-- The source format of a layer has changed since the head's commit or the take (R300). -/
def noteFormat (h : Nat) (s : State) (e : Nat × List Byte) : State :=
  if layKind e.2 ≠ 1 then s
  else match (s.route (slotHandle h e.1)).source.bind (sourceFormat s) with
    | none => s
    | some f => if (s.layer h e.1).format = f then s else s.onLayer h e.1 fun l => { l with format := f, changed := l.changed || decide (l.format ≠ 0) }

/-- The evaluation of a head's layers at a deadline. [DEDUCED, log 72] -/
def judgeLayers (h : Nat) (s : State) : State :=
  let ls := (s.headObj h).cfg.layers
  let s1 := ls.foldl (noteFormat h) s
  if overLimit s1 h then (ls.reverse.filter fun e => (s1.layer h e.1).changed).foldl (fun s e => fallLayer h e.1 e.2 3 s) s1
  else ls.foldl (fun s e => restoreLayer h e.1 3 s) s1

/-! ### Frame choices (R294, R295) -/

/-- A layer enters or stays in its absence fill. -/
def layerAbsent (h slot : Nat) (s : State) : State :=
  if (s.layer h slot).absent then s else raise 0x0A81 1 (slotHandle h slot) 1 (s.onLayer h slot fun l => { l with absent := true })

/-- A layer is shown a newer frame, or repeats the one it has. [DEDUCED, log 73] -/
def showFrame (h slot : Nat) (new : Option (Nat × Nat × Nat)) (s : State) : State :=
  match new with
  | some (src, seq, level) =>
    let f := ((s.pyramid src).frames.find? fun x => x.seq = seq).getD { seq := seq, damagedLines := 1 }
    s.onLayer h slot fun l => { l with src := some src, frame := some seq, held := f, level := level, stale := false, run := 0, absent := false, ready := true }
  | none =>
    let s1 := s.onLayer h slot fun l => { l with ready := false, run := satAdd 16 l.run 1, repeats := inc l.repeats }
    let l := s1.layer h slot
    if l.frame.isNone ∨ 8 < l.run then layerAbsent h slot s1 else s1

/-- The newer frame that the rule of R294 gives a layer for output frame n of its head's plane. -/
def newerFrame (s : State) (p : Nat) (n : Int) (l : LayerRt) (src : Nat) : Option Nat :=
  match s.rate p with
  | none => none
  | some q =>
    let len : Int := frameLen32 q
    let b := start32 q (startNumOf s p q n) - len / 2
    let fs := (s.pyramid src).frames
    match (if l.src = some src then l.frame else none) with
    | some last =>
      let f := (fs.find? fun f => f.seq = last).getD { seq := last }
      let r := pickPaired b (len / 16) (framesAfter last fs) f 0
      if r.2.1 = 0 then some r.1.seq else none
    | none => (newestBy b fs).map fun f => f.seq

/-- The helm's choice for one layer at the deadline of frame n, noted for the Tandem record: 2 × frame + 1, or 0 for none. [DEDUCED, log 73] -/
def chooseLayer (h p : Nat) (n : Int) (s : State) (e : Nat × List Byte) : State :=
  let slot := e.1
  let d := slotHandle h slot
  if layKind e.2 ≠ 1 then s
  else match (s.route d).source with
    | none => layerAbsent h slot (s.onLayer h slot fun l => { l with ready := false, src := none, frame := none })
    | some src =>
      let l := s.layer h slot
      let new := (newerFrame s p n l src).map fun f => (src, f, presentLevel s h slot e.2 l.raised)
      let s1 := showFrame h slot new s
      s1.onTwin fun t => { t with layerFrames := t.layerFrames ++ [(d, match new with
        | some x => 2 * x.2.1 + 1
        | none => 0)] }

/-- Heads whose plane is `p`. -/
def headsOn (s : State) (p : Nat) : List Nat := (s.obj.heads.filter fun e => e.2.cfg.plane = some p).map Prod.fst

/-- The composer's part of a commit deadline: fallbacks, frame choices, and the commits that the record carries. -/
def headDeadline (p : Nat) (n : Int) (s : State) : State :=
  ((headsOn s p).filter fun h => (s.head h).gated = false ∧ (s.head h).retired = false).foldl (fun s h =>
    let s1 := (s.headObj h).cfg.layers.foldl (chooseLayer h p n) (judgeLayers h s)
    match (s1.head h).commit with
    | some k => if k.frame ≤ n ∧ k.waiting = false then s1.onTwin fun t => { t with headCommits := t.headCommits ++ [(h, n, k.flips)] } else s1
    | none => s1) s

/-! ### A frame of a head begins (R286, R296, R305, R311 to R313, R323) -/

/-- What becomes due on a head at the start of frame n. -/
def headDue (h : Nat) (n : Int) (s : State) : State :=
  let s1 := match (s.head h).commit with
    | some k => if k.frame ≤ n ∧ k.waiting = false then applyCommit h k s else s
    | none => s
  let s2 := match (s1.head h).legDue with
    | some m => if m ≤ n then s1.onHead h fun r => { r with legacy := s.obj.trims.legacy, legDue := none } else s1
    | none => s1
  let due := (s2.head h).hallQueue.filter fun e => e.1 ≤ n
  let s3 := due.foldl (fun s e => hallActivate h e.2 s) ((showWarnings h s2).onHead h fun r => { r with hallQueue := r.hallQueue.filter fun e => ¬e.1 ≤ n })
  (List.range 16).foldl (fun s r => match (s.assayRt h r).since with
    | some m => if m ≤ n then startAssay h r s else s
    | none => s) s3

/-- A row of a level of the source is among those that a layer reads. -/
def rowRead (b : List Byte) (r : LayerRead) (row : Nat) : Bool :=
  let last := halved (fmtH r.format) r.level - 1
  let first := lay b 0x12 2 / 2 ^ r.level
  decide (min first last ≤ row) && decide (row ≤ min (first + halved (cropH b r.format) r.level - 1) last)

/-- A video layer reads a line that was damaged on this chip, a marked frame of another head, or a sample that an uncorrectable error
took (R296). -/
def layerDamaged (s : State) (b : List Byte) (l : LayerRt) : Bool :=
  match layerRead s b l with
  | none => false
  | some r =>
    let f := r.frame
    decide (f.damagedLines ≠ 0) && (f.data.damaged.isEmpty || f.data.damaged.any fun i => rowRead b r (wovenRow r.format i / 2 ^ r.level)) ||
      f.blackened.any fun e => decide (e.1 = r.level) && rowRead b r e.2.2

/-- A graphics layer reads a word of its plane that is uncorrectable (R209, R296). -/
def graphicsDamaged (s : State) (h : Nat) (e : Nat × List Byte) : Bool :=
  let o := s.headObj h
  let g := lay e.2 3 1
  let base := graphicsBase h g (bit (bitOf o.front g))
  let q := if o.cfg.split then e.1 / 32 else 0
  let x0 := (layRect e.2).1 + q % 2 * fmtW o.cfg.format
  let y0 := (layRect e.2).2.1 + q / 2 * fmtH o.cfg.format
  s.host.poison.any fun w => (List.range (layH e.2)).any fun j =>
    let a := base + ((y0 + j) * rasterW o.cfg + x0) * 2
    decide (32 * w < a + 2 * layW e.2) && decide (a < 32 * (w + 1))

/-- A layer of the frame read what may differ on the partner (R296). -/
def slotDamaged (s : State) (h : Nat) (e : Nat × List Byte) : Bool :=
  if layKind e.2 = 1 then layerDamaged s e.2 (s.layer h e.1) else layKind e.2 == 2 && graphicsDamaged s h e

/-- The head's frame is marked damaged, and counted (R296). -/
def markHead (h : Nat) (s : State) : State :=
  if (s.head h).dmg then s else s.onHead h fun r => { r with dmg := true, dmgFrames := inc r.dmgFrames, dmgSecond := inc r.dmgSecond }

/-- The supplies' heat has the heads compose every second frame (R313). -/
def throttling (s : State) : Bool := decide (2 ≤ s.clocks.throttle ∧ s.clocks.throttle ≤ 3)

/-- A head composes a frame. -/
def composeFrame (h : Nat) (s : State) : State :=
  let cfg := (s.headObj h).cfg
  let shown := cfg.layers.filter fun e => layKind e.2 = 1
  let s1 := shown.foldl (fun s e => s.onLayer h e.1 fun l => if l.absent ∨ l.noRoom then { l with absentFrames := inc l.absentFrames } else l) s
  let s2 := s1.onHead h fun r => { r with frames := wrapAdd 32 r.frames 1, dmg := false, throttleOdd := throttling s,
                                          shown := (headStreams h cfg.split).map fun src => headData s h (quadOf src) }
  let s3 := if cfg.layers.any (slotDamaged s h) then markHead h s2 else s2
  ((List.range 16).filter fun r => (s3.assayRt h r).st = 1).foldl (fun s r => s.onAssay h r fun a => { a with coming := some (assayCrc s h a.setting) }) s3

/-- A head repeats its last frame, marked damaged (R313); its regions' results repeat with it. [DEDUCED, log 73] -/
def repeatFrame (h : Nat) (s : State) : State :=
  let s1 := markHead h (s.onHead h fun r => { r with dmg := false, throttleOdd := false })
  ((List.range 16).filter fun r => (s1.assayRt h r).st = 1).foldl (fun s r => s.onAssay h r fun a => { a with coming := some a.lastCrc }) s1

/-- A head is idle: no route, queued take or layer slot names its bays, and no Assay region runs (R313). -/
def headIdle (s : State) (h : Nat) : Bool :=
  !(routedSource s (headBay h) || queuedSource s (headBay h)) && (List.range 16).all fun r => (s.assayRt h r).st ≠ 1 ∧ (s.assayRt h r).since.isNone

/-- The frame that a head composed is complete in the pyramids of its streams (R294). -/
def headCompletes (h : Nat) (at_ : Int) (s : State) : State :=
  let r := s.head h
  if r.frames = 0 ∨ r.gated ∨ r.retired then s
  else ((headStreams h (s.headObj h).cfg.split).zip r.shown).foldl (fun s e =>
    pushFrame e.1 { seq := r.frames, start := at_, complete := true, damagedLines := bit r.dmg, data := e.2 } s) s

/-- The Chart record of a head (R323). -/
def headRecord (s : State) (h : Nat) : List Byte :=
  let o := s.headObj h
  let r := s.head h
  let need := headNeed s h
  let warn := o.hallActive.any fun e => e.2.enable && e.2.warning
  let flags := bit o.cfg.plane.isSome + 2 * bit o.cfg.split + 4 * bit r.gated + 8 * bit (throttling s) + 16 * bit r.legacy +
    32 * bit r.dmg + 64 * bit warn
  let regions := (List.range 16).flatMap fun k =>
    let a := s.assayRt h k
    let b := 0x40 + k * 16
    [(b, 4, a.lastCrc), (b + 4, 4, a.okCount), (b + 8, 4, a.mismatches), (b + 0x0C, 1, a.st)]
  let slots := (List.range 128).flatMap fun k =>
    let l := s.layer h k
    let kind := layKind (o.cfg.layer k)
    let b := 0x140 + k * 24
    [(b, 2, ((s.route (slotHandle h k)).source).getD 0), (b + 2, 1, bit (kind ≠ 0) + 2 * bit (l.ready || decide (kind = 2)) + 4 * bit (l.absent || l.noRoom) + 8 * bit l.twoTap +
      16 * bit l.raised + 32 * bit (kind = 2)), (b + 3, 1, l.level), (b + 4, 2, l.run), (b + 8, 4, l.repeats), (b + 0x0C, 4, l.absentFrames), (b + 0x10, 4, l.fallbacks),
      (b + 0x14, 4, l.frame.getD 0)]
  recordBytes 0x1000 ([(8, 8, s.now), (0x10, 4, r.frames), (0x14, 4, o.gen), (0x18, 4, need.1), (0x1C, 4, need.2), (0x20, 4, headBudget s o.cfg), (0x24, 4, r.dmgFrames),
    (0x28, 1, o.front), (4, 4, flags)] ++ regions ++ slots)

/-- The frame tick F(n) of a head: the last frame published and complete, what is due applied, frame n begun (R286, R313, R323). -/
def headFrame (h : Nat) (n at_ : Int) (s : State) : State :=
  let s1 := (List.range 16).foldl (fun s r => publishAssay h r s) s
  let s2 := headCompletes h at_ (s1.chartWrite (0x23C0000 + h * 0x1000) (headRecord s1 h))
  let s3 := headDue h n s2
  let s4 := if (s3.head h).gated || (s3.head h).retired then s3 else if (s3.head h).throttleOdd && throttling s3 then repeatFrame h s3 else composeFrame h s3
  s4.onHead h fun r => { r with done := some n, gated := s4.obj.trims.eco && headIdle s4 h, pool := (headNeed s4 h).1, cost := (headNeed s4 h).2 }

/-- A generator's frame is complete in its pyramid (R182, R294). -/
def genCompletes (p : Nat) (s : State) : State :=
  let n := (s.planeRt p).frame
  let at_ := match s.rate p with
    | some q => start32 q (s.planeRt p).startNum
    | none => 0
  ((s.obj.gens.filter fun e => e.2.plane = some p).map Prod.fst).foldl (fun s g =>
    (List.range 8).foldl (fun s b => pushFrame (0x2100 + g * 8 + b) { seq := ofInt 32 (n - 1), start := at_, complete := true, data := genData (genShown s g) } s) s) s

/-- The frame tick of every head of a plane; pyramids that no slot uses any more are freed (R206). -/
def headFrames (p : Nat) (s : State) : State :=
  match s.rate p with
  | none => s
  | some q =>
    let n := (s.planeRt p).frame
    let at_ := start32 q (s.planeRt p).startNum
    sweepPyramids (headsOn s p) ((headsOn s p).foldl (fun s h => headFrame h n at_ s) s)

/-- Frames on which a head's changes wait move with an adopted step (R86, R111). [DEDUCED, log 31] -/
def rearmHeads (p : Nat) (m k : Int) (s : State) : State :=
  let f : Nat × HeadRt → Nat × HeadRt := fun e =>
    if (s.headObj e.1).cfg.plane = some p then
      (e.1, { e.2 with commit := e.2.commit.map (fun c => { c with frame := rearmed m k c.frame }), legDue := e.2.legDue.map (rearmed m k),
                       hallQueue := e.2.hallQueue.map (fun x => (rearmed m k x.1, x.2)),
                       assay := e.2.assay.map fun a => (a.1, { a.2 with since := a.2.since.map (rearmed m k) }) })
    else e
  s.onHeads fun t => t.map f

/-- The second of HEAD_DAMAGED ends (R324). -/
def headSecond (s : State) : State :=
  ((s.heads.filter fun e => e.2.dmgSecond ≠ 0).map Prod.fst).foldl (fun s h =>
    (raise 0x0A87 1 h (s.head h).dmgSecond s).onHead h fun r => { r with dmgSecond := 0 }) s

/-- The shadow checker of a die has found a mismatch on the pound whose slice the spare carries (R184, R459). -/
def shadowFault (die pound : Nat) (s : State) : State :=
  s.onPounds die fun p => { p with mismatch := p.mismatch || p.shadow.any fun k => decide (p.traffic.getD k 0 = pound) }

/-- What a checker's report brings with it beside its class: a Hallmark region's pattern, a head's frame, output holds or a shadow slice
marked (R184, R296, R311, R459). [DEDUCED, log 71] -/
def containFault (r : FaultRep) (s : State) : State :=
  let s1 := match r.hallmark with
    | some k => if r.code = 0x0102 then hallWarn r.subject k s else s
    | none => s
  let s2 := if r.line ∧ r.code = 0x0102 then markHead r.subject s1 else s1
  let s3 := if r.code = 0x0401 then shadowFault (bit r.west) r.subject s2 else s2
  s3.onTow fun t => { t with txDamage := r.holds.foldl setAdd t.txDamage }

/-! ### The meanings -/

/-- SET_HEAD. -/
def execSetHead (c : Cmd) (s : State) : Answer := answer (runCmd setHeadInfo setHead c s)

/-- SET_LAYER. -/
def execSetLayer (c : Cmd) (s : State) : Answer := answer (runCmd setLayerInfo setLayer c s)

/-- SET_COEFFICIENTS. -/
def execSetCoefficients (c : Cmd) (s : State) : Answer := answer (runCmd setCoefficientsInfo setCoefficients c s)

/-- SET_LUT. -/
def execSetLut (c : Cmd) (s : State) : Answer := answer (runCmd setLutInfo setLut c s)

/-- SET_ASSAY. -/
def execSetAssay (c : Cmd) (s : State) : Answer := answer (runCmd setAssayInfo setAssay c s)

/-- WRITE_HALLMARK. -/
def execWriteHallmark (c : Cmd) (s : State) : Answer := answer (runCmd writeHallmarkInfo writeHallmark c s)

/-- SET_HALLMARK_REGION. -/
def execSetHallmarkRegion (c : Cmd) (s : State) : Answer := answer (runCmd setHallmarkRegionInfo setHallmarkRegion c s)

/-- READ_HEAD. -/
def execReadHead (c : Cmd) (s : State) : Answer := answer (runCmd readHeadInfo readHead c s)

/-- COMMIT_HEAD. -/
def execCommitHead (c : Cmd) (s : State) : Answer := answer (runCmd commitHeadInfo commitHead c s)

/-- GRAPHICS_TRANSFER_COMPLETE (R307). -/
def execGraphicsTransferComplete (head : Nat) (s : State) : Answer := answer (graphicsDone head s)

/-- FAULT_REPORT (R458, R459). -/
def execFaultReport (r : FaultRep) (s : State) : Answer := answer (containFault r (report r s))

end Sys2Proof.Machine
end

