-- ==== Sys2Proof/Machine/Bridge.lean ====
section
/-! DEFINITION.  Format bridging and measurement: destination forms, ANC destinations, generated timecode, the detectors, loudness
and the Chart's stream records (spec/08_bridging_and_measurement.md). -/

namespace Sys2Proof.Machine
open Sys2Proof

/-! ### Time addresses (R233, R239; ST 12-1) -/

/-- Time addresses per second of a rate: frame pairs are counted above 30 frames/s. -/
def tcRate (rate : Nat) : Nat :=
  match rate with
  | 0 => 24
  | 1 => 24
  | 2 => 25
  | 3 => 30
  | 4 => 30
  | 5 => 24
  | 6 => 24
  | 7 => 25
  | _ => 30

/-- The rate counts frame pairs. -/
def tcPairs (rate : Nat) : Bool := decide (5 ≤ rate)

/-- Drop-frame counting applies at the rate. -/
def tcDrops (rate : Nat) : Bool := decide (rate = 3 ∨ rate = 8)

/-- Two BCD digits. -/
def bcd (n : Nat) : Nat := n / 10 * 16 + n % 10

/-- The number of two BCD digits. -/
def unbcd (b : Nat) : Nat := b / 16 * 10 + b % 16

/-- A time address of hours, minutes, seconds and frames. -/
def tcAddr (h m s f : Nat) : Nat := bcd h * 2 ^ 24 + bcd m * 2 ^ 16 + bcd s * 2 ^ 8 + bcd f

/-- The address of the k-th count since 00:00:00, with drop-frame counting where it applies. [DEDUCED, log 61] -/
def tcOfCount (rate : Nat) (drop : Bool) (k : Nat) : Nat :=
  let d := k / 17982
  let m := k % 17982
  let j := if drop then k + 18 * d + (if 2 ≤ m then 2 * ((m - 2) / 1798) else 0) else k
  let n := tcRate rate
  tcAddr (j / n / 3600 % 24) (j / n / 60 % 60) (j / n % 60) (j % n)

/-- The address after another. -/
def tcNext (rate : Nat) (drop : Bool) (a : Nat) : Nat :=
  let n := tcRate rate
  let t := (unbcd (fieldOf a 24 8) * 3600 + unbcd (fieldOf a 16 8) * 60 + unbcd (fieldOf a 8 8)) * n + unbcd (fieldOf a 0 8) + 1
  let s := t / n
  let f := if drop ∧ t % n = 0 ∧ s % 60 = 0 ∧ s / 60 % 10 ≠ 0 then 2 else t % n
  tcAddr (s / 3600 % 24) (s / 60 % 60) (s % 60) f

/-- An address with its pair flag is the successor of another under ST 12-1. [DEDUCED, log 61] -/
def tcFollows (rate : Nat) (drop : Bool) (a : Nat) (flagA : Bool) (b : Nat) (flagB : Bool) : Bool :=
  if tcPairs rate then (if flagA then decide (b = tcNext rate drop a) && !flagB else decide (b = a) && flagB) else decide (b = tcNext rate drop a)

/-- The beacon selected, if a beacon is. -/
def selectedBeacon (s : State) : Option Nat := match s.refs.selected with
  | some r => if r < 8 then some r else none
  | none => none

/-- The generated time address of a destination at the start of its plane's current frame (R233). [DEDUCED, log 61] -/
def generatedTc (s : State) (p : Nat) (o : DestFormObj) : Nat :=
  match s.rate p with
  | none => 0
  | some q =>
    let sec : Int := 48000 * (frac : Nat)
    let utc : Int := match selectedBeacon s with
      | some r => (s.slot r).utcOffset
      | none => 0
    let x := (start32 q (s.planeRt p).startNum + s.time.e - utc * sec + o.tcOffset * sec) % (86400 * sec)
    let k := (x * ((rateND q).1 : Nat) / (sec * ((rateND q).2 : Nat))).toNat
    tcOfCount q (o.dropFrame && tcDrops q) (if tcPairs q then k / 2 else k)

/-! ### SET_DESTINATION_FORM and SET_ANC_DESTINATION (R236, R237) -/

/-- A destination's form setting. -/
def State.destForm (s : State) (d : Nat) : DestFormObj := tget {} s.obj.destForm d

/-- An ANC destination's setting. -/
def State.anc (s : State) (d : Nat) : AncObj := tget {} s.obj.anc d

/-- The form in force at a destination's output. -/
def formInForce (s : State) (d : Nat) : DestFormObj := ((s.routeRt d).formCur).getD (s.destForm d)

/-- The ANC setting in force at the owning output. -/
def ancInForce (s : State) (d : Nat) : AncObj := ((s.routeRt d).ancCur).getD (s.anc d)

/-- SET_DESTINATION_FORM (R236). -/
def setDestinationFormInfo : CmdInfo :=
  { opcode := 0x0701, content := true, length := fun _ => 16, gen := fun c s => if c.u16 0 < 8192 then some (s.destForm (c.u16 0)).gen else none }

/-- Put an object's change in the queue of its destination: it acts from frame n of R116 of a LIVE owner's plane. -/
def dueFrame (s : State) (d : Nat) : Option Int := (destPlane s d).map (armFrame s)

/-- The effect of SET_DESTINATION_FORM. -/
def setDestinationForm (c : Cmd) (s : State) : Res :=
  let d := c.u16 0
  let x := s.stream (streamKey 1 d)
  match firstBad [(decide (d < 8192), 0x20), (decide (c.u8 2 ≤ 1), 0x22), (decide (c.u8 3 ≤ 2), 0x23), (decide (c.u8 4 ≤ 1), 0x24),
      (decide (-86400 ≤ c.i32 8 ∧ c.i32 8 ≤ 86400), 0x28)] with
  | some off => rej .range off s
  | none =>
    if x.st = .undef ∨ x.st = .releasing then rej .state 0xFFFF s
    else match firstBad [(decide (c.u8 2 = 0 ∨ (x.form = 1 ∧ x.width = 2)), 0x22), (decide (c.u8 3 ≠ 2 ∨ (x.form ≠ 3 ∧ fmtRate x.format < 10)), 0x23),
        (decide (x.form ≠ 3 ∨ c.u8 3 = 0), 0x23), (decide (x.form ≠ 3 ∨ c.u8 4 = 0), 0x24)] with
      | some off => rej .format off s
      | none =>
        let old := s.destForm d
        let o : DestFormObj := { level := c.u8 2, tcMode := c.u8 3, pidMode := c.u8 4, dropFrame := bitOf (c.u8 5) 0, tcOffset := c.i32 8, gen := old.gen }
        if o = old then ok s
        else
          let new := { o with gen := genNext old.gen }
          let s1 := (s.onObj fun y => { y with destForm := tset {} y.destForm d new }).touch 0x07 d
          ok (match dueFrame s d with
            | some n => s1.onRouteRt d fun r => { r with formCur := some (formInForce s d), formDue := r.formDue ++ [(n, new)] }
            | none => s1)

/-- SET_ANC_DESTINATION (R237). -/
def setAncDestinationInfo : CmdInfo :=
  { opcode := 0x0702, content := true, length := fun _ => 8, gen := fun c s => if 0xF000 ≤ c.u16 0 then some (s.anc (c.u16 0)).gen else none }

/-- The DEFINED or LIVE output stream that owns the ANC destination. -/
def ancDefined (s : State) (d : Nat) : Option StreamObj :=
  (s.obj.streams.find? fun e => decide (8192 ≤ e.1) && decide (e.2.st = .defined ∨ e.2.st = .live) && decide (e.2.ancFirst ≤ d ∧ d < e.2.ancFirst + e.2.ancCount)).map Prod.snd

/-- The line stands among the vertical ancillary lines of an output stream (R227); an audio-only one has none. [DEDUCED, log 62] -/
def verticalAnc (x : StreamObj) (line : Nat) : Bool :=
  if x.form = 3 then false
  else if fmtRaster x.format = 0 then decide (9 ≤ line ∧ line ≤ 25)
  else if fmtScan x.format = 0 then decide (9 ≤ line ∧ line ≤ 41)
  else decide ((9 ≤ line ∧ line ≤ 20) ∨ (571 ≤ line ∧ line ≤ 583))

/-- The effect of SET_ANC_DESTINATION. [DEDUCED, log 62] -/
def setAncDestination (c : Cmd) (s : State) : Res :=
  let d := c.u16 0
  let did := c.u8 3
  match firstBad [(decide (0xF000 ≤ d), 0x20), (decide (c.u8 2 ≤ 2), 0x22), (!audioDid did && !(decide (did = 0x41) && decide (c.u8 4 = 1)), 0x23),
      (decide (c.u16 6 = 0 ∨ (9 ≤ c.u16 6 ∧ c.u16 6 ≤ 1125)), 0x26)] with
  | some off => rej .range off s
  | none =>
    match ancDefined s d with
    | none => rej .state 0xFFFF s
    | some x =>
      if c.u16 6 ≠ 0 ∧ verticalAnc x (c.u16 6) = false then rej .range 0x26 s
      else
      let old := s.anc d
      let o : AncObj := { mode := c.u8 2, did := did, sdid := c.u8 4, line := c.u16 6, gen := old.gen }
      if o = old then ok s
      else
        let new := { o with gen := genNext old.gen }
        let s1 := (s.onObj fun y => { y with anc := tset {} y.anc d new }).touch 0x07 d
        ok (match dueFrame s d with
          | some n => s1.onRouteRt d fun r => { r with ancCur := some (ancInForce s d), ancDue := r.ancDue ++ [(n, new)] }
          | none => s1)

/-- Settings of a destination that are due at frame n take effect. -/
def formsDue (d : Nat) (n : Int) (s : State) : State :=
  let r := s.routeRt d
  if r.formDue = [] ∧ r.ancDue = [] then s
  else
    let f := r.formDue.filter fun e => ¬e.1 ≤ n
    let a := r.ancDue.filter fun e => ¬e.1 ≤ n
    let lastF := ((r.formDue.filter fun e => e.1 ≤ n).getLast?).map Prod.snd
    let lastA := ((r.ancDue.filter fun e => e.1 ≤ n).getLast?).map Prod.snd
    s.onRouteRt d fun r => { r with formDue := f, ancDue := a, formCur := if f = [] then none else (if lastF.isSome then lastF else r.formCur),
                                    ancCur := if a = [] then none else (if lastA.isSome then lastA else r.ancCur) }

/-- Frames on which forms wait move with an adopted step (R86, R111). [DEDUCED, log 31] -/
def rearmForms (p : Nat) (m k : Int) (s : State) : State :=
  s.onBasin fun b => { b with routes := b.routes.map fun e => if destPlane s e.1 = some p then
    (e.1, { e.2 with formDue := e.2.formDue.map (fun x => (rearmed m k x.1, x.2)), ancDue := e.2.ancDue.map fun x => (rearmed m k x.1, x.2) }) else e }

/-! ### ANC packets on an output (R223, R227, R230 to R235) -/

/-- A packet matches an ANC destination's DID and SDID; type-1 packets by DID alone. -/
def ancMatches (o : AncObj) (k : AncPkt) : Bool := decide (k.did = o.did) && (decide (0x80 ≤ o.did) || decide (k.sdid = o.sdid))

/-- One packet of each DID and SDID from an origin, `seen` having passed (R227). -/
def onePerId : List (Nat × Nat) → List AncPkt → List AncPkt
  | _, [] => []
  | seen, k :: r => if seen.contains (k.did, k.sdid) then onePerId seen r else k :: onePerId ((k.did, k.sdid) :: seen) r

/-- The packets of a frame that its stream brings to the bridge: audio, payload ID and failed packets stay behind (R230). -/
def frameAnc (d : FrameData) : List AncPkt := d.anc.filter fun k => k.good && !k.isAudio && !k.isPid

/-- Packets of the newest complete frame of an input stream that is LIVE and not lost (R234). -/
def sourceAnc (s : State) (h : Nat) : List AncPkt :=
  if h < 8192 ∧ streamLive s h ∧ (s.streamRt h).lost = 0 then frameAnc (tget {} s.meas.src h : SrcRt).last else []

/-- ANC destinations of an output that are enabled. -/
def ancDests (s : State) (x : StreamObj) : List Nat := (span x.ancFirst x.ancCount).filter fun d => (ancInForce s d).mode ≠ 0

/-- A packet on the line that its ANC destination sets (R234). -/
def atLine (o : AncObj) (k : AncPkt) : AncPkt := if o.line = 0 then k else { k with line := o.line, hanc := false }

/-- Packets that an ANC destination takes for a frame, at most 8 KiB of 16-bit words, one of each DID and SDID, and how many it drops
(R227, R234). -/
def ancTaken8k (s : State) (d : Nat) : List AncPkt × Nat :=
  let o := ancInForce s d
  let all := match (s.route d).source with
    | some h => onePerId [] ((sourceAnc s h).filter (ancMatches o))
    | none => []
  let fit := fitPackets (fun k => 2 * k.words.length) 8192 all
  (fit.1.map (atLine o), fit.2.length)

/-- Bytes of an essence frame that its allowance carries beside ANC units: headers and the end unit (R223). -/
def essenceOverhead (x : StreamObj) (samples : Nat) : Nat :=
  36 + fmtH x.format * 4 + (if x.audioCount = 0 then 0 else (samples + 47) / 48 * 4) + 8

/-- Bytes per frame of an essence stream's ANC allowance (R33). -/
def ancAllowance (x : StreamObj) (rate : Nat) : Nat := (if x.ancAllow = 0 then 10000 else x.ancAllow) * 125 * (rateND rate).2 / (rateND rate).1

/-! ### SET_DETECTORS and SET_LOUDNESS_GROUP (R248, R249) -/

/-- A stream's detector setting. -/
def State.det (s : State) (bay : Nat) : DetObj := tget {} s.obj.detectors bay

/-- SET_DETECTORS (R248). -/
def setDetectorsInfo : CmdInfo := { opcode := 0x0801, length := fun _ => 32, gen := fun c s => if c.u16 0 < 8192 then some (s.det (c.u16 0)).gen else none }

/-- The effect of SET_DETECTORS. -/
def setDetectors (c : Cmd) (s : State) : Res :=
  let bay := c.u16 0
  let x := s.stream bay
  match firstBad [(decide (bay < 8192), 0x20), (decide (c.u8 3 ≤ 1), 0x23), (decide (c.u16 4 ≤ 1023), 0x24), (decide (1 ≤ c.u16 6 ∧ c.u16 6 ≤ 1000), 0x26),
      (decide (1 ≤ c.u16 8), 0x28), (decide (1 ≤ c.u16 0x0A), 0x2A), (decide (c.u32 0x0C ≤ 2 ^ 31), 0x2C), (decide (-12000 ≤ c.i16 0x10 ∧ c.i16 0x10 ≤ 0), 0x30),
      (decide (100 ≤ c.u32 0x14 ∧ c.u32 0x14 ≤ 3600000), 0x34)] with
  | some off => rej .range off s
  | none =>
    if x.st = .undef ∨ x.st = .releasing then rej .state 0xFFFF s
    else if x.form = 3 ∧ c.u8 2 % 8 ≠ 0 then rej .format 0x22 s
    else
      let old := s.det bay
      let o : DetObj := { enable := c.u8 2 % 16, tcSource := c.u8 3, blackLevel := c.u16 4, blackArea := c.u16 6, blackFrames := c.u16 8, freezeFrames := c.u16 0x0A,
                          freezeLimit := c.u32 0x0C, silenceDb := c.i16 0x10, silenceMs := c.u32 0x14, gen := old.gen }
      if o = old then ok s
      else ok ((s.onObj fun y => { y with detectors := tset {} y.detectors bay { o with gen := genNext old.gen } }).touch 0x08 bay)

/-- SET_LOUDNESS_GROUP (R249). -/
def setLoudnessGroupInfo : CmdInfo :=
  { opcode := 0x0802, length := fun _ => 32, gen := fun c s => if c.u16 0 < 2048 then some (tget {} s.obj.loud (c.u16 0) : LoudObj).gen else none }

/-- The place of the first channel of a list that is out of range or named before. -/
def badChannel : List Nat → Nat → List Nat → Option Nat
  | _, _, [] => none
  | seen, i, h :: r => if h < 0x4000 ∨ seen.contains h then some i else badChannel (h :: seen) (i + 1) r

/-- Where a loudness group's Chart record stands (R241). -/
def groupAddr (g : Nat) : Nat := 0x2270000 + g * 32

/-- The effect of SET_LOUDNESS_GROUP (R249); the record of a disabled group shows ENABLED = 0 at once. [DEDUCED, log 64] -/
def setLoudnessGroup (c : Cmd) (s : State) : Res :=
  let g := c.u16 0
  let n := c.u8 2
  let chs := (List.range n).map fun i => c.u16 (8 + 2 * i)
  let ws := (List.range n).map fun i => c.u8 (0x18 + i)
  match firstBad [(decide (g < 2048), 0x20), (decide (n ≤ 8), 0x22)] with
  | some off => rej .range off s
  | none => match badChannel [] 0 chs with
    | some i => rej .range (0x28 + 2 * i) s
    | none => match ws.findIdx? fun w => 2 < w with
      | some i => rej .range (0x38 + i) s
      | none =>
        if n ≠ 0 ∧ (rangeStream s 0 (chs.headD 0) 1).isNone then rej .state 0xFFFF s
        else
          let old : LoudObj := tget {} s.obj.loud g
          let o : LoudObj := { channels := chs, weights := ws, gen := old.gen }
          if o = old then
            ok (if bitOf (c.u8 3) 0 then s.onMeas fun m => { m with loud := tmod {} m.loud g fun l => { l with blocks := [], i := none, gated := 0, age := 0 } } else s)
          else
            let s1 := (s.onObj fun y => { y with loud := tset {} y.loud g { o with gen := genNext old.gen } }).touch 0x08 (0x10000 + g)
            let s2 := s1.onMeas fun m => { m with loud := tset {} m.loud g {} }
            ok (if n = 0 then s2.zeroRecord 32 (groupAddr g) else s2)

/-! ### What arrives (R239) -/

/-- An input stream's measurement. -/
def State.src (s : State) (bay : Nat) : SrcRt := tget {} s.meas.src bay

/-- Change an input stream's measurement. -/
def State.onSrc (s : State) (bay : Nat) (f : SrcRt → SrcRt) : State := s.onMeas fun m => { m with src := tmod {} m.src bay f }

/-- A source channel's measurement. -/
def State.chMeas (s : State) (ch : Nat) : ChMeas := tget {} s.meas.chans ch

/-- Change a source channel's measurement. -/
def State.onChMeas (s : State) (ch : Nat) (f : ChMeas → ChMeas) : State := s.onMeas fun m => { m with chans := tmod {} m.chans ch f }

/-- A loudness group measures the channel. -/
def inGroup (s : State) (ch : Nat) : Bool := s.obj.loud.any fun e => e.2.channels.contains ch

/-- Coefficients of the interpolation filter of BS.1770-4 Annex 2, times 8,192: two phases; the others are these mirrored. [PRESUMED, log 121] -/
def peakFilter : List (List Int) :=
  let a : List Int := [14, 90, -161, 272, -487, 1125, 7964, -838, 390, -218, 122, -68]
  let b : List Int := [-239, 240, -424, 730, -1364, 3810, 6388, -1641, 832, -477, 271, -155]
  [a, b, b.reverse, a.reverse]

/-- The largest interpolated magnitude at the newest of twelve samples, the newest last, times 8,192 (R239). -/
def peakAt (xs : List Int) : Nat := (peakFilter.map fun f => (List.zipWith (fun a b : Int => a * b) f xs.reverse).sum.natAbs).foldl max 0

/-- One word of a source channel is measured (R239). -/
def measureWord (keep : Bool) (m : ChMeas) (w : Nat) : ChMeas :=
  let past := (m.past ++ [w]).drop (m.past.length + 1 - 12)
  { m with acc := max m.acc (sample24 w).natAbs, past := past, tpAcc := max m.tpAcc (peakAt (past.map sample24)), seg := if keep then m.seg ++ [w] else [] }

/-- Words of a source channel arrive. -/
def measureWords (s : State) (ch : Nat) (ws : List Nat) : State :=
  s.onChMeas ch fun m => (ws.filter fun w => w < 2 ^ 32).foldl (measureWord (inGroup s ch)) m

/-- A frame of a LIVE input stream, whose START arrived at `startNs` and whose data is complete at `doneNs` of T + E (R238, R239). -/
def seeFrame (bay : Nat) (f : FrameData) (startNs doneNs : Int) (s : State) : State :=
  let x := s.stream bay
  let s1 := frameCompletes bay startNs doneNs f s
  let damaged := (s.streamRt bay).frameDamaged || decide (f.errors ≠ 0)
  let s2 := s1.onSrc bay fun m => { m with last := f, fresh := m.fresh ++ [f], frames := m.frames + 1, bad := damaged }
  let s3 := (sourceChannels s bay).foldl (fun s ch => s.onChMeas ch fun m =>
    { m with frameMax := m.acc, acc := 0, truePeak := dbfs ((m.tpAcc + 4096) / 8192), tpAcc := 0 }) s2
  if x.form ≠ 3 ∧ (s.streamRt bay).dual ≠ f.dual then
    (routesFrom s bay).foldl judgeMatch (s3.onStreamRt bay fun r => { r with dual := f.dual })
  else s3

/-! ### Publication of a source stream (R238 to R240, R244, R250) -/

/-- BLACK_PERMILLE of a frame's luma samples under a level. -/
def blackPermille (level : Nat) (luma : List Nat) : Nat := if luma = [] then 0 else 1000 * (luma.filter fun v => v < level).length / luma.length

/-- The mean of one block of a picture's luma, `rows` in the order of the whole picture (R239). -/
def blockMean (w h : Nat) (rows : List (List Nat)) (i j : Nat) : Nat :=
  let a := i * w / 32
  let c := j * h / 18
  let vs := ((rows.drop c).take ((j + 1) * h / 18 - c)).flatMap fun r => (r.drop a).take ((i + 1) * w / 32 - a)
  if vs = [] then 0 else 16 * vs.sum / vs.length

/-- The 576 block means of a frame's luma. -/
def blockMeans (f : Nat) (luma : List (List Nat)) : List Nat :=
  let rows := (List.range (fmtH f)).map fun y => luma.getD (fieldRow f y) []
  if luma = [] then [] else (List.range 18).flatMap fun j => (List.range 32).map fun i => blockMean (fmtW f) (fmtH f) rows i j

/-- The energy between the block means of two frames. -/
def freezeEnergy (a b : List Nat) : Nat := ((a.zip b).map fun x => ((x.1 : Int) - x.2).natAbs ^ 2).sum

/-- The format detector (R239): the code that 8 frames agree on. -/
def detectFormat (x : StreamObj) (f : FrameData) (m : SrcRt) : SrcRt :=
  let n := if f.seen = m.candidate then min 8 (m.agree + 1) else 1
  let d := if n = 8 then f.seen else m.detected
  { m with candidate := f.seen, agree := n, detected := d, formatOk := decide (d = x.format) }

/-- One completed frame through the detectors. [DEDUCED, log 63] -/
def detectFrame (x : StreamObj) (o : DetObj) (m0 : SrcRt) (f : FrameData) : SrcRt :=
  let m := detectFormat x f m0
  let luma := f.lines.map (lineLuma f.format)
  let pm := blackPermille o.blackLevel luma.flatten
  let black := bitOf o.enable 0 && !luma.isEmpty && decide (o.blackArea ≤ pm)
  let means := blockMeans f.format luma
  let e := freezeEnergy means m.means
  let still := bitOf o.enable 1 && !m.means.isEmpty && decide (means.length = m.means.length) && decide (e ≤ o.freezeLimit)
  let tcNow := if bitOf o.enable 2 then (f.anc.find? fun k => k.isTc && k.good && decide (tcType k = o.tcSource)).map (readTc (fmtRate x.format)) else none
  let jump := match tcNow, m.tc with
    | some (a, fl, _), some b => decide (fmtRate x.format < 10) && !tcFollows (fmtRate x.format) (bitOf fl 0) (b % 2 ^ 32) (decide (2 ^ 32 ≤ b)) a (bitOf fl 2)
    | _, _ => false
  { m with permille := pm, blackRun := if black then satAdd 16 m.blackRun 1 else 0, blackOff := if black then 0 else min 2 (m.blackOff + 1),
           blackFor := if m.black then inc m.blackFor else 0, energy := min e 0xFFFFFFFF, means := means,
           freezeRun := if still then inc m.freezeRun else 0, freezeOff := if still then 0 else min 2 (m.freezeOff + 1), frozenFor := if m.frozen then inc m.frozenFor else 0,
           tcSeen := tcNow, crcTotal := satAdd 32 m.crcTotal f.crcLines, trsTotal := satAdd 32 m.trsTotal f.trsErrors, errSecond := satAdd 32 m.errSecond (f.crcLines + f.trsErrors),
           essErrors := satAdd 32 m.essErrors f.errors, tcDiscont := if jump then satAdd 16 m.tcDiscont 1 else m.tcDiscont,
           tc := tcNow.map fun t => t.1 + (if bitOf t.2.1 2 then 2 ^ 32 else 0) }

/-- The detectors judge one completed frame, and raise what they find (R250). [DEDUCED, log 63] -/
def judgeFrame (bay : Nat) (s : State) (f : FrameData) : State :=
  let x := s.stream bay
  let o := s.det bay
  let m := s.src bay
  let n := detectFrame x o m f
  let black := if m.black then decide (n.blackOff < 2) else decide (o.blackFrames ≤ n.blackRun)
  let frozen := if m.frozen then decide (n.freezeOff < 2) else decide (o.freezeFrames ≤ n.freezeRun)
  let parted := decide (n.agree = 8) && !n.formatOk && m.wasOk
  let s1 := s.onSrc bay fun _ => { n with black := black, frozen := frozen, wasOk := if parted then false else m.wasOk || n.formatOk }
  let s2 := if parted then raise 0x0881 2 bay n.detected s1 else s1
  let s3 := if black ∧ ¬m.black then raise 0x0882 2 bay n.permille s2 else if m.black ∧ ¬black then raise 0x0883 1 bay n.blackFor s2 else s2
  let s4 := if frozen ∧ ¬m.frozen then raise 0x0884 2 bay n.energy s3 else if m.frozen ∧ ¬frozen then raise 0x0885 1 bay n.frozenFor s3 else s3
  if n.tcDiscont ≠ m.tcDiscont then raise 0x0888 1 bay (match n.tc with
    | some t => t % 2 ^ 32
    | none => 0) s4 else s4

/-- The source stream record (R244). -/
def sourceRecord (s : State) (bay : Nat) : List Byte :=
  let m := s.src bay
  let r := s.streamRt bay
  let f := m.last
  let off := match r.offset with
    | some o => ofInt 32 o
    | none => 0x80000000
  let flags := bit (streamLive s bay) + 2 * bit m.formatOk + 4 * bit m.black + 8 * bit m.frozen + 16 * bit (decide (r.lost ≠ 0)) + 32 * bit m.tcSeen.isSome +
    64 * bit f.payloadId.isSome + 128 * bit f.levelB + 256 * bit m.bad
  let tc := m.tcSeen.getD (0, 0, 0)
  recordBytes 128 [(4, 4, flags), (8, 8, s.now), (0x10, 4, m.frames % 2 ^ 32), (0x14, 2, m.detected), (0x18, 4, f.payloadId.getD 0), (0x1C, 4, off), (0x20, 2, f.crcLines),
    (0x22, 2, f.trsErrors), (0x24, 4, m.crcTotal), (0x28, 4, m.trsTotal), (0x2C, 2, m.permille), (0x2E, 2, m.blackRun), (0x30, 4, m.energy), (0x34, 4, m.freezeRun),
    (0x38, 4, tc.1), (0x3C, 1, tc.2.1), (0x3E, 2, m.tcDiscont), (0x40, 4, tc.2.2), (0x44, 2, f.ancSeen), (0x46, 2, f.ancBad), (0x48, 4, m.damagedBarges),
    (0x4C, 4, m.essErrors), (0x50, 4, min m.frames 0xFFFFFFFF)]

/-- Publish a LIVE input stream (R238): while it is lost only FLAGS and OFFSET_NS change, and its runs begin afresh afterwards. -/
def publishSource (s : State) (bay : Nat) : State :=
  if (s.streamRt bay).lost ≠ 0 then
    let b := sourceRecord s bay
    let was := memRead s.hdm (sourceAddr bay) 128
    (s.chartWrite (sourceAddr bay) (was.take 4 ++ (b.drop 4).take 4 ++ (was.drop 8).take 20 ++ (b.drop 0x1C).take 4 ++ was.drop 0x20)).onSrc bay fun m =>
      { m with fresh := [], blackRun := 0, freezeRun := 0, blackOff := 0, freezeOff := 0, means := [], tc := none, agree := 0, candidate := 0xFFFE, shown := true }
  else
    let s1 := (s.src bay).fresh.foldl (judgeFrame bay) s
    (s1.chartWrite (sourceAddr bay) (sourceRecord s1 bay)).onSrc bay fun m => { m with fresh := [], shown := true }

/-! ### Publication of source channels and loudness groups (R246, R247) -/

/-- Publish a source channel, `dt` elapsed ticks after the last publication: its silence is judged (R239). -/
def publishChannelMeas (bay dt : Nat) (s : State) (ch : Nat) : State :=
  if (s.streamRt bay).lost ≠ 0 then s.onChMeas ch fun m => { m with quietFor := 0 }
  else
  let m := s.chMeas ch
  let o := s.det bay
  let coded := (s.srcChan ch).nonAudio
  let peak := dbfs m.frameMax
  let judged := bitOf o.enable 3 && !coded
  let quiet := if judged ∧ (peak < o.silenceDb ∨ (m.silent ∧ peak ≤ o.silenceDb + 300)) then m.quietFor + dt else 0
  let silent := judged && (if m.silent then decide (peak ≤ o.silenceDb + 300) else decide (quiet ≠ 0 ∧ msTicks o.silenceMs ≤ quiet))
  let s1 := s.onChMeas ch fun m => { m with peak := peak, silent := silent, quietFor := quiet, silentFor := if silent then quiet else 0, clipped := decide (8388607 ≤ m.frameMax) }
  let rec_ := recordBytes 8 [(0, 2, ofInt 16 peak), (2, 2, ofInt 16 m.truePeak), (4, 1, bit silent + 2 * bit coded + 4 * bit (decide (8388607 ≤ m.frameMax)) + 8),
    (6, 2, min 65535 ((if silent then quiet else 0) / 48000))]
  let s2 := s1.hdmWrite (sourceChanAddr ch) rec_
  if silent ∧ ¬m.silent then raise 0x0886 2 ch (ofInt 32 peak) s2 else if m.silent ∧ ¬silent then raise 0x0887 1 ch (m.silentFor / 48000) s2 else s2

/-- The mean of energies. -/
def meanEnergy (es : List Nat) : Nat := if es = [] then 0 else es.sum / es.length

/-- The integrated loudness of blocks, with its gates: value and blocks counted. -/
def integrated (blocks : List Nat) : Option Int × Nat :=
  let a := blocks.filter fun e => -7000 < Config.lkfs e
  let g := a.filter fun e => Config.lkfs (meanEnergy a) - 1000 < Config.lkfs e
  if g = [] then (none, 0) else (some (Config.lkfs (meanEnergy g)), g.length)

/-- 100 ms of an enabled loudness group end (R239): its energy is that of its channels' words, the filters' history being open. -/
def loudSegment (s : State) (e : Nat × LoudObj) : State :=
  match e.2.channels with
  | [] => s
  | first :: _ =>
    if (audioSource s first).isNone then s
    else
      let d := s.draw
      let parts := ((e.2.channels.zip e.2.weights).filter fun c => c.2 ≠ 0 ∧ (s.srcChan c.1).nonAudio = false).map fun c => (c.2, (s.chMeas c.1).seg)
      let x := Config.kEnergy d.1 parts
      d.2.onMeas fun m => { m with loud := tmod {} m.loud e.1 fun l =>
        let segs := (l.segs ++ [x]).drop (l.segs.length + 1 - 30)
        let last4 := segs.drop (segs.length - 4)
        let blocks := if segs.length < 4 then l.blocks else l.blocks ++ [meanEnergy last4]
        let i := integrated blocks
        { l with segs := segs, blocks := blocks, m := if segs.length < 4 then none else some (Config.lkfs (meanEnergy last4)),
                 s := if segs.length < 30 then none else some (Config.lkfs (meanEnergy segs)), i := i.1, gated := i.2 } }

/-- The loudness work of a tick. -/
def tickLoud (s : State) : State :=
  let s1 := s.onMeas fun m => { m with loud := m.loud.map fun e => (e.1, { e.2 with age := e.2.age + 1 }) }
  if s.now % 4800 = 0 then
    (s.obj.loud.foldl loudSegment s1).onMeas fun m => { m with chans := m.chans.map fun e => (e.1, { e.2 with seg := [] }) }
  else s1

/-- A loudness value as its field. -/
def loudField (v : Option Int) : Nat := match v with
  | some x => ofInt 16 (clampI (-32767) 32767 x)
  | none => 0x8000

/-- Publish a loudness group whose first channel's stream is LIVE (R247). -/
def publishLoud (s : State) (g : Nat) : State :=
  let o : LoudObj := tget {} s.obj.loud g
  let l : LoudRt := tget {} s.meas.loud g
  s.chartWrite (groupAddr g) (recordBytes 32 [(4, 2, bit (!o.channels.isEmpty) + 2 * bit l.m.isSome + 4 * bit l.s.isSome + 8 * bit l.i.isSome),
    (6, 2, loudField l.m), (8, 2, loudField l.s), (0x0A, 2, loudField l.i), (0x0C, 4, l.gated), (0x10, 4, l.age / 48000)])

/-- Groups published with a plane: the stream owning the first channel is LIVE on it. -/
def loudOn (s : State) (p : Nat) : List Nat :=
  (s.obj.loud.filter fun e => match e.2.channels.head?.bind (audioSource s) with
    | some k => decide ((s.stream k).plane = p)
    | none => false).map Prod.fst

/-! ### Publication of a destination (R245) -/

/-- The form of a source. -/
def sourceForm (s : State) (h : Nat) : Nat := ((sourceInfo s h).map SrcInfo.form).getD 0

/-- Transmission of an output stream. -/
def State.out (s : State) (d : Nat) : OutRt := tget {} s.tow.outs d

/-- Change the transmission of an output stream. -/
def State.onOut (s : State) (d : Nat) (f : OutRt → OutRt) : State := s.onTow fun t => { t with outs := tmod {} t.outs d f }

/-- The destination record (R245): ANC and timecode as the frame just made sent them. -/
def destRecord (s : State) (d : Nat) : List Byte :=
  let o := formInForce s d
  let r := s.routeRt d
  let src := (s.route d).source
  let conv := match src with
    | some h => decide (sourceForm s h ≠ (s.stream (streamKey 1 d)).form)
    | none => false
  recordBytes 128 [(4, 4, bit (streamLive s (streamKey 1 d)) + 2 * bit src.isSome + 4 * bit r.via + 8 * bit r.mismatch + 16 * bit r.lossFill + 32 * bit conv + 64 * bit r.tcUnref),
    (8, 8, s.now), (0x10, 2, src.getD 0), (0x12, 1, o.level), (0x13, 1, o.tcMode), (0x14, 4, (s.route d).gen), (0x18, 4, r.rough), (0x1C, 4, r.takes), (0x20, 4, r.ancDropped),
    (0x24, 2, r.ancSent), (0x28, 4, r.tcOut)]

/-- Publish a LIVE output stream. -/
def publishDest (p : Nat) (s : State) (d : Nat) : State :=
  let n := (s.planeRt p).frame
  let x := s.stream (streamKey 1 d)
  let s1 := (span x.ancFirst x.ancCount).foldl (fun s a => formsDue a n s) (formsDue d n s)
  let k := s1.out d
  let s2 := s1.onRouteRt d fun r => { r with ancSent := min 65535 k.sentAnc, ancDropped := satAdd 32 r.ancDropped k.lostAnc, ancSecond := satAdd 32 r.ancSecond k.lostAnc,
                                             tcOut := k.tc, tcUnref := decide ((formInForce s1 d).tcMode = 2) && (selectedBeacon s1).isNone, shown := true }
  (s2.onOut d fun k => { k with sentAnc := 0, lostAnc := 0 }).chartWrite (destAddr d) (destRecord s2 d)

/-- A record that stands as VALID loses that bit, its flags being `n` bytes at `off`, the bit `v` of them. -/
def invalidate (a size off n v : Nat) (s : State) : State :=
  let was := memRead s.hdm a size
  let f := leNat ((was.drop off).take n)
  if bitOf f v = false then s
  else
    let now := was.take off ++ toLe n (f - 2 ^ v) ++ was.drop (off + n)
    if size = 8 then s.hdmWrite a now else s.chartWrite a now

/-- The records of streams that are no longer LIVE lose VALID, and those of channels that no LIVE stream owns are zero (R244 to R246,
R282). [DEDUCED, log 122] -/
def unpublish (s : State) : State :=
  let gone := fun (k : Nat) => !streamLive s k
  let s1 := ((s.meas.src.filter fun e => e.2.shown && gone e.1).map Prod.fst).foldl (fun s b => (invalidate (sourceAddr b) 128 4 4 0 s).onSrc b fun m => { m with shown := false }) s
  let s2 := ((s1.basin.routes.filter fun e => e.2.shown && gone (streamKey 1 e.1)).map Prod.fst).foldl (fun s d =>
    (invalidate (destAddr d) 128 4 4 0 s).onRouteRt d fun r => { r with shown := false }) s1
  let s3 := ((s.meas.chans.map Prod.fst).filter fun ch => (audioSource s ch).isNone).foldl (fun s ch => invalidate (sourceChanAddr ch) 8 4 1 3 s) s2
  ((s.audio.dst.map Prod.fst).filter fun ch => (audioOwner s ch).isNone).foldl (fun s ch => s.zeroRecord 16 (destChanAddr ch)) s3

/-! ### The Chart at a frame tick, and each second (R243, R250) -/

/-- The Chart's measurement records of a plane at its frame tick. -/
def publishPlane (p : Nat) (s : State) : State :=
  let dt := if (s.planeRt p).pubFrame.isNone then 0 else s.elapsed - (s.planeRt p).pubTick
  let ins := (liveInputs s).filter fun b => (s.stream b).plane = p
  let s1 := ins.foldl publishSource (unpublish s)
  let s2 := ins.foldl (fun s b => (sourceChannels s b).foldl (publishChannelMeas b dt) s) s1
  let s3 := (loudOn s2 p).foldl publishLoud s2
  let outs := ((liveOutputs s3).filter fun k => (s.stream k).plane = p).map keyBay
  let s4 := outs.foldl (publishDest p) s3
  let s5 := (outs.flatMap fun d => span (s.stream (streamKey 1 d)).audioFirst (s.stream (streamKey 1 d)).audioCount).foldl publishChannel s4
  let s6 := ((s5.hdmWrite 0x2000000 (toLe 8 1)).hdmWrite 0x2000008 (toLe 8 s.now)).hdmWrite (0x2000040 + p * 8) (toLe 8 s.now)
  s6.onPlaneRt p fun q => { q with pubTick := s.elapsed, pubFrame := some q.frame }

/-- The events that are raised at most once a second (R250). [DEDUCED, log 63] -/
def measSecond (s : State) : State :=
  let s1 := ((s.meas.src.filter fun e => e.2.errSecond ≠ 0).map Prod.fst).foldl (fun s b => (raise 0x0889 2 b (s.src b).errSecond s).onSrc b fun m => { m with errSecond := 0 }) s
  ((s1.basin.routes.filter fun e => e.2.ancSecond ≠ 0).map Prod.fst).foldl (fun s d => (raise 0x0781 1 d (s.routeRt d).ancSecond s).onRouteRt d fun r => { r with ancSecond := 0 }) s1

/-- The measurement work of a tick; its second ends every 48,000 ticks. -/
def tickMeas (s : State) : State :=
  let s1 := tickLoud s
  if 47999 ≤ s.meas.second then headSecond (measSecond (s1.onMeas fun m => { m with second := 0 })) else s1.onMeas fun m => { m with second := m.second + 1 }

/-! ### The meanings -/

/-- SET_DESTINATION_FORM. -/
def execSetDestinationForm (c : Cmd) (s : State) : Answer := answer (runCmd setDestinationFormInfo setDestinationForm c s)

/-- SET_ANC_DESTINATION. -/
def execSetAncDestination (c : Cmd) (s : State) : Answer := answer (runCmd setAncDestinationInfo setAncDestination c s)

/-- SET_DETECTORS. -/
def execSetDetectors (c : Cmd) (s : State) : Answer := answer (runCmd setDetectorsInfo setDetectors c s)

/-- SET_LOUDNESS_GROUP. -/
def execSetLoudnessGroup (c : Cmd) (s : State) : Answer := answer (runCmd setLoudnessGroupInfo setLoudnessGroup c s)

end Sys2Proof.Machine
end

