-- ==== Sys2Proof/Machine/Carriage.lean ====
section
/-! DEFINITION.  Bays: packing words, the round-robin deal of a stream's units over its bays, and its reverse (spec/02_streams_holds_handles.md,
R26 to R28). -/

namespace Sys2Proof.Machine
open Sys2Proof

/-- The most units of a form that a bay carries in a barge (R26). -/
def bayMax (form : Nat) : Nat := if form = 1 then 118 else if form = 2 then 148 else 37

/-- Bits of a unit of a form (R26). -/
def unitBits (form : Nat) : Nat := if form = 1 then 10 else if form = 2 then 8 else 32

/-- Bytes of bits, each bit 0 first. -/
def bytesOfBits : Nat → List Bool → List Byte
  | 0, _ => []
  | k + 1, bs => BitVec.ofNat 8 (highBits (bs.take 8).reverse) :: bytesOfBits k (bs.drop 8)

/-- Every `w`-th unit from unit `i` on: what bay `i` of `w` bays is dealt (R27). -/
def dealt (w i : Nat) (units : List Nat) : List Nat := (List.range ((units.length + w - 1 - i) / w)).map fun k => units.getD (k * w + i) 0

/-- The 150 bytes of a bay (R26, R336): packing word with its reserved bits zero, units, zero bytes for the fill; KIND 0 with no unit. -/
def bayBytes (form : Nat) (start : Bool) (units : List Nat) : List Byte :=
  let bits := units.flatMap fun u => (List.range (unitBits form)).map (bitOf u)
  if units = [] then List.replicate 150 0#8
  else (BitVec.ofNat 8 units.length :: BitVec.ofNat 8 (32 * bit start + 64 * form) :: bytesOfBits ((bits.length + 7) / 8) bits ++ List.replicate 148 0#8).take 150

/-- The bays of a stream of width `w` in one barge: its units dealt round-robin from the first bay on, START in the first bay only (R27, R28). -/
def dealBays (w form : Nat) (start : Bool) (units : List Nat) : List (List Byte) :=
  (List.range w).map fun i => bayBytes form (start && decide (i = 0)) (dealt w i units)

/-- A packing word's COUNT, START and KIND (R26). -/
def packCount (p : Nat) : Nat := p % 256
/-- START of a packing word. -/
def packStart (p : Nat) : Bool := bitOf p 13
/-- KIND of a packing word. -/
def packKind (p : Nat) : Nat := p / 2 ^ 14 % 4

/-- The packing word of a bay of a barge's payload. -/
def packing (payload : List Byte) (bay : Nat) : Nat := leNat ((payload.drop (144 + 150 * (bay % 64))).take 2)

/-- The units of a bay: as many as COUNT says and the payload field holds, none where KIND is not the stream's. [DEDUCED, log 119] -/
def bayUnits (form : Nat) (payload : List Byte) (bay : Nat) : List Nat :=
  let p := packing payload bay
  let bits := bitsOf ((payload.drop (146 + 150 * (bay % 64))).take 148)
  if packKind p = form then
    (List.range (min (packCount p) (bayMax form))).map fun k => highBits ((bits.drop (k * unitBits form)).take (unitBits form)).reverse
  else []

/-- Units taken from bays in turn, from the first on, until none is left (R27). -/
def gather : Nat → List (List Nat) → List Nat
  | 0, _ => []
  | k + 1, bays => bays.filterMap List.head? ++ gather k (bays.map List.tail)

/-- The units of a stream in one barge. -/
def streamUnits (form w : Nat) (payload : List Byte) (bay : Nat) : List Nat :=
  gather (bayMax form) ((List.range w).map fun i => bayUnits form payload (bay + i))

/-- What one barge takes from a queue of units: at most what the bays hold, and nothing from the next START on, which begins the
next barge (R28). -/
def bargeLoad (cap : Nat) (q : List (Bool × Nat)) : List (Bool × Nat) :=
  match q.take cap with
  | [] => []
  | u :: r => u :: r.takeWhile fun x => !x.1

end Sys2Proof.Machine
end

