-- ==== Sys2Proof/Machine/Outputs.lean ====
section
/-! DEFINITION.  What the output streams send: feeds and cuts, serial lines with their packets, essence frames, audio-only words
(spec/02_streams_holds_handles.md R26 to R28, spec/06_basin_and_lockkeeper.md R174 to R178, spec/08_bridging_and_measurement.md). -/

namespace Sys2Proof.Machine
open Sys2Proof

/-! ### Units -/

/-- Units due, the first of them perhaps a frame's START unit (R28). -/
def markUnits (start : Bool) (us : List Nat) : List (Bool × Nat) := us.mapIdx fun i u => (start && decide (i = 0), u)

/-- Units wait for their barge. -/
def OutRt.push (r : OutRt) (start : Bool) (us : List Nat) : OutRt := { r with queue := r.queue ++ markUnits start us }

/-- The output stream of a destination. -/
def outStream (s : State) (d : Nat) : StreamObj := s.stream (streamKey 1 d)

/-! ### What feeds an output (R156, R157, R198, R204, R224) -/

/-- The generator stream of the loss fill: the first bay of LOSS_GEN, where it has the destination's format and plane (R204). -/
def fillSource (s : State) (d h : Nat) : Option Nat :=
  let g := 0x2100 + 8 * (s.fsync h).lossGen
  match sourceInfo s g with
  | some i => if i.live ∧ i.format = (outStream s d).format ∧ i.plane = (outStream s d).plane then some g else none
  | none => none

/-- What a video destination should carry now: a source, and whether its berth gives it; none is black. -/
def wantFeed (s : State) (d : Nat) : Option (Nat × Bool) :=
  let r := s.routeRt d
  match (s.route d).source with
  | none => none
  | some h =>
    if r.mismatch then none
    else if r.lossFill then (if r.lossGen then (fillSource s d h).map fun g => (g, false) else none)
    else if r.via then (if berthed s h then some (h, true) else none)
    else if 0x2000 ≤ h then (if (sourceInfo s h).any fun i => i.live then some (h, false) else none)
    else if streamLive s h then some (h, false) else none

/-- The running plan of an output: its feed once the cut that is under way is made. -/
def OutRt.target (r : OutRt) : Option (Nat × Bool) := match r.join with
  | some j => j.1
  | none => r.feed

/-- A feed that an output no longer wants gives way: at a take by the cut of its path, for a loss or a mismatch at once, with black in
the timing of the old source (R157, R174, R204). [DEDUCED, log 125] -/
def syncFeed (now : Int) (d : Nat) (s : State) : State :=
  let w := wantFeed s d
  let r := s.out d
  if w = r.target then s
  else
    let quick := w.isNone && (s.route d).source.isSome
    s.onOut d fun r => { r with join := some (w, quick || decide ((s.routeRt d).path = .rough)), ended := if quick then some now else none }

/-- A feed whose data is built by the chip's own timing: all but lane inputs that are cut through. -/
def ownTimed (f : Option (Nat × Bool)) : Bool := match f with
  | some (h, false) => decide (0x2000 ≤ h)
  | _ => true

/-! ### Instants -/

/-- The timing of a feed of an output: plane and offset in ns; black keeps the destination's offset (R157). [DEDUCED, log 125] -/
def feedTiming (s : State) (d : Nat) (f : Option (Nat × Bool)) : Nat × Int :=
  match f with
  | none => ((outStream s d).plane, (s.routeRt d).offset.getD 0)
  | some (h, true) => (readPlane s h, 0)
  | some (h, false) => (((sourceInfo s h).map fun i => i.plane).getD 0, 0)

/-- An interface line of a frame and the instant of its EAV, 2^−32 tick of T. -/
structure LineDue where
  frame : Int
  ln : Nat
  at_ : Int
  deriving DecidableEq, Repr

/-- The lines of a plane's frames whose EAV falls in an interval, in their order. -/
def linesDue (s : State) (p : Nat) (offset : Int) (lines : Nat) (since now : Int) : List LineDue :=
  match s.rate p with
  | none => []
  | some q =>
    let f := (s.planeRt p).frame
    ([f - 1, f, f + 1].flatMap fun n => (List.range lines).map fun i =>
      { frame := n, ln := i + 1, at_ := lineInstant q lines i (start32 q (startNumOf s p q n)) + units32 offset }).filter fun e => since < e.at_ ∧ e.at_ ≤ now

/-! ### Pictures (R201, R225) -/

/-- The frame that a berth reads, running or complete, as content. -/
def berthData (s : State) (bay : Nat) : FrameData :=
  let f := frameRead (s.berth bay)
  let r : InRt := tget {} s.tow.ins bay
  if f.complete = false ∧ r.on ∧ r.seq = f.seq then { r.data with format := (s.stream bay).format } else f.data

/-- A line of the frame that a berth reads, if it came whole. -/
def berthWhole (s : State) (bay i : Nat) : Option (List Nat) :=
  let x := s.stream bay
  let f := frameRead (s.berth bay)
  let r : InRt := tget {} s.tow.ins bay
  if f.complete then (if f.data.damaged.contains i then none else f.data.lines[i]?)
  else if r.on ∧ r.seq = f.seq then (if x.form = 1 then rowSamples x.width x.format r.rows i else lineAt r.lines i)
  else none

/-- The frame before the one that a berth reads. -/
def berthBefore (b : BerthRt) : Option InFrame := (b.frames.takeWhile fun f => f.seq ≠ b.last).getLast?

/-- A line that a berth sends: a damaged one is concealed by the frame before, or black where that is being overwritten (R201). -/
def berthLine (s : State) (bay i : Nat) : List Nat :=
  let f := (s.stream bay).format
  match berthWhole s bay i with
  | some l => l
  | none =>
    if s.obj.trims.shallow && farLag s bay (s.berth bay) then blackLine f
    else (((berthBefore (s.berth bay)).bind fun g => g.data.lines[i]?)).getD (blackLine f)

/-- The picture line that a feed of the chip's own timing carries, in the format of the output. -/
def feedLine (s : State) (f : Nat) (feed : Option (Nat × Bool)) (i : Nat) : List Nat :=
  match feed with
  | none => blackLine f
  | some (h, true) => berthLine s h i
  | some (h, false) =>
    if h < 0x2100 then (((s.head (headOf h)).shown.getD (quadOf h) {}).lines).getD i (blackLine f) else patternLine (genShown s ((h - 0x2100) / 8)) i

/-! ### Packets of a frame (R227, R230, R232 to R235) -/

/-- The packets that a feed brings to a built frame; a lost stream's are not repeated (R204). -/
def feedAnc (s : State) (feed : Option (Nat × Bool)) : List AncPkt :=
  match feed with
  | some (h, true) => if (s.streamRt h).lost = 0 then frameAnc (berthData s h) else []
  | _ => []

/-- The payload ID that an output carries (R232): its own, or with PID_MODE 1 that of the frame it takes from its source. -/
def sentPid (s : State) (d : Nat) (feed : Option (Nat × Bool)) : Nat :=
  let x := outStream s d
  let o := formInForce s d
  let passed := match feed with
    | some (h, true) => (berthData s h).payloadId
    | some (h, false) => if h < 0x2000 then (tget {} s.tow.ins h : InRt).data.payloadId else none
    | none => none
  if o.pidMode = 1 then passed.getD (payloadIdOf x.width x.format o.level) else payloadIdOf x.width x.format o.level

/-- The formats whose packets stand in both fields. -/
def twoFields (f : Nat) : Bool := decide (fmtRaster f ≠ 0) && decide (fmtScan f ≠ 0)

/-- The timecode packets that an output generates (R233). -/
def madeTc (s : State) (d : Nat) : List AncPkt :=
  let x := outStream s d
  let o := formInForce s d
  let q := fmtRate x.format
  let pair := tcPairs q && decide ((s.planeRt x.plane).frame % 2 = 1)
  let mk := fun ln => [0, 1].map fun ty => tcPacket ln ty q (generatedTc s x.plane o) (o.dropFrame && tcDrops q) pair
  if o.tcMode = 2 then mk 9 ++ (if twoFields x.format then mk 571 else []) else []

/-- The payload ID packets of a serial output (R232). -/
def madePid (s : State) (d : Nat) (feed : Option (Nat × Bool)) : List AncPkt :=
  let x := outStream s d
  if x.form = 1 then pidPacket 10 (sentPid s d feed) :: (if twoFields x.format then [pidPacket 572 (sentPid s d feed)] else []) else []

/-- A packet of the output's source is kept: timecode only under PASS, and none that an ANC destination replaces (R233, R234). -/
def keptPacket (s : State) (d : Nat) (k : AncPkt) : Bool :=
  !(decide ((formInForce s d).tcMode ≠ 0) && k.isTc) &&
    !((ancDests s (outStream s d)).any fun a => decide ((ancInForce s a).mode = 1) && ancMatches (ancInForce s a) k)

/-- A packet has the DID and SDID of one that the bridge generates (R235). -/
def clashes (made : List AncPkt) (k : AncPkt) : Bool := made.any fun g => decide (g.did = k.did ∧ g.sdid = k.sdid)

/-- A packet counts as payload ID for R235 on every output that carries one. -/
def isMade (s : State) (d : Nat) (k : AncPkt) : Bool := clashes (madeTc s d) k || k.isPid

/-- The packets of an output's frame: those of the feed and the generated ones (in `todo`, or `kept` for horizontal space) and those of
its ANC destinations, with what the limits and clashes drop (R227, R234, R235). [DEDUCED, log 60] -/
def choosePackets (s : State) (d : Nat) (feed : Option (Nat × Bool)) (r : OutRt) : OutRt :=
  let own := onePerId r.seen ((feedAnc s feed).filter (keptPacket s d))
  let taken := (ancDests s (outStream s d)).map (ancTaken8k s)
  let ins := (taken.flatMap Prod.fst).filter fun k => !isMade s d k
  let lost := (taken.map Prod.snd).sum + ((taken.flatMap Prod.fst).filter (isMade s d)).length
  let tc := match (madeTc s d).head? with
    | some k => (readTc (fmtRate (outStream s d).format) k).1
    | none => match own.find? AncPkt.isTc with
      | some k => (readTc (fmtRate (outStream s d).format) k).1
      | none => 0
  { r with ready := true, todo := madePid s d feed ++ madeTc s d ++ own.filter (fun k => !k.hanc), extra := ins.filter (fun k => !k.hanc),
           kept := own.filter (fun k => k.hanc) ++ ins.filter (fun k => k.hanc), lostAnc := r.lostAnc + lost, tc := tc }

/-! ### Packets on a line (R227) -/

/-- Packets that fit a space of so many words, and those left. -/
def fitWords : Nat → List AncPkt → List AncPkt × List AncPkt
  | _, [] => ([], [])
  | room, k :: r =>
    if k.size ≤ room then let x := fitWords (room - k.size) r; (k :: x.1, x.2) else let x := fitWords room r; (x.1, k :: x.2)

/-- A space with the packets it had blanked. -/
def blankOut (blank : Nat) (was : List AncPkt) (space : List Nat) : List Nat :=
  space.mapIdx fun i w => if was.any fun k => k.pos ≤ i ∧ i < k.pos + k.size then blank else w

/-- A space that carried packets `was` and is to carry `now`: unchanged where they are the same, else the new ones from its start on. -/
def placeIn (blank : Nat) (was now : List AncPkt) (space : List Nat) : List Nat :=
  if now = was then space
  else
    let w := now.flatMap AncPkt.sent
    (w ++ (blankOut blank was space).drop w.length).take space.length

/-- The line is the switch line or the one after it, which carry no packet (R227). -/
def barredLine (ln : Nat) : Bool := decide (ln = 7 ∨ ln = 8)

/-- A vertical packet may stand on a line now: it is its own, or its own has passed or is none of the vertical lines. -/
def mayStand (f ln : Nat) (k : AncPkt) : Bool := decide (k.line = ln) || !vancLine f k.line || decide (k.line < ln)

/-! ### Audio packets (R228) -/

/-- Channels of an output, and those that a rate code of 96 kHz marks: linked pairs. -/
def outChannels (s : State) (d : Nat) : List Nat := span (outStream s d).audioFirst (outStream s d).audioCount

/-- The audio groups that an output carries. -/
def outGroups (x : StreamObj) : List Nat := List.range ((x.audioCount + 3) / 4)

/-- The sample clocks from the EAV of the line that holds a marker to the marker (R228): the line before the one that carries it.
[PRESUMED, log 114] [PRESUMED, log 114] -/
def clockPhase (width f rate : Nat) (eav marker : Int) : Nat :=
  let lines := interfaceLines f
  let len := lineInstant rate lines 1 0
  let t := (marker - (eav - len)) % max 1 len
  (t * lineWords width f / max 1 len).toNat

/-- The audio packets of one line, those of data and then those of control (R227, R228). -/
def audioOnLine (s : State) (d : Nat) (ln : Nat) (eav : Int) (r : OutRt) : List AncPkt × List AncPkt × OutRt :=
  let x := outStream s d
  let f := x.format
  let q := fmtRate f
  let due := if barredLine ln then [] else r.rows.filter fun e => (e.1 : Int) * (frac : Nat) < eav
  let moved := decide (ln = 9)
  let data := due.mapIdx fun i e => (outGroups x).map fun g =>
    ({ line := ln, chroma := true, hanc := true, words := audioPacket g ((r.embedded + i) % 255 + 1)
        (clockPhase x.width f q eav ((e.1 : Int) * (frac : Nat))) (moved && decide ((e.1 : Int) * (frac : Nat) < eav - lineInstant q (interfaceLines f) 1 0))
        ((List.range 4).map fun j => e.2.getD (4 * g + j) 0) } : AncPkt)
  let code := fun ch => if (inForce s (leadOf s ch)).linked then 4 else 0
  let ctl := if ln = 9 ∨ (ln = 571 ∧ twoFields f) then (outGroups x).map fun g =>
      let c := x.audioFirst + 4 * g
      ({ line := ln, hanc := true, words := controlPacket g (code c) (code (c + 2)) ((List.range 4).map fun j => bit (decide (4 * g + j < x.audioCount)) * 2 ^ j).sum } : AncPkt)
    else []
  (data.flatten, ctl, { r with rows := if barredLine ln then r.rows else r.rows.filter fun e => ¬(e.1 : Int) * (frac : Nat) < eav,
                               embedded := (r.embedded + due.length) % 255 })

/-! ### A serial line (R224 to R228, R232 to R235) -/

/-- Packets of a source's line that go on with it: not its audio, payload ID, failed audio or replaced ones, one of each DID and SDID a
frame (R224, R227, R229, R232). -/
def passedOn (s : State) (d : Nat) (seen : List (Nat × Nat)) (was : List AncPkt) : List AncPkt :=
  onePerId seen (was.filter fun k => !k.isAudio && !k.isPid && keptPacket s d k)

/-- One line is given its packets: `eav` is the instant of its EAV; a line that passes keeps its source's packets where they stand
(R224, R227). [DEDUCED, log 126] -/
def dressLine (s : State) (d ln : Nat) (eav : Int) (line : List Nat) (r0 : OutRt) : List Nat × OutRt :=
  let x := outStream s d
  let f := x.format
  let n := dataStreams x.width
  let h := hancWords x.width f
  let a := audioOnLine s d ln eav r0
  let r := a.2.2
  let placed := vancLine f ln && r.ready
  let todo := if placed then r.todo.filter (mayStand f ln) else []
  let extra := if placed then r.extra.filter (mayStand f ln) else []
  let kept := if r.ready && !barredLine ln then r.kept.filter fun k => k.line ≤ ln else []
  let xs := (List.range n).map fun j => demux n 0 line j
  let own := fun (hanc : Bool) j (w : List Nat) => scanPackets ln (decide (j % 2 = 0)) hanc w.length 0 w
  let space := fun (hanc : Bool) (w : List Nat) => if hanc then (w.drop 8).take h else w.drop (12 + h)
  let was := fun (hanc : Bool) j => if hanc || (activeRow f ln).isNone then own hanc j (space hanc (xs.getD j [])) else []
  let pass := fun (hanc : Bool) j => passedOn s d r.seen (was hanc j)
  let mine := fun j (ks : List AncPkt) => ks.filter fun k => k.chroma = decide (j = 0)
  let wanted := fun (hanc : Bool) j =>
    if hanc then (if j = 0 then a.1 else if j = 1 then a.2.1 else []) ++ pass true j ++ (if j ≤ 1 then mine j kept else [])
    else if j ≤ 1 then (mine j todo).filter (fun k => k.isPid || isMade s d k) ++ pass false j ++ (mine j todo).filter (fun k => !(k.isPid || isMade s d k)) ++ mine j extra
    else pass false j
  let fit := fun (hanc : Bool) j => fitWords (space hanc (xs.getD j [])).length (wanted hanc j)
  let line1 := mux ((List.range n).map fun j =>
    let w := xs.getD j []
    w.take 8 ++ placeIn (blankWord f j) (was true j) (fit true j).1 (space true w) ++ (w.drop (8 + h)).take 4 ++
      (if (activeRow f ln).isNone then placeIn (blankWord f j) (was false j) (fit false j).1 (space false w) else space false w))
  let sent := (List.range n).flatMap fun j => (fit true j).1 ++ (fit false j).1
  let left := fun (k : AncPkt) => !sent.contains k
  let passed := (List.range n).flatMap fun j => pass true j ++ pass false j
  (line1, { r with todo := if placed then r.todo.filter (fun k => !mayStand f ln k || left k) else r.todo,
                   extra := if placed then r.extra.filter (fun k => !mayStand f ln k || left k) else r.extra,
                   kept := r.kept.filter fun k => !kept.contains k || left k,
                   seen := r.seen ++ passed.map fun k => (k.did, k.sdid),
                   sentAnc := r.sentAnc + (sent.filter fun k => !k.isAudio).length, lostAnc := r.lostAnc + (passed.filter left).length,
                   tc := if (formInForce s d).tcMode = 0 then (match passed.find? AncPkt.isTc with
                     | some k => (readTc (fmtRate f) k).1
                     | none => r.tc) else r.tc })

/-- A frame begins: packets that found no line are dropped and counted (R227). -/
def OutRt.nextFrame (r : OutRt) : OutRt :=
  { r with ready := false, seen := [], todo := [], kept := [], extra := [], lostAnc := r.lostAnc + r.todo.length + r.kept.length + r.extra.length }

/-- The held line goes out, in the level that is set (R226); the next one is held. -/
def OutRt.handOn (r : OutRt) (level f : Nat) (adjust : List Nat → List Nat) (next : List Nat → List Nat) (ln : Nat) : OutRt :=
  let w := adjust r.hand
  let sent := if level = 1 then Config.relevel true f r.line r.before w else w
  let r1 := if r.hand = [] then r else r.push r.handStart sent
  { r1 with before := r.hand, hand := next w, handStart := decide (ln = 1), line := ln }

/-- What a cut does to the line before the joint (R174): line 6 shortened or lengthened with blanking, or a rough cut's fill. -/
def joinLine (width f : Nat) (line6 : Int) (fill : Nat) (line : List Nat) : List Nat :=
  let n := dataStreams width
  let blank := fun k => (List.range (k * n)).map fun i => blankWord f (i % n)
  if fill ≠ 0 then line ++ blank fill else if line6 < 0 then line.take (line.length - line6.natAbs * n) else line ++ blank line6.toNat

/-- A line of a feed is put on a serial output, with a joint before it or not. -/
def putLine (s : State) (d : Nat) (joint : Bool) (feed : Option (Nat × Bool)) (ln : Nat) (eav : Int) (line : List Nat) (r0 : OutRt) : OutRt :=
  let x := outStream s d
  let r1 := if ln = 1 then r0.nextFrame else r0
  let r2 := if 7 ≤ ln ∧ r1.ready = false then choosePackets s d feed r1 else r1
  let b := dressLine s d ln eav line r2
  let q := s.routeRt d
  b.2.handOn (formInForce s d).level x.format (if joint then joinLine x.width x.format q.line6 q.fill else id)
    (fun w => renumber x.width x.format ln (activeOf x.width x.format w) b.1) ln

/-- What becomes of an event of a feed: it is taken, it is the joint at which the feed comes in, or it is not taken. -/
inductive Taken where
  | old
  | joint
  | no
  deriving DecidableEq, Repr

/-- The cut rule of a serial output at a line of a feed (R174). -/
def cutSerial (r : OutRt) (feed : Option (Nat × Bool)) (ln : Nat) (eav : Int) : Taken :=
  match r.join with
  | none => if feed = r.feed then .old else .no
  | some (new, rough) =>
    if feed = new ∧ (if rough then r.ended.any (fun e => decide (e ≤ eav)) else decide (ln = 7)) then .joint
    else if feed = r.feed ∧ r.ended.isNone ∧ ln ≠ 7 then .old
    else .no

/-- The old feed has reached its line-7 EAV while a cut is under way. -/
def noteEnd (r : OutRt) (feed : Option (Nat × Bool)) (ln : Nat) (eav : Int) : OutRt :=
  if r.join.isSome ∧ feed = r.feed ∧ r.ended.isNone ∧ ln = 7 then { r with ended := some eav } else r

/-- A line of a feed comes to a serial output (R174, R224). -/
def lineTo (d : Nat) (feed : Option (Nat × Bool)) (ln : Nat) (eav : Int) (line : List Nat) (s : State) : State :=
  let r := s.out d
  match cutSerial r feed ln eav with
  | .old => s.onOut d (putLine s d false feed ln eav line)
  | .joint => s.onOut d fun r => putLine s d true feed ln eav line { r with feed := feed, join := none, ended := none }
  | .no => s.onOut d fun r => noteEnd r feed ln eav

/-- A built line of the raster, without its packets (R224, R225). -/
def builtLine (x : StreamObj) (ln : Nat) (picture : Nat → List Nat) : List Nat :=
  rasterLine x.width x.format ln [] [] (match activeRow x.format ln with
    | some row => rowWords x.width x.format picture row
    | none => [])

/-! ### Essence frames (R220 to R223, R230, R231) -/

/-- Audio samples of the present frame of a plane: its ticks (R230). -/
def frameTicks (s : State) (p : Nat) : Nat :=
  let n := (s.planeRt p).frame
  (frameTick s p (n + 1) - frameTick s p n).toNat

/-- Bytes of units as units of the stream. -/
def OutRt.pushBytes (r : OutRt) (start : Bool) (bs : List Byte) : OutRt :=
  { r.push start (bs.map BitVec.toNat) with bytes := r.bytes ++ bs }

/-- Audio blocks of 48 that are complete, or all that is left of the frame (R231). -/
def pushAudio (whole : Bool) : Nat → OutRt → OutRt
  | 0, r => r
  | k + 1, r =>
    let n := min 48 (r.samples - r.sampled)
    let got := min n r.rows.length
    if n = 0 ∨ got = 0 ∨ (got < n ∧ whole = false) then r
    else pushAudio whole k { r.pushBytes false (audioUnit r.sampled ((r.rows.take got).map Prod.snd)) with sampled := r.sampled + got, rows := r.rows.drop got }

/-- An ANC unit of an essence frame, if its allowance has room (R223). -/
def pushAnc (r : OutRt) (k : AncPkt) : OutRt :=
  if ancCost k ≤ r.room then { r.pushBytes false (ancUnit k) with room := r.room - ancCost k, sentAnc := r.sentAnc + 1 } else { r with lostAnc := r.lostAnc + 1 }

/-- A picture line of an essence frame; lines that did not come before it are sent as black. -/
def pushLine (f i : Nat) (samples : List Nat) (r : OutRt) : OutRt :=
  if i < r.next then r
  else
    let r1 := (List.range (i - r.next)).foldl (fun q j => q.pushBytes false (lineUnit f (r.next + j) (blackLine f))) r
    { r1.pushBytes false (lineUnit f i samples) with next := i + 1 }

/-- An essence frame ends: lines that did not come, the samples left, the end unit (R220, R221). -/
def endFrame (x : StreamObj) (r : OutRt) : OutRt :=
  if r.opened = false then r
  else
    let r1 := (List.range (fmtH x.format - r.next)).foldl (fun r _ => pushLine x.format r.next (blackLine x.format) r) r
    let r2 := pushAudio true 64 r1
    { r2.pushBytes false (endUnit r2.bytes) with opened := false, bytes := [] }

/-- An essence frame begins: START, header, and the packets known at its start, in the order of R227 (R223, R230, R231). -/
def openFrame (s : State) (d : Nat) (feed : Option (Nat × Bool)) (damaged : Bool) (r0 : OutRt) : OutRt :=
  let x := outStream s d
  let r1 := choosePackets s d feed (endFrame x r0).nextFrame
  let n := frameTicks s x.plane
  let rate := (s.rate x.plane).getD 0
  let r2 : OutRt := { r1 with opened := true, bytes := [], next := 0, sampled := 0, samples := n, room := ancAllowance x rate - essenceOverhead x n, damaged := damaged,
                              rows := r1.rows.filter fun e => decide (frameTick s x.plane (s.planeRt x.plane).frame ≤ e.1) }
  let r3 := r2.pushBytes true (headerUnit x.format x.audioCount damaged (sentPid s d feed) (s.routeRt d).essSeq n)
  { (r1.todo ++ r1.kept ++ r1.extra).foldl pushAnc r3 with todo := [], kept := [], extra := [] }

/-- The frame of a destination's essence output is counted (R230). -/
def countFrame (d : Nat) (s : State) : State := s.onRouteRt d fun r => { r with essSeq := wrapAdd 32 r.essSeq 1 }

/-- The cut rule of an essence output at a START of a feed (R175): the old feed's frame is carried to its end, and the new one comes in at
its first START, in a rough cut not before the old one's line 7. -/
def cutEssence (r : OutRt) (feed : Option (Nat × Bool)) (at_ : Int) : Taken :=
  match r.join with
  | none => if feed = r.feed then .old else .no
  | some (new, rough) => if feed = new ∧ (!rough || r.ended.any fun e => decide (e ≤ at_)) then .joint else .no

/-- A feed's frame begins at an essence output. -/
def startTo (d : Nat) (feed : Option (Nat × Bool)) (damaged : Bool) (at_ : Int) (s : State) : State :=
  match cutEssence (s.out d) feed at_ with
  | .no => s
  | .old => countFrame d (s.onOut d fun r => { openFrame s d feed damaged r with start := at_ })
  | .joint => countFrame d (s.onOut d fun r => { openFrame s d feed damaged r with start := at_, feed := feed, join := none, ended := none })

/-- The old feed of an essence output reaches its line 7 (R175). -/
def endTo (d : Nat) (feed : Option (Nat × Bool)) (at_ : Int) (s : State) : State :=
  s.onOut d fun r => if r.join.isSome ∧ feed = r.feed ∧ r.ended.isNone then { r with ended := some at_ } else r

/-- A unit of a feed's frame comes to an essence output that carries it. -/
def unitTo (d : Nat) (feed : Option (Nat × Bool)) (f : OutRt → OutRt) (s : State) : State :=
  let r := s.out d
  if r.opened ∧ feed = r.feed then s.onOut d f else s

/-! ### Built feeds at a barge -/

/-- One line instant of a feed of the chip's own timing (R224, R231). -/
def ownLine (d : Nat) (feed : Option (Nat × Bool)) (s : State) (e : LineDue) : State :=
  let x := outStream s d
  let k := fmtH x.format / max 1 (activeRows x.format)
  if x.form = 1 then lineTo d feed e.ln e.at_ (builtLine x e.ln (feedLine s x.format feed)) s
  else
    let dmg := match feed with
      | some (h, true) => decide ((frameRead (s.berth h)).damagedLines ≠ 0)
      | some (h, false) => decide (h < 0x2100) && (s.head (headOf h)).dmg
      | none => false
    let s1 := if e.ln = 12 then startTo d feed dmg e.at_ s else if e.ln = 7 then endTo d feed e.at_ s else s
    let s2 := match activeRow x.format (e.ln - 1) with
      | some row => unitTo d feed (fun r => (List.range k).foldl (fun r i => pushLine x.format (row * k + i) (feedLine s x.format feed (row * k + i)) r) r) s1
      | none => s1
    if e.ln = 2 then unitTo d feed (endFrame x) s2 else s2

/-- The feeds of an output whose lines are built as they fall due. -/
def ownFeeds (r : OutRt) : List (Option (Nat × Bool)) := (r.feed :: (match r.join with
  | some j => [j.1]
  | none => [])).filter ownTimed

/-- A video output is built up to an instant. -/
def buildTo (now : Int) (d : Nat) (s : State) : State :=
  let r := s.out d
  let x := outStream s d
  let built := (ownFeeds r).foldl (fun s f =>
    let t := feedTiming s d f
    (linesDue s t.1 t.2 (interfaceLines x.format) (r.since.getD now) now).foldl (ownLine d f) s) s
  built.onOut d fun r => pushAudio false 8 { r with since := some now }

/-- What an output has to send in the barge that begins now, as START and units (R27, R28). -/
def takeLoad (d : Nat) (s : State) : Bool × List Nat × State :=
  let x := outStream s d
  let l := bargeLoad (x.width * bayMax x.form) (s.out d).queue
  ((l.head?.map Prod.fst).getD false, l.map Prod.snd, s.onOut d fun r => { r with queue := r.queue.drop l.length })

/-- A lane feed that gives way on an essence output reaches its line 7, five lines before its next START (R175, R176). -/
def endByTime (now : Int) (d : Nat) (s : State) : State :=
  let x := outStream s d
  let r := s.out d
  match s.rate x.plane with
  | some q =>
    let end7 := r.start + frameLen32 q - lineInstant q (switchLines x.format) 5 0
    if x.form = 2 ∧ ownTimed r.feed = false ∧ end7 ≤ now then endTo d r.feed end7 s else s
  | none => s

/-- An output stream of a lane in the barge that begins at `now`: its 150 bytes a bay, by bay of the lane. -/
def outputBays (now : Int) (d : Nat) (s : State) : List (Nat × List Byte) × State :=
  let x := outStream s d
  let s1 := if x.form = 3 then s else buildTo now d (endByTime now d (syncFeed now d s))
  let l := takeLoad d s1
  ((dealBays x.width x.form l.1 l.2.1).mapIdx fun i b => (d % 64 + i, b), l.2.2)

/-! ### Audio words of a tick (R222, R228, R231, R254) -/

/-- The words of an output's channels in the present tick wait for its packets, blocks or bays; an audio-only frame begins with the frame
tick of its plane (R222). -/
def pushRow (s : State) (k : Nat) : State :=
  let x := s.stream k
  let d := keyBay k
  let ws := (outChannels s d).map fun ch => (s.dstChan ch).out
  if x.audioCount = 0 then s
  else if x.form = 3 then s.onOut d fun r => r.push (frameNow s x.plane) ws
  else s.onOut d fun r => { r with rows := (r.rows ++ [(s.now, ws)]).drop (r.rows.length + 1 - 8192) }

/-- The audio words of a tick go to every LIVE output. -/
def pushRows (s : State) : State := (liveOutputs s).foldl pushRow s

end Sys2Proof.Machine
end

