-- ==== Sys2Proof/Machine/Inputs.lean ====
section
/-! DEFINITION.  Reception of the input streams: serial lines, essence units and audio words as they arrive, what they give to the outputs that
take them as they come, and the frames they make (spec/08_bridging_and_measurement.md, R229, R230, R238, R239;
spec/11_towpath.md R338). -/

namespace Sys2Proof.Machine
open Sys2Proof

/-- Reception of an input stream. -/
def State.inn (s : State) (bay : Nat) : InRt := tget {} s.tow.ins bay

/-- Change the reception of an input stream. -/
def State.onIn (s : State) (bay : Nat) (f : InRt → InRt) : State := s.onTow fun t => { t with ins := tmod {} t.ins bay f }

/-- The feed that a lane input is, cut through. -/
def laneFeed (bay : Nat) : Option (Nat × Bool) := some (bay, false)

/-- LIVE outputs that take a lane input as it comes, or are about to. -/
def passOuts (s : State) (bay : Nat) : List Nat :=
  (s.tow.outs.filter fun e => streamLive s (streamKey 1 e.1) && (decide (e.2.feed = laneFeed bay) || decide (e.2.target = laneFeed bay))).map Prod.fst

/-- Those of a form. -/
def passForm (s : State) (bay form : Nat) : List Nat := (passOuts s bay).filter fun d => decide ((outStream s d).form = form)

/-- Audio samples of an input stream arrive, sample by sample. -/
def soundArrives (bay : Nat) (rows : List (List Nat)) (s : State) : State :=
  if rows = [] then s
  else
    let words := (sourceChannels s bay).mapIdx fun i ch => (ch, rows.map fun r => r.getD i (2 ^ 32))
    words.foldl (fun s w => measureWords s w.1 w.2) (audioArrives bay words s)

/-! ### Serial lines (R225, R229, R239) -/

/-- `n` words of a value stand from place i on. -/
def runAt (n w : Nat) (us : List (Option Nat)) (i : Nat) : Bool := (List.range n).all fun j => decide (us.getD (i + j) none = some w)

/-- An EAV of `n` multiplexed data streams stands at place i. -/
def eavAt (n : Nat) (us : List (Option Nat)) (i : Nat) : Bool :=
  runAt n 0x3FF us i && runAt (2 * n) 0 us (i + n) && (us.getD (i + 3 * n) none).any fun w => bitOf w 6

/-- Words of the first line of those that wait, once they have come: up to the next EAV, at most a line's; `all_` says that no more
will come. -/
def lineCut (n len : Nat) (us : List (Option Nat)) (all_ : Bool) : Option Nat :=
  if us = [] ∨ (us.length < len + 4 * n ∧ all_ = false) then none
  else some ((((List.range len).find? fun i => eavAt n us (i + 1)).map (· + 1)).getD (min len us.length))

/-- A serial line as read. -/
structure SerialLine where
  ln : Nat
  words : List Nat
  audio : List (List Nat)
  anc : List AncPkt
  deriving DecidableEq, Repr

/-- The words of a line, lost ones replaced by the blanking or black of their positions, with TRS as the format has them (R338). -/
def mendLine (width f ln : Nat) (us : List (Option Nat)) : List Nat :=
  let black := match activeRow f ln with
    | some row => rowWords width f (fun _ => blackLine f) row
    | none => []
  let t := rasterLine width f ln [] [] black
  us.mapIdx fun i u => u.getD (t.getD i 0)

/-- The TRS of a data stream is that of its place: EAV at 0, SAV after the horizontal space. -/
def trsOk (f ln h : Nat) (x : List Nat) : Bool :=
  let field := secondField f ln
  let v := (activeRow f ln).isNone
  decide (x.take 4 = trs field v true) && decide (((x.drop (8 + h)).take 4) = trs field v false)

/-- Samples that a line nominally carries: those missing where the line was damaged (R257). [DEDUCED, log 113] -/
def nominalRows (f ln : Nat) : Nat :=
  let q := rateND (fmtRate f)
  let at_ := fun k => k * 48000 * q.2 / (q.1 * interfaceLines f)
  at_ ln - at_ (ln - 1)

/-- A line is read: checked, its active words, packets and audio taken (R225, R229, R239). [DEDUCED, log 113] -/
def readLine (width f : Nat) (levelB : Bool) (us : List (Option Nat)) (r : InRt) : SerialLine × InRt :=
  let n := dataStreams width
  let h := hancWords width f
  let lines := interfaceLines f
  let expected := r.line % lines + 1
  let whole := us.all Option.isSome
  let got := us.map fun u => u.getD 0
  let level := if levelB then Config.relevel false f expected r.prev got else got
  let xs := (List.range n).map fun j => demux n 0 level j
  let x0 := xs.headD []
  let n0 := readLineNumber (x0.getD 4 0) (x0.getD 5 0)
  let ln := if whole ∧ 1 ≤ n0 ∧ n0 ≤ lines then n0 else expected
  let trsBad := bit (whole && !(xs.all (trsOk f ln h))) + bit (whole && decide (n0 ≠ expected)) + bit (!levelB && decide (us.length ≠ n * lineWords width f))
  let prev := activeOf width f r.prev
  let crcBad := whole && r.whole && decide (r.prev ≠ []) && (List.range n).any fun j => let x := xs.getD j []; decide (crcWords (crc18 (prev.getD j [] ++ x.take 6)) ≠ (x.drop 6).take 2)
  let ps := if whole then linePackets width f ln level else []
  let sound := ps.filter AncPkt.isAudio
  let rows := if whole then deembed r.channels sound else missingRows (nominalRows f ln) r.channels
  let k := fmtH f / max 1 (activeRows f)
  let hurt := match activeRow f ln with
    | some row => if whole then [] else (List.range k).map fun i => row * k + i
    | none => []
  ({ ln := ln, words := if whole then level else mendLine width f ln us, audio := rows, anc := ps.filter fun p => !p.isAudio },
   { r with
     line := ln, prev := if whole then level else mendLine width f ln us, whole := whole, read := r.read + 1, samples := r.samples + rows.length,
     rows := match activeRow f ln with
       | some row => if whole then r.rows ++ [(row, xs.map fun x => (x.drop (12 + h)).take (activeWords width f))] else r.rows
       | none => r.rows,
     width := us.length / max 1 n, active := x0.length - (12 + h), fields := r.fields || bitOf (x0.getD 3 0) 8, wide := r.wide || levelB,
     data := { r.data with
       anc := r.data.anc ++ ps.filter (fun p => !p.isAudio), audio := r.data.audio ++ rows, damaged := r.data.damaged ++ hurt, levelB := levelB,
       payloadId := if r.data.payloadId.isSome then r.data.payloadId else (ps.find? fun p => p.isPid && p.good).map pidOf,
       crcLines := r.data.crcLines + bit crcBad, trsErrors := r.data.trsErrors + trsBad,
       ancSeen := r.data.ancSeen + ps.length, ancBad := r.data.ancBad + (ps.filter fun p => !p.good).length } })

/-- The picture lines that a row just read completes: its own, or all of them with the last row where the standards map the picture. -/
def linesGiven (width f : Nat) (r : InRt) (row : Nat) : List (Nat × List Nat) :=
  let all_ := if plainMapping width f then [row] else if r.rows.length = activeRows f then List.range (fmtH f) else []
  all_.filterMap fun i => (rowSamples width f r.rows i).map fun l => (i, l)

/-- A packet of a source goes on to an essence output (R230, R233, R234). -/
def ancTo (d bay : Nat) (k : AncPkt) (s : State) : State :=
  if k.good && !k.isPid && keptPacket s d k then
    unitTo d (laneFeed bay) (fun r => if r.seen.contains (k.did, k.sdid) then r else
      let r1 := pushAnc r k
      { r1 with seen := r1.seen ++ [(k.did, k.sdid)], tc := if k.isTc && decide ((formInForce s d).tcMode = 0) then (readTc (fmtRate (outStream s d).format) k).1 else r1.tc }) s
  else s

/-- A serial line goes on to an essence output: lines 12, 7 and 2 are the instants of R176, active rows become picture lines, packets
become units (R177, R230). -/
def lineToEssence (bay : Nat) (at_ : Int) (l : SerialLine) (s : State) (d : Nat) : State :=
  let x := s.stream bay
  let o := outStream s d
  let r := s.inn bay
  let feed := laneFeed bay
  let s1 := if l.ln = 12 then startTo d feed (decide (r.data.damaged ≠ [])) at_ s else if l.ln = 7 then endTo d feed at_ s else s
  let s2 := match activeRow x.format l.ln with
    | some row => (linesGiven x.width x.format r row).foldl (fun s p => unitTo d feed (pushLine o.format p.1 p.2) s) s1
    | none => s1
  let s3 := l.anc.foldl (fun s k => ancTo d bay k s) s2
  if l.ln = 2 then unitTo d feed (endFrame o) s3 else s3

/-- A serial line goes on to the outputs that take the stream as it comes (R174, R177, R224). -/
def lineOn (bay : Nat) (at_ : Int) (l : SerialLine) (s : State) : State :=
  let s1 := (passForm s bay 1).foldl (fun s d => lineTo d (laneFeed bay) l.ln at_ l.words s) s
  (passForm s1 bay 2).foldl (lineToEssence bay at_ l) s1

/-- Lines of a serial stream that have come are read one by one. -/
def serialLines (bay : Nat) (at_ : Int) (all_ : Bool) : Nat → State → State
  | 0, s => s
  | k + 1, s =>
    let x := s.stream bay
    let r := s.inn bay
    let f := (s.streamRt bay).effFormat
    let b := decide (x.width = 2) && (r.wide || eavAt 4 r.units 0)
    let n := dataStreams x.width
    match if b then (if r.units.length < n * lineWords x.width f ∧ all_ = false then none else lineCut n (n * lineWords x.width f) (r.units.take (n * lineWords x.width f)) true)
        else lineCut n (n * lineWords x.width f) r.units all_ with
    | none => s
    | some m =>
      let g := readLine x.width f b (r.units.take m) r
      serialLines bay at_ all_ k (lineOn bay at_ g.1 (soundArrives bay g.1.audio (s.onIn bay fun _ => { g.2 with units := r.units.drop m })))

/-! ### The format that a serial frame shows (R239) -/

/-- The listed format codes. -/
def formatCodes : List Nat :=
  ((List.range 6).flatMap fun r => (List.range 13).flatMap fun q => (List.range 3).flatMap fun c => (List.range 4).flatMap fun m => (List.range 2).map fun d =>
    r * 4096 + q * 256 + c * 64 + m * 16 + d * 4).filter fmtListed

/-- Frames spaced like a rate: `total` ns over `k` periods, apart from its 1,000/1,001 partner. -/
def rateFits (rate k : Nat) (total : Int) : Bool :=
  let q := rateND rate
  let want := k * 1000000000 * q.2
  decide ((total * (q.1 : Nat) - (want : Nat)).natAbs * 2200 ≤ want)

/-- Sampling, depth and scan that a payload ID gives; 4:2:2, 10-bit, interlaced fields without it. [PRESUMED, log 116] -/
def pidShape (id : Option Nat) (fields : Bool) : Nat × Nat × Nat :=
  match id with
  | none => (0, 0, bit fields)
  | some v =>
    let m := match v / 65536 % 16 with
      | 1 => 1
      | 2 => 2
      | 6 => 3
      | _ => 0
    (m, bit (decide (v / 2 ^ 24 % 4 = 2)), if fields then (if bitOf v 14 then 2 else 1) else 0)

/-- The format code that the structure of a serial frame shows, 0xFFFE if none. -/
def serialSeen (width : Nat) (r : InRt) : Nat :=
  let k := r.starts.length - 1
  let total := r.starts.getLastD 0 - r.starts.headD 0
  let shape := pidShape r.data.payloadId r.fields
  ((formatCodes.find? fun f => serialIn width f && decide (fmtSampling f = shape.1 ∧ fmtDepth f = shape.2.1 ∧ fmtScan f = shape.2.2) && decide (interfaceLines f = r.read) &&
    decide (lineWords width f = r.width) && decide (activeWords width f = r.active) && decide (1 ≤ k) && rateFits (fmtRate f) k total)).getD 0xFFFE

/-- A level B signal carries two streams, as its payload ID says (R226). [PRESUMED, log 116] -/
def dualStream (r : InRt) : Bool := r.wide && r.data.payloadId.any fun v => decide (v % 256 ≠ 0x8A)

/-- A serial frame as content. -/
def serialData (width f : Nat) (r : InRt) : FrameData :=
  { r.data with format := f, lines := picture f (rowSamples width f r.rows), damaged := (List.range (fmtH f)).filter fun i => (rowSamples width f r.rows i).isNone,
                levelB := r.wide, dual := dualStream r, seen := serialSeen width r }

/-! ### Essence units (R220, R338) -/

/-- Raster lines made of an essence frame so far go on to a serial output, up to a place of the frame that is counted on past its end
into the next one's first lines. -/
def rasterTo (bay : Nat) (at_ : Int) (upTo : Nat) (s : State) : State :=
  let r := s.inn bay
  let step := fun (s : State) (i : Nat) => (passForm s bay 1).foldl (fun s d =>
    let o := outStream s d
    let ln := i % interfaceLines o.format + 1
    lineTo d (laneFeed bay) ln at_ (builtLine o ln fun j => (lineAt r.lines j).getD (blackLine o.format)) s) s
  ((List.range (upTo - r.line)).foldl (fun s i => step s (r.line + i)) s).onIn bay fun r => { r with line := max r.line upTo }

/-- The place up to which a raster can be made once a picture line has come: the row's line, where its own lines suffice. -/
def rasterPlace (s : State) (bay i : Nat) : Nat :=
  let f := (s.stream bay).format
  let k := fmtH f / max 1 (activeRows f)
  if plainMapping (s.stream bay).width f && decide ((i + 1) % max 1 k = 0) then rowLine f (i / max 1 k) else 0

/-- An essence frame's last place: its lines, and the first eleven of the next frame, before its START (R176). -/
def rasterEnd (f : Nat) : Nat := interfaceLines f + 11

/-- What one unit gives to the outputs and to the audio. -/
def essenceOn (bay : Nat) (at_ : Int) (got : EssGot) (s : State) : State :=
  let f := (s.stream bay).format
  let feed := laneFeed bay
  let es := passForm s bay 2
  match got with
  | .header =>
    let r := s.inn bay
    let s1 := s.onIn bay fun r => { r with line := 11, data := { r.data with payloadId := if r.header 4 4 = 0 then none else some (r.header 4 4) } }
    let s2 := es.foldl (fun s d => startTo d feed (bitOf (r.header 3 1) 0) at_ s) s1
    rasterTo bay at_ (if plainMapping (s.stream bay).width f then rowLine f 0 - 1 else 11) s2
  | .line i samples =>
    let s1 := if (s.inn bay).whole then es.foldl (fun s d => unitTo d feed (pushLine f i samples) s) s else s
    rasterTo bay at_ (rasterPlace s1 bay i) s1
  | .lostLine i => rasterTo bay at_ (rasterPlace s bay i) s
  | .anc k =>
    let s1 := es.foldl (fun s d => ancTo d bay k s) s
    (passForm s1 bay 1).foldl (fun s d => s.onOut d fun r =>
      if r.feed = feed ∧ k.good ∧ !k.isPid ∧ !k.isAudio ∧ keptPacket s d k ∧ r.seen.contains (k.did, k.sdid) = false then
        { r with seen := r.seen ++ [(k.did, k.sdid)], todo := if k.hanc then r.todo else r.todo ++ [k], kept := if k.hanc then r.kept ++ [k] else r.kept }
      else r) s1
  | .audio rows => soundArrives bay rows s
  | .ended => rasterTo bay at_ (rasterEnd f) (es.foldl (fun s d => unitTo d feed (endFrame (outStream s d)) s) s)
  | .skipped => s

/-- Units of an essence stream that have come are read one by one. -/
def essenceUnits (bay : Nat) (at_ : Int) (all_ : Bool) : Nat → State → State
  | 0, s => s
  | k + 1, s =>
    match (s.inn bay).nextUnit (s.streamRt bay).effFormat all_ with
    | none => s
    | some (got, r) => essenceUnits bay at_ all_ k (essenceOn bay at_ got (s.onIn bay fun _ => r))

/-! ### Audio-only words (R222) -/

/-- Words of an audio-only stream that have come, in whole samples; the first after a START is channel 0's. -/
def audioWords (bay : Nat) (s : State) : State :=
  let r := s.inn bay
  let c := max 1 r.channels
  let n := r.units.length / c
  let rows := rowsOf c n (r.units.map fun u => (u.map fun w => w / 16 * 16).getD (2 ^ 32))
  soundArrives bay rows (s.onIn bay fun r => { r with units := r.units.drop (n * c), samples := r.samples + n, data := { r.data with audio := r.data.audio ++ rows } })

/-! ### Frames and barges -/

/-- What has come of a stream is read, as far as it goes; `all_` says that the frame has no more. -/
def readOn (bay : Nat) (at_ : Int) (all_ : Bool) (s : State) : State :=
  let x := s.stream bay
  let n := (s.inn bay).units.length
  if x.form = 1 then serialLines bay at_ all_ (n + 1) s else if x.form = 2 then essenceUnits bay at_ all_ (n + 1) s else audioWords bay s

/-- The running frame of a stream is complete. -/
def frameEnds (bay : Nat) (doneNs : Int) (s : State) : State :=
  let at_ := units32 doneNs - s.time.e
  let s1 := readOn bay at_ true s
  let s2 := if (s1.stream bay).form = 2 then
      rasterTo bay at_ (rasterEnd (s1.stream bay).format) ((passForm s1 bay 2).foldl (fun s d => unitTo d (laneFeed bay) (endFrame (outStream s d)) s) s1)
    else s1
  let x := s2.stream bay
  let r := s2.inn bay
  let f := (s2.streamRt bay).effFormat
  let d := if x.form = 1 then serialData x.width f r else if x.form = 2 then r.essenceData f else r.data
  (seeFrame bay d r.start doneNs s2).onIn bay fun r => { r with on := false }

/-- A START: the frame before it is complete, and a frame begins (R28). -/
def startArrives (bay seq : Nat) (atNs : Int) (s : State) : State :=
  let s1 := frameBegins bay seq atNs (if (s.inn bay).on then frameEnds bay atNs s else s)
  s1.onIn bay fun r =>
    { on := true, seq := seq, start := atNs, count := r.count, prev := r.prev, whole := if (s.stream bay).form = 1 then r.whole else true, channels := (s.stream bay).audioCount,
      line := if (s.stream bay).form = 1 then 0 else r.line, starts := (r.starts ++ [atNs]).drop (r.starts.length + 1 - 9) }

/-- An essence frame whose end unit has come is complete (R238). -/
def endedNow (bay : Nat) (atNs : Int) (s : State) : State :=
  if (s.stream bay).form = 2 ∧ (s.inn bay).on ∧ (s.inn bay).phase = 2 ∧ (s.inn bay).units = [] then frameEnds bay atNs s else s

/-- The units of a stream in one barge arrive; in a damaged one they are lost, and where even their count is, as many are taken to be
lost as the barge before carried (R338). [DEDUCED, log 113] -/
def unitsArrive (bay seq : Nat) (atNs : Int) (start damaged : Bool) (counted : Option (List Nat)) (s : State) : State :=
  let r := s.inn bay
  let got := match counted with
    | some us => us.length
    | none => r.count
  let us := match damaged, counted with
    | false, some us => us.map some
    | _, _ => List.replicate got none
  let s1 := if start && !damaged then startArrives bay seq atNs s else s
  let s2 := s1.onIn bay fun r => if r.on then { r with units := r.units ++ us, count := got, whole := r.whole && (decide ((s.stream bay).form = 1) || !us.contains none) } else { r with count := got }
  if (s2.inn bay).on then endedNow bay atNs (readOn bay (units32 atNs - s.time.e) false s2) else s2

end Sys2Proof.Machine
end

