-- ==== Sys2Proof/Machine/Towpath.lean ====
section
/-! DEFINITION.  Towpath: line coding, the barge, reception, bring-up, mooring, adaptation, and its two commands
(spec/11_towpath.md).  Lanes 128 and 129 are the Tandem lanes (R370). -/

namespace Sys2Proof.Machine
open Sys2Proof

/-! ### Line coding (R327 to R331, R337) -/

/-- The Gray value of two consecutive line bits, the first in time first (R327). -/
def grayOf (a b : Bool) : Nat := if a then (if b then 2 else 3) else (if b then 1 else 0)

/-- The PAM4 level of a value (R327). -/
def pamLevel (v : Nat) : Int := 2 * (v : Int) - 3

/-- Precoding of Gray values at the transmitter (R327): v = (g − v_prev) mod 4. -/
def precode : Nat → List Nat → List Nat
  | _, [] => []
  | p, g :: r => ((g + 4 - p) % 4) :: precode ((g + 4 - p) % 4) r

/-- Decoding at the receiver (R327): g = (v + v_prev) mod 4. -/
def unprecode : Nat → List Nat → List Nat
  | _, [] => []
  | p, v :: r => ((v + p) % 4) :: unprecode v r

/-- Gray values of line bits. -/
def grayPairs : List Bool → List Nat
  | a :: b :: r => grayOf a b :: grayPairs r
  | _ => []

/-- The comma tail of a barge (R329). -/
def commaTail (seq kind : Nat) : Nat :=
  let b2 := kind + 4 * kind
  let lo := seq % 65536
  lo + 65536 * b2 + 2 ^ 24 * (255 - Nat.xor (Nat.xor (lo % 256) (lo / 256)) b2)

/-- KIND of a barge (R329). -/
def KindSt.code : KindSt → Nat
  | .data => 0
  | .calibration => 1
  | .training => 2

/-- The check byte of a comma tail is right (R329). -/
def tailCheck (t : Nat) : Bool := decide (t / 2 ^ 24 % 256 = 255 - Nat.xor (Nat.xor (t % 256) (t / 256 % 256)) (t / 65536 % 256))

/-- What an accepted comma shows (R329): BARGE_SEQ[15:0] and KIND; none when it is not accepted. -/
def commaOf (tail errors : Nat) : Option (Nat × KindSt) :=
  let k := t2 tail
  if 2 < errors ∨ tailCheck tail = false ∨ k ≠ tail / 2 ^ 18 % 4 ∨ k = 3 then none
  else some (tail % 65536, if k = 0 then .data else if k = 1 then .calibration else .training)
where
  /-- KIND, first copy. -/
  t2 (t : Nat) : Nat := t / 65536 % 4

/-- The 64 levels of a comma block (R329). -/
def commaBlock (tail : Nat) : List Int :=
  (List.range 48).map (fun j => if bitOf 0xF3A05C961E2D j then 3 else -3) ++
    (List.range 16).map fun i => pamLevel (grayOf (bitOf tail (2 * i)) (bitOf tail (2 * i + 1)))

/-- The register of the scrambler at a barge's first codeword bit (R331). -/
def scrambleSeed (seq : Nat) : Nat := (seq % 65536) * 32768 + (32767 - seq % 32768)

/-- One step of the PRBS31 generator (R331): its output and its next register. -/
def prbsStep (r : Nat) : Bool × Nat :=
  let o := bitOf r 30 != bitOf r 27
  (o, (r * 2 % 2 ^ 31) + bit o)

/-- Scrambling is additive: XOR with the generator's outputs (R331). -/
def scramble : Nat → List Bool → List Bool
  | _, [] => []
  | r, b :: l => (b != (prbsStep r).1) :: scramble (prbsStep r).2 l

/-! ### Forward error correction (R328, R330) -/

/-- Doubling in GF(2^10) modulo x^10 + x^3 + 1, the field of IEEE 802.3 clause 119 (R330). [PRESUMED, log 111] -/
def gfDouble (a : Nat) : Nat := if 512 ≤ a then Nat.xor (2 * a) 0x409 else 2 * a

/-- The product of two field elements, symbol bit by symbol bit. -/
def gfMul (a b : Nat) : Nat :=
  ((List.range 10).foldl (fun (r : Nat × Nat) i => (if bitOf b i then Nat.xor r.1 r.2 else r.1, gfDouble r.2)) (0, a)).1

/-- The product of a polynomial (highest coefficient first) and x + c. -/
def gfTimesRoot (c : Nat) (p : List Nat) : List Nat :=
  List.zipWith Nat.xor (p ++ [0]) (0 :: p.map (gfMul c))

/-- The generator polynomial of RS(544,514): the product of x + α^j for j from 0 to 29, its leading 1 left out. [PRESUMED, log 111] -/
def rsGenerator : List Nat :=
  (((List.range 30).foldl (fun (r : List Nat × Nat) _ => (gfTimesRoot r.2 r.1, gfDouble r.2)) ([1], 1)).1).tail

/-- One message symbol shifted through the encoder. -/
def rsShift (g reg : List Nat) (m : Nat) : List Nat :=
  let f := Nat.xor m (reg.headD 0)
  List.zipWith Nat.xor (reg.tail ++ [0]) (g.map (gfMul f))

/-- The 30 parity symbols of 514 message symbols (R330). [PRESUMED, log 111] -/
def rsParity (msg : List Nat) : List Nat := msg.foldl (rsShift rsGenerator) (List.replicate 30 0)

/-- Symbols of ten bits, bit 0 first. -/
def tenBits : Nat → List Bool → List Nat
  | 0, _ => []
  | k + 1, l => leBits (l.take 10) :: tenBits k (l.drop 10)
where
  /-- A number from its bits, bit 0 first. -/
  leBits : List Bool → Nat
    | [] => 0
    | b :: r => bit b + 2 * leBits r

/-- Bits of symbols, each bit 0 first. -/
def symbolBits (l : List Nat) : List Bool := l.flatMap fun x => (List.range 10).map (bitOf x)

/-- The 5,440 bits of codeword k of a payload: 514 message symbols, then 30 parity symbols (R330). [PRESUMED, log 111] -/
def codewordBits (payload : List Bool) (k : Nat) : List Bool :=
  let msg := tenBits 514 ((payload.drop (5140 * k)).take 5140)
  symbolBits (msg ++ rsParity msg)

/-- The bits of a PRBS31 register (R331). -/
def prbsBits : Nat → Nat → List Bool
  | 0, _ => []
  | k + 1, r => (prbsStep r).1 :: prbsBits k (prbsStep r).2

/-- The PRBS31 register after a number of steps (R331). -/
def prbsAfter : Nat → Nat → Nat
  | 0, r => r
  | k + 1, r => prbsAfter k (prbsStep r).2

/-- The levels of line bits, precoded or not (R327). -/
def levelsOf (pre : Bool) (bits : List Bool) : List Int :=
  (if pre then precode 0 (grayPairs bits) else grayPairs bits).map pamLevel

/-- The PAM4 levels of the barge a lane sends, as R327 to R331 and R337 make them of what the lane holds: the comma, then the scrambled
codewords of a data barge, or a calibration barge's PRBS31, or a training barge's control word and the PRBS31 that runs on from barge to
barge (R347), from a start that the spec does not give and that is free. [PRESUMED, log 111] -/
def lineLevels (lane : Nat) (l : LaneRt) : List Int :=
  l.txComma ++ (match l.txKind with
    | .data => levelsOf l.precTx (scramble l.txSeed ((List.range 16).flatMap (codewordBits (bitsOf l.txBytes))))
    | .calibration => levelsOf false (prbsBits 87040 l.txSeed)
    | .training => levelsOf false (bitsOf l.txBytes ++ prbsBits 86784 (prbsAfter (86784 * l.trainSent) (Config.trainStart lane % 2 ^ 31))))

/-- A barge is a calibration barge (R337). -/
def isCalibration (seq : Nat) : Bool := decide (seq % 13107200 = 512)

/-! ### The payload (R332 to R334) -/

/-- Codewords that carry hold h (R330, R332). -/
def holdCodewords (h : Nat) : List Nat :=
  let a := (1152 + 9600 * h) / 5140
  let b := (10751 + 9600 * h) / 5140
  (List.range (b + 1 - a)).map (a + ·)

/-- The 1,200 bytes of hold h. -/
def holdBytes (payload : List Byte) (h : Nat) : List Byte := (payload.drop (144 + 1200 * h)).take 1200

/-- A field of the barge header (R333). -/
def hdr (payload : List Byte) (off n : Nat) : Nat := leNat ((payload.drop off).take n)

/-- HCRC over header bits 0 to 1,135 (R334). -/
def hcrcOf (payload : List Byte) : Nat := crc16 0xFFFF (payload.take 142)

/-- Where the seal of a hold starts in a barge (R334), `prev` being the seal of the barge before. -/
def sealStart (seq prev : Nat) : Nat := if seq % 1024 = 0 then 0xFFFF else prev

/-- The 336 bytes of the tender. -/
def tenderBytes (payload : List Byte) : List Byte := (payload.drop 9744).take 336

/-- The tender's CRC is right (R342). -/
def tenderOk (t : List Byte) : Bool := decide (crc32 (t.take 332) = leNat ((t.drop 332).take 4))

/-- The records of a tender (R342): types and payloads, a TYPE of 0 ending the list. -/
def tenderRecords : Nat → List Byte → List (Nat × List Byte)
  | 0, _ => []
  | k + 1, t => match t with
    | ty :: ln :: r => if ty = 0#8 then [] else (ty.toNat, r.take ln.toNat) :: tenderRecords k (r.drop ln.toNat)
    | _ => []

/-- A tender of records: 332 bytes and their CRC. -/
def makeTender (rs : List (Nat × List Byte)) : List Byte :=
  let b := rs.flatMap fun r => BitVec.ofNat 8 r.1 :: BitVec.ofNat 8 r.2.length :: r.2
  let t := (b ++ List.replicate (332 - b.length) 0#8).take 332
  t ++ toLe 4 (crc32 t)

/-! ### Lane states -/

/-- The code of a lane state (R359). -/
def LaneSt.code : LaneSt → Nat
  | .off => 0
  | .detect => 1
  | .train => 2
  | .lock => 3
  | .caps => 4
  | .active => 5
  | .moored => 6
  | .test => 7

/-- A lane is a Tandem lane. -/
def isTandem (lane : Nat) : Bool := decide (128 ≤ lane)

/-- No Tandem lane is ACTIVE. -/
def tandemDown (s : State) : Bool := decide ((s.lane 128).rx ≠ .active) && decide ((s.lane 129).rx ≠ .active)

/-- A Tandem lane has left ACTIVE (R370): with the last, the partner is unreachable and a PAIRED helm runs ALONE (R369). -/
def tandemLost (lane : Nat) (s : State) : State :=
  let s1 := raise 0x0C89 2 (lane - 128) 0 s
  if tandemDown s1 then s1.onTwin fun t => { t with session := false, st := if t.st = .paired then .alone else t.st } else s1

/-- A lane enters new states; a change is told (R363). [DEDUCED, log 81] -/
def setLane (lane : Nat) (rx tx : LaneSt) (s : State) : State :=
  let l := s.lane lane
  if l.rx = rx ∧ l.tx = tx then s
  else
    let s1 := s.onLane lane fun l => { l with rx := rx, tx := tx, since := s.elapsed }
    let s2 := raise 0x0B81 1 lane (rx.code + 16 * tx.code + 256 * l.rx.code + 4096 * l.tx.code) s1
    if l.rx = rx then s2
    else if isTandem lane then (if l.rx = .active then tandemLost lane s2 else s2)
    else laneMoved lane s2

/-- The expected received EPOCH; 0 on a Tandem lane (R370). -/
def rxEpoch (s : State) (lane : Nat) : Nat := if isTandem lane then 0 else (s.manifest (manKey 0 lane)).epoch

/-- The sent EPOCH. -/
def txEpoch (s : State) (lane : Nat) : Nat := if isTandem lane then 0 else (s.manifest (manKey 1 lane)).epoch

/-- The digest of a direction's current manifest. -/
def laneDigest (s : State) (dir lane : Nat) : Nat := if isTandem lane then 0 else manifestDigest (members s dir lane)

/-- Preset 2 of the transmitter (R347). -/
def preset2 : List Int := [1, -6, 53, -4, 0]

/-- Preset 1 of the transmitter (R347). -/
def preset1 : List Int := [0, 0, 64, 0, 0]

/-- The range of a requestable tap (R347). -/
def tapRange (t : Nat) : Int × Int := if t = 0 ∨ t = 4 then (-4, 4) else (-16, 4)

/-- Taps with c(0) set so that the magnitudes sum to 64 (R347). -/
def balance (ts : List Int) : List Int :=
  ts.set 2 (64 - (((ts.set 2 0).map Int.natAbs).sum : Nat))

/-- A request on taps (R347): RESP_STATUS and the taps after it. [DEDUCED, log 79] -/
def applyRequest (stored ts : List Int) (tap action : Nat) : Nat × List Int :=
  if action = 3 then (1, preset1)
  else if action = 4 then (1, preset2)
  else if action = 5 then (if stored = [] then (0, ts) else (1, stored))
  else if (action ≠ 1 ∧ action ≠ 2) ∨ tap = 2 ∨ 4 < tap then (0, ts)
  else
    let v := ts.getD tap 0 + (if action = 1 then 1 else -1)
    let n := balance (ts.set tap v)
    if v < (tapRange tap).1 ∨ (tapRange tap).2 < v ∨ n.getD 2 0 < 32 then (if action = 1 then 3 else 2, ts) else (1, n)

/-- A MOOR_TX that no longer moors completes as SUPERSEDED (R361). [DEDUCED, log 80] -/
def dropMoor (lane by_ : Nat) (s : State) : State := withdrawMoor lane by_ s

/-- The lane returns to DETECT (R346, R352): warm if it has a stored set and the next bring-up is not to be cold. -/
def toDetect (lane by_ : Nat) (s : State) : State :=
  let p := s.lanePol lane
  let s1 := setLane lane .detect .detect (dropMoor lane by_ s)
  s1.onLane lane fun l =>
    let warm := p.stored && !l.coldNext
    { l with since := s.elapsed, warm := warm, coldNext := false, txIdle := l.idleHold, byTrim := false, holdOff := 0, idleFor := 0,
             txFfe := if warm then (if p.txTaps = [] then l.txFfe else p.txTaps) else preset2,
             farFfe := if warm then p.taps else preset2, ctle := if warm then p.ctle else l.ctle,
             heard := false, adopt := true, frozen := false, goodWin := 0, badCommas := 0, goodTrain := 0, goodData := 0, relocking := false,
             waking := false, rxReady := false, precReq := false, farReady := 0, farPrec := [], switchAt := false, precTx := false, precRx := false,
             req := none, accepted := false, farAccepted := 0, farMoor := none, seals := [], loopback := false }

/-- The lane enters OFF or TEST (R346, R361). -/
def toIdle (lane : Nat) (st : LaneSt) (loop : Bool) (by_ : Nat) (s : State) : State :=
  let s1 := setLane lane st st (dropMoor lane by_ s)
  s1.onLane lane fun l =>
    { l with txIdle := decide (st = .off), loopback := loop, txFfe := if st = .test then preset2 else l.txFfe, precTx := false, precRx := false,
             farMoor := none, relocking := false, waking := false, switchAt := false, accepted := false, seals := [], byTrim := false,
             frozen := false, idleHold := false }

/-- Bring-up reaches ACTIVE (R351, R352): coefficients are stored, a wake that waited is complete. -/
def enterActive (lane : Nat) (s : State) : State :=
  let l := s.lane lane
  let jobs := l.txWake.getD []
  let s1 := (setLane lane .active .active s).onLane lane fun l =>
    { l with bringups := inc l.bringups, activeId := some (l.farId, l.farPort), snrFirst := [], snrRef := 0, driftRun := 0, readapt := false,
             timeouts := 0, storedAt := some s.elapsed, farAccepted := 0, txWake := none, holdOff := 0, idleFor := 0 }
  let s2 := s1.onObj fun o => { o with lanes := tmod {} o.lanes lane fun p => { p with stored := true, taps := l.farFfe, txTaps := l.txFfe, ctle := l.ctle } }
  jobs.foldl (fun s id => finish id .done 0 s) (s2.touch 0x0B lane)

/-- Store the coefficients again when they have changed, at most once per hour (R352). -/
def restore (lane : Nat) (s : State) : State :=
  let l := s.lane lane
  let p := s.lanePol lane
  match l.storedAt with
  | some t =>
    if t + 3600 * 48000 ≤ s.elapsed ∧ l.rx = .active ∧ (p.taps ≠ l.farFfe ∨ p.txTaps ≠ l.txFfe ∨ p.ctle ≠ l.ctle) then
      ((s.onObj fun o => { o with lanes := tmod {} o.lanes lane fun p => { p with taps := l.farFfe, txTaps := l.txFfe, ctle := l.ctle } }).touch 0x0B lane).onLane lane
        fun l => { l with storedAt := some s.elapsed }
    else s
  | none => s

/-! ### Reception of data barges (R338 to R340) -/

/-- The hold of a bay of its lane. -/
def bayHold (bay : Nat) : Nat := bay % 64 / 8

/-- The holds that a stream occupies on its lane. -/
def streamHolds (k : Nat) (x : StreamObj) : List Nat :=
  let h := bayHold (keyBay k)
  if x.width = 16 then [h, h + 1] else [h]

/-- Output holds, by lane × 8 + hold, of an output stream. -/
def outHolds (s : State) (k : Nat) : List Nat := (streamHolds k (s.stream k)).map fun h => keyLane k * 8 + h

/-- Mark output holds to be sent damaged in the next barge (R338). -/
def markHolds (hs : List Nat) (s : State) : State := s.onTow fun t => { t with txDamage := hs.foldl setAdd t.txDamage }

/-- The output streams fed from an input stream without a berth, or from its audio channels. -/
def fedStreams (s : State) (bay : Nat) : List Nat :=
  let x := s.stream bay
  let video := (routesFrom s bay).filter fun d => (s.routeRt d).via = false
  let heard := (s.audio.dst.filter fun e => e.2.sum.any fun c => decide (x.audioFirst ≤ c.source) && decide (c.source < x.audioFirst + x.audioCount)).map Prod.fst
  (video ++ heard).filterMap (destStream s)

/-- Replaced data of an input stream reaches these output holds in the next barge. -/
def damageFed (bay : Nat) (s : State) : State := markHolds ((fedStreams s bay).flatMap (outHolds s)) s

/-- A stream of a hold has live data: an output that has been released goes idle at its frame (R30, R40). -/
def carriesData (s : State) (dir : Nat) (e : Nat × StreamObj) : Bool := decide (dir = 0) || !(s.streamRt e.1).sendIdle

/-- The form code of a hold (R30). -/
def formCode (s : State) (dir lane h : Nat) : Nat :=
  let fs := ((members s dir lane).filter fun e => (streamHolds e.1 e.2).contains h && carriesData s dir e).map fun e => e.2.form
  match fs with
  | [] => 0
  | f :: r => if r.all fun g => g = f then f else 4

/-- A barge missed: every hold is damaged (R340). -/
def missBarge (lane : Nat) (s : State) : State :=
  let s1 := s.onLane lane fun l => { l with damaged := l.damaged.map inc, rxHolds := List.range 8, expSeq := wrapAdd 32 l.expSeq 1, seals := [] }
  ((members s 0 lane).filter fun e => e.2.st = .live).foldl (fun s e =>
    unitsArrive e.1 (s.lane lane).lastSeq (ns32 (timeNow32 s)) false true none
      (damageFed e.1 ((streamBarge e.1 true s).onSrc e.1 fun m => { m with damagedBarges := inc m.damagedBarges }))) s1

/-- An ACTIVE receiver has lost its comma (R340). -/
def commaLoss (lane : Nat) (s : State) : State :=
  let l := s.lane lane
  if l.rx ≠ .active then s
  else
    let missed := (List.range (3 - l.badCommas)).foldl (fun s _ => missBarge lane s) s
    (setLane lane .lock l.tx missed).onLane lane fun l =>
      { l with relocks := inc l.relocks, relocking := true, badCommas := 0, goodData := 0, adopt := true, since := s.elapsed, seals := [] }

/-- A comma at the expected position was not accepted (R329, R340). -/
def badComma (lane : Nat) (s : State) : State :=
  let l := s.lane lane
  if l.rx = .off ∨ l.rx = .moored then s
  else
    let s1 := s.onLane lane fun l => { l with commaErr := inc l.commaErr, goodTrain := 0, goodData := 0 }
    if l.rx ≠ .active then s1
    else
      let s2 := (missBarge lane s1).onLane lane fun l => { l with badCommas := l.badCommas + 1 }
      if 3 ≤ l.badCommas + 1 then commaLoss lane s2 else s2

/-- A receiver that relocked, or woke, goes on: ACTIVE if the first good header carries the expected EPOCH, CAPS otherwise
(R340, R354). [DEDUCED, log 78] -/
def relocked (lane epoch : Nat) (s : State) : State :=
  let tx := (s.lane lane).tx
  let good := epoch = rxEpoch s lane
  (setLane lane (if good then .active else .caps) tx s).onLane lane fun l =>
    { l with relocking := false, waking := false, badCommas := 0, accepted := false, farAccepted := 0 }

/-- What a received data barge gives before its effect on the streams (R334, R338, R339). -/
structure RxView where
  hcrc : Bool := false
  seq : Nat := 0
  seqOk : Bool := true
  epochOk : Bool := true
  sealBad : List Nat := []
  unread : List Nat := []
  damaged : List Nat := []
  deriving DecidableEq, Repr

/-- The checks of a received data barge. [DEDUCED, log 78] -/
def viewBarge (lane : Nat) (b : RxBarge) (s : State) : RxView :=
  let l := s.lane lane
  let lost := fun k => decide ((b.codewords.getD k none) = none)
  let hcrc := !lost 0 && decide (hcrcOf b.payload = hdr b.payload 0x8E 2)
  let seq := if hcrc then hdr b.payload 0 4 else l.expSeq
  let seqOk := !hcrc || l.adopt || decide (seq = l.expSeq)
  let epochOk := !hcrc || decide (hdr b.payload 4 1 = rxEpoch s lane)
  let unread := (List.range 8).filter fun h => (holdCodewords h).any lost
  let sealBad := (List.range 8).filter fun h => hcrc && !unread.contains h && (match l.seals.find? fun e => e.1 = h with
    | some e => decide (crc16 (sealStart seq e.2) (holdBytes b.payload h) ≠ hdr b.payload (0x10 + 2 * h) 2)
    | none => false)
  let health := hdr b.payload 0x0C 2
  let damaged := (List.range 8).filter fun h =>
    unread.contains h || !hcrc || !epochOk || (!isTandem lane && decide (health / 4 ^ h % 4 ≠ 0)) || sealBad.contains h || !seqOk
  { hcrc := hcrc, seq := seq, seqOk := seqOk, epochOk := epochOk, sealBad := sealBad, unread := unread, damaged := damaged }

/-- Add 1 to the elements of a list of counters that a predicate names. -/
def bump (cs : List Nat) (p : Nat → Bool) : List Nat := (List.range cs.length).map fun i => if p i then inc (cs.getD i 0) else cs.getD i 0

/-- Codeword counters (R359). [DEDUCED, log 82] -/
def countCodewords (b : RxBarge) (l : LaneRt) : LaneRt :=
  let good := b.codewords.filterMap id
  let syms := (good.map fun k => k).sum
  let fixed := (good.filter fun k => k ≠ 0).length
  let unc := b.codewords.length - good.length
  { l with cwCorr := satAdd 64 l.cwCorr fixed, symCorr := satAdd 64 l.symCorr syms, cwUnc := satAdd 64 l.cwUnc unc,
           fecHist := (List.range 16).map fun k => satAdd 64 (l.fecHist.getD k 0) (good.filter fun n => n = k).length,
           winUnc := satAdd 32 l.winUnc unc, winCorr := satAdd 32 l.winCorr syms, winCw := satAdd 32 l.winCw b.codewords.length,
           recent := (l.recent ++ [(unc, syms)]).drop (l.recent.length - 1023) }

/-- Header and hold counters, and what the next barge is checked from (R334, R339, R359). -/
def countHeader (s : State) (lane : Nat) (b : RxBarge) (v : RxView) (l : LaneRt) : LaneRt :=
  let health := hdr b.payload 0x0C 2
  let form := hdr b.payload 8 4
  let wrong := if v.hcrc ∧ isTandem lane = false then ((List.range 8).filter fun h => form / 16 ^ h % 16 ≠ formCode s 0 lane h).length else 0
  { l with barges := satAdd 64 l.barges 1, hdrErr := if v.hcrc then l.hdrErr else inc l.hdrErr, seqErr := if v.seqOk then l.seqErr else inc l.seqErr,
           epochMis := if v.epochOk then l.epochMis else inc l.epochMis, winMis := if v.epochOk then l.winMis else inc l.winMis,
           sealErr := satAdd 32 l.sealErr v.sealBad.length, formErr := satAdd 32 l.formErr wrong,
           damaged := bump l.damaged fun h => v.damaged.contains h, rxHolds := v.damaged,
           foundered := if v.hcrc then bump l.foundered fun h => decide (health / 4 ^ h % 4 = 2) else l.foundered,
           remoteFault := if v.hcrc then bitOf (hdr b.payload 5 1) 0 else l.remoteFault, lastSeq := v.seq, expSeq := wrapAdd 32 v.seq 1,
           adopt := if v.hcrc then false else l.adopt, badCommas := 0,
           seals := if v.hcrc then (List.range 8).map fun h => (h, hdr b.payload (0x10 + 2 * h) 2) else [] }

/-- The output barge that a unit of input barge `seq` feeds on destination d has begun (R380). -/
def bargeBegun (s : State) (d seq : Nat) : Bool :=
  let n := seqAhead s.tow.bargeSeq (seq + (s.routeRt d).delta)
  decide (0 < n) || (decide (n = 0) && s.tow.sent.contains (d / 64))

/-- A standby that had not received the units of a barge when their output barges began sends those holds damaged (R380); the units go out
late. [DEDUCED, log 139] -/
def lateUnits (bay seq : Nat) (s : State) : State :=
  if s.twin.helm then s
  else
    let late := (routesFrom s bay).filter fun d => decide (destRange d = 0) && (s.routeRt d).via == false && bargeBegun s d seq
    markHolds ((late.filterMap (destStream s)).flatMap (outHolds s)) s

/-- One LIVE input stream through a received data barge (R28, R203, R257, R338). -/
def streamArrives (b : RxBarge) (v : RxView) (s : State) (e : Nat × StreamObj) : State :=
  let bay := e.1
  let hs := streamHolds e.1 e.2
  let bad := hs.any fun h => v.damaged.contains h
  let p := packing b.payload bay
  let counted := if hs.any fun h => v.unread.contains h then none else some (streamUnits e.2.form e.2.width b.payload bay)
  let s1 := if bad then damageFed bay (s.onSrc bay fun m => { m with damagedBarges := inc m.damagedBarges }) else lateUnits bay v.seq s
  streamBarge bay bad (unitsArrive bay v.seq b.atNs (packStart p && decide (packKind p = e.2.form)) bad counted s1)

/-- The beacon slots that a lane feeds. -/
def beaconSlots (s : State) (lane : Nat) : List Nat := (List.range 8).filter fun r => (s.refObj r).enable && decide ((s.refObj r).lane = lane)

/-- The header timestamp of a barge, in ns (R126). [DEDUCED, log 77] -/
def headerNs (payload : List Byte) : Int := (hdr payload 0x20 6 * 1000000000 + hdr payload 0x26 4 : Nat)

/-- A barge within the 1,024 that follow a beacon: where its header is good, its arrival on T against its header timestamp counts. -/
def addArrival (lane : Nat) (b : RxBarge) (v : RxView) (q : Nat) (s : State) : State :=
  if v.hcrc ∧ seqAhead v.seq q ≤ 1024 then
    s.onLane lane fun l => { l with offSum := l.offSum + (b.atNs - eNs s - headerNs b.payload), offCount := l.offCount + 1 }
  else s

/-- The interval of a beacon has ended: its mean is the phase measurement of the lane's beacon slots (R128). -/
def endInterval (lane : Nat) (b : RxBarge) (s : State) : State :=
  let l := s.lane lane
  let mean := divRound l.offSum l.offCount
  let s1 := if l.offCount = 0 then s else (beaconSlots s lane).foldl (fun s r => measurePhase r (b.atNs - eNs s) ((s.refObj r).delayNs - mean) s) s
  s1.onLane lane fun l => { l with offFrom := none, offSum := 0, offCount := 0 }

/-- A barge arrives on a beacon lane (R128, R134, R137): a jump it was announced for, a beacon overdue by it, and its timing. -/
def timeBarge (lane : Nat) (b : RxBarge) (v : RxView) (s : State) : State :=
  let s1 := (beaconSlots s lane).foldl (fun s r => watchDue v.seq r (jumpDue v.seq r s)) s
  match (s1.lane lane).offFrom with
  | some q =>
    let s2 := if 0 < seqAhead v.seq q then addArrival lane b v q s1 else s1
    if 1024 ≤ seqAhead v.seq q then endInterval lane b s2 else s2
  | none => s1

/-- A beacon record in a barge's tender (R127): its interval begins. -/
def beaconIn (lane : Nat) (record : List Byte) (s : State) : State :=
  let seq := (s.lane lane).lastSeq
  if (s.lane lane).rx ≠ .active ∨ record.length < 32 then s
  else ((beaconSlots s lane).foldl (fun s r => beaconRecord r record seq s) s).onLane lane fun l => { l with offFrom := some seq, offSum := 0, offCount := 0 }

/-! ### Records of the tender (R343 to R353) -/

/-- A byte field of a record. -/
def recField (record : List Byte) (off n : Nat) : Nat := leNat ((record.drop off).take n)

/-- Which digests disagree (R351): receive direction, transmit direction. -/
def digestsWrong (s : State) (lane : Nat) (record : List Byte) : Bool × Bool :=
  (decide (recField record 0x14 4 ≠ laneDigest s 0 lane), decide (recField record 0x18 4 ≠ laneDigest s 1 lane))

/-- The far CAPS record meets R351. -/
def capsGood (s : State) (lane : Nat) (record : List Byte) : Bool :=
  let w := digestsWrong s lane record
  decide (recField record 0 1 = 1) && !w.1 && !w.2 && (bitOf (recField record 3 1) 0 == (s.lane lane).precRx)

/-- A CAPS record arrives (R350, R351). -/
def capsRecord (lane : Nat) (record : List Byte) (s : State) : State :=
  let l := s.lane lane
  if (l.rx ≠ .caps ∧ l.rx ≠ .active) ∨ record.length < 48 then s
  else
    let id := recField record 8 8
    let port := recField record 4 2
    let s1 := s.onLane lane fun l => { l with farCaps := record, farSender := recField record 1 1, farId := id, farPort := port, farTxEpoch := recField record 0x10 1 }
    let moved := (l.farId, l.farPort) ≠ (id, port) ∧ l.activeId.isSome ∧ l.activeId ≠ some (id, port)
    let s2 := if moved then raise 0x0B88 1 lane id s1 else s1
    let s3 := if isTandem lane then s2.onTwin fun t => { t with partnerSerial := id } else s2
    if l.rx ≠ .caps then s3
    else
      let w := digestsWrong s lane record
      let wrong := w.1 || w.2
      let good := capsGood s lane record
      let s4 := s3.onLane lane fun l => { l with disagree := wrong, accepted := good, since := if l.disagree && !wrong then s.elapsed else l.since,
                                                 farAccepted := if good && bitOf (recField record 3 1) 2 then min 2 (l.farAccepted + 1) else 0 }
      let s5 := if wrong && !l.disagree then raise 0x0B87 2 lane (bit w.1 + 2 * bit w.2) s4 else s4
      let s6 := if good && !isTandem lane then s5.onManifest (manKey 0 lane) fun m => { m with epoch := recField record 0x10 1 } else s5
      if 2 ≤ (s6.lane lane).farAccepted then enterActive lane s6 else s6

/-- A STATUS record arrives (R345). -/
def statusRecord (lane : Nat) (record : List Byte) (s : State) : State :=
  if record.length < 16 then s else s.onLane lane fun l => { l with farUnc := recField record 2 2, farCorr := recField record 4 4 }

/-- A MOOR record arrives (R353): adaptation freezes at the first announcement. -/
def moorRecord (lane : Nat) (record : List Byte) (s : State) : State :=
  let l := s.lane lane
  if l.rx ≠ .active ∨ isTandem lane ∨ record.length < 4 then s
  else s.onLane lane fun l => { l with farMoor := some (recField record 0 4), frozen := l.frozen || l.farMoor.isNone, goodWin := if l.farMoor.isNone then 0 else l.goodWin }

/-- One record of a received tender. [DEDUCED, log 78] -/
def tenderRecord (lane : Nat) (b : RxBarge) (s : State) (r : Nat × List Byte) : State :=
  if r.1 = 1 then beaconIn lane r.2 s
  else if r.1 = 2 then (if isTandem lane ∨ r.2.length < 12 then s else epochRecord lane r.2 s)
  else if r.1 = 3 then capsRecord lane r.2 s
  else if r.1 = 4 then statusRecord lane r.2 s
  else if r.1 = 5 then moorRecord lane r.2 s
  else s

/-- The tender of a received barge (R342). -/
def readTender (lane : Nat) (b : RxBarge) (s : State) : State :=
  let t := tenderBytes b.payload
  if (b.codewords.getD 15 none) = none ∨ tenderOk t = false then s.onLane lane fun l => { l with tenderErr := inc l.tenderErr }
  else (tenderRecords 166 (t.take 332)).foldl (tenderRecord lane b) s

/-- An epoch barge that has begun takes effect before the barge is judged (R53, R54). -/
def epochBegins (lane seq : Nat) (s : State) : State :=
  if isTandem lane then s
  else match (s.manifestRt (manKey 0 lane)).announce with
    | some a => if 0 ≤ seqAhead seq a.seq then manifestEpoch 0 lane s else s
    | none => s

/-- A data barge at the place of an announced moor withdraws the announcement (R353). -/
def moorWithdrawn (lane seq : Nat) (s : State) : State :=
  match (s.lane lane).farMoor with
  | some q => if 0 ≤ seqAhead seq q then s.onLane lane fun l => { l with farMoor := none } else s
  | none => s

/-- The codewords of a barge in the lane's lifetime counts (R445). -/
def logCodewords (lane : Nat) (b : RxBarge) (l : LogRt) : LogRt :=
  if isTandem lane then l
  else { l with laneCorr := tmod 0 l.laneCorr lane fun n => satAdd 64 n (b.codewords.filter fun c => c ≠ none ∧ c ≠ some 0).length,
                laneUnc := tmod 0 l.laneUnc lane fun n => satAdd 64 n (b.codewords.filter fun c => c.isNone).length }

/-- Every uncorrectable codeword goes to the fault collector (R358); the lifetime counts advance (R445). -/
def reportCodewords (lane : Nat) (b : RxBarge) (s : State) : State :=
  (b.codewords.filter fun c => c.isNone).foldl (fun s _ => report { code := 0x0302, west := decide (64 ≤ lane ∧ lane < 128), subject := lane } s)
    (s.onLog (logCodewords lane b))

/-- A data barge in ACTIVE. -/
def activeBarge (lane : Nat) (b : RxBarge) (s : State) : State :=
  let seq := if hcrcOf b.payload = hdr b.payload 0x8E 2 ∧ b.codewords.getD 0 none ≠ none then hdr b.payload 0 4 else (s.lane lane).expSeq
  let s0 := moorWithdrawn lane seq (epochBegins lane seq s)
  let v := viewBarge lane b s0
  let s1 := s0.onLane lane fun l => countHeader s0 lane b v (countCodewords b l)
  let s2 := ((members s1 0 lane).filter fun e => decide (e.2.st = .live) && !isTandem lane).foldl (streamArrives b v) s1
  readTender lane b (timeBarge lane b v (reportCodewords lane b s2))

/-- The barges missed since the comma was lost, by the numbers expected and received: damaged in all holds (R340).  A reacquisition within
1 ms has missed at most 1,322. -/
def countMissed (lane : Nat) (seqs : Nat × Nat) (s : State) : State :=
  let n := seqAhead seqs.2 seqs.1
  if 0 < n ∧ n ≤ 1322 then s.onLane lane fun l => { l with damaged := l.damaged.map fun d => satAdd 32 d n.toNat } else s

/-- A data barge in LOCK: after bring-up R349 counts, after a lost comma the first good header decides (R340). -/
def lockBarge (lane : Nat) (b : RxBarge) (s : State) : State :=
  let l := s.lane lane
  let v := viewBarge lane b s
  let clean := v.hcrc && b.codewords.all fun c => c.isSome
  let s1 := (reportCodewords lane b s).onLane lane fun l =>
    let n := countCodewords b l
    { n with goodData := if clean && v.seqOk then l.goodData + 1 else bit clean, lastSeq := v.seq, expSeq := wrapAdd 32 v.seq 1,
             adopt := if v.hcrc then false else l.adopt, seals := if v.hcrc then (List.range 8).map fun h => (h, hdr b.payload (0x10 + 2 * h) 2) else [],
             remoteFault := if v.hcrc then bitOf (hdr b.payload 5 1) 0 else l.remoteFault }
  if l.relocking then (if v.hcrc then relocked lane (hdr b.payload 4 1) (countMissed lane (l.expSeq, v.seq) s1) else s1)
  else if 3 ≤ (s1.lane lane).goodData then (setLane lane .caps .caps s1).onLane lane fun l => { l with accepted := false, farAccepted := 0 }
  else s1

/-- A data barge in CAPS: its header keeps the numbering, its tender is read. -/
def capsBarge (lane : Nat) (b : RxBarge) (s : State) : State :=
  let v := viewBarge lane b s
  let s1 := s.onLane lane fun l =>
    { countCodewords b l with lastSeq := v.seq, expSeq := wrapAdd 32 v.seq 1, adopt := if v.hcrc then false else l.adopt,
                              hdrErr := if v.hcrc then l.hdrErr else inc l.hdrErr,
                              seals := if v.hcrc then (List.range 8).map fun h => (h, hdr b.payload (0x10 + 2 * h) 2) else [],
                              remoteFault := if v.hcrc then bitOf (hdr b.payload 5 1) 0 else l.remoteFault }
  readTender lane b (reportCodewords lane b s1)

/-- A data barge is received (R338). [DEDUCED, log 78] -/
def dataBarge (lane : Nat) (b : RxBarge) (s : State) : State :=
  let l := s.lane lane
  match commaOf b.tail b.commaErrors with
  | none => badComma lane s
  | some (_, k) =>
    if k ≠ .data then s
    else if l.rx = .active then activeBarge lane b s
    else if l.rx = .lock then lockBarge lane b s
    else if l.rx = .caps then capsBarge lane b s
    else if l.rx = .moored ∧ l.waking then
      (if hcrcOf b.payload = hdr b.payload 0x8E 2 ∧ b.codewords.getD 0 none ≠ none then
        relocked lane (hdr b.payload 4 1) (s.onLane lane fun l => { l with lastSeq := hdr b.payload 0 4, expSeq := wrapAdd 32 (hdr b.payload 0 4) 1, adopt := false })
      else s)
    else s

/-! ### Calibration and adaptation (R337, R356, R357) -/

/-- The measurement of a calibration barge (R357). -/
def measureSnr (lane snr : Nat) (s : State) : State :=
  let p := s.lanePol lane
  let l := s.lane lane
  let first := if l.snrFirst.length < 4 then l.snrFirst ++ [snr] else l.snrFirst
  let ref := if l.snrFirst.length < 4 then first.sum / first.length else l.snrRef
  let low := decide (4 ≤ l.snrFirst.length) && decide (snr + p.drift < ref)
  let run := if low then l.driftRun + 1 else 0
  let drifted := decide (2 ≤ run)
  let poor := decide (snr < p.snrMin)
  let s1 := s.onLane lane fun l =>
    { l with cals := inc l.cals, snr := snr % 65536, snrFirst := first, snrRef := ref, driftRun := if drifted then 0 else run, readapt := drifted,
             frozen := l.frozen && !drifted, goodWin := if drifted then 0 else l.goodWin, degraded := l.degraded || poor, winBad := l.winBad || poor }
  let s2 := if drifted then raise 0x0B86 2 lane (ref - snr) s1 else s1
  if poor && !l.degraded then raise 0x0B83 2 lane l.serPpb s2 else s2

/-- A calibration barge is received (R337, R357). -/
def calibrationBarge (lane tail commaErrors snr : Nat) (s : State) : State :=
  match commaOf tail commaErrors with
  | none => badComma lane s
  | some (_, k) =>
    if k ≠ .calibration then s
    else
      let l := s.lane lane
      if l.rx ≠ .active then s
      else
        let s1 := epochBegins lane l.expSeq s
        measureSnr lane snr (s1.onLane lane fun l => { l with lastSeq := l.expSeq, expSeq := wrapAdd 32 l.expSeq 1, badCommas := 0, seals := [], rxHolds := [] })

/-- A share's distance from 250 per mille. [DEDUCED, log 82] -/
def shareOff (x : Nat) : Nat := ((x : Int) - 250).natAbs

/-- The share furthest from 250 per mille. [DEDUCED, log 82] -/
def worstShare (xs : List Nat) : Nat := xs.foldl (fun a x => if shareOff a < shareOff x then x else a) 250

/-- A level histogram window ends (R356). -/
def histogramWindow (lane : Nat) (shares : List Nat) (s : State) : State :=
  let l := s.lane lane
  let p := s.lanePol lane
  if l.rx ≠ .active then s
  else if shareOff (worstShare shares) ≤ p.histBound then
    s.onLane lane fun l => { l with goodWin := min 16 (l.goodWin + 1), frozen := l.frozen && (l.farMoor.isSome || decide (l.goodWin + 1 < 16)) }
  else
    let tell := match l.frozenAt with
      | some t => decide (t + 48000 ≤ s.elapsed)
      | none => true
    let s1 := s.onLane lane fun l => { l with frozen := true, goodWin := 0, frozenWins := inc l.frozenWins, frozenAt := if tell then some s.elapsed else l.frozenAt }
    if tell then raise 0x0B85 1 lane (worstShare shares) s1 else s1

/-! ### Bring-up (R346 to R349) -/

/-- The CRC of a control word is right (R347). [DEDUCED, log 79] -/
def controlOk (c : List Byte) : Bool := decide (c.length = 32) && decide (crc16 0xFFFF (c.take 30) = recField c 0x1E 2)

/-- A control word in TRAIN (R347, R348). [DEDUCED, log 79] -/
def applyControl (pol : LanePolObj) (c : List Byte) (l : LaneRt) : LaneRt :=
  let st := recField c 0 1
  let fresh := recField c 4 1 ≠ l.respId
  let a := if fresh then applyRequest pol.txTaps l.txFfe (recField c 1 1) (recField c 2 1) else (l.respStatus, l.txFfe)
  let answered := match l.req with
    | some q => if recField c 5 1 = l.reqId then some q else none
    | none => none
  { l with farReady := if bitOf st 0 then min 8 (l.farReady + 1) else 0, farPrec := (l.farPrec ++ [bitOf st 1]).drop (l.farPrec.length - 7),
           txFfe := a.2, respStatus := a.1, respId := recField c 4 1, farRespId := recField c 5 1,
           farFfe := match answered with
             | some q => if recField c 3 1 = 1 then (applyRequest pol.taps l.farFfe q.1 q.2).2 else l.farFfe
             | none => l.farFfe,
           req := if answered.isSome then none else l.req }

/-- What the receiver's adaptation decides in TRAIN (R348). -/
def adaptTrain (pol : LanePolObj) (a : RxAdapt) (l : LaneRt) : LaneRt :=
  let ready := l.rxReady || a.ready
  let ask := if pol.precode = 1 then true else if pol.precode = 2 then false else if l.rxReady then l.precReq else a.ready && decide (250 < a.dfeMille)
  let n := match l.req, a.request with
    | none, some q => if ready then l else { l with req := some q, reqId := (l.reqId + 1) % 256 }
    | _, _ => l
  { n with rxReady := ready, precReq := ask, ctle := a.ctle, switchAt := ready && decide (8 ≤ l.farReady) }

/-- A training barge is received (R346 to R348, R361). -/
def trainingBarge (lane tail commaErrors : Nat) (control : List Byte) (a : RxAdapt) (s : State) : State :=
  let l := s.lane lane
  if l.rx = .test then s.onLane lane fun l => { l with testErr := satAdd 32 l.testErr a.bitErrors }
  else if l.rx ≠ .detect ∧ l.rx ≠ .train then s
  else match commaOf tail commaErrors with
    | none => badComma lane s
    | some (seq, k) =>
      if k ≠ .training then s.onLane lane fun l => { l with goodTrain := 0 }
      else
        let s1 := s.onLane lane fun l => { l with lastSeq := l.lastSeq / 65536 * 65536 + seq }
        if l.rx = .detect then
          let s2 := s1.onLane lane fun l => { l with goodTrain := l.goodTrain + 1, heard := l.heard || !l.idleHold, since := if l.heard ∨ l.idleHold then l.since else s.elapsed }
          if 3 ≤ l.goodTrain + 1 ∧ l.idleHold = false then (setLane lane .train .train s2).onLane lane fun l => { l with goodTrain := 0 } else s2
        else
          let p := s.lanePol lane
          s1.onLane lane fun l => adaptTrain p a (if controlOk control then applyControl p control l else l)

/-- Ticks that a bring-up state may last (R346); none where it has no timeout now. [DEDUCED, log 81] -/
def stateLimit (l : LaneRt) : Option Nat :=
  match l.rx with
  | .detect => if l.heard then some (if l.warm then 48 else 240) else none
  | .train => some (if l.warm then 240 else 4800)
  | .lock => if l.relocking then none else some (if l.warm then 48 else 240)
  | .caps => if l.disagree then none else some (if l.warm then 48 else 480)
  | _ => none

/-- A bring-up state has lasted too long (R346). [DEDUCED, log 81] -/
def bringupTimeout (lane : Nat) (s : State) : State :=
  let l := s.lane lane
  match stateLimit l with
  | none => s
  | some n =>
    if s.elapsed < l.since + n then s
    else
      let idle := decide (3 ≤ l.timeouts + 1)
      let s1 := s.onLane lane fun l => { l with trainFail := inc l.trainFail, timeouts := if idle then 0 else l.timeouts + 1, coldNext := l.coldNext || l.warm, idleHold := idle }
      toDetect lane 0 (raise 0x0B82 2 lane l.rx.code s1)

/-- The 100 ms of electrical idle end (R346). [DEDUCED, log 81] -/
def detectIdleEnd (lane : Nat) (s : State) : State :=
  let l := s.lane lane
  if l.idleHold ∧ l.since + 4320 ≤ s.elapsed then s.onLane lane fun l => { l with idleHold := false, txIdle := false, since := s.elapsed } else s

/-- A receiver has not reacquired within 1 ms, after a lost comma or on waking (R340, R354). -/
def relockTimeout (lane : Nat) (s : State) : State :=
  let l := s.lane lane
  if ((l.rx = .lock ∧ l.relocking) ∨ (l.rx = .moored ∧ l.waking)) ∧ l.since + 48 ≤ s.elapsed then toDetect lane 0 s else s

/-! ### Mooring (R353 to R355) -/

/-- A transmit direction may moor (R353). -/
def mayMoor (s : State) (lane : Nat) : Bool :=
  !isTandem lane && (members s 1 lane).isEmpty && (s.manifestRt (manKey 1 lane)).pending.isNone && (s.manifestRt (manKey 1 lane)).announce.isNone

/-- Announce a moor: MOOR_SEQ is the barge 64 after the next (R361). -/
def announceMoor (lane job : Nat) (trim : Bool) (s : State) : State :=
  s.onLane lane fun l => { l with txMoor := some (wrapAdd 32 s.tow.bargeSeq 65, job), byTrim := trim }

/-- A MOOR_TX or WAKE_TX with its lane done is final when no other lane of it is waiting. [DEDUCED, log 80] -/
def settleLaneJob (id : Nat) (s : State) : State :=
  if s.tow.lanes.any fun e => (e.2.txMoor.map Prod.snd == some id) || ((e.2.txWake.getD []).contains id) then s else finish id .done 0 s

/-- Barge MOOR_SEQ of a transmit direction begins (R353). -/
def moorTransmit (lane : Nat) (s : State) : State :=
  match (s.lane lane).txMoor with
  | none => s
  | some (_, id) =>
    let s1 := (setLane lane (s.lane lane).rx .moored s).onLane lane fun l => { l with txMoor := none, moors := inc l.moors, txIdle := true, idleFor := 0 }
    settleLaneJob id s1

/-- Barge MOOR_SEQ of a receive direction begins (R353). -/
def moorReceive (lane : Nat) (s : State) : State :=
  let l := s.lane lane
  if l.rx = .active ∧ l.farMoor.isSome then
    (setLane lane .moored l.tx s).onLane lane fun l => { l with farMoor := none, moors := inc l.moors, waking := false, seals := [], adopt := true }
  else s

/-- MOOR_SEQ begins. -/
def moorBarge (direction lane : Nat) (s : State) : State := if direction = 0 then moorReceive lane s else moorTransmit lane s

/-- A moored receiver detects signal (R354): with the first good header's EPOCH, or with none acquired yet. -/
def signalWake (lane : Nat) (epoch : Option Nat) (s : State) : State :=
  if (s.lane lane).rx ≠ .moored then s
  else match epoch with
    | some e => relocked lane (e % 256) s
    | none => s.onLane lane fun l => { l with waking := true, since := s.elapsed }

/-- A moored transmitter is woken (R354), for a command or (0) for the chip itself. -/
def wakeTx (lane job : Nat) (s : State) : State :=
  if (s.lane lane).tx ≠ .moored then s
  else s.onLane lane fun l => { l with txWake := some (if job = 0 then l.txWake.getD [] else l.txWake.getD [] ++ [job]), txIdle := false }

/-- A waking direction can carry data (R354). -/
def wakeComplete (lane : Nat) (s : State) : State :=
  match (s.lane lane).txWake with
  | none => s
  | some jobs =>
    if (s.lane lane).tx ≠ .moored ∧ (s.lane lane).tx ≠ .active then s else
    let s1 := (setLane lane (s.lane lane).rx .active s).onLane lane fun l => { l with txWake := none, holdOff := 0, txIdle := false, byTrim := false, idleFor := 0 }
    jobs.foldl (fun s id => settleLaneJob id s) s1

/-- The rule of R355 moors now: ECO after 1 s, or the throttling step at once (R414). -/
def ecoDue (s : State) (lane : Nat) : Bool :=
  let l := s.lane lane
  decide (l.tx = .active) && l.txMoor.isNone && l.txWake.isNone && mayMoor s lane &&
    ((s.obj.trims.eco && decide (48000 ≤ l.idleFor)) || decide (3 ≤ s.clocks.throttle))

/-- ECO_MOOR. -/
def ecoMoor (lane : Nat) (s : State) : State := if ecoDue s lane then announceMoor lane 0 true s else s

/-! ### Transmission (R328 to R337, R382) -/

/-- The chip's holds are valid: it is helm, or a standby in step, and serves (R382). -/
def soundChip (s : State) : Bool := s.serving && (s.twin.helm || decide (s.twin.st = .inStep))

/-- A stream of an output hold carries data that may differ from the partner's (R201, R264, R296, R313). [DEDUCED, log 89] -/
def doubtfulStream (s : State) (k : Nat) : Bool :=
  let d := keyBay k
  let video := match (s.route d).source with
    | some h =>
      if h < 0x2000 then (s.routeRt d).via && decide ((frameRead (s.berth h)).damagedLines ≠ 0)
      else if h < 0x2100 then (s.head (headOf h)).dmg
      else false
    | none => false
  let x := s.stream k
  let shaky := (s.audio.streams.filter fun e => e.2.doubtful ≠ 0).map Prod.fst
  let heard := s.audio.dst.any fun e => decide (x.audioFirst ≤ e.1) && decide (e.1 < x.audioFirst + x.audioCount) && e.2.sum.any fun c =>
    shaky.any fun b => decide ((s.stream b).audioFirst ≤ c.source) && decide (c.source < (s.stream b).audioFirst + (s.stream b).audioCount)
  video || heard

/-- An output hold carries data that may differ from the partner's, or the chip marks all its holds (R382, R407, R468, R500). [DEDUCED, log 89] -/
def holdDoubt (s : State) (lane h : Nat) : Bool :=
  s.twin.handShook || s.clocks.marking || decide (2 ≤ s.time.missedEast) || decide (2 ≤ s.time.missedWest) || s.tow.txDamage.contains (lane * 8 + h) ||
    ((members s 1 lane).filter fun e => (streamHolds e.1 e.2).contains h).any fun e => doubtfulStream s e.1

/-- HEALTH of an output hold (R335, R382). -/
def holdHealth (s : State) (lane h : Nat) : Nat :=
  if !soundChip s then 2 else if holdDoubt s lane h then 1 else if s.twin.helm then 0 else 3

/-- An output stream sends live data in a barge (R40, R354). -/
def sending (s : State) (lane : Nat) (e : Nat × StreamObj) : Bool := (s.lane lane).holdOff = 0 && !(s.streamRt e.1).sendIdle

/-- An output stream in the barge that begins at an instant: its bays, or idle fill, and then nothing waits (R27, R40, R336). -/
def streamBays (now : Int) (lane : Nat) (x : List (Nat × List Byte) × State) (e : Nat × StreamObj) : List (Nat × List Byte) × State :=
  if sending x.2 lane e then
    let o := outputBays now (keyBay e.1) x.2
    (x.1 ++ o.1, o.2)
  else (x.1, x.2.onOut (keyBay e.1) fun _ => {})

/-- The holds of a barge as sent (R27, R336): what the lane's output streams have due, fill elsewhere.  On a Tandem lane all of it is the
traffic given. -/
def sentHolds (now : Int) (lane : Nat) (traffic : List Byte) (s : State) : List Byte × State :=
  if isTandem lane then ((traffic ++ List.replicate (9600 - traffic.length) 0#8).take 9600, s)
  else
    let x := (members s 1 lane).foldl (streamBays now lane) ([], s)
    ((List.range 64).flatMap fun b => tget (List.replicate 150 0#8) x.1 b, x.2)

/-- The CAPS record that a lane sends (R350). -/
def ownCaps (s : State) (lane : Nat) : List Byte :=
  let l := s.lane lane
  recordBytes 48 [(0, 1, 1), (1, 1, 0), (2, 1, roleByte s), (3, 1, bit l.precTx + 2 * bit (!isTandem lane) + 4 * bit l.accepted), (4, 2, lane),
    (8, 8, Config.serial % 2 ^ 64), (0x10, 1, txEpoch s lane), (0x11, 1, rxEpoch s lane), (0x14, 4, laneDigest s 1 lane), (0x18, 4, laneDigest s 0 lane)]

/-- The STATUS record that a lane sends (R345). -/
def ownStatus (s : State) (lane : Nat) : List Byte :=
  let l := s.lane lane
  recordBytes 16 [(0, 1, l.rx.code), (1, 1, bit l.frozen + 2 * bit l.degraded), (2, 2, min 65535 (l.recent.map Prod.fst).sum),
    (4, 4, min 0xFFFFFFFF (l.recent.map Prod.snd).sum), (8, 4, l.lastSeq)]

/-- The records of a barge's tender (R343). -/
def sentRecords (s : State) (lane seq : Nat) : List (Nat × List Byte) :=
  let l := s.lane lane
  let epoch := if isTandem lane then [] else match (s.manifestRt (manKey 1 lane)).announce with
    | some a => if 0 < seqAhead a.seq seq ∧ l.holdOff = 0 then [(2, recordBytes 12 [(0, 1, a.epoch), (4, 4, a.seq), (8, 4, a.digest)])] else []
    | none => []
  let caps := if l.tx = .caps ∨ l.rx = .caps ∨ (l.tx = .active ∧ seq % 1024 = 1) then [(3, ownCaps s lane)] else []
  let status := if l.tx = .active ∧ seq % 1024 = 2 then [(4, ownStatus s lane)] else []
  let moor := match l.txMoor with
    | some (q, _) => if 0 < seqAhead q seq then [(5, recordBytes 8 [(0, 4, q)])] else []
    | none => []
  epoch ++ caps ++ status ++ moor

/-- The header and holds of a data barge (R333), `ns` being the timestamp of its first comma symbol. [DEDUCED, log 77] -/
def dataPayload (s : State) (lane seq ns : Nat) (holds : List Byte) : List Byte × List Nat :=
  let l := s.lane lane
  let seals := (List.range 8).map fun h => crc16 (sealStart seq (l.txSeals.getD h 0)) ((holds.drop (1200 * h)).take 1200)
  let t := isTandem lane
  let form := if t then 0 else ((List.range 8).map fun h => formCode s 1 lane h * 16 ^ h).sum
  let health := if t then 0 else ((List.range 8).map fun h => holdHealth s lane h * 4 ^ h).sum
  let head := recordBytes 142 ([(0, 4, seq), (4, 1, txEpoch s lane), (5, 1, bit (l.rx ≠ .active)), (8, 4, form), (0x0C, 2, health),
    (0x20, 6, ns / 1000000000), (0x26, 4, ns % 1000000000)] ++ (List.range 8).map fun h => (0x10 + 2 * h, 2, seals.getD h 0))
  (head ++ toLe 2 (crc16 0xFFFF head) ++ holds ++ makeTender (sentRecords s lane seq) ++ List.replicate 200 0#8, seals)

/-- The control word that a lane sends in training barges (R347); zero in TEST (R361). -/
def ownControl (l : LaneRt) : List Byte :=
  if l.tx = .test then List.replicate 32 0#8
  else
    let q := l.req.getD (7, 0)
    let b := recordBytes 30 [(0, 1, bit (l.rxReady && decide (l.tx ≠ .detect)) + 2 * bit l.precReq + 4 * bit l.warm), (1, 1, q.1), (2, 1, q.2), (3, 1, l.respStatus),
      (4, 1, l.reqId), (5, 1, l.respId)]
    b ++ toLe 2 (crc16 0xFFFF b)

/-- Seals of one lane join those of the chain that ends with its barge (R384). -/
def joinChain (lane seq : Nat) (seals : List Nat) (mask : List Nat) (s : State) : State :=
  s.onTwin fun t =>
    let vs := (List.range 8).map fun h => (lane * 8 + h, seals.getD h 0)
    match t.chains.getLast? with
    | some c => if c.seq = seq then { t with chains := t.chains.dropLast ++ [{ c with values := c.values ++ vs, mask := c.mask ++ mask }] }
        else { t with chains := (t.chains ++ [({ seq := seq, values := vs, mask := mask } : SealChain)]).drop (t.chains.length - 63) }
    | none => { t with chains := [{ seq := seq, values := vs, mask := mask }] }

/-- Holds of a mask byte, by lane × 8 + hold. -/
def maskHolds (lane mask : Nat) : List Nat := ((List.range 8).filter fun h => bitOf mask h).map fun h => lane * 8 + h

/-- A data barge is sent. [DESIGN CHOICE, log 6] [DEDUCED, log 77] -/
def sendData (lane seq : Nat) (data : List Byte) (s0 : State) : State :=
  let d := s0.draw
  let within := d.1 % 20834
  let h := sentHolds ((d.2.now : Int) * (frac : Nat) + units32 within) lane data d.2
  let s := h.2
  let ns := (max 0 (ns32 (timeNow32 s))).toNat + within
  let p := dataPayload s lane seq ns h.1
  let off := ((List.range 8).map fun h => bit (holdDoubt s lane h) * 2 ^ h).sum
  let mask := if seq % 1024 = 0 then off else Nat.lor (s.lane lane).txMask off
  let s1 := s.onLane lane fun l => { l with txBytes := p.1, txKind := .data, txTail := commaTail seq 0, txComma := commaBlock (commaTail seq 0),
                                            txSeed := scrambleSeed seq, txSeals := p.2, txMask := mask, holdOff := l.holdOff - 1, txIdle := false }
  let s2 := if seq % 1024 = 1023 ∧ isTandem lane = false then joinChain lane seq p.2 (maskHolds lane mask) s1 else s1
  s2.onTow fun t => { t with txDamage := t.txDamage.filter fun x => x / 8 ≠ lane }

/-- A barge that carries no data: calibration or training (R337, R347). -/
def sendOther (lane seq : Nat) (kind : KindSt) (bytes : List Byte) (s : State) : State :=
  s.onLane lane fun l => { l with txBytes := bytes, txKind := kind, txTail := commaTail seq kind.code, txComma := commaBlock (commaTail seq kind.code),
                                  txSeed := if kind = .calibration then 0x7FFFFFFF else l.txSeed, txIdle := false,
                                  trainSent := if kind = .training then l.trainSent + 1 else l.trainSent }

/-- What a lane does at the start of barge `seq` before it sends it: a wake resumes, an epoch or a moor begins, training gives way to data. -/
def bargeStarts (lane seq : Nat) (s : State) : State :=
  let s1 := match (s.manifestRt (manKey 1 lane)).announce with
    | some a => if !isTandem lane && decide (0 ≤ seqAhead seq a.seq) then manifestEpoch 1 lane s else s
    | none => s
  let l := s1.lane lane
  let s2 := match l.txMoor with
    | some (q, _) => if 0 ≤ seqAhead seq q then moorTransmit lane s1 else s1
    | none => s1
  if l.tx = .moored ∧ l.txWake.isSome then (setLane lane l.rx .active s2).onLane lane fun l => { l with holdOff := 64, txIdle := false }
  else if l.tx = .active ∧ l.txWake.isSome ∧ l.holdOff = 0 then wakeComplete lane s2
  else if l.switchAt ∧ l.tx = .train ∧ seq % 256 = 0 then
    (setLane lane .lock .lock s2).onLane lane fun l => { l with switchAt := false, goodData := 0, relocking := false, adopt := true, precRx := l.precReq,
                                                                precTx := decide (l.farPrec.length = 8) && l.farPrec.all id }
  else s2

/-- The lane sends barge `seq` according to its state. -/
def sendBarge (lane seq : Nat) (data : List Byte) (s : State) : State :=
  let l := s.lane lane
  if l.tx = .off ∨ l.tx = .moored ∨ l.idleHold then s.onLane lane fun l => { l with txIdle := true, txBytes := [] }
  else if isCalibration seq then sendOther lane seq .calibration [] s
  else if l.tx = .detect ∨ l.tx = .train ∨ l.tx = .test then sendOther lane seq .training (ownControl l) s
  else sendData lane seq data s

/-- The next barge begins: every lane has sent the one before (R326, R380), and the pounds in shadow carry one more (R183). [DEDUCED, log 77] -/
def nextBarge (s : State) : State :=
  poundBarge 1 (poundBarge 0 (s.onTow fun t => { t with bargeSeq := wrapAdd 32 t.bargeSeq 1, sent := [] }))

/-- BARGE_TRANSMIT: a lane direction sends its barge at a barge boundary.  A lane that has already sent the running number begins the next. [DEDUCED, log 77] -/
def bargeTransmit (lane : Nat) (data : List Byte) (s : State) : State :=
  if 130 ≤ lane then s
  else
    let s1 := if s.tow.sent.contains lane then nextBarge s else s
    let seq := s1.tow.bargeSeq
    sendBarge lane seq data (bargeStarts lane seq (s1.onTow fun t => { t with sent := setAdd t.sent lane }))

/-! ### Ticks and seconds -/

/-- The lanes that have a record. -/
def knownLanes (s : State) : List Nat := s.tow.lanes.map Prod.fst

/-- One lane through one tick: its timers (R340, R346, R355). -/
def tickLane (s : State) (lane : Nat) : State :=
  let l := s.lane lane
  let idle := decide (l.tx = .active) && l.txMoor.isNone && l.txWake.isNone && mayMoor s lane
  let s1 := s.onLane lane fun l => { l with idleFor := if idle then min 48000 (l.idleFor + 1) else 0 }
  let s2 := if l.idleHold ∧ l.since + 4800 ≤ s.elapsed then detectIdleEnd lane s1 else s1
  restore lane (ecoMoor lane (relockTimeout lane (bringupTimeout lane s2)))

/-- A 1 s window of a lane ends (R54, R357, R358). -/
def laneSecond (s : State) (lane : Nat) : State :=
  let l := s.lane lane
  let p := s.lanePol lane
  let ppb := if l.winCw = 0 then 0 else min 0xFFFFFFFF (l.winCorr * 1000000000 / (l.winCw * 544))
  let bad := l.winBad || decide (p.serLimit < ppb)
  let clean := if bad then 0 else min 10 (l.winClean + 1)
  let s1 := s.onLane lane fun l => { l with serPpb := ppb, winUnc := 0, winCorr := 0, winCw := 0, winMis := 0, winBad := false, winClean := clean,
                                            degraded := if bad then true else l.degraded && decide (clean < 10) }
  let s2 := if decide (p.serLimit < ppb) && !l.degraded then raise 0x0B83 2 lane ppb s1 else s1
  let s3 := if l.winUnc ≠ 0 then raise 0x0B84 2 lane l.winUnc s2 else s2
  if l.winMis ≠ 0 then raise 0x0284 2 lane l.winMis s3 else s3

/-- Towpath through one tick. -/
def tickTow (s : State) : State :=
  let s1 := (knownLanes s).foldl tickLane s
  if 47999 ≤ s.tow.second then ((knownLanes s1).foldl laneSecond s1).onTow fun t => { t with second := 0 }
  else s1.onTow fun t => { t with second := t.second + 1 }

/-- The lane record of the Chart (R359). -/
def laneRecord (s : State) (lane : Nat) : List Byte :=
  let l := s.lane lane
  let flags := bit l.precTx + 2 * bit l.precRx + 4 * bit l.frozen + 8 * bit l.degraded + 16 * bit l.remoteFault + 32 * bit l.disagree + 64 * bit l.warm +
    128 * bit (s.lanePol lane).disabled
  recordBytes 0x150 ([(4, 1, l.rx.code), (5, 1, l.tx.code), (6, 1, flags), (7, 1, l.farSender), (8, 8, l.farId), (0x10, 2, l.farPort), (0x12, 1, rxEpoch s lane),
    (0x13, 1, txEpoch s lane), (0x14, 4, laneDigest s 0 lane), (0x18, 4, laneDigest s 1 lane), (0x1C, 4, l.lastSeq), (0x20, 8, l.barges), (0x28, 8, l.cwCorr),
    (0x30, 8, l.symCorr), (0x38, 8, l.cwUnc), (0x40, 4, l.hdrErr), (0x44, 4, l.tenderErr), (0x48, 4, l.commaErr), (0x4C, 4, l.seqErr), (0x50, 4, l.sealErr),
    (0x54, 4, l.formErr), (0x58, 4, l.epochMis), (0x5C, 4, l.relocks), (0x60, 4, l.bringups), (0x64, 4, l.trainFail), (0x68, 4, l.moors), (0x6C, 4, l.frozenWins),
    (0x70, 4, l.cals), (0x74, 2, l.snr), (0x76, 2, l.snrRef), (0x78, 4, l.serPpb), (0x7C, 4, l.testErr), (0x145, 1, l.ctle), (0x148, 4, l.farUnc), (0x14C, 4, l.farCorr)] ++
    (List.range 8).flatMap (fun h => [(0x80 + h * 8, 4, l.damaged.getD h 0), (0x84 + h * 8, 4, l.foundered.getD h 0)]) ++
    (List.range 16).map (fun k => (0xC0 + k * 8, 8, l.fecHist.getD k 0)) ++ (List.range 5).map fun k => (0x140 + k, 1, ofInt 8 (l.txFfe.getD k 0)))

/-- Publish a lane record. -/
def publishLane (s : State) (lane : Nat) : State := s.chartWrite (0x2280000 + lane * 0x1000) (laneRecord s lane)

/-! ### LANE_CONTROL and SET_LANE_POLICY (R361, R362) -/

/-- The lanes that LANE names. -/
def namedLanes (n : Nat) : List Nat := if n = 0xFF then List.range 128 else [n]

/-- The generation of the lane a record names. -/
def laneGen (c : Cmd) (s : State) : Option Nat := if c.u8 0 < 128 then some (s.lanePol (c.u8 0)).gen else none

/-- LANE_CONTROL (R361). -/
def laneControlInfo : CmdInfo := { opcode := 0x0B01, length := fun _ => 8, gen := laneGen }

/-- A lane carries streams or is named by an enabled beacon slot. -/
def laneInUse (s : State) (lane : Nat) : Bool := !(members s 0 lane).isEmpty || !(members s 1 lane).isEmpty || !(beaconSlots s lane).isEmpty

/-- Set a lane's DISABLED flag, its generation advancing if that changes it. -/
def setDisabled (lane : Nat) (x : Bool) (s : State) : State :=
  if (s.lanePol lane).disabled = x then s
  else (s.onObj fun o => { o with lanes := tmod {} o.lanes lane fun p => { p with disabled := x, gen := genNext p.gen } }).touch 0x0B lane

/-- A lane is OFF or in TEST. -/
def offOrTest (s : State) (lane : Nat) : Bool := decide ((s.lane lane).rx = .off ∨ (s.lane lane).rx = .test)

/-- One lane through ENABLE, DISABLE, RETRAIN, TEST or TEST_LOOPBACK. [DEDUCED, log 80] -/
def laneAction (c : Cmd) (s : State) (lane : Nat) : State :=
  let a := c.u8 1
  let b := byCommand c
  if a = 0 then (let t := setDisabled lane false s; if offOrTest s lane then toDetect lane b t else t)
  else if a = 1 then toIdle lane .off false b (setDisabled lane true s)
  else if a = 2 then (if offOrTest s lane then s else toDetect lane b (s.onLane lane fun l => { l with coldNext := l.coldNext || bitOf (c.u8 2) 1 }))
  else toIdle lane .test (decide (a = 6)) b s

/-- A MOOR_TX on this lane changes nothing. -/
def moorStands (s : State) (lane : Nat) : Bool := decide ((s.lane lane).tx = .moored) || (s.lane lane).txMoor.isSome

/-- MOOR_TX. [DEDUCED, log 80] -/
def moorLanes (ls : List Nat) (s : State) : Res :=
  let new := ls.filter fun l => !moorStands s l
  if new = [] then ok s
  else if new.any fun l => decide ((s.lane l).tx ≠ .active) || !mayMoor s l then rej .state 0x20 s
  else queued (.moorTx (ls.headD 0)) (new.foldl (fun t l => announceMoor l s.mbox.nextJob false t) s)

/-- WAKE_TX. [DEDUCED, log 80] -/
def wakeLanes (c : Cmd) (ls : List Nat) (s : State) : Res :=
  let sleeping := ls.filter fun l => (s.lane l).tx = .moored
  let t := sleeping.foldl (fun t l => wakeTx l s.mbox.nextJob t) (ls.foldl (fun t l => withdrawMoor l (byCommand c) t) s)
  if sleeping = [] then ok t else queued (.wakeTx (ls.headD 0)) t

/-- The effect of LANE_CONTROL. -/
def laneControl (c : Cmd) (s : State) : Res :=
  let n := c.u8 0
  let a := c.u8 1
  let ls := namedLanes n
  let act := if n = 0xFF ∧ a = 2 then ls.filter fun l => !offOrTest s l else ls
  match firstBad [(decide (n < 128) || (decide (n = 0xFF) && !c.checkGen), 0x20), (decide (a ≤ 6), 0x21)] with
  | some off => rej .range off s
  | none =>
    if a = 2 ∧ n ≠ 0xFF ∧ offOrTest s n then rej .state 0x21 s
    else if (a = 1 ∨ a = 2 ∨ a = 5 ∨ a = 6) ∧ bitOf (c.u8 2) 0 = false ∧ act.any (laneInUse s) then rej .state 0x20 s
    else if a = 3 then moorLanes ls s
    else if a = 4 then wakeLanes c ls s
    else ok (act.foldl (laneAction c) s)

/-- SET_LANE_POLICY (R362). -/
def setLanePolicyInfo : CmdInfo := { opcode := 0x0B02, length := fun _ => 16, gen := laneGen }

/-- The setting that a record gives a lane. -/
def policySetting (c : Cmd) (p : LanePolObj) : LanePolObj :=
  let q : LanePolObj :=
    { p with precode := c.u8 1, histBound := if c.u16 2 = 0 then 20 else c.u16 2, serLimit := if c.u32 4 = 0 then 100000 else c.u32 4,
             snrMin := if c.u16 8 = 0 then 1500 else c.u16 8, drift := if c.u16 0x0A = 0 then 150 else c.u16 0x0A }
  if q = p then p else { q with gen := genNext p.gen }

/-- The effect of SET_LANE_POLICY. [DEDUCED, log 14] -/
def setLanePolicy (c : Cmd) (s : State) : Res :=
  let n := c.u8 0
  let within := fun lo hi x => decide (x = 0 ∨ (lo ≤ x ∧ x ≤ hi))
  match firstBad [(decide (n < 128) || (decide (n = 0xFF) && !c.checkGen), 0x20), (decide (c.u8 1 ≤ 2), 0x21), (within 5 100 (c.u16 2), 0x22),
      (within 1 10000000 (c.u32 4), 0x24), (within 1000 3000 (c.u16 8), 0x28), (within 50 600 (c.u16 0x0A), 0x2A)] with
  | some off => rej .range off s
  | none => ok ((namedLanes n).foldl (fun t l =>
      if policySetting c (t.lanePol l) = t.lanePol l then t
      else (t.onObj fun o => { o with lanes := tmod {} o.lanes l (policySetting c) }).touch 0x0B l) s)

/-! ### The meanings -/

/-- LANE_CONTROL. -/
def execLaneControl (c : Cmd) (s : State) : Answer := answer (runCmd laneControlInfo laneControl c s)

/-- SET_LANE_POLICY. -/
def execSetLanePolicy (c : Cmd) (s : State) : Answer := answer (runCmd setLanePolicyInfo setLanePolicy c s)

/-- BARGE_TRANSMIT (R332); `payload` is the traffic of a Tandem lane: the other lanes carry what their output streams have due. -/
def execBargeTransmit (lane : Nat) (payload : List Byte) (s : State) : Answer := answer (bargeTransmit lane payload s)

/-- DATA_BARGE_RECEIVED (R338). -/
def execDataBargeReceived (lane : Nat) (barge : RxBarge) (s : State) : Answer := answer (dataBarge lane barge s)

/-- CALIBRATION_BARGE (R357). -/
def execCalibrationBarge (lane tail commaErrors snr : Nat) (s : State) : Answer := answer (calibrationBarge lane tail commaErrors snr s)

/-- LEVEL_HISTOGRAM_WINDOW (R356). -/
def execLevelHistogramWindow (lane : Nat) (shares : List Nat) (s : State) : Answer := answer (histogramWindow lane shares s)

/-- TRAINING_BARGE (R348). -/
def execTrainingBarge (lane tail commaErrors : Nat) (control : List Byte) (adapt : RxAdapt) (s : State) : Answer :=
  answer (trainingBarge lane tail commaErrors control adapt s)

/-- COMMA_LOSS (R340). -/
def execCommaLoss (lane : Nat) (s : State) : Answer := answer (commaLoss lane s)

/-- RELOCK_TIMEOUT (R340). -/
def execRelockTimeout (lane : Nat) (s : State) : Answer := answer (relockTimeout lane s)

/-- LANE_BRINGUP_TIMEOUT (R346). -/
def execLaneBringupTimeout (lane : Nat) (s : State) : Answer := answer (bringupTimeout lane s)

/-- DETECT_IDLE_END (R346). -/
def execDetectIdleEnd (lane : Nat) (s : State) : Answer := answer (detectIdleEnd lane s)

/-- CAPS_RECORD (R351). -/
def execCapsRecord (lane : Nat) (record : List Byte) (s : State) : Answer := answer (capsRecord lane record s)

/-- STATUS_RECORD (R345). -/
def execStatusRecord (lane : Nat) (record : List Byte) (s : State) : Answer := answer (statusRecord lane record s)

/-- MOOR_RECORD (R353). -/
def execMoorRecord (lane : Nat) (record : List Byte) (s : State) : Answer := answer (moorRecord lane record s)

/-- MOOR_BARGE (R353). -/
def execMoorBarge (direction lane : Nat) (s : State) : Answer := answer (moorBarge direction lane s)

/-- SIGNAL_DETECT_WAKE (R354). -/
def execSignalDetectWake (lane : Nat) (epoch : Option Nat) (s : State) : Answer := answer (signalWake lane epoch s)

/-- WAKE_COMPLETE (R354). -/
def execWakeComplete (lane : Nat) (s : State) : Answer := answer (wakeComplete lane s)

/-- ECO_MOOR (R355). -/
def execEcoMoor (lane : Nat) (s : State) : Answer := answer (ecoMoor lane s)

end Sys2Proof.Machine
end

