-- ==== Sys2Proof/Machine/Trims.lean ====
section
/-! DEFINITION.  The trims and SET_TRIM (R20 to R23, R99; spec/01_frame_and_flow.md, spec/03_mailboxes_and_cxl.md). -/

namespace Sys2Proof.Machine
open Sys2Proof

/-- SET_TRIM (R99). -/
def setTrimInfo : CmdInfo := { opcode := 0x0107, content := true, length := fun _ => 8, gen := fun _ s => some s.obj.trims.gen }

/-- Change the trims, their generation advancing. -/
def putTrims (f : TrimSet → TrimSet) (s : State) : State :=
  (s.onObj fun o => { o with trims := { f o.trims with gen := genNext o.trims.gen } }).touch 0x01 0

/-- An earlier change of a trim, still running, completes as SUPERSEDED (R22, R99). -/
def supersedeTrim (k : JobKind) (c : Cmd) (s : State) : State :=
  (jobsOf s fun j => j == k).foldl (fun s id => finish id .superseded (byCommand c) s) s

/-- The switch point of frame n of a plane begins at least one frame after the present tick (R22): its instant and the frame are
compared over the plane's divisor, on 1,125 interface lines. -/
def frameLater (s : State) (p rate : Nat) (n : Int) : Bool :=
  let len : Int := (48000 * (rateND rate).2 * frac : Nat)
  decide (((s.now : Int) * frameDen rate + len) * 1125 ≤ startNumOf s p rate n * 1125 + 6 * len)

/-- The frame at whose switch point a Latency change acts on a plane (R22). -/
def latFrame (s : State) (p : Nat) : Int :=
  let n := (s.planeRt p).frame
  match s.rate p with
  | none => n
  | some r => if frameLater s p r n then n else if frameLater s p r (n + 1) then n + 1 else if frameLater s p r (n + 2) then n + 2 else n + 3

/-- Composer and Latency changes with nothing left to change complete (R22, R99). [DEDUCED, log 51] -/
def settleTrims (s : State) : State :=
  let s1 := if s.heads.any fun e => e.2.legDue.isSome then s else (jobsOf s fun j => j == .composerTrim).foldl (fun s id => finish id .done 0 s) s
  if (enabledPlanes s).any fun p => (s.planeRt p).latDue.isSome then s1
  else (jobsOf s1 fun j => j == .latencyTrim).foldl (fun s id => finish id .done 0 s) s1

/-- Stowage (R22). -/
def trimStowage (v : Bool) (s : State) : Res :=
  if s.wharf.berths.any fun e => decide (e.2.pages ≠ 0) then rej .state 0xFFFF s else ok (putTrims (fun t => { t with shallow := v }) s)

/-- Composer (R22): each head follows at the first frame of R86; a head without a plane at once. [DEDUCED, log 72] -/
def trimComposer (c : Cmd) (v : Bool) (s : State) : Res :=
  let s1 := supersedeTrim .composerTrim c (putTrims (fun t => { t with legacy := v }) s)
  let s2 := (List.range 32).foldl (fun t h => t.onHead h fun r =>
    match (s.headObj h).cfg.plane with
    | none => { r with legacy := v, legDue := none }
    | some p => { r with legDue := if r.legacy = v then none else some (armFrame s p) }) s1
  if s2.heads.any fun e => e.2.legDue.isSome then queued .composerTrim s2 else ok s2

/-- Lanes moored by the trim wake, and announcements of it are withdrawn (R355). -/
def wakeTrimmed (by_ : Nat) (s : State) : State :=
  ((s.tow.lanes.filter fun e => e.2.byTrim).map Prod.fst).foldl (fun s l => wakeTx l 0 (withdrawMoor l by_ s)) s

/-- The Power trim's value acts on the scrub divisors, and off, on what it moored and gated (R22, R313, R355, R399). -/
def applyPower (by_ : Nat) (s : State) : State :=
  let s1 := retimeScrub s.obj.trims.eco s
  if s.obj.trims.eco then s1 else wakeTrimmed by_ (s1.onHeads fun t => t.map fun e => (e.1, { e.2 with gated := false }))

/-- Power (R22, R313, R355, R399). -/
def trimPower (c : Cmd) (v : Bool) (s : State) : Res := ok (applyPower (byCommand c) (putTrims (fun t => { t with eco := v }) s))

/-- Latency (R22, R23): SYNC-ALL needs a berth for every LIVE input stream; each plane follows at its switch point. [DEDUCED, log 51] -/
def trimLatency (c : Cmd) (v : Bool) (s : State) : Res :=
  match if v then syncBerths (byCommand c) (liveInputs s) s else some s with
  | none => rej .capacity 0xFFFF s
  | some t =>
    let s1 := supersedeTrim .latencyTrim c (putTrims (fun t => { t with syncAll := v }) t)
    let s2 := (enabledPlanes s).foldl (fun t p => t.onPlaneRt p fun q => { q with latDue := if q.latSync = v then none else some (latFrame s p) }) s1
    if (enabledPlanes s2).any fun p => (s2.planeRt p).latDue.isSome then queued .latencyTrim s2 else ok s2

/-- The value that a trim has. -/
def trimValue (s : State) (trim : Nat) : Bool :=
  let t := s.obj.trims
  if trim = 0 then t.shallow else if trim = 1 then t.legacy else if trim = 2 then t.eco else t.syncAll

/-- The effect of SET_TRIM. [DEDUCED, log 14] -/
def setTrim (c : Cmd) (s : State) : Res :=
  let v := decide (c.u8 1 = 1)
  match firstBad [(decide (c.u8 0 ≤ 3), 0x20), (decide (c.u8 1 ≤ 1), 0x21)] with
  | some off => rej .range off s
  | none =>
    if trimValue s (c.u8 0) = v then ok s
    else if c.u8 0 = 0 then trimStowage v s
    else if c.u8 0 = 1 then trimComposer c v s
    else if c.u8 0 = 2 then trimPower c v s
    else trimLatency c v s

/-- A routed destination takes the path of the latest Latency value (R22, R173). [DEDUCED, log 51] -/
def recut (s : State) (d : Nat) : State :=
  match (s.route d).source with
  | none => s
  | some h =>
    let c := choosePath s d (some h) s.obj.trims.syncAll
    let r := s.routeRt d
    if c.1 = r.path ∧ c.2.2 = r.via then s
    else
      let e : Entry := { plane := planeOf s d, source := some h, path := c.1, offset := c.2.1, via := c.2.2 }
      (countRough d e (makeCut d e s)).onRouteRt d fun r =>
        { r with path := e.path, via := e.via, offset := e.offset, inStep := decide (e.path = .berth) || inStepWith s d e.offset }

/-- Routed destinations of a plane that a source's path leads to: all but audio channels. -/
def routedOn (s : State) (p : Nat) : List Nat := (s.obj.routes.filter fun e => destRange e.1 ≠ 1 ∧ e.2.source.isSome ∧ destPlane s e.1 = some p).map Prod.fst

/-- The switch point of a plane's current frame falls in this tick for a destination. -/
def pointNow (s : State) (p d : Nat) : Bool := decide (switchTick s p (destFormat s d) (s.planeRt p).frame = s.now)

/-- Each destination of a plane follows a Latency change at its own switch point of the frame (R22); one that a take reaches there is
cut by the take, whose path knows the new value.  The plane has changed at the last of these points. [DEDUCED, log 33, 51] -/
def latencyPoint (p : Nat) (s : State) : State :=
  match (s.planeRt p).latDue with
  | none => s
  | some n =>
    if (s.planeRt p).frame < n then s
    else
      let ds := routedOn s p
      let s1 := (ds.filter fun d => pointNow s p d && (dueEntries s d).isEmpty).foldl recut s
      if (0xFFFF :: ds.map (destFormat s)).all fun f => decide (switchTick s p f (s.planeRt p).frame ≤ s.now) then
        settleTrims (s1.onPlaneRt p fun q => { q with latSync := s.obj.trims.syncAll, latDue := none })
      else s1

/-- Latency changes due at frames of the old grid move as takes do (R111). [DEDUCED, log 31] -/
def rearmTrims (p : Nat) (m k : Int) (s : State) : State := s.onPlaneRt p fun q => { q with latDue := q.latDue.map (rearmed m k) }

/-- SET_TRIM. -/
def execSetTrim (c : Cmd) (s : State) : Answer := answer (runCmd setTrimInfo setTrim c s)

end Sys2Proof.Machine
end

