-- ==== Sys2Proof/Machine/Twin.lean ====
section
/-! DEFINITION.  Twin operation: roles, Tandem records, seals, fail-over, disputes, resynchronisation and the commands
of range 0x0C (spec/12_twin_operation.md; the Tandem session, spec/16_keys_tamper_firmware.md). -/

namespace Sys2Proof.Machine
open Sys2Proof

/-! ### Roles and health (R364, R365, R369) -/

/-- TWIN_STATE (R391). -/
def TwinSt.code : TwinSt → Nat
  | .paired => 0
  | .alone => 1
  | .resyncing => 2
  | .inStep => 3
  | .adrift => 4
  | .blocked => 5

/-- RESYNC_PHASE (R391). -/
def RsPhase.code : RsPhase → Nat
  | .none => 0
  | .session => 1
  | .snapshot => 2
  | .graphics => 3
  | .fill => 4
  | .check => 5

/-- The condition for driving TWIN_HEALTH high (R365); a sampled power-fail warning and a RESTART hold it low (R427, R442). -/
def healthy (s : State) : Bool :=
  !s.start.powerFail && s.start.restart.isNone && (match s.dev with
  | .readyHelm => s.twin.yield.isNone
  | .readyStandby => decide (s.twin.st = .inStep)
  | .handover => s.fw.healthHigh && s.twin.yield.isNone
  | _ => false)

/-- Drive TWIN_HEALTH as its condition stands. -/
def driveHealth (s : State) : State := s.onTwin fun t => { t with health := healthy s }

/-- A standby that takes and applies records: in step, or resynchronising from its snapshot on (R369, R388). -/
def appliesRecords (s : State) : Bool :=
  s.serving && !s.twin.helm && (decide (s.twin.st = .inStep) ||
    (decide (s.twin.st = .resyncing) && decide (s.twin.phase ∈ [RsPhase.graphics, .fill, .check])))

/-- A standby that keeps the record halves it receives (R388). -/
def keepsRecords (s : State) : Bool :=
  appliesRecords s || (s.serving && !s.twin.helm && decide (s.twin.st = .resyncing) && decide (s.twin.phase = .snapshot))

/-- The standby's time model coasts on the values it holds (R107). -/
def coast (s : State) : State := s.onTime fun t => { t with tmState := .coasting }

/-! ### Content commands replayed on the standby (R17, R86, R374) -/

/-- The effect of a content command, by opcode; takes travel in QUEUE and COMMIT instead. -/
def contentBody (op : Nat) : Option (Cmd → State → Res) :=
  match op with
  | 0x0107 => some setTrim
  | 0x0201 => some defineStream
  | 0x0202 => some releaseStream
  | 0x0203 => some setManifest
  | 0x0301 => some setPlane
  | 0x0401 => some setReference
  | 0x0402 => some setSelectionPolicy
  | 0x0504 => some lockDestination
  | 0x0505 => some setGenerator
  | 0x0601 => some setFrameSync
  | 0x0604 => some setWharfPolicy
  | 0x0701 => some setDestinationForm
  | 0x0702 => some setAncDestination
  | 0x0901 => some setChannelGain
  | 0x0902 => some setChannelDelay
  | 0x0903 => some setMix
  | 0x0904 => some setChannelOptions
  | 0x0A01 => some setHead
  | 0x0A02 => some setLayer
  | 0x0A03 => some setCoefficients
  | 0x0A04 => some setLut
  | 0x0A05 => some setAssay
  | 0x0A06 => some writeHallmark
  | 0x0A07 => some setHallmarkRegion
  | 0x0A09 => some commitHead
  | _ => none

/-- The object of a content command of a range stands at a generation: trims, streams, manifests, planes, references and policies. -/
def genEarly (op : Nat) (c : Cmd) (g : Nat) (s : State) : State :=
  if op = 0x0107 then s.onObj fun o => { o with trims := { o.trims with gen := g } }
  else if op = 0x0203 then s.onManifest (manKey (c.u8 1) (c.u8 0)) fun m => { m with gen := g }
  else if op = 0x0301 then s.onObj fun o => { o with planes := tmod {} o.planes (c.u8 0) fun x => { x with gen := g } }
  else if op = 0x0401 then s.onObj fun o => { o with refs := tmod {} o.refs (c.u8 0) fun x => { x with gen := g } }
  else if op = 0x0402 then s.onObj fun o => { o with policy := { o.policy with gen := g } }
  else if op / 256 = 2 then s.onStream (streamKey (c.u8 2) (c.u16 0)) fun x => { x with gen := g }
  else s

/-- The same for locks, generators, the Wharf and the bridge. -/
def genMiddle (op : Nat) (c : Cmd) (g : Nat) (s : State) : State :=
  if op = 0x0504 then s.onRoute (c.u16 0) fun x => { x with lockGen := g }
  else if op = 0x0505 then s.onObj fun o => { o with gens := tmod {} o.gens (c.u8 0) fun x => { x with gen := g } }
  else if op = 0x0601 then s.onObj fun o => { o with fsync := tmod {} o.fsync (c.u16 0) fun x => { x with gen := g } }
  else if op = 0x0604 then s.onObj fun o => { o with wharfPol := { o.wharfPol with gen := g } }
  else if op = 0x0701 then s.onObj fun o => { o with destForm := tmod {} o.destForm (c.u16 0) fun x => { x with gen := g } }
  else if op = 0x0702 then s.onObj fun o => { o with anc := tmod {} o.anc (c.u16 0) fun x => { x with gen := g } }
  else s

/-- The same for audio channels, heads and Assay regions. -/
def genLate (op : Nat) (c : Cmd) (g : Nat) (s : State) : State :=
  if op = 0x0904 ∧ optionsDest c s = false then s.onObj fun o => { o with srcLinks := tmod {} o.srcLinks (c.u16 0) fun x => { x with gen := g } }
  else if op / 256 = 9 then s.onObj fun o => { o with chans := tmod {} o.chans (c.u16 0) fun x => { x with gen := g } }
  else if op = 0x0A05 then s.onHeadObj (c.u8 0) fun x => { x with assay := tmod {} x.assay (c.u8 1) fun a => { a with gen := g } }
  else if op / 256 = 0x0A then s.onHeadObj (c.u8 0) fun x => { x with gen := g }
  else s

/-- The object of a replayed command takes the helm's generation (R86); 0 is that of a command that names no one object. -/
def takeGen (r : CmdRec) (s : State) : State := if r.gen = 0 then s else genLate r.opcode r.cmd r.gen (genMiddle r.opcode r.cmd r.gen (genEarly r.opcode r.cmd r.gen s))

/-- Apply a command of COMMANDS with the helm's admitting tick and generation (R86); it has no completion here. -/
def replay (s : State) (r : CmdRec) : State :=
  match contentBody r.opcode with
  | none => s
  | some f =>
    let a := (s.onMbox fun m => { m with nextJob := 0 }).onTime fun x => { x with tick := r.tick }
    takeGen r (((f r.cmd a).s.onMbox fun m => { m with nextJob := s.mbox.nextJob }).onTime fun x => { x with tick := s.time.tick })

/-! ### Sections of a record (R374, R379) -/

/-- The time model and the selector as the helm holds them (R106, R144). -/
def applyTime (e freq : Int) (tm : TmState) (sel : Option Nat) (pend : List (Nat × Option Int)) (hs : Nat) (hf : Int) (s : State) : State :=
  let held := decide (tm = .holdover)
  let age := if held then s.now - hs else 0
  (s.onTime fun x => { x with e := e, freq := freq, tmState := .slaved }).onRefs fun x =>
    { x with selected := sel, last := sel.or x.last, hist := if sel = x.selected then x.hist else [], pending := pend, holdover := held, holdStart := hs, holdFreq := hf, holdAge := age,
             outOfSpec := held && overBudget s.obj.policy age }

/-- A take committed by the helm (R117, R164): no completion is owed for it here. -/
def applyCommitted (s : State) (x : Nat × Entry) : State :=
  (s.onRouteRt x.1 fun r => { r with queue := insertEntry { x.2 with committed := true, sent := true, job := 0 } (r.queue.filter fun q => q.frame ≠ x.2.frame) }).onPlaneRt x.2.plane
    fun q => { q with committed := some (match q.committed with
      | some n => max n x.2.frame
      | none => x.2.frame) }

/-- A destination's queue as the helm holds it (R164). -/
def applyQueue (s : State) (x : Nat × List Entry) : State :=
  s.onRouteRt x.1 fun r => { r with queue := x.2.map fun e => { e with sent := true, job := 0 } }

/-- The slot into which a newly started input frame is written (R199): a frame this chip has not received is missing here, and damages what shows it. -/
def applyWrite (s : State) (x : Nat × InFrame) : State :=
  if berthed s x.1 = false then s
  else s.onBerth x.1 fun b =>
    if b.frames.any fun f => f.seq = x.2.seq then { b with frames := b.frames.map fun f => if f.seq = x.2.seq then { f with slot := x.2.slot } else f }
    else { b with frames := (b.frames ++ [{ x.2 with damagedLines := max 1 x.2.damagedLines }]).drop (b.frames.length + 1 - (b.slots + 1)) }

/-- The frame that a berth reads for the coming output frame (R199). -/
def applyPick (s : State) (x : Nat × Nat) : State :=
  let b := s.berth x.1
  let f := (b.frames.find? fun f => f.seq = x.2).getD { seq := x.2, damagedLines := 1 }
  let t := match s.rate (readPlane s x.1) with
    | some q => start32 q (startNumOf s (readPlane s x.1) q ((s.planeRt (readPlane s x.1)).nextFrame))
    | none => f.start
  let skipped := ((framesAfter b.last b.frames).takeWhile fun g => g.seq ≠ x.2).length
  berthReads x.1 f (bit (b.paired && decide (b.last = x.2))) (if b.paired ∧ b.last ≠ x.2 then skipped else 0) t s

/-- A priming pairing (R258): the sample paired with this tick has had its turn. -/
def applyPriming (s : State) (x : Nat × Nat × Nat) : State :=
  readByPairing x.1 (s.onAud x.1 fun a => { a with pairing := some (x.2.1, x.2.2), read := x.2.2 + (s.now - x.2.1), clean := 0 })

/-- A slip and its effect tick (R261). -/
def applySlip (s : State) (x : Nat × Bool × Nat) : State := slipDecided x.1 x.2.1 x.2.2 s

/-- The source frame that a layer shows in the coming frame (R294): 2 × frame + 1, or 0 for none. -/
def applyFrame (s : State) (x : Nat × Nat) : State :=
  let h := slotHead x.1
  let slot := slotNo x.1
  match (s.route x.1).source with
  | none => layerAbsent h slot (s.onLayer h slot fun l => { l with ready := false, src := none, frame := none })
  | some src => showFrame h slot (if x.2 % 2 = 1 then some (src, x.2 / 2, presentLevel s h slot ((s.headObj h).cfg.layer slot) (s.layer h slot).raised) else none) s

/-- A layer's fallbacks (R300). -/
def applyFall (s : State) (x : Nat × Bool × Bool × Bool) : State :=
  s.onLayer (slotHead x.1) (slotNo x.1) fun l =>
    let n := bit (x.2.1 && !l.twoTap) + bit (x.2.2.1 && !l.raised) + bit (x.2.2.2 && !l.noRoom)
    { l with twoTap := x.2.1, raised := x.2.2.1, noRoom := x.2.2.2, fallbacks := satAdd 32 l.fallbacks n }

/-- The frame at which a commit applies, with its flips (R307). -/
def applyHeadCommit (s : State) (x : Nat × Int × Nat) : State :=
  s.onHead x.1 fun r => { r with commit := r.commit.map fun k => { k with waiting := false, frame := x.2.1, flips := x.2.2 } }

/-- A transmit epoch barge (R51). -/
def applyEpoch (s : State) (x : Nat × Announce) : State :=
  wakeTx x.1 0 (s.onManifestRt (manKey 1 x.1) fun m => { m with announce := some x.2, carried := true })

/-- Seals that differ on holds that neither chip masked, by lane × 8 + hold (R384). -/
def sealsApart (own : SealChain) (values : List (Nat × Nat)) (mask : List Nat) : List Nat :=
  ((values.filter fun v => !mask.contains v.1 && !own.mask.contains v.1 && own.values.any fun w => decide (w.1 = v.1) && decide (w.2 ≠ v.2)).map Prod.fst).foldl setAdd []

/-- A chain begun after FILL ended counts for the CHECK phase (R388). [DEDUCED, log 84] -/
def countsForCheck (s : State) (seq : Nat) : Bool := decide (s.twin.phase = .check) && decide (1024 ≤ seqAhead seq s.twin.checkSeq)

/-- The determinism check (R384): in step a mismatch makes the chip ADRIFT; in the CHECK phase it only fails to end the phase. [DEDUCED, log 84] -/
def compareSeals (seq : Nat) (values : List (Nat × Nat)) (mask : List Nat) (s : State) : State :=
  match s.twin.chains.find? fun c => c.seq = seq with
  | none => s
  | some own =>
    if s.obj.twinPol.sealCheck = false ∧ s.twin.phase ≠ .check then s
    else
      let bad := sealsApart own values mask
      let s1 := if s.obj.twinPol.sealCheck then s.onTwin fun t => { t with sealChecks := inc t.sealChecks } else s
      match bad with
      | [] => if countsForCheck s seq then s1.onTwin fun t => { t with fillChecks := t.fillChecks + 1 } else s1
      | b :: _ =>
        let lane := b / 8
        let m := ((bad.filter fun x => x / 8 = lane).map fun x => 2 ^ (x % 8)).sum
        let s2 := raise 0x0C87 3 lane m (s1.onTwin fun t => { t with sealMis := inc t.sealMis })
        if s.twin.st = .inStep then
          driveHealth (coast (s2.onTwin fun t => { t with st := .adrift, retryAge := some 0, east := [], west := [] }))
        else s2

/-- The far end of a lane against the partner's (R9, R384). [DEDUCED, log 84] -/
def compareFar (s : State) (x : Nat × Nat × Nat) : State :=
  let l := s.lane x.1
  if l.rx ≠ .active then s
  else if l.farId % 2 ^ 32 = x.2.1 ∧ l.farPort = x.2.2 then s.onTwin fun t => { t with wiring := setDel t.wiring x.1 }
  else if s.twin.wiring.contains x.1 then s
  else raise 0x0C88 2 x.1 (l.farPort % 65536 + 65536 * x.2.2) (s.onTwin fun t => { t with wiring := setAdd t.wiring x.1 })

/-- Pages of graphics planes come in the bulk holds: buffer (head × 8 + 2 × plane + buffer), page, bytes (R307, R370). -/
def writePages (ps : List (Nat × Nat × List Byte)) (s : State) : State :=
  ps.foldl (fun s p => s.hdmWrite (graphicsBase (p.1 / 8) (p.1 % 8 / 2) (p.1 % 2) + p.2.1 * 4096) p.2.2) s

/-- An acknowledgement goes back (R377). -/
def acknowledge (a : TandemAck) (s : State) : State := s.onTwin fun t => { t with acks := t.acks ++ [(a, s.elapsed)] }

/-- Apply a section.  COMMANDS sections are held while a handover runs, and while earlier ones are still held (R500). -/
def applySection (s : State) (x : Section) : State :=
  match x with
  | .time _ e freq tm sel pend hs hf => applyTime e freq tm sel pend hs hf s
  | .commit ts => ts.foldl applyCommitted s
  | .queue qs => qs.foldl applyQueue s
  | .commands cs =>
    if s.dev = .handover ∨ s.twin.held ≠ [] then s.onTwin fun t => { t with held := t.held ++ cs, handShook := true } else cs.foldl replay s
  | .wharf ws ps _ ls rs =>
    let s1 := rs.foldl (fun s b => restoreStream b s) (ls.foldl (fun s l => loseStream l.1 l.2 s) s)
    ps.foldl applyPick (ws.foldl applyWrite s1)
  | .audio ps sl => sl.foldl applySlip (ps.foldl applyPriming s)
  | .composer fs fb cs => cs.foldl applyHeadCommit (fs.foldl applyFrame (fb.foldl applyFall s))
  | .epochs cs => cs.foldl applyEpoch s
  | .seals seq vs mask => compareSeals seq vs mask s
  | .ports far => far.foldl compareFar s
  | .pages ps => ps.foldl (fun s p => acknowledge { page := some (p.1, p.2.1) } s) (writePages ps s)

/-- Where a section stands in the order of application: settings come before what rests on them. -/
def Section.rank : Section → Nat
  | .time .. => 0
  | .commands .. => 1
  | .queue .. => 2
  | .commit .. => 3
  | .wharf .. => 4
  | .audio .. => 5
  | .composer .. => 6
  | .epochs .. => 7
  | .pages .. => 8
  | .ports .. => 9
  | .seals .. => 10

/-- Apply a record's sections. -/
def applySections (xs : List Section) (s : State) : State :=
  (List.range 11).foldl (fun s k => (xs.filter fun x => x.rank = k).foldl applySection s) s

/-- Forget the decisions noted for a record of one's own. -/
def TwinRt.clearNotes (t : TwinRt) : TwinRt :=
  { t with cmds := [], queues := [], commits := [], frames := [], picks := [], delays := [], losses := [], restored := [], primings := [], slips := [],
           layerFrames := [], layerFalls := [], headCommits := [], epochs := [], pagesSent := [] }

/-! ### The session (R371, R483, R484) -/

/-- The Tandem session is used by `n` record halves: each use of an orphaned one is counted. -/
def useSession (n : Nat) (s : State) : State :=
  if s.twin.session ∧ s.twin.orphaned then s.onKeys fun k => { k with orphanTandem := satAdd 32 k.orphanTandem n } else s

/-- A renewed key acts from the RSEQ announced for it. -/
def renewKey (rseq : Nat) (s : State) : State :=
  match s.twin.rekeyAt with
  | some (r, k) => if 0 ≤ seqAhead rseq r then s.onTwin fun t => { t with sessionKey := k, rekeyAt := none, orphaned := false } else s
  | none => s

/-- The message that a Tandem proof covers: both chips' ephemeral keys and serials. -/
def proofMessage (o : TandemOffer) : List Byte := o.own ++ o.publicKey ++ toLe 8 Config.serial ++ toLe 8 o.serial

/-- The proof holds under the current attestation secret. [DEDUCED, log 88] -/
def proofHolds (o : TandemOffer) (s : State) : Bool :=
  match (tget ({} : KeySlot) s.obj.keys 1).current with
  | some k => decide (o.proof = macOf k (proofMessage o))
  | none => false

/-- A proof failed (R483): no session is left. [DEDUCED, log 88] -/
def proofFailed (s : State) : State :=
  raise 0x1086 3 0x00FF 3 (s.onTwin fun t => { t with session := false, sessionKey := 0, rekeyAt := none, orphaned := false })

/-- The partner's image and this one's refuse each other (R371). -/
def partnerRefused (s : State) : Bool :=
  s.twin.session && (decide (s.fw.image.version < s.twin.partnerMin) || decide (s.twin.partnerFw < s.fw.image.partnerMin))

/-- The two images' versions accept each other (R371). -/
def versionsAgree (o : TandemOffer) (s : State) : Bool := decide (o.fwMin ≤ s.fw.image.version) && decide (s.fw.image.partnerMin ≤ o.fw)

/-! ### Records sent (R372 to R376) -/

/-- Transmit manifests that wait get their epoch barge (R51); a moored direction wakes for it. -/
def chooseEpochs (s : State) : State :=
  (s.manifests.filter fun e => 128 ≤ e.1 ∧ e.2.pending.isSome ∧ e.2.announce.isNone).foldl (fun s e =>
    let lane := e.1 - 128
    let a : Announce := { epoch := ((s.manifest e.1).epoch + 1) % 256, seq := wrapAdd 32 s.tow.bargeSeq 1024,
                          digest := manifestDigest (listed s 1 ((e.2.pending.map PendManifest.handles).getD [])) }
    wakeTx lane 0 ((s.onManifestRt e.1 fun m => { m with announce := some a, carried := true }).onTwin fun t => { t with epochs := t.epochs ++ [(lane, a)] })) s

/-- The far ends of the ACTIVE lanes, for PORTS. -/
def farEnds (s : State) : List (Nat × Nat × Nat) :=
  (s.tow.lanes.filter fun e => e.1 < 128 ∧ e.2.rx = .active).map fun e => (e.1, e.2.farId % 2 ^ 32, e.2.farPort)

/-- The newest chain that has ended on every lane, if its seals have not been sent. -/
def newSeals (s : State) : Option SealChain :=
  match s.twin.chains.getLast? with
  | some c => if s.twin.sealData = some c ∨ c.seq = s.tow.bargeSeq then none else some c
  | none => none

/-- The bytes of recorded pages, by buffer, as they stand in HDM. -/
def pageBytes (s : State) (ps : List (Nat × List Nat)) : List (Nat × Nat × List Byte) :=
  ps.flatMap fun e => e.2.map fun p => (e.1, p, memRead s.hdm (graphicsBase (e.1 / 8) (e.1 % 8 / 2) (e.1 % 2) + p * 4096) 4096)

/-- The die of a destination: that of its lane, channel or head; ANC destinations count as East. [DEDUCED, log 86] -/
def destDie (d : Nat) : Nat := if destRange d = 0 then bayDie d else if destRange d = 1 then audioDie d else if destRange d = 2 then slotHead d / 16 else 0

/-- A section that is not empty. -/
def someOf (l : List α) (f : List α → Section) : Option Section := if l.isEmpty then none else some (f l)

/-- What a record half carries of a section: the decisions on its own die's destinations, berths, channels, heads and lanes; TIME in both
(R372); commands in the East half. [DEDUCED, log 86] -/
def Section.half (west : Bool) (x : Section) : Option Section :=
  let k := bit west
  match x with
  | .time .. => some x
  | .queue qs => some (.queue (qs.filter fun e => destDie e.1 = k))
  | .commit ts => someOf (ts.filter fun e => destDie e.1 = k) .commit
  | .commands cs => if west then none else some (.commands cs)
  | .wharf ws ps ds ls rs =>
    let on := fun (bay : Nat) => decide (bayDie bay = k)
    let r := (ws.filter fun e => on e.1, ps.filter fun e => on e.1, ds.filter fun e => on e.1, ls.filter fun e => on e.1, rs.filter on)
    if r.1.isEmpty && r.2.1.isEmpty && r.2.2.1.isEmpty && r.2.2.2.1.isEmpty && r.2.2.2.2.isEmpty then none
    else some (.wharf r.1 r.2.1 r.2.2.1 r.2.2.2.1 r.2.2.2.2)
  | .audio ps ss =>
    let r := (ps.filter fun e => bayDie e.1 = k, ss.filter fun e => bayDie e.1 = k)
    if r.1.isEmpty && r.2.isEmpty then none else some (.audio r.1 r.2)
  | .composer fs fb cs =>
    let r := (fs.filter fun e => destDie e.1 = k, fb.filter fun e => destDie e.1 = k, cs.filter fun e => e.1 / 16 = k)
    if r.1.isEmpty && r.2.1.isEmpty && r.2.2.isEmpty then none else some (.composer r.1 r.2.1 r.2.2)
  | .epochs cs => someOf (cs.filter fun e => e.1 / 64 = k) .epochs
  | .seals seq vs mask => some (.seals seq (vs.filter fun e => e.1 / 512 = k) (mask.filter fun e => e / 512 = k))
  | .ports far => someOf (far.filter fun e => e.1 / 64 = k) .ports
  | .pages ps => someOf (ps.filter fun e => e.1 / 128 = k) .pages

/-- A record half (R372, R373). -/
def TandemRec.half (west : Bool) (r : TandemRec) : TandemRec := { r with sections := r.sections.filterMap (Section.half west) }

/-- The sections of a record from its halves, TIME once. -/
def joinHalves (east west : TandemRec) : List Section :=
  east.sections ++ west.sections.filter fun x => match x with
    | .time .. => false
    | _ => true

/-- The sections of the record now due: TIME and QUEUE always, the others that have content. [DEDUCED, log 86] -/
def sectionsNow (s : State) : List Section :=
  let t := s.twin
  let opt := fun (p : Bool) (x : Section) => if p then [x] else []
  [.time s.now s.time.e s.time.freq s.time.tmState s.refs.selected s.refs.pending s.refs.holdStart s.refs.holdFreq,
    .queue (t.queues.map fun d => (d, (s.routeRt d).queue))] ++
  opt (!t.commits.isEmpty) (.commit t.commits) ++
  opt (!t.cmds.isEmpty && decide (s.dev ≠ .handover)) (.commands t.cmds) ++
  opt (!(t.frames.isEmpty && t.picks.isEmpty && t.delays.isEmpty && t.losses.isEmpty && t.restored.isEmpty)) (.wharf t.frames t.picks t.delays t.losses t.restored) ++
  opt (!(t.primings.isEmpty && t.slips.isEmpty)) (.audio t.primings t.slips) ++
  opt (!(t.layerFrames.isEmpty && t.layerFalls.isEmpty && t.headCommits.isEmpty)) (.composer t.layerFrames t.layerFalls t.headCommits) ++
  opt (!t.epochs.isEmpty) (.epochs t.epochs) ++
  (match newSeals s with
    | some c => [.seals c.seq c.values c.mask]
    | none => []) ++
  opt (decide (48000 ≤ t.sincePorts)) (.ports (farEnds s)) ++
  opt (!t.pagesSent.isEmpty) (.pages (pageBytes s t.pagesSent))

/-- The record that the helm sends now, with its LIMIT_TICK. -/
def sendRecord (idle : Bool) (limit : Nat) (s : State) : State :=
  if !s.twin.helm ∨ !s.serving ∨ s.keys.lock then s
  else
    let s1 := chooseEpochs s
    let n := wrapAdd 32 s.twin.lastRseq 1
    let r : TandemRec := { rseq := n, version := s.fw.image.tandem, idle := idle, claim := s.twin.grant, handover := decide (s.dev = .handover), tick := s.now,
                           limit := limit, sections := sectionsNow s1 }
    let ports := decide (48000 ≤ s.twin.sincePorts)
    let s2 := useSession 2 (renewKey n s1)
    let s3 := s2.onBasin fun b => { b with routes := b.routes.map fun e => (e.1, { e.2 with queue := e.2.queue.map fun q => { q with sent := true } }) }
    let held := if s.dev = .handover then s.twin.cmds else []
    s3.onTwin fun t =>
      { t.clearNotes with lastRseq := n, records := satAdd 64 t.records 1, lastTick := s.now, sinceRec := 0, sent := some (r.half false), sentWest := some (r.half true), sealData := (newSeals s1).or t.sealData,
                          sincePorts := if ports then 0 else t.sincePorts, unacked := t.unacked ++ [(n, limit, 0, 0)], cmds := held }

/-- IDLE_RECORD (R372): no record has been sent for 240 ticks. -/
def idleRecord (s : State) : State := if s.twin.helm ∧ 240 ≤ s.twin.sinceRec then sendRecord true (s.now + 7) s else s

/-! ### Records received and applied (R376, R378, R387) -/

/-- The RSEQ that the standby expects next. -/
def nextRseq (s : State) : Nat :=
  match s.twin.lastMissed with
  | some m => wrapAdd 32 (if 0 < seqAhead m s.twin.lastRseq then m else s.twin.lastRseq) 1
  | none => wrapAdd 32 s.twin.lastRseq 1

/-- A record is missing (R376): it is discarded and counted. -/
def missRecord (rseq : Nat) (s : State) : State :=
  if !appliesRecords s ∨ seqAhead rseq (nextRseq s) < 0 then s
  else s.onTwin fun t => { t with missing := inc t.missing, missRun := min 3 (t.missRun + 1), lastMissed := some rseq,
                                  east := t.east.filter fun r => r.rseq ≠ rseq, west := t.west.filter fun r => r.rseq ≠ rseq }

/-- Both halves of a record are here. -/
def wholeRecord (s : State) (r : TandemRec) : Bool := s.twin.west.any fun q => q.rseq = r.rseq

/-- RECORD_MISSING: the record was not applied by the end of its LIMIT_TICK. [DEDUCED, log 86] -/
def recordMissing (rseq : Nat) (s : State) : State :=
  if s.twin.east.any fun r => decide (r.rseq = rseq) && wholeRecord s r && decide (s.now ≤ r.limit) then s else missRecord rseq s

/-- A partner that claims the helm beside this chip (R387). [DEDUCED, log 86] -/
def dispute (s : State) : State :=
  if s.twin.dispute then s.onTwin fun t => { t with disputeAge := 0 }
  else raise 0x0C86 3 0 (s.twin.partnerSerial % 2 ^ 32) (s.onTwin fun t => { t with dispute := true, disputeAge := 0, disputes := inc t.disputes })

/-- TANDEM_RECORD_RECEIVED. -/
def recordReceived (west tagOk : Bool) (r : TandemRec) (s : State) : State :=
  if !s.serving ∨ !s.twin.session ∨ tandemDown s then s
  else
    let s1 := useSession 1 (renewKey r.rseq s)
    if s.twin.helm then (if tagOk ∧ r.claim then dispute s1 else s1)
    else if !keepsRecords s then s1
    else if !tagOk then missRecord r.rseq s1
    else if west then s1.onTwin fun t => { t with west := if t.west.any fun q => q.rseq = r.rseq then t.west else t.west ++ [r] }
    else s1.onTwin fun t => { t with east := if t.east.any fun q => q.rseq = r.rseq then t.east else t.east ++ [r] }

/-- The record to apply next: whole, in RSEQ order, within its limit. -/
def dueRecord (s : State) : Option TandemRec :=
  s.twin.east.find? fun r => wholeRecord s r && (s.twin.fresh || decide (r.rseq = nextRseq s)) && decide (s.now ≤ r.limit)

/-- Apply a record, acknowledging both its halves (R376, R377). -/
def applyRecord (r : TandemRec) (s : State) : State :=
  let ns := (s.now - r.tick) * 62500 / 3
  let west := s.twin.west.find? fun q => q.rseq = r.rseq
  let xs := match west with
    | some q => joinHalves r q
    | none => r.sections
  let s1 := (acknowledge { rseq := r.rseq, west := true } (acknowledge { rseq := r.rseq } s)).onTwin fun t =>
    { t with lastRseq := r.rseq, fresh := false, lastMissed := none, missRun := 0, records := satAdd 64 t.records 1, lastTick := r.tick, sinceRec := 0,
             latWin := peaks t.latWin s.elapsed (min ns 0xFFFFFFFF), latency := highest (peaks t.latWin s.elapsed (min ns 0xFFFFFFFF)), sent := some r, sentWest := west,
             east := t.east.filter fun q => 0 < seqAhead q.rseq r.rseq, west := t.west.filter fun q => 0 < seqAhead q.rseq r.rseq }
  (applySections xs s1).onTwin fun t => t.clearNotes

/-- Apply the records that are due, in RSEQ order. -/
def applyRecords : Nat → State → State
  | 0, s => s
  | k + 1, s =>
    if !appliesRecords s then s
    else match dueRecord s with
      | some r => applyRecords k (applyRecord r s)
      | none => s

/-- TANDEM_RECORD_APPLY. -/
def recordApply (s : State) : State := applyRecords s.twin.east.length s

/-- A resynchronisation ends without success: RESYNC completes as TIMED_OUT with the failed phase (R393). -/
def endResync (s : State) : State :=
  let p := s.twin.phase.code
  let s1 := match s.twin.resyncJob with
    | some id => finish id .timedOut p s
    | none => s
  s1.onTwin fun t => { t with phase := .none, resyncJob := none }

/-- ADRIFT (R378): the third consecutive record is missing and 480 ticks have passed since the last one applied. [DEDUCED, log 85] -/
def adrift (s : State) : State :=
  if appliesRecords s ∧ 3 ≤ s.twin.missRun ∧ 480 ≤ s.twin.sinceRec then
    raise 0x0C83 2 0 s.twin.lastRseq (driveHealth (coast ((endResync s).onTwin fun t => { t with st := .adrift, retryAge := some 0, east := [], west := [] })))
  else s

/-- Heads whose commits wait for the partner's pages. -/
def waitingHeads (s : State) : List Nat :=
  (s.heads.filter fun e => match e.2.commit with
    | some k => k.waiting
    | none => false).map Prod.fst

/-- PARTNER_ADRIFT (R377): the helm runs ALONE, and no commit waits for the partner any more (R307). -/
def partnerAdrift (s : State) : State :=
  if s.twin.helm ∧ s.twin.st = .paired ∧ 3 ≤ s.twin.lateRun ∧ 480 ≤ s.twin.sinceAck then
    (waitingHeads s).foldl (fun s h => graphicsDone h s) (raise 0x0C82 2 0 s.twin.lastAck (s.onTwin fun t => { t with st := .alone }))
  else s

/-- TANDEM_ACK_RECEIVED (R377): of a record half, or of a graphics page. -/
def ackReceived (a : TandemAck) (s : State) : State :=
  if !s.twin.helm ∨ !s.serving ∨ !s.twin.session ∨ tandemDown s then s
  else
    let s1 := s.onTwin fun t => { t with sinceAck := 0, st := if t.st = .alone then .paired else t.st }
    match a.page with
    | some (b, p) =>
      let s2 := s1.onTwin fun t => { t with backlog := tmod [] t.backlog b fun ps => setDel ps p }
      if s2.twin.backlog.any fun e => e.1 / 8 = b / 8 then s2 else graphicsDone (b / 8) s2
    | none => s1.onTwin fun t =>
        { t with lastAck := a.rseq,
                 unacked := t.unacked.map fun u => if u.1 = a.rseq then (u.1, u.2.1, if a.west then u.2.2.1 else 1, if a.west then 1 else u.2.2.2) else u }

/-! ### Fail-over (R145, R364, R385, R389) -/

/-- The new helm goes on with the time model of the last record (R145): no phase step.  A selected slot that is not QUALIFIED in its own
view is not selected here: it decides at its first tick, but holds at once where the switch to that slot is pending (R140). -/
def resumeTime (s : State) : State :=
  match s.refs.selected with
  | some r =>
    let s1 := s.onTime fun t => { t with tmState := .disciplined }
    if candidate s r then s1 else deselect r s1
  | none => s.onTime fun t => { t with tmState := if s.refs.holdover then .holdover else if s.refs.last.isSome then .disciplined else .freeRun }

/-- A standby that samples the grant becomes helm (R385). [DEDUCED, log 83] -/
def becomeHelm (s0 : State) : State :=
  let s := endResync (recordApply s0)
  let prev := s0.twin.st.code
  let bad := decide (s.twin.st ≠ .inStep)
  let s1 := s.onTwin fun t =>
    { t.clearNotes with helm := true, st := if tandemDown s || partnerRefused s then .alone else .paired, degraded := bad, roleTick := s.now, failovers := inc t.failovers,
                        retryAge := none, east := [], west := [], unacked := [], lateRun := 0, sinceAck := 0, dispute := false, lastMissed := none, missRun := 0 }
  let s2 := (s1.onDev fun d => if d = .readyStandby then .readyHelm else d).onLog fun l => { l with failovers := inc l.failovers }
  raise 0x0C81 1 0 (prev + 256 * bit bad) (driveHealth (resumeTime s2))

/-- HELM_GRANT_ASSERTED. -/
def grantAsserted (s : State) : State :=
  let s1 := (s.onPins fun p => { p with grantN := false }).onTwin fun t => { t with grant := true }
  if s.twin.helm ∨ !s.serving then s1 else becomeHelm s1

/-- Begin to resynchronise (R388). -/
def beginResync (s : State) : State :=
  driveHealth (coast (s.onTwin fun t => { t with st := .resyncing, phase := .session, phaseAge := 0, resyncAge := 0, retryAge := none, east := [], west := [], missRun := 0 }))

/-- A take that the lost grant removes: its command completes as REJECTED_STATE (R364). [DEDUCED, log 83] -/
def refuseTake (s : State) (x : Nat × Entry) : State := finishNow x.2.job .state 0 0xFFFF (takeOut x.1 x.2 s)

/-- Commands of queued takes, whose completions neither chip writes from now on (R164). [DEDUCED, log 83] -/
def forgetTakes (s : State) : State :=
  let isTake : JobKind → Bool := fun k => match k with
    | .take _ => true
    | .salvo .. => true
    | _ => false
  (s.onMbox fun m => { m with jobs := m.jobs.filter fun j => !isTake j.kind }).onBasin fun b =>
    { b with routes := b.routes.map fun e => (e.1, { e.2 with queue := e.2.queue.map fun q => { q with job := 0 } }) }

/-- A helm that loses the grant is standby from that tick (R364): after a yield, or a power-fail warning, it goes on in step (R394, R429); otherwise it
must resynchronise (R388). [DEDUCED, log 83] -/
def loseHelm (s : State) : State :=
  let prev := s.twin.st.code
  let s1 := forgetTakes ((openEntries s fun _ e => !e.sent).foldl refuseTake s)
  let s2 := (s1.onDev fun d => if d = .readyHelm then .readyStandby else d).onTwin fun t =>
    { t.clearNotes with helm := false, roleTick := s.now, stopSeq := t.lastRseq, degraded := false, dispute := false, yield := none, unacked := [], backlog := [],
                        sinceRec := 0, missRun := 0, lastMissed := none, fresh := false }
  let s3 := raise 0x0C81 1 1 (prev + 256 * bit s.twin.degraded) s2
  match s.twin.yield with
  | some (id, _) => driveHealth (finish id .done 0 ((s3.onTwin fun t => { t with st := .inStep, phase := .none }).onTime fun x => { x with tmState := .coasting }))
  | none =>
    if s.start.powerFail ∨ s.start.restart.isSome then driveHealth ((s3.onTwin fun t => { t with st := .inStep, phase := .none }).onTime fun x => { x with tmState := .coasting })
    else beginResync s3

/-- HELM_GRANT_DEASSERTED. [DEDUCED, log 83] -/
def grantDeasserted (s : State) : State :=
  let s1 := (s.onPins fun p => { p with grantN := true }).onTwin fun t => { t with grant := false }
  if s.twin.helm ∧ s.serving then loseHelm s1 else s1

/-! ### Establishing the session (R371, R483) -/

/-- TANDEM_KEY_EXCHANGE: at the entry of a Tandem lane to ACTIVE. [DEDUCED, log 88] [DESIGN CHOICE, log 108] -/
def keyExchange (o : TandemOffer) (s : State) : State :=
  if !s.serving ∨ tandemDown s then s
  else if !proofHolds o s then proofFailed s
  else
    let s1 := s.onTwin fun t => { t with session := true, sessionKey := tandemKey o.own o.publicKey, sessionAge := 0, rekeyAt := none, orphaned := false,
                                         partnerSerial := o.serial % 2 ^ 64, partnerFw := o.fw % 2 ^ 32, partnerMin := o.fwMin % 2 ^ 32 }
    if versionsAgree o s then
      (if s1.twin.st = .blocked ∧ s1.twin.helm = false then beginResync s1 else s1)
    else
      let s2 := raise 0x0C8A 3 0 (o.fw % 2 ^ 32) s1
      if s.twin.helm then s2.onTwin fun t => { t with st := .alone }
      else driveHealth (coast ((endResync s2).onTwin fun t => { t with st := .blocked, east := [], west := [] }))

/-- TANDEM_REKEY: hourly, the new key acting from an RSEQ announced 64 records ahead. [DEDUCED, log 88] -/
def rekey (rseq : Nat) (o : TandemOffer) (s : State) : State :=
  if !s.serving ∨ !s.twin.session ∨ tandemDown s ∨ s.twin.sessionAge < 172800000 then s
  else if !proofHolds o s then proofFailed s
  else s.onTwin fun t => { t with rekeyAt := some (if t.helm then wrapAdd 32 t.lastRseq 64 else rseq % 2 ^ 32, tandemKey o.own o.publicKey), sessionAge := 0 }

/-! ### Resynchronisation (R107, R388) -/

/-- Every replicated object from the helm; what is the chip's own stays. [DEDUCED, log 87] -/
def adoptObjects (own o : Objects) : Objects :=
  { o with detectors := own.detectors, loud := own.loud, lanes := own.lanes, twinPol := own.twinPol, powerPol := own.powerPol, journalPol := own.journalPol,
           faultPol := own.faultPol, ceilings := own.ceilings, keys := own.keys, keyCounter := own.keyCounter, followList := own.followList, repairRows := own.repairRows }

/-- A destination in service as the helm holds it; no command of this chip waits for its takes. -/
def adoptRoute (e : Nat × RouteRt) : Nat × RouteRt := (e.1, { e.2 with queue := e.2.queue.map fun q => { q with job := 0, sent := true } })

/-- A head in service as the helm holds it; what this chip's own pounds and measurements show stays. -/
def adoptHead (s : State) (e : Nat × HeadRt) : Nat × HeadRt :=
  (e.1, { e.2 with commit := e.2.commit.map (fun k => { k with job := 0 }), retired := (s.head e.1).retired, dmg := (s.head e.1).dmg, dmgFrames := (s.head e.1).dmgFrames,
                   dmgSecond := (s.head e.1).dmgSecond, assay := e.2.assay.map fun a => (a.1, { a.2 with job := none }) })

/-- The shuffler as the helm holds it; the buffers fill from this chip's own inputs, and are read by the helm's pairings once the samples that those name have come in. [DEDUCED, log 69] -/
def adoptAudio (a : AudioRt) : AudioRt :=
  { a with src := a.src.map fun e => (e.1, { e.2 with buf := [], berth := [] }), streams := a.streams.map fun e => (e.1, { e.2 with primed := false }) }

/-- The snapshot is applied: objects, routes and queues, time model and selector, the barge counter (R380, R388), then the records kept
since are due. [DEDUCED, log 87] -/
def adoptSnapshot (x : Snapshot) (s : State) : State :=
  let s1 := applyPower 0 ((s.onObj fun o => adoptObjects o x.obj).touch 0x0C 1)
  let s2 := s1.onBasin fun b => { b with routes := x.routes.map adoptRoute, genPend := x.genPend }
  let s3 := s2.onManifests fun _ => x.manifests.map fun e => (e.1, { e.2 with pending := e.2.pending.map fun p => { p with job := 0 } })
  let s4 := ((s3.onStreams fun _ => x.streams).onAudio fun _ => adoptAudio x.audio).onHeads fun _ => x.heads.map (adoptHead s)
  let s5 := s4.onWharf fun w => { w with berths := x.berths.map fun e => (e.1, { e.2 with frames := [], freeing := none }),
                                         pyramids := x.pyramids.map fun e => (e.1, { e.2 with frames := [] }), longChans := x.longChans }
  let s6 := (setTick x.time.tick s5).onTime fun t => { t with e := x.time.e, freq := x.time.freq, planes := x.time.planes, tmState := .slaved }
  let s7 := s6.onRefs fun r => { r with selected := x.refs.selected, last := x.refs.last, hist := [], pending := x.refs.pending, holdover := x.refs.holdover, holdStart := x.refs.holdStart,
                                        holdAge := x.refs.holdAge, holdFreq := x.refs.holdFreq, outOfSpec := x.refs.outOfSpec }
  let s8 := (s7.onTow fun t => { t with bargeSeq := x.bargeSeq, sent := [] }).onTwin fun t =>
    { t with phase := .graphics, phaseAge := 0, fresh := true, lastMissed := none, missRun := 0, sinceRec := 0 }
  if x.time.tick = s.time.tick then s8 else raise 0x0384 0 0 0 s8

/-- Records kept since the snapshot's tick, applied in order. -/
def applyKept (ts : Nat) (s : State) : State :=
  (s.twin.east.filter fun r => wholeRecord s r && decide (ts ≤ r.tick)).foldl (fun s r => if s.twin.fresh ∨ 0 < seqAhead r.rseq s.twin.lastRseq then applyRecord r s else s) s

/-- Every berth of a stream that is not lost holds its full ring (R388). -/
def ringsFull (s : State) : Bool := s.wharf.berths.all fun e => decide ((s.streamRt e.1).lost ≠ 0) || !streamLive s e.1 || decide (e.2.slots ≤ e.2.frames.length)

/-- Every stream primed on the helm is primed here (R388). -/
def allPrimed (s : State) : Bool := s.audio.streams.all fun e => decide ((s.streamRt e.1).lost ≠ 0) || !streamLive s e.1 || e.2.pairing.isNone || e.2.primed

/-- Ticks in ms of a resynchronisation. -/
def resyncMs (s : State) : Nat := min 0xFFFFFFFF (s.twin.resyncAge / 48)

/-- The resynchronisation has succeeded: IN_STEP. [DEDUCED, log 85] -/
def resyncDone (s : State) : State :=
  let ms := resyncMs s
  let s1 := match s.twin.resyncJob with
    | some id => finish id .done ms s
    | none => s
  raise 0x0C84 1 0 ms (driveHealth (s1.onTwin fun t => { t with st := .inStep, phase := .none, resyncJob := none, resyncs := inc t.resyncs, resyncMs := ms, missRun := 0 }))

/-- RESYNC_PHASE_COMPLETE: the running phase ends where its own condition holds. -/
def phaseComplete (snap : Option Snapshot) (s : State) : State :=
  if s.twin.helm ∨ s.twin.st ≠ .resyncing then s
  else match s.twin.phase with
    | .none => s
    | .session =>
      if partnerRefused s then driveHealth (coast ((endResync s).onTwin fun t => { t with st := .blocked, east := [], west := [] }))
      else if s.twin.session then s.onTwin fun t => { t with phase := .snapshot, phaseAge := 0 } else s
    | .snapshot => match snap with
      | some x => applyKept x.time.tick (adoptSnapshot x s)
      | none => s
    | .graphics => (writePages ((snap.map fun x => x.pages).getD []) s).onTwin fun t => { t with phase := .fill, phaseAge := 0 }
    | .fill => if ringsFull s && allPrimed s then s.onTwin fun t => { t with phase := .check, phaseAge := 0, fillChecks := 0, checkSeq := s.tow.bargeSeq } else s
    | .check => if 1 ≤ s.twin.fillChecks then resyncDone s else s

/-- Ticks of 64 frames of the slowest enabled plane, 23.98 frames/s where none is enabled. -/
def fillBound (s : State) : Nat :=
  match enabledPlanes s with
  | [] => 128128
  | ps => (ps.map fun p => match s.rate p with
    | some r => 64 * 48000 * (rateND r).2 / (rateND r).1
    | none => 0).foldl max 0

/-- The bound of a phase, in ticks (R388). -/
def phaseBound (s : State) : Nat :=
  match s.twin.phase with
  | .none => 0
  | .session => 96000
  | .snapshot => 24000
  | .graphics => if (s.lane 128).rx = .active ∧ (s.lane 129).rx = .active then 14400 else 28800
  | .fill => fillBound s
  | .check => 480

/-- RESYNC_PHASE_OVERRUN. [DEDUCED, log 85] -/
def phaseOverrun (s : State) : State :=
  if s.twin.helm = false ∧ s.twin.st = .resyncing ∧ s.twin.phase ≠ .none ∧ phaseBound s < s.twin.phaseAge then
    let p := s.twin.phase.code
    raise 0x0C85 2 0 p (driveHealth (coast ((endResync s).onTwin fun t =>
      { t with st := .adrift, retryAge := some 0, resyncFails := inc t.resyncFails, east := [], west := [] })))
  else s

/-- RESYNC_RETRY (R388): RETRY_S seconds after ADRIFT was entered. -/
def resyncRetry (s : State) : State :=
  match s.twin.retryAge with
  | some a => if s.serving ∧ s.twin.helm = false ∧ s.twin.st = .adrift ∧ s.obj.twinPol.autoResync ∧ s.obj.twinPol.retryS * 48000 ≤ a then beginResync s else s
  | none => s

/-- YIELD_TIMEOUT (R394): HOLD_MS has passed with the grant still held. -/
def yieldTimeout (s : State) : State :=
  match s.twin.yield with
  | some (id, ms) =>
    if s.twin.helm ∧ msTicks ms ≤ s.twin.yieldAge then driveHealth (finish id .timedOut 0 (s.onTwin fun t => { t with yield := none })) else s
  | none => s

/-! ### Time (R372, R377, R391) -/

/-- Records whose LIMIT_TICK + 2 has come without both acknowledgements: a run of three makes the partner late (R377). -/
def ageUnacked (now : Nat) (t : TwinRt) : TwinRt :=
  t.unacked.foldl (fun t u =>
    if u.2.2.1 = 1 ∧ u.2.2.2 = 1 then { t with lateRun := 0, unacked := t.unacked.filter fun v => v ≠ u }
    else if u.2.1 + 2 ≤ now then { t with lateRun := min 3 (t.lateRun + 1), unacked := t.unacked.filter fun v => v ≠ u } else t) t

/-- One tick of the twin's times. [DEDUCED, log 86] -/
def ageTwin (s : State) : State :=
  s.onTwin fun t =>
    let t1 := ageUnacked s.now t
    let lat := t.latWin.filter fun e => decide (s.elapsed < e.1 + 48000)
    { t1 with sinceRec := t.sinceRec + 1, phaseAge := t.phaseAge + 1, resyncAge := if t.st = .resyncing then t.resyncAge + 1 else t.resyncAge,
              retryAge := t.retryAge.map (· + 1), yieldAge := if t.yield.isSome then t.yieldAge + 1 else 0, sessionAge := if t.session then t.sessionAge + 1 else 0,
              sinceAck := t.sinceAck + 1, sincePorts := t.sincePorts + 1, disputeAge := t.disputeAge + 1, dispute := t.dispute && decide (t.disputeAge + 1 < 480),
              latWin := lat, latency := highest lat, acks := t.acks.filter fun e => decide (s.elapsed < e.2 + 2) }

/-- A tick of the twin: its times, and what they bring. -/
def tickTwin (s : State) : State := yieldTimeout (resyncRetry (phaseOverrun (adrift (partnerAdrift (ageTwin s)))))

/-! ### The commands (R390 to R394) -/

/-- READ_TWIN's reply but for SEQ (R391). -/
def twinBlock (s : State) : List Byte :=
  let t := s.twin
  let flags := bit t.grant + 2 * bit t.health + 4 * bit ((s.lane 128).rx = .active) + 8 * bit ((s.lane 129).rx = .active) + 16 * bit t.dispute + 32 * bit t.degraded
  let pages := (t.backlog.map fun e => e.2.length).sum
  recordBytes 512 [(4, 1, roleByte s), (5, 1, t.st.code), (6, 1, flags), (7, 1, t.phase.code), (8, 8, t.partnerSerial), (0x10, 4, t.partnerFw), (0x14, 4, t.partnerMin),
    (0x18, 4, t.lastRseq), (0x1C, 4, t.missing), (0x20, 8, t.records), (0x28, 8, t.lastTick), (0x30, 4, t.latency), (0x34, 4, t.sealChecks), (0x38, 4, t.sealMis),
    (0x3C, 4, t.failovers), (0x40, 4, t.disputes), (0x44, 4, t.resyncs), (0x48, 4, t.resyncFails), (0x4C, 4, t.resyncMs), (0x50, 8, t.roleTick), (0x58, 4, pages),
    (0x60, 16, (t.wiring.map fun l => 2 ^ l).sum)]

/-- READ_TWIN (R391). -/
def readTwinInfo : CmdInfo := { opcode := 0x0C01, readOnly := true, length := fun _ => 8 }

/-- The effect of READ_TWIN: the block as the Chart holds its SEQ. -/
def readTwin (c : Cmd) (s : State) : Res := reply c 0 512 0 (toLe 4 (s.hdmNat 0x23E0000 4) ++ (twinBlock s).drop 4) s

/-- SET_TWIN_POLICY (R392). -/
def setTwinPolicyInfo : CmdInfo := { opcode := 0x0C02, length := fun _ => 8, gen := fun _ s => some s.obj.twinPol.gen }

/-- The effect of SET_TWIN_POLICY. -/
def setTwinPolicy (c : Cmd) (s : State) : Res :=
  match firstBad [(decide (c.u8 0 ≤ 1), 0x20), (decide (c.u8 1 ≤ 1), 0x21), (decide (c.u16 4 ≤ 600), 0x24)] with
  | some off => rej .range off s
  | none =>
    let o := s.obj.twinPol
    let p : TwinPolObj := { autoResync := c.u8 0 = 1, sealCheck := c.u8 1 = 1, retryS := if c.u16 4 = 0 then 10 else c.u16 4, gen := o.gen }
    if p = o then ok s else ok ((s.onObj fun x => { x with twinPol := { p with gen := genNext o.gen } }).touch 0x0C 0)

/-- RESYNC (R393). -/
def resyncInfo : CmdInfo := { opcode := 0x0C03, length := fun _ => 8 }

/-- The effect of RESYNC. [DEDUCED, log 85] -/
def resync (c : Cmd) (s : State) : Res :=
  if s.twin.helm ∨ tandemDown s then rej .state 0xFFFF s
  else if s.twin.st = .inStep ∧ bitOf (c.u8 0) 0 = false then ok s
  else
    let s1 := match s.twin.resyncJob with
      | some id => finish id .superseded (byCommand c) s
      | none => s
    queued .resync ((beginResync s1).onTwin fun t => { t with resyncJob := some s.mbox.nextJob })

/-- YIELD_HELM (R394). -/
def yieldHelmInfo : CmdInfo := { opcode := 0x0C04, length := fun _ => 8 }

/-- The effect of YIELD_HELM. [DEDUCED, log 85] -/
def yieldHelm (c : Cmd) (s : State) : Res :=
  if c.u16 0 = 0 ∨ 60000 < c.u16 0 then rej .range 0x20 s
  else if s.twin.helm = false ∨ s.twin.st ≠ .paired then rej .state 0xFFFF s
  else
    let s1 := match s.twin.yield with
      | some (id, _) => finish id .superseded (byCommand c) s
      | none => s
    queued .yieldHelm (driveHealth (s1.onTwin fun t => { t with yield := some (s.mbox.nextJob, c.u16 0), yieldAge := 0 }))

/-! ### The meanings -/

/-- READ_TWIN. -/
def execReadTwin (c : Cmd) (s : State) : Answer := answer (runCmd readTwinInfo readTwin c s)

/-- SET_TWIN_POLICY. -/
def execSetTwinPolicy (c : Cmd) (s : State) : Answer := answer (runCmd setTwinPolicyInfo setTwinPolicy c s)

/-- RESYNC. -/
def execResync (c : Cmd) (s : State) : Answer := answer (runCmd resyncInfo resync c s)

/-- YIELD_HELM. -/
def execYieldHelm (c : Cmd) (s : State) : Answer := answer (runCmd yieldHelmInfo yieldHelm c s)

/-- HELM_GRANT_ASSERTED (R385). -/
def execHelmGrantAsserted (s : State) : Answer := answer (grantAsserted s)

/-- HELM_GRANT_DEASSERTED (R364). -/
def execHelmGrantDeasserted (s : State) : Answer := answer (grantDeasserted s)

/-- IDLE_RECORD (R372). -/
def execIdleRecord (s : State) : Answer := answer (idleRecord s)

/-- TANDEM_RECORD_RECEIVED (R376). -/
def execTandemRecordReceived (west tagOk : Bool) (record : TandemRec) (s : State) : Answer := answer (recordReceived west tagOk record s)

/-- TANDEM_RECORD_APPLY (R376). -/
def execTandemRecordApply (s : State) : Answer := answer (recordApply s)

/-- RECORD_MISSING (R376). -/
def execRecordMissing (rseq : Nat) (s : State) : Answer := answer (recordMissing rseq s)

/-- TANDEM_ACK_RECEIVED (R377). -/
def execTandemAckReceived (ack : TandemAck) (s : State) : Answer := answer (ackReceived ack s)

/-- PARTNER_ADRIFT (R377). -/
def execPartnerAdrift (s : State) : Answer := answer (partnerAdrift s)

/-- ADRIFT (R378). -/
def execAdrift (s : State) : Answer := answer (adrift s)

/-- TANDEM_KEY_EXCHANGE (R483). -/
def execTandemKeyExchange (offer : TandemOffer) (s : State) : Answer := answer (keyExchange offer s)

/-- TANDEM_REKEY (R483). -/
def execTandemRekey (rseq : Nat) (offer : TandemOffer) (s : State) : Answer := answer (rekey rseq offer s)

/-- RESYNC_PHASE_COMPLETE (R388). -/
def execResyncPhaseComplete (snapshot : Option Snapshot) (s : State) : Answer := answer (phaseComplete snapshot s)

/-- RESYNC_PHASE_OVERRUN (R388). -/
def execResyncPhaseOverrun (s : State) : Answer := answer (phaseOverrun s)

/-- RESYNC_RETRY (R388). -/
def execResyncRetry (s : State) : Answer := answer (resyncRetry s)

/-- YIELD_TIMEOUT (R394). -/
def execYieldTimeout (s : State) : Answer := answer (yieldTimeout s)

end Sys2Proof.Machine
end

