-- ==== Sys2Proof/Machine/Journal.lean ====
section
/-! DEFINITION.  The journal, the logbook, and the commands that show them (spec/14_starts_stops_logbook.md, R431 to R445).
The formats of the NOR devices are private to the firmware (R433): the model holds what they carry. -/

namespace Sys2Proof.Machine
open Sys2Proof

/-! ### Commits (R431, R434, R437) -/

/-- Bytes of entries that await a cut (R444). -/
def pendingBytes (s : State) : Nat := 12 * s.journal.pending.length

/-- LOSS_BOUND_MS (R430, R434, R437): the interval and 3 ms, and the delay of a cut that waits. -/
def lossBound (s : State) : Nat :=
  if s.journal.good0 = false ∧ s.journal.good1 = false then 0xFFFFFFFF else s.journal.interval + 3 + s.journal.waited / 48

/-- Cut now, with every object as it stands. [DEDUCED, log 94] -/
def cutNow (kind : CutKind) (s : State) : State := s.onJournal fun j => { j.cut kind s.now s.obj with seen := s.obj }

/-- A regular cut falls in this tick and has not been made (R434). -/
def cutDue (s : State) : Bool := decide (s.now % msTicks s.journal.interval = 0) && decide (s.journal.regular ≠ some s.elapsed)

/-- The regular cut of a tick (R434): an interval with no change writes nothing, and without a background slice the cut waits. -/
def regularCut (slice : Bool) (s : State) : State :=
  if !s.dev.ready ∨ s.start.powerFail ∨ !s.journal.writes then s
  else if cutDue s ∨ s.journal.starved then
    let s1 := s.onJournal fun j => { j with regular := if cutDue s then some s.elapsed else j.regular }
    if s.journal.pending = [] then s1.onJournal fun j => { j with starved := false, waited := 0 }
    else if slice then cutNow .regular s1
    else s1.onJournal fun j => { j with starved := true }
  else s

/-- A NOR device fails (R437): the chip commits to the other alone. [DEDUCED, log 107] -/
def norFails (d : Nat) (s : State) : State :=
  let was := if d = 0 then s.journal.good0 else s.journal.good1
  if was then raise 0x0E85 3 d 0 (s.onJournal fun j => if d = 0 then { j with good0 := false } else { j with good1 := false }) else s

/-- Bytes of a device's journal ring (R433). -/
def ringBytes : Nat := 81788928

/-- Bytes written to a device's ring in all, and its sectors erased on the way (R436). [DEDUCED, log 107] -/
def wearDevice (d n : Nat) (j : JournalRt) : JournalRt :=
  let h := tget 0 j.headBytes d
  { j with headBytes := tset 0 j.headBytes d (h + n),
           erases := tmod 0 j.erases d fun e => satAdd 64 e ((h + n) / 65536 - h / 65536) }

/-- Bytes written in all to the ring of a good device. -/
def ringHead (j : JournalRt) : Nat := if j.good0 then tget 0 j.headBytes 0 else tget 0 j.headBytes 1

/-- The oldest commit in writing becomes durable with its trailer on the good devices (R431): its entries count as written. -/
def storeCommit (c : CutRec) (s : State) : State :=
  let j := { s.journal with durable := c.obj, seq := c.seq, cutTick := c.tick, commits := inc s.journal.commits, final := decide (c.kind = .final),
                            bytes := (s.journal.bytes.filter fun b => s.elapsed < b.1 + 2880000) ++ [(s.elapsed, c.size)], bytesDay := s.journal.bytesDay + c.size,
                            places := c.keys.foldl (fun t k => tset 0 t k (ringHead s.journal)) s.journal.places }
  let j0 := if j.good0 then wearDevice 0 c.size j else j
  s.onJournal fun _ => if j.good1 then wearDevice 1 c.size j0 else j0

/-- Objects whose latest entry lies in the sector that the head erases next are carried forward into the next commit (R436). -/
def carryForward (s : State) : State :=
  let j := s.journal
  let next := ringHead j / 65536 + 1
  let old := (j.places.filter fun e => decide (e.2 / 65536 + 1248 ≤ next) && !(j.writing.any fun c => c.keys.contains e.1)).map Prod.fst
  old.foldl (fun s k => s.onJournal fun j => j.note k s.time.tick s.obj) s

/-- A commit has been written as far as the devices allow; answers the commit if it counts. [DEDUCED, log 94] [DESIGN CHOICE, log 108] -/
def commitEnds (ok0 ok1 : Bool) (s : State) : State × Option CutRec :=
  match s.journal.writing with
  | [] => (s, none)
  | c :: r =>
    let s0 := s.onJournal fun j => { j with writing := r }
    let s1 := if ok0 then s0 else norFails 0 s0
    let s2 := if ok1 then s1 else norFails 1 s1
    if s2.journal.good0 ∨ s2.journal.good1 then (storeCommit c s2, some c) else (s2.onJournal fun j => { j with writing := [] }, none)

/-! ### The governor and the wear (R435, R436) -/

/-- WRITE_RATE (R444): bytes per second over the last 60 s. -/
def writeRate (s : State) : Nat := ((s.journal.bytes.filter fun b => s.elapsed < b.1 + 2880000).map Prod.snd).sum / 60

/-- The next longer interval of R435. -/
def longer (ms : Nat) : Nat := if ms < 200 then 200 else if ms < 500 then 500 else 1000

/-- The next shorter interval of R435. -/
def shorter (ms : Nat) : Nat := if 500 < ms then 500 else if 200 < ms then 200 else 100

/-- The interval changes (R435). -/
def setInterval (ms : Nat) (s : State) : State :=
  if ms = s.journal.interval then s
  else raise 0x0E87 0 0 ms (s.onJournal fun j => { j with interval := ms, sinceUp := if j.interval < ms then 0 else j.sinceUp, lowFor := 0 })

/-- COMMIT_INTERVAL_REVIEW (R435). -/
def reviewInterval (s : State) : State :=
  let j := s.journal
  if 14336 < writeRate s ∧ 2880000 ≤ j.sinceUp ∧ j.interval < s.obj.journalPol.maxMs then setInterval (min (longer j.interval) s.obj.journalPol.maxMs) s
  else if writeRate s < 3584 ∧ 28800000 ≤ j.lowFor ∧ s.obj.journalPol.baseMs < j.interval then setInterval (max (shorter j.interval) s.obj.journalPol.baseMs) s
  else s

/-- PROJECTED_LIFE_DAYS (R444): what is left of 100,000 passes of the ring, each byte of entries costing 78 / 70 bytes (R436), at
WRITE_RATE_DAY. [DEDUCED, log 94] -/
def lifeDays (s : State) : Nat :=
  let worn := max (tget 0 s.journal.headBytes 0) (tget 0 s.journal.headBytes 1)
  if s.journal.rateDay = 0 then 0xFFFFFFFF
  else min 0xFFFFFFFF ((ringBytes * 100000 - worn) * 70 / (s.journal.rateDay * 78 * 86400))

/-- A day of the wear figures ends (R436, R444): JOURNAL_WEAR_HIGH while the day's mean exceeds 14,336 B/s. [DEDUCED, log 94] -/
def endDay (s : State) : State :=
  let s1 := s.onJournal fun j => { j with rateDay := j.bytesDay / 86400, bytesDay := 0, dayAge := 0 }
  if 14336 < s1.journal.rateDay then raise 0x0E86 2 0 (lifeDays s1) s1 else s1

/-- One tick of the journal's times. [DEDUCED, log 107] -/
def ageJournal (s : State) : State :=
  let low := decide (writeRate s < 3584)
  let s1 := s.onJournal fun j => { j with sinceUp := j.sinceUp + 1, lowFor := if low then j.lowFor + 1 else 0, dayAge := j.dayAge + 1,
                                          waited := if j.starved then j.waited + 1 else 0, patrolAge := j.patrolAge + 1 }
  let s2 := reviewInterval s1
  if 4147200000 ≤ s2.journal.dayAge then endDay s2 else s2

/-! ### The logbook (R438 to R440) -/

/-- One tick of the calendar (R439). [DEDUCED, log 95] -/
def tickCalendar (s : State) : State :=
  match selectedBeacon s with
  | some r =>
    let sec : Int := 48000 * (frac : Nat)
    s.onLog fun l => { l with calendar := (timeNow32 s / sec).toNat, calTicks := ((timeNow32 s % sec) / (frac : Nat)).toNat, utcOffset := (s.slot r).utcOffset, calSource := 0 }
  | none =>
    if s.log.calSource = 2 then s
    else s.onLog fun l =>
      if l.calTicks + 1 < 48000 then { l with calTicks := l.calTicks + 1, calSource := 1 }
      else { l with calTicks := 0, calendar := satAdd 64 l.calendar 1, calSource := 1 }

/-- The repair counts of the stacks, as the logbook keeps them (R212). -/
def logRepairs (s : State) : State :=
  s.onLog fun l => { l with rows := (List.range 4).foldl (fun t k => tset 0 t k (s.stack k).used) [], spare := (List.range 4).filter fun k => (s.stack k).spareUsed }

/-- The 4,096 bytes of R445. -/
def logBytes (l : LogRt) (erases : List (Nat × Nat)) : List Byte :=
  let lanes := (List.range 128).flatMap fun k => [(0x100 + k * 16, 8, tget 0 l.laneCorr k), (0x108 + k * 16, 8, tget 0 l.laneUnc k)]
  recordBytes 4096 ([(0x000, 8, l.powerTicks / 48000), (0x008, 8, l.calendar), (0x010, 2, ofInt 16 l.utcOffset), (0x012, 1, l.calSource), (0x014, 4, l.checkpoints),
    (0x018, 4, l.cycles), (0x01C, 4, l.coldStarts), (0x020, 4, l.warmStarts), (0x024, 4, l.handovers), (0x028, 4, l.failovers), (0x02C, 4, l.slips),
    (0x030, 4, l.warned), (0x034, 4, l.unwarned), (0x038, 4, l.fatalD), (0x03C, 2, ofInt 16 l.tempMax), (0x040, 8, tget 0 erases 0), (0x048, 8, tget 0 erases 1)] ++
    (List.range 4).map (fun k => (0x050 + k * 2, 2, tget 0 l.rows k)) ++ (List.range 4).map (fun k => (0x058 + k, 1, bit (l.spare.contains k))) ++ lanes)

/-- The logbook counters as they stand. -/
def logbookBytes (s : State) : List Byte := logBytes (logRepairs s).log s.journal.erases

/-- Logbook sectors erased by a record: 16 records fill a sector of both rings (R433, R438). -/
def wearLog (n : Nat) (j : JournalRt) : JournalRt :=
  if n % 16 = 0 then { j with erases := (List.range 2).foldl (fun t d => tmod 0 t d fun e => satAdd 64 e 1) j.erases } else j

/-- A checkpoint (R438): a record in both logbook rings, and the view in HDM (R440). [DEDUCED, log 95] -/
def checkpoint (s : State) : State :=
  let s1 := (logRepairs s).onLog fun l => { l with checkpoints := inc l.checkpoints, lastTick := s.now, age := 0 }
  let b := logbookBytes s1
  let s2 := s1.onJournal fun j => wearLog s1.log.checkpoints { j with book := s1.log, records := (j.records ++ [b]).drop (j.records.length + 1 - 512) }
  s2.hdmWrite 0x10000000 b

/-- LOGBOOK_CHECKPOINT: an hour of power-on time has passed since the last one. -/
def hourlyCheckpoint (s : State) : State :=
  if s.dev.ready ∧ 172800000 ≤ s.log.age then checkpoint s else s

/-- One tick of the logbook's times. [DEDUCED, log 95] -/
def tickLog (s : State) : State := tickCalendar (s.onLog fun l => { l with powerTicks := l.powerTicks + 1, age := l.age + 1 })

/-! ### The commands (R443 to R445) -/

/-- Entries of the live state (R436), one for every object that a table of the store lists and for each of the nine
objects that stand alone. -/
def liveEntries (o : Objects) : Nat :=
  o.planes.length + o.refs.length + o.streams.length + o.manifests.length + o.routes.length + o.gens.length + o.fsync.length + o.destForm.length + o.anc.length +
    o.detectors.length + o.loud.length + o.chans.length + o.srcLinks.length + o.heads.length + o.lanes.length + o.ceilings.length + o.keys.length +
    o.followList.length + o.repairRows.length + 9

/-- LAST_START (R444). -/
def StartKind.code : StartKind → Nat
  | .none => 0
  | .first => 1
  | .cold => 2
  | .warm => 3
  | .handover => 4

/-- WEAR_PPM of a device: erases of its most erased sector, which each pass of the ring erases once (R436). -/
def wearPpm (s : State) (d : Nat) : Nat := tget 0 s.journal.headBytes d / ringBytes * 10

/-- READ_STARTS' reply but for SEQ (R444). [DEDUCED, log 94] -/
def startsBlock (s : State) : List Byte :=
  let r := s.start
  let j := s.journal
  recordBytes 256 ([(4, 1, r.kind.code), (5, 1, r.cause), (6, 1, r.attempts),
    (7, 1, bit r.slotB + 2 * bit r.fellBack + 4 * bit r.torn + 8 * bit r.fromTwin + 16 * bit r.becameCold), (8, 8, r.readyTick), (0x10, 4, r.startMs),
    (0x14, 2, r.failedStep), (0x16, 1, bit j.good0 + 2 * bit j.good1 + 4 * bit r.powerFail), (0x18, 4, j.interval), (0x1C, 4, lossBound s), (0x20, 8, j.seq),
    (0x28, 8, j.cutTick), (0x30, 4, pendingBytes s), (0x34, 4, writeRate s), (0x38, 4, j.rateDay), (0x3C, 4, lifeDays s), (0x40, 4, wearPpm s 0), (0x44, 4, wearPpm s 1),
    (0x48, 4, (liveEntries s.obj * 12 + 1023) / 1024), (0x4C, 4, j.commits), (0x50, 8, s.log.lastTick), (0x58, 8, s.now + (172800000 - s.log.age))] ++
    (List.range 14).map fun k => (0x60 + k * 4, 4, tget 0 r.stepMs (k + 1)))

/-- READ_STARTS (R444). -/
def readStartsInfo : CmdInfo := { opcode := 0x0E02, readOnly := true, length := fun _ => 8 }

/-- The effect of READ_STARTS: the block as the Chart holds its SEQ. -/
def readStarts (c : Cmd) (s : State) : Res := reply c 0 256 0 (toLe 4 (s.hdmNat 0x23E8000 4) ++ (startsBlock s).drop 4) s

/-- READ_LOGBOOK (R445). -/
def readLogbookInfo : CmdInfo := { opcode := 0x0E03, readOnly := true, length := fun _ => 8 }

/-- The effect of READ_LOGBOOK: the admitting tick's values. -/
def readLogbook (c : Cmd) (s : State) : Res := reply c 0 4096 0 (logbookBytes s) s

/-- SET_JOURNAL_POLICY (R443). -/
def setJournalPolicyInfo : CmdInfo := { opcode := 0x0E04, length := fun _ => 8, gen := fun _ s => some s.obj.journalPol.gen }

/-- An interval that R435 knows. -/
def intervalOk (ms : Nat) : Bool := decide (ms ∈ [100, 200, 500, 1000])

/-- The effect of SET_JOURNAL_POLICY: the interval moves into the new range at once. [DEDUCED, log 14] -/
def setJournalPolicy (c : Cmd) (s : State) : Res :=
  let b := if c.u16 0 = 0 then 100 else c.u16 0
  let m := if c.u16 2 = 0 then 1000 else c.u16 2
  match firstBad [(intervalOk b, 0x20), (intervalOk m && decide (b ≤ m), 0x22)] with
  | some off => rej .range off s
  | none =>
    let o := s.obj.journalPol
    if o.baseMs = b ∧ o.maxMs = m then ok s
    else
      let s1 := (s.onObj fun x => { x with journalPol := { baseMs := b, maxMs := m, gen := genNext o.gen } }).touch 0x0E 0
      ok (setInterval (min m (max b s.journal.interval)) s1)

/-! ### The meanings -/

/-- READ_STARTS. -/
def execReadStarts (c : Cmd) (s : State) : Answer := answer (runCmd readStartsInfo readStarts c s)

/-- READ_LOGBOOK. -/
def execReadLogbook (c : Cmd) (s : State) : Answer := answer (runCmd readLogbookInfo readLogbook c s)

/-- SET_JOURNAL_POLICY. -/
def execSetJournalPolicy (c : Cmd) (s : State) : Answer := answer (runCmd setJournalPolicyInfo setJournalPolicy c s)

/-- JOURNAL_CUT (R434): the regular cut of this tick, or the one that waited for a background slice. -/
def execJournalCut (s : State) : Answer := answer (regularCut true s)

/-- COMMIT_INTERVAL_REVIEW (R435). -/
def execCommitIntervalReview (s : State) : Answer := answer (reviewInterval s)

/-- LOGBOOK_CHECKPOINT (R438). -/
def execLogbookCheckpoint (s : State) : Answer := answer (hourlyCheckpoint s)

end Sys2Proof.Machine
end

