-- ==== Sys2Proof/Machine/Keys.lean ====
section
/-! DEFINITION.  The key vaults: installed keys, attestation, tamper and scuttle, SPDM and IDE key management
(spec/16_keys_tamper_firmware.md, R476 to R491 and R506 to R511).  The results of cryptography are opaque constants of Config. -/

namespace Sys2Proof.Machine
open Sys2Proof

/-- An installed key of a kind (R480). -/
def State.keySlot (s : State) (kind : Nat) : KeySlot := tget {} s.obj.keys kind

/-- Change the slots of a kind; they are held in the journal (R477). -/
def onKeySlot (kind : Nat) (f : KeySlot → KeySlot) (s : State) : State :=
  (s.onObj fun o => { o with keys := tmod {} o.keys kind f }).touch 0x10 kind

/-- The key check value of a key (R481): the first three bytes, least significant first. -/
def kcvOf (key : List Byte) : Nat := leNat ((macOf key [0x46#8, 0x58#8, 0x4B#8, 0x43#8]).take 3)

/-! ### Orphans (R484) -/

/-- The Tandem session's parent goes: the session is marked once. -/
def orphanTandem (s : State) : State :=
  if s.twin.session ∧ s.twin.orphaned = false then raise 0x1085 2 0 0 (s.onTwin fun t => { t with orphaned := true }) else s

/-- An SPDM session ends: the IDE keys it programmed are marked, each once. -/
def orphanIde (id : Nat) (s : State) : State :=
  let hit := s.keys.ide.filter fun e => e.2.session = id ∧ e.2.orphaned = false
  hit.foldl (fun s _ => raise 0x1085 2 1 0 s)
    (s.onKeys fun k => { k with ide := k.ide.map fun e => if e.2.session = id then (e.1, { e.2 with orphaned := true }) else e })

/-- A kind's current key is replaced or invalidated: its children are orphaned.  The attestation secret alone has a child. -/
def orphanChildren (kind : Nat) (s : State) : State := if kind = 1 then orphanTandem s else s

/-! ### Authenticated commands (R506) -/

/-- The checks of R506, the MAC standing at payload offset `macAt`, and what follows them. [DEDUCED, log 100] -/
def keyAuth (opcode : Nat) (c : Cmd) (macAt : Nat) (s : State) (body : State → Res) : Res :=
  match (s.keySlot 1).current with
  | none => rej .state 0xFFFF s
  | some key =>
    if macOf key (c.bytes 0 macAt) ≠ c.bytes macAt 48 then rej .auth (0x20 + macAt) (raise 0x1086 3 opcode 1 s)
    else if c.u64 8 ≤ s.obj.keyCounter then rej .auth 0x28 (raise 0x1086 3 opcode 2 s)
    else body s

/-- The command is accepted: its COUNTER is KEY_COUNTER. [DEDUCED, log 100] -/
def acceptCounter (c : Cmd) (s : State) : State := (s.onObj fun o => { o with keyCounter := c.u64 8 }).touch 0x10 0x100

/-- Install the wrapped key (R481, R482), with PROVISION promoted to current at once (R480, R508). [DEDUCED, log 100] -/
def install (provision : Bool) (c : Cmd) (s : State) : Res :=
  let kind := c.u8 0
  match unwrapKey (s.keys.bank.getD 0) kind (c.bytes 0x10 96) (c.bytes 0x70 12) (c.bytes 0 16) (c.bytes 0x80 48) (c.bytes 0xB0 16) with
  | none => rej .auth 0xD0 s
  | some key =>
    let v := kcvOf key
    if v ≠ c.u32 4 then rej .auth 0x24 s
    else
      let s1 := onKeySlot kind (fun k => if provision then { k with current := some key, next := none, kcvCurrent := v, kcvNext := 0 } else { k with next := some key, kcvNext := v }) (acceptCounter c s)
      let s2 := raise 0x1083 1 kind v s1
      okWith v (if provision then raise 0x1084 1 kind v s2 else s2)

/-- INSTALL_KEY (R508). -/
def installKeyInfo : CmdInfo := { opcode := 0x1002, length := fun _ => 240 }

/-- The effect of INSTALL_KEY. [DEDUCED, log 100] -/
def installKey (c : Cmd) (s : State) : Res :=
  let kind := c.u8 0
  let provision := bitOf (c.u8 1) 0
  if kind ≠ 1 ∧ kind ≠ 2 then rej .range 0x20 s
  else if provision then
    if kind = 1 ∧ (s.keySlot 1).current = none then
      if c.u64 8 ≤ s.obj.keyCounter then rej .auth 0x28 (raise 0x1086 3 0x1002 2 s) else install true c s
    else rej .state 0x21 s
  else keyAuth 0x1002 c 0xC0 s fun s => install false c s

/-- SWAP_KEY (R509). -/
def swapKeyInfo : CmdInfo := { opcode := 0x1003, length := fun _ => 64 }

/-- The effect of SWAP_KEY. -/
def swapKey (c : Cmd) (s : State) : Res :=
  let kind := c.u8 0
  if kind ≠ 1 ∧ kind ≠ 2 then rej .range 0x20 s
  else keyAuth 0x1003 c 0x10 s fun s =>
    let k := s.keySlot kind
    match k.next with
    | none => rej .state 0x24 s
    | some key =>
      if c.u32 4 ≠ k.kcvNext then rej .state 0x24 s
      else if kcvOf key ≠ k.kcvNext then rej .auth 0x24 (onKeySlot kind (fun k => { k with next := none, kcvNext := 0 }) s)
      else ok (raise 0x1084 1 kind k.kcvNext (orphanChildren kind
        (onKeySlot kind (fun k => { current := some key, next := none, kcvCurrent := k.kcvNext, kcvNext := 0 }) (acceptCounter c s))))

/-- INVALIDATE_KEY (R509). -/
def invalidateKeyInfo : CmdInfo := { opcode := 0x1004, length := fun _ => 64 }

/-- The effect of INVALIDATE_KEY. -/
def invalidateKey (c : Cmd) (s : State) : Res :=
  let kind := c.u8 0
  if kind ≠ 1 ∧ kind ≠ 2 then rej .range 0x20 s
  else keyAuth 0x1004 c 0x10 s fun s =>
    ok (raise 0x1084 1 kind 0 (orphanChildren kind (onKeySlot kind (fun _ => {}) (acceptCounter c s))))

/-- SCUTTLE (R511). -/
def scuttleInfo : CmdInfo := { opcode := 0x1006, length := fun _ => 64 }

/-- The effect of SCUTTLE: the scuttle follows at the end of the admitting tick. [DEDUCED, log 101] -/
def scuttleCmd (c : Cmd) (s : State) : Res :=
  if c.u32 0 ≠ Config.serial % 2 ^ 32 then rej .range 0x20 s
  else keyAuth 0x1006 c 0x10 s fun s => ok ((acceptCounter c s).onKeys fun k => { k with scuttleDue := true })

/-! ### Reading (R486, R507, R510) -/

/-- MEASUREMENT (R486). -/
def measurement (s : State) : List Byte := Config.sha384 (fitBytes 512 s.fw.image.header ++ fitBytes 48 Config.romDigest)

/-- A child of a key is orphaned and in use. -/
def orphanInUse (s : State) : Bool := (s.twin.session && s.twin.orphaned) || (s.keys.ide.any fun e => e.2.active && e.2.orphaned) || s.keys.imageOrphan

/-- A trial of a new image runs (R501). -/
def inTrial (s : State) : Bool := decide (s.fw.trialMs ≠ 0)

/-- The first 160 bytes of ATTEST's reply (R507). -/
def attestBytes (c : Cmd) (s : State) : List Byte :=
  let trial := inTrial s
  c.bytes 0 32 ++ fitBytes 48 (measurement s) ++ toLe 8 Config.serial ++ toLe 1 (s.keys.bank.getD 0) ++ [0xB0#8] ++ List.replicate 6 0#8 ++
    fitBytes 48 (Config.sha384 (dikPublic (s.keys.bank.getD 0))) ++ toLe 4 s.fw.image.version ++ toLe 2 s.fw.image.security ++
    toLe 2 (bit s.keys.lock + 2 * bit trial + 4 * bit (orphanInUse s)) ++ toLe 8 s.now

/-- ATTEST (R507). -/
def attestInfo : CmdInfo := { opcode := 0x1001, readOnly := true, length := fun _ => 40 }

/-- The effect of ATTEST. -/
def attest (c : Cmd) (s : State) : Res :=
  match (s.keySlot 1).current with
  | none => rej .state 0xFFFF s
  | some key => reply c 0x20 208 0 (attestBytes c s ++ macOf key (attestBytes c s)) s

/-- STATE of a kind (R510). -/
def keyState (k : KeySlot) : Nat :=
  match k.current, k.next with
  | none, none => 0
  | some _, none => 1
  | some _, some _ => 2
  | none, some _ => 3

/-- A public key of the bank in use; zero where there is none. -/
def shownKey (f : Nat → List Byte) (s : State) : List Byte :=
  match s.keys.bank with
  | some b => fitBytes 96 (f b)
  | none => List.replicate 96 0#8

/-- The 256 bytes of READ_KEYS (R510). -/
def keysBytes (s : State) : List Byte :=
  let k := s.keys
  let kind : Nat → List (Nat × Nat × Nat) := fun n =>
    [(0x10 + (n - 1) * 16, 1, keyState (s.keySlot n)), (0x14 + (n - 1) * 16, 4, (s.keySlot n).kcvCurrent), (0x18 + (n - 1) * 16, 4, (s.keySlot n).kcvNext)]
  recordBytes 64 ([(0, 1, k.bank.getD 0xFF), (1, 1, bit k.lock + 2 * bit k.retired + 4 * bit (s.keySlot 1).current.isNone), (2, 1, k.secCounter),
    (3, 1, k.vendor % 16 + 16 * (k.revoked % 16)), (8, 8, s.obj.keyCounter)] ++ kind 1 ++ kind 2 ++
    [(0x30, 4, k.orphanTandem), (0x34, 4, k.orphanIde), (0x38, 4, k.orphanImage)]) ++ shownKey dikPublic s ++ shownKey dakPublic s

/-- READ_KEYS (R510). -/
def readKeysInfo : CmdInfo := { opcode := 0x1005, readOnly := true, length := fun _ => 8 }

/-- The effect of READ_KEYS. -/
def readKeys (c : Cmd) (s : State) : Res := reply c 0 256 0 (keysBytes s) s

/-! ### Update sessions that end early (R489, R496) -/

/-- A slot reads as invalid (R494). -/
def voidSlot (k : Nat) (s : State) : State := s.onFw fun f => { f with slots := tset {} f.slots k {} }

/-- An update session or a staged image, before a handover. -/
def sessionLive (s : State) : Bool := decide (s.fw.source ≠ .none) && decide (s.fw.phase = .checking ∨ s.fw.phase = .writing ∨ s.fw.phase = .staged)

/-- End the running session: what it has written reads as invalid. -/
def dropSession (s : State) : State :=
  let s1 := s.onFw fun f => { f with source := .none, phase := .idle, job := none, bytes := 0, incoming := {}, hash := none, both := false }
  if s.fw.phase = .writing ∨ s.fw.phase = .staged then
    let s2 := voidSlot s.fw.target s1
    if s.fw.both then voidSlot (1 - s.fw.target) s2 else s2
  else s1

/-- SESSION (R513). -/
def FwSource.code : FwSource → Nat
  | .none => 0
  | .host => 1
  | .partner => 2
  | .dryDock => 3

/-- A running check or slot write aborts with REJECTED_TAMPER (R489). -/
def tamperSession (s : State) : State :=
  if s.fw.phase = .checking ∨ s.fw.phase = .writing then
    let s1 := match s.fw.job with
      | some id => finishNow id .tamper 0 0 s
      | none => s
    raise 0x1182 2 s.fw.source.code 0 (dropSession s1)
  else s

/-! ### Dry Dock's entry (R425, R505) -/

/-- Every lane is OFF. -/
def lanesOff (s : State) : State := s.onTow fun t => { t with lanes := t.lanes.map fun e => (e.1, { e.2 with rx := .off, tx := .off }) }

/-- The chip enters Dry Dock for a reason of R514. -/
def enterDock (reason : Nat) (s : State) : State :=
  let s1 := lanesOff ({ s with dev := .dryDock })
  let s2 := s1.onTwin fun t => { t with health := false, session := false, st := .resyncing, phase := .none }
  ((s2.onStart fun r => { r with running := false, waiting := false, dockReason := reason, events := [] }).onFw fun f =>
    { f with source := .none, phase := .idle, ddTrained := true, ddLength := 0, ddSlots := 0, ddHave := [], ddBytes := [] }).onFaults fun f => { f with alive := 2 }

/-! ### Tamper and scuttle (R487 to R490) -/

/-- The bank whose root OTP holds and no kill bit ends (R477, R488). -/
def rootBank (s : State) : Option Nat := (s.keys.programmed.filter fun b => !s.keys.killed.contains b).getLast?

/-- Every vault SRAM and the IDE key registers are cleared, and with the storage key the journal can no longer be written or read
(R488, R491). -/
def clearVault (s : State) : State :=
  let s1 := s.onKeys fun k => { k with vault := false, latch := false, sessions := [], ide := [], imageOrphan := false, version := 0, doe := .error false }
  let s2 := s1.onTwin fun t => { t with session := false, sessionKey := 0, rekeyAt := none, orphaned := false }
  (s2.onObj fun o => { o with keys := [] }).onJournal fun j => { j with formatted := false, noWrite := true, writing := [], durable := {}, records := [], book := {} }

/-- The kill bits of the root bank in use begin to be programmed (R488). -/
def beginKill (s : State) : State := s.onKeys fun k => { k with killing := rootBank s }

/-- The tamper lock (R490): the stream under IDE fails, a helm runs ALONE. [DEDUCED, log 101] -/
def tamperLock (ide : Bool) (s : State) : State :=
  let s1 := s.onKeys fun k => { k with lock := true }
  let s2 := if ide then linkLoss .ide s1 else s1
  if s2.twin.helm ∧ s2.twin.st = .paired then (waitingHeads s2).foldl (fun s h => graphicsDone h s) (s2.onTwin fun t => { t with st := .alone }) else s2

/-- A scuttle runs (R488), with the response that the device state calls for (R426, R489). [DEDUCED, log 101] -/
def scuttle (s : State) : State :=
  let ide := s.host.ideIo || s.host.ideMem
  let s1 := beginKill (clearVault (tamperSession s))
  match s.dev with
  | .off => s1.onStart fun r => { r with postScuttle := true }
  | .firstStart | .coldStart | .warmStart =>
    let s2 := s1.onStart fun r => { r with postScuttle := true }
    if s.start.stepNo < 9 then enterDock 2 (s2.onStart fun r => { r with scuttled := true }) else tamperLock ide s2
  | .readyHelm | .readyStandby | .handover =>
    tamperLock ide ((s1.onStart fun r => { r with postScuttle := true }).onFw fun f => { f with noCommit := f.noCommit || decide (f.trialMs ≠ 0 ∨ f.phase = .handover) })
  | .dryDock =>
    tamperLock ide ((s1.onStart fun r => { r with postScuttle := true }).onFw fun f => { f with ddLength := 0, ddSlots := 0, ddHave := [], ddBytes := [] })
  | .fatalD => s1.onStart fun r => { r with postScuttle := true }
  | .fatalS => s1.onStart fun r => { r with postScuttle := true }

/-- Record a tamper alarm or a commanded scuttle (R463, R465, R489). [DEDUCED, log 101] -/
def recordTamper (source : Nat) (s : State) : State :=
  let s1 := captureFirst 0x0D01 5 source false (decide (s.dev = .off)) s
  if s.dev = .off then s1 else addHistory 0x0D01 5 source source 1 false false s1

/-- A level held low at a TAMPER_N input is an alarm (R487: 1 µs ± 3 %): none below 970 ns, always from 1,030 ns, between them a free
value. [DESIGN CHOICE, log 6, 138] -/
def lowIsAlarm (lowNs : Nat) (s : State) : Bool × State :=
  if lowNs < 970 then (false, s) else if 1030 ≤ lowNs then (true, s) else let v := s.draw; (decide (v.1 % 2 = 1), v.2)

/-- An alarm (R489): during a scuttle it only advances OVERFLOW. [DEDUCED, log 101] -/
def tamperAlarm (source : Nat) (s : State) : State :=
  let s0 := if source < 2 then s.onKeys fun k => { k with tamperPin := setAdd k.tamperPin source } else s
  if s.dev = .off ∧ s.clocks.aoUp = false then s
  else if s.keys.killing.isSome then s0.onFaults fun f => { f with first := { f.first with overflow := satAdd 8 f.first.overflow 1 } }
  else
    let s1 := recordTamper source s0
    let s2 := if s.host.link = .down then s1 else raise 0x1081 4 source s.dev.code s1
    scuttle s2

/-- A commanded scuttle acts at the end of its tick (R511). -/
def scuttleNow (s : State) : State :=
  if s.keys.scuttleDue then
    let s1 := s.onKeys fun k => { k with scuttleDue := false }
    if s.keys.killing.isSome then s1 else scuttle (recordTamper 4 s1)
  else s

/-- SCUTTLE_COMPLETE (R488): kill bits that fail to program are Fatal-S. -/
def scuttleComplete (done : Bool) (s : State) : State :=
  match s.keys.killing with
  | none => s
  | some b =>
    let s1 := s.onKeys fun k => { k with killing := none }
    if done then
      let s2 := s1.onKeys fun k => { k with killed := setAdd k.killed b, bank := none, retired := k.retired || decide (b = 1) }
      if s.host.link = .down then s2 else raise 0x1082 4 b 0 s2
    else if s.dev = .fatalS then s1
    else fatalS 0x0C03 0 b false s1

/-! ### SPDM over DOE (R485, R490) -/

/-- Keep an answer. -/
def doeAnswer (r : DoeReply) (s : State) : State := s.onKeys fun k => { k with doe := r }

/-- An error answer that is not BUSY. -/
def doeError (s : State) : State := doeAnswer (.error false) s

/-- A DOE request reaches the chip while its link is up and its dies run. -/
def doeUp (s : State) : Bool := decide (s.host.link ≠ .down) && decide (s.dev ≠ .off)

/-- An SPDM request: refused under the tamper lock, and without the vault's keys. -/
def spdm (f : State → State) (s : State) : State :=
  if !doeUp s then s else if s.keys.lock ∨ s.keys.vault = false then doeError s else f s

/-- DOE discovery: object type by index: discovery 0, CMA/SPDM 1, secured CMA/SPDM 2. [DEDUCED, log 102] -/
def doeDiscovery (index : Nat) (s : State) : State :=
  if !doeUp s then s else if index < 3 then doeAnswer (.discovery [index]) s else doeAnswer (.discovery []) s

/-- GET_VERSION: 1.1 and 1.2. -/
def getVersion (s : State) : State := spdm (fun s => doeAnswer (.versions [0x11, 0x12]) (s.onKeys fun k => { k with version := 0 })) s

/-- GET_CAPABILITIES in a version that the chip supports. -/
def getCapabilities (version : Nat) (s : State) : State :=
  spdm (fun s =>
    if version = 0x11 ∨ version = 0x12 then
      doeAnswer (.capabilities ["CERT", "CHAL", "MEAS", "MEAS_FRESH", "ENCRYPT", "MAC", "KEY_EX", "HBEAT", "KEY_UPD"]) (s.onKeys fun k => { k with version := version })
    else doeError s) s

/-- NEGOTIATE_ALGORITHMS, where the requester offers the chip's algorithms. -/
def negotiateAlgorithms (offered : Bool) (s : State) : State :=
  spdm (fun s => if offered then doeAnswer (.algorithms "ECDSA P-384" "SHA-384" "secp384r1" "AES-256-GCM" "SHA-384") s else doeError s) s

/-- GET_DIGESTS: slot 0 while bank 0 is in use; no chain after a scuttle. -/
def getDigests (s : State) : State :=
  spdm (fun s => if s.keys.bank = some 0 then doeAnswer (.digests 1 (Config.sha384 Config.certChain)) s else doeAnswer (.digests 0 []) s) s

/-- GET_CERTIFICATE: the chain of slot 0, or the raw DIK public key of bank 1. -/
def getCertificate (slot offset length : Nat) (s : State) : State :=
  spdm (fun s =>
    if slot ≠ 0 then doeError s
    else if s.keys.bank = some 0 then doeAnswer (.certificate ((Config.certChain.drop offset).take length) false) s
    else doeAnswer (.certificate (((dikPublic 1).drop offset).take length) true) s) s

/-- CHALLENGE: signed with the DIK. [DEDUCED, log 102] -/
def challenge (slot : Nat) (nonce : List Byte) (s : State) : State :=
  spdm (fun s => if slot = 0 then doeAnswer (.challengeAuth (dikSign (s.keys.bank.getD 0) nonce)) s else doeError s) s

/-- A measurement block. -/
def measureBlock (s : State) (n : Nat) : List Byte :=
  match n with
  | 1 => measurement s
  | 2 => Config.romDigest
  | 3 => toLe 2 s.fw.image.security ++ toLe 1 s.keys.secCounter
  | _ => toLe 4 s.fw.image.version ++ toLe 1 (s.keys.bank.getD 0xFF)

/-- GET_MEASUREMENTS: one block, or all of them (0xFF), signed. -/
def getMeasurements (block : Nat) (nonce : List Byte) (s : State) : State :=
  spdm (fun s =>
    let ns := if block = 0xFF then [1, 2, 3, 4] else [block]
    if block = 0xFF ∨ (1 ≤ block ∧ block ≤ 4) then
      let bs := ns.map fun n => (n, measureBlock s n)
      doeAnswer (.measurements bs (dikSign (s.keys.bank.getD 0) (nonce ++ bs.flatMap Prod.snd))) s
    else doeError s) s

/-- KEY_EXCHANGE: at most two sessions at once. -/
def spdmKeyExchange (heartbeat : Nat) (exchange : List Byte) (s : State) : State :=
  spdm (fun s =>
    if 2 ≤ s.keys.sessions.length then doeAnswer (.error true) s
    else if 60 < heartbeat then doeError s
    else
      let n := s.keys.nextId
      doeAnswer (.keyExchange n heartbeat (Config.dheShare n) (dikSign (s.keys.bank.getD 0) exchange))
        (s.onKeys fun k => { k with nextId := n + 1, sessions := k.sessions ++ [{ id := n, st := .handshake, heartbeat := heartbeat }] })) s

/-- An SPDM session. -/
def State.spdmSession (s : State) (id : Nat) : Option Spdm := s.keys.sessions.find? fun x => x.id = id

/-- An established session. -/
def inSession (s : State) (id : Nat) : Bool :=
  match s.spdmSession id with
  | some x => decide (x.st = .established)
  | none => false

/-- Change a session. -/
def onSpdm (id : Nat) (f : Spdm → Spdm) (s : State) : State :=
  s.onKeys fun k => { k with sessions := k.sessions.map fun x => if x.id = id then f x else x }

/-- A session ends: its keys are invalidated, the IDE keys it programmed are orphaned (R484). -/
def closeSpdm (id : Nat) (s : State) : State := orphanIde id (s.onKeys fun k => { k with sessions := k.sessions.filter fun x => x.id ≠ id })

/-- FINISH. -/
def spdmFinish (id : Nat) (verified : Bool) (s : State) : State :=
  spdm (fun s =>
    match s.spdmSession id with
    | some x =>
      if x.st = .handshake ∧ verified then doeAnswer (.finished id) (onSpdm id (fun x => { x with st := .established, age := 0 }) s)
      else doeError (if verified then s else closeSpdm id s)
    | none => doeError s) s

/-- A request inside an established session, which also shows that the session is alive. -/
def inside (id : Nat) (f : State → State) (s : State) : State :=
  spdm (fun s => if inSession s id then f (onSpdm id (fun x => { x with age := 0 }) s) else doeError s) s

/-- KEY_UPDATE. -/
def keyUpdate (id : Nat) (s : State) : State := inside id (fun s => doeAnswer (.keyUpdated id) (onSpdm id (fun x => { x with keyNo := x.keyNo + 1 }) s)) s

/-- HEARTBEAT. -/
def heartbeat (id : Nat) (s : State) : State := inside id (doeAnswer (.heartbeatAck id)) s

/-- END_SESSION. -/
def endSession (id : Nat) (s : State) : State := inside id (fun s => doeAnswer (.ended id) (closeSpdm id s)) s

/-- SPDM_HEARTBEAT_LAPSE: the negotiated period has passed without a heartbeat. [DEDUCED, log 102] -/
def heartbeatLapse (id : Nat) (s : State) : State :=
  match s.spdmSession id with
  | some x => if x.heartbeat ≠ 0 ∧ x.heartbeat * 48000 ≤ x.age then closeSpdm id s else s
  | none => s

/-- One tick of the sessions. -/
def tickSpdm (s : State) : State :=
  let s1 := s.onKeys fun k => { k with sessions := k.sessions.map fun x => { x with age := x.age + 1 } }
  (s1.keys.sessions.map fun x => x.id).foldl (fun s id => heartbeatLapse id s) s1

/-! ### CXL IDE key management (R485) -/

/-- The key of a stream, direction and key set. -/
def ideKey (stream direction keySet : Nat) : Nat := stream * 4 + direction * 2 + keySet

/-- A stream, direction and key set that the chip has. -/
def ideOk (stream direction keySet : Nat) : Bool := decide (stream < 2) && decide (direction < 2) && decide (keySet < 2)

/-- IDE runs on a stream while a key set of it is active. -/
def ideUse (s : State) : State :=
  let on := fun n => s.keys.ide.any fun e => decide (e.1 / 4 = n) && e.2.active
  s.onHost fun h => { h with ideIo := on 0, ideMem := on 1 }

/-- QUERY: two key sets. -/
def ideQuery (id stream : Nat) (s : State) : State := inside id (fun s => if stream < 2 then doeAnswer (.queryResp 2) s else doeError s) s

/-- KEY_PROG: a key set takes a new key, under a parent in force. -/
def keyProg (id stream direction keySet : Nat) (key : List Byte) (s : State) : State :=
  inside id (fun s =>
    if ideOk stream direction keySet then
      doeAnswer (.keyProgAck keySet) (s.onKeys fun k => { k with ide := tset {} k.ide (ideKey stream direction keySet) { key := fitBytes 32 key, session := id } })
    else doeError s) s

/-- K_SET_GO: a programmed key set becomes active. [DEDUCED, log 102] -/
def kSetGo (id stream direction keySet : Nat) (s : State) : State :=
  inside id (fun s =>
    let n := ideKey stream direction keySet
    if ideOk stream direction keySet ∧ (tget ({} : IdeKeys) s.keys.ide n).key ≠ [] then
      ideUse (doeAnswer (.goStopAck keySet true) (s.onKeys fun k => { k with ide := tmod {} k.ide n fun x => { x with active := true } }))
    else doeError s) s

/-- K_SET_STOP: a key set stops. -/
def kSetStop (id stream direction keySet : Nat) (s : State) : State :=
  inside id (fun s =>
    if ideOk stream direction keySet then
      ideUse (doeAnswer (.goStopAck keySet false) (s.onKeys fun k => { k with ide := tset {} k.ide (ideKey stream direction keySet) {} }))
    else doeError s) s

/-! ### The meanings -/

/-- ATTEST. -/
def execAttest (c : Cmd) (s : State) : Answer := answer (runCmd attestInfo attest c s)

/-- INSTALL_KEY. -/
def execInstallKey (c : Cmd) (s : State) : Answer := answer (runCmd installKeyInfo installKey c s)

/-- SWAP_KEY. -/
def execSwapKey (c : Cmd) (s : State) : Answer := answer (runCmd swapKeyInfo swapKey c s)

/-- INVALIDATE_KEY. -/
def execInvalidateKey (c : Cmd) (s : State) : Answer := answer (runCmd invalidateKeyInfo invalidateKey c s)

/-- READ_KEYS. -/
def execReadKeys (c : Cmd) (s : State) : Answer := answer (runCmd readKeysInfo readKeys c s)

/-- SCUTTLE. -/
def execScuttle (c : Cmd) (s : State) : Answer := answer (runCmd scuttleInfo scuttleCmd c s)

/-- TAMPER_ALARM (R487): a TAMPER_N input held low, or a trip of a sensor of the vault, the one of VDD_AO while other rails are up. -/
def tamperEvent (source lowNs : Nat) (s : State) : State :=
  if source < 2 then
    let v := lowIsAlarm lowNs s
    if v.1 then tamperAlarm source v.2 else v.2
  else if source = 3 ∧ s.clocks.railsUp = false then s
  else tamperAlarm source s

/-- TAMPER_ALARM (R487, R489). -/
def execTamperAlarm (trip : TamperTrip) (s : State) : Answer := answer (tamperEvent trip.source trip.lowNs s)

/-- SCUTTLE_COMPLETE (R488). -/
def execScuttleComplete (ok : Bool) (s : State) : Answer := answer (scuttleComplete ok s)

/-- DOE_DISCOVERY. -/
def execDoeDiscovery (index : Nat) (s : State) : Answer := answer (doeDiscovery index s)

/-- GET_VERSION. -/
def execGetVersion (s : State) : Answer := answer (getVersion s)

/-- GET_CAPABILITIES. -/
def execGetCapabilities (version : Nat) (s : State) : Answer := answer (getCapabilities version s)

/-- NEGOTIATE_ALGORITHMS. -/
def execNegotiateAlgorithms (offered : Bool) (s : State) : Answer := answer (negotiateAlgorithms offered s)

/-- GET_DIGESTS. -/
def execGetDigests (s : State) : Answer := answer (getDigests s)

/-- GET_CERTIFICATE. -/
def execGetCertificate (slot offset length : Nat) (s : State) : Answer := answer (getCertificate slot offset length s)

/-- CHALLENGE. -/
def execChallenge (slot : Nat) (nonce : List Byte) (s : State) : Answer := answer (challenge slot nonce s)

/-- GET_MEASUREMENTS. -/
def execGetMeasurements (block : Nat) (nonce : List Byte) (s : State) : Answer := answer (getMeasurements block nonce s)

/-- KEY_EXCHANGE. -/
def execKeyExchange (heartbeat : Nat) (exchange : List Byte) (s : State) : Answer := answer (spdmKeyExchange heartbeat exchange s)

/-- FINISH. -/
def execFinish (session : Nat) (verified : Bool) (s : State) : Answer := answer (spdmFinish session verified s)

/-- KEY_UPDATE. -/
def execKeyUpdate (session : Nat) (s : State) : Answer := answer (keyUpdate session s)

/-- HEARTBEAT. -/
def execHeartbeat (session : Nat) (s : State) : Answer := answer (heartbeat session s)

/-- END_SESSION. -/
def execEndSession (session : Nat) (s : State) : Answer := answer (endSession session s)

/-- SPDM_HEARTBEAT_LAPSE. -/
def execSpdmHeartbeatLapse (session : Nat) (s : State) : Answer := answer (heartbeatLapse session s)

/-- QUERY. -/
def execQuery (session stream : Nat) (s : State) : Answer := answer (ideQuery session stream s)

/-- KEY_PROG. -/
def execKeyProg (session stream direction keySet : Nat) (key : List Byte) (s : State) : Answer := answer (keyProg session stream direction keySet key s)

/-- K_SET_GO. -/
def execKSetGo (session stream direction keySet : Nat) (s : State) : Answer := answer (kSetGo session stream direction keySet s)

/-- K_SET_STOP. -/
def execKSetStop (session stream direction keySet : Nat) (s : State) : Answer := answer (kSetStop session stream direction keySet s)

end Sys2Proof.Machine
end

