-- ==== Sys2Proof/Machine/Firmware.lean ====
section
/-! DEFINITION.  Firmware: images and slots, update sessions, handover, trial and revert, and the commands of range 0x11
(spec/16_keys_tamper_firmware.md, R492 to R504, R512, R513). -/

namespace Sys2Proof.Machine
open Sys2Proof

/-! ### Headers and checks (R492, R493) -/

/-- A field of an image header. -/
def hdrField (h : List Byte) (off n : Nat) : Nat := leNat ((h.drop off).take n)

/-- The header's fields (R492). -/
def headerOf (h : List Byte) : SlotHdr :=
  { security := hdrField h 0x14 2, version := hdrField h 0x08 4, partnerMin := hdrField h 0x0C 4, tandem := hdrField h 0x16 1, schemaW := hdrField h 0x18 2,
    schemaMin := hdrField h 0x1A 2, schemaMax := hdrField h 0x1C 2, revoke := hdrField h 0x07 1 % 16, keyIndex := hdrField h 0x06 1, romMin := hdrField h 0x10 4,
    digest := (h.drop 0x38).take 48, header := h.take 512 }

/-- Check 1 of R493: MAGIC, FORMAT, STEPPING and lengths; the whole image is the header, the payload and its tag. -/
def shapeOk (h : List Byte) (length : Option Nat) : Bool :=
  let n := hdrField h 0x20 4
  decide (hdrField h 0 4 = 0x4D495846) && decide (hdrField h 4 2 = 1) && decide (hdrField h 0x17 1 = 0xB0) && decide (4096 ≤ n ∧ n ≤ 50327536) &&
    decide (length.getD (512 + n + 16) = 512 + n + 16)

/-- The vendor image key is present and not revoked. -/
def vendorKeyOk (s : State) (k : Nat) : Bool := decide (k < 4) && bitOf s.keys.vendor k && !bitOf s.keys.revoked k

/-- The cause under which R493 refuses an image, 0 where it accepts it. -/
def imageCause (h : List Byte) (length : Option Nat) (r : ImageChecks) (s : State) : Nat :=
  if !shapeOk h length then 8
  else if !r.signature then 1
  else if !vendorKeyOk s (headerOf h).keyIndex then 7
  else if (headerOf h).security < s.keys.secCounter then 4
  else if Config.romVersion < (headerOf h).romMin then 6
  else if !r.tag then 2
  else if !r.digest then 3
  else 0

/-- The status of a refused image (R512). -/
def causeStatus (cause : Nat) : Status :=
  if cause = 4 then .state else if cause = 6 ∨ cause = 8 then .format else .auth

/-- DETAIL of a refusal with a cause (R512). -/
def causeDetail (cause : Nat) : Nat := 0xFFFF + cause * 65536

/-- A slot (R494). -/
def State.fwSlot (s : State) (k : Nat) : SlotHdr := tget {} s.fw.slots k

/-- Change a slot. -/
def onFwSlot (k : Nat) (f : SlotHdr → SlotHdr) (s : State) : State := s.onFw fun x => { x with slots := tmod {} x.slots k f }

/-- The header of the image under check, where it stands. -/
def checkedHeader (given : List Byte) (s : State) : List Byte :=
  match s.fw.source with
  | .host => memRead s.hdm s.fw.stageAt 512
  | .dryDock => memRead s.fw.ddBytes 0 512
  | _ => given

/-- The length of the image under check, where the session gave it. -/
def checkedLength (s : State) : Option Nat :=
  match s.fw.source with
  | .host => some s.fw.stageLen
  | .dryDock => some s.fw.ddLength
  | _ => none

/-! ### Sessions (R496, R497) -/

/-- STAGE_IMAGE (R512). -/
def stageImageInfo : CmdInfo := { opcode := 0x1101, length := fun _ => 16 }

/-- A partner's session gives way to the host's (R496). -/
def displacePartner (s : State) : State := if sessionLive s ∧ s.fw.source = .partner then raise 0x1182 2 2 0 (dropSession s) else s

/-- The effect of STAGE_IMAGE: a session begins with the check. -/
def stageImage (c : Cmd) (s : State) : Res :=
  match firstBad [(decide (c.u32 0 % 4096 = 0) && decide (c.u32 0 < 0x20000000), 0x20), (decide (c.u32 0 + c.u32 4 ≤ 0x20000000), 0x24),
      (decide (c.u8 8 ≤ 1) && decide (c.u8 8 ≠ s.fw.running), 0x28)] with
  | some off => rej .range off s
  | none =>
    if sessionLive s ∧ s.fw.source ≠ .partner then rej .busy 0 s
    else if s.fw.phase = .handover then rej .busy 0 s
    else queued .stageImage ((displacePartner s).onFw fun f =>
      { f with source := .host, phase := .checking, target := c.u8 8, stageAt := 0x20000000 + c.u32 0, stageLen := c.u32 4, bytes := 0, both := false, job := some s.mbox.nextJob })

/-- SET_FOLLOW_LIST (R512). -/
def setFollowListInfo : CmdInfo := { opcode := 0x1102, length := fun _ => 392 }

/-- The effect of SET_FOLLOW_LIST. -/
def setFollowList (c : Cmd) (s : State) : Res :=
  if 8 < c.u8 0 then rej .range 0x20 s
  else ok ((s.onObj fun o => { o with followList := (List.range (c.u8 0)).map fun i => c.bytes (8 + 48 * i) 48 }).touch 0x11 0)

/-- The partner offers an image it has committed (R497). [DEDUCED, log 105] -/
def partnerOffer (digest : List Byte) (s : State) : State :=
  if !s.dev.ready ∨ !s.twin.session ∨ tandemDown s then s
  else if sessionLive s ∨ s.fw.phase = .handover then raise 0x1183 1 0 1 s
  else if !s.obj.followList.contains digest then raise 0x1183 1 0 2 s
  else s.onFw fun f => { f with source := .partner, phase := .checking, target := 1 - f.running, bytes := 0, both := false, job := none, hash := some digest }

/-- The session ends with a refusal of its image. [DEDUCED, log 103] -/
def refuseImage (cause : Nat) (s : State) : State :=
  match s.fw.source with
  | .host =>
    let s1 := match s.fw.job with
      | some id => finish id (causeStatus cause) (causeDetail cause) s
      | none => s
    raise 0x1182 2 1 cause (dropSession s1)
  | .partner => raise 0x1182 2 2 cause (dropSession s)
  | .dryDock =>
    let s1 := match s.host.ddCmd with
      | some (op, c) => complete 0 c.tag op c.session false (causeStatus cause) 0 0 0 (causeDetail cause) s
      | none => s
    dropSession s1
  | .none => s

/-- A session's slots are being written (R494). -/
def beginSlotWrite (h : SlotHdr) (s : State) : State :=
  let w := { h with st := 2, bootSeq := 0, staged := false }
  let s1 := (onFwSlot s.fw.target (fun _ => w) s).onFw fun f => { f with phase := .writing, incoming := h }
  if s.fw.both then onFwSlot (1 - s.fw.target) (fun _ => w) s1 else s1

/-- An image checked under an orphaned key: each 4 KiB block of it is a use (R484). -/
def useImageKey (length : Nat) (s : State) : State :=
  if s.keys.imageOrphan then s.onKeys fun k => { k with orphanImage := satAdd 32 k.orphanImage ((length + 4095) / 4096), imageOrphan := false } else s

/-- IMAGE_CHECK_COMPLETE (R493, R512).  An image of the partner's must be the one its offer named. -/
def imageCheckComplete (given : List Byte) (r : ImageChecks) (s : State) : State :=
  if s.fw.phase ≠ .checking then s
  else
    let h := checkedHeader given s
    let cause := imageCause h (checkedLength s) r s
    let n := hdrField h 0x20 4
    let s1 := (useImageKey n s).onFw fun f => { f with bytes := min 0xFFFFFFFF (512 + n + 16) }
    let other : Bool := match s.fw.hash with
      | some d => decide (s.fw.source = .partner) && decide (d ≠ (headerOf h).digest)
      | none => false
    if cause ≠ 0 then refuseImage cause s1
    else if other then refuseImage 3 s1
    else beginSlotWrite (headerOf h) s1

/-- One above the BOOT_SEQ of any valid slot (R514). -/
def nextBootSeq (s : State) : Nat :=
  1 + max (if (s.fwSlot 0).st = 1 then (s.fwSlot 0).bootSeq else 0) (if (s.fwSlot 1).st = 1 then (s.fwSlot 1).bootSeq else 0)

/-- The image of the session stands in its slot, VALID programmed last: staged, or bootable where Dry Dock wrote it. -/
def slotWritten (s : State) : State :=
  let k := s.fw.target
  let h := s.fw.incoming
  match s.fw.source with
  | .dryDock =>
    let seq := if s.fw.both then nextBootSeq s else max (nextBootSeq s) h.bootSeq
    let s1 := onFwSlot k (fun _ => { h with st := 1, bootSeq := seq }) s
    if s.fw.both then s1.onFw fun f => { f with target := 1 - k, both := false, incoming := { h with bootSeq := seq } }
    else
      let s2 := match s.host.ddCmd with
        | some (op, c) => complete 0 c.tag op c.session false .done 0 0 0 0 s1
        | none => s1
      s2.onFw fun f => { f with source := .none, phase := .idle, incoming := {} }
  | .none => s
  | _ =>
    let s1 := (onFwSlot k (fun _ => { h with st := 1, bootSeq := 0, staged := true }) s).onFw fun f => { f with phase := .staged, job := none }
    let s2 := match s.fw.job with
      | some id => finish id .done h.version s1
      | none => s1
    raise 0x1181 1 k h.version s2

/-- The slot's device does not take the image (R437): the session fails. [DEDUCED, log 103] -/
def slotWriteFails (s : State) : State :=
  let s0 := norFails s.fw.target s
  match s.fw.source with
  | .dryDock =>
    let s1 := match s.host.ddCmd with
      | some (op, c) => complete 0 c.tag op c.session false .state 0 0 0 0xFFFF s0
      | none => s0
    dropSession s1
  | src =>
    let s1 := match s.fw.job with
      | some id => finish id .state 0xFFFF s0
      | none => s0
    raise 0x1182 2 src.code 0 (dropSession s1)

/-- SLOT_WRITE_COMPLETE (R494). -/
def slotWriteComplete (done : Bool) (s : State) : State :=
  if s.fw.phase ≠ .writing then s else if done then slotWritten s else slotWriteFails s

/-- ABORT_UPDATE (R512). -/
def abortUpdateInfo : CmdInfo := { opcode := 0x1106 }

/-- The effect of ABORT_UPDATE: a STAGE_IMAGE that still runs is superseded by it. [DEDUCED, log 103] -/
def abortUpdate (c : Cmd) (s : State) : Res :=
  if sessionLive s then
    let s1 := match s.fw.job with
      | some id => finish id .superseded (byCommand c) s
      | none => s
    ok (raise 0x1182 2 s.fw.source.code 0 (dropSession s1))
  else rej .state 0xFFFF s

/-! ### Handover (R498 to R500) -/

/-- HANDOVER (R498, R512). -/
def handoverInfo : CmdInfo := { opcode := 0x1103, length := fun _ => 8 }

/-- The partner's image and a new one refuse each other (R498 check 4). -/
def partnerRefuses (h : SlotHdr) (s : State) : Bool :=
  !tandemDown s && s.twin.session && (decide (s.twin.partnerFw < h.partnerMin) || decide (h.version < s.twin.partnerMin))

/-- A handover is ordered: it begins at the end of the admitting tick. -/
def orderHandover (target : Nat) (reverting : Bool) (s : State) : State :=
  s.onFw fun f => { f with phase := .handover, source := .none, target := target, handStep := 0, handTick := s.now, handAge := 0, reverting := reverting,
                           job := some s.mbox.nextJob }

/-- The effect of HANDOVER.  A former image's slot is one it may name (R503); its SECURITY_VERSION is judged again. [DEDUCED, log 104] -/
def handover (c : Cmd) (s : State) : Res :=
  let h := s.fwSlot (c.u8 0)
  match firstBad [(decide (c.u8 0 ≤ 1), 0x20), (decide (c.u16 2 ≤ 3600), 0x22)] with
  | some off => rej .range off s
  | none =>
    if inTrial s then rej .state 0xFFFF s
    else if h.st ≠ 1 ∨ c.u8 0 = s.fw.running then rej .state 0xFFFF s
    else if h.security < s.keys.secCounter then rej .state (causeDetail 4) s
    else if s.fw.image.schemaW < h.schemaMin ∨ h.schemaMax < s.fw.image.schemaW then rej .format (causeDetail 10) s
    else if bitOf (c.u8 1) 0 = false ∧ partnerRefuses h s then rej .state (causeDetail 11) s
    else if s.fw.phase = .handover ∨ s.fw.phase = .checking then rej .busy 0 s
    else queued .handover ((orderHandover (c.u8 0) false s).onFw fun f =>
      { f with oldSlot := f.running, oldImage := f.image, trialNext := (if c.u16 2 = 0 then 10 else c.u16 2) * 1000 })

/-- Step 1 of R499 begins at the end of the admitting tick: the old image's cut and logbook checkpoint (R438), then DEVICE_STATE is HANDOVER. -/
def beginHandover (s : State) : State :=
  if s.fw.phase = .handover ∧ s.fw.handStep = 0 ∧ s.dev.ready then
    let s1 := if s.journal.writes ∧ s.journal.pending ≠ [] then cutNow .regular s else s
    let s2 := (checkpoint s1).onFw fun f => { f with handStep := 1, healthHigh := s.twin.health }
    { s2 with dev := .handover }
  else s

/-- Admission resumes: DEVICE_STATE returns, and a standby applies what it held, in order (R499, R500). -/
def resumeService (s : State) : State :=
  let s1 : State := { s with dev := if s.twin.helm then .readyHelm else .readyStandby }
  let s2 := s1.twin.held.foldl replay (s1.onTwin fun t => { t with held := [], handShook := false })
  s2.onFw fun f => { f with phase := .idle, handStep := 0, job := none, reverting := false }

/-- Step 3 finds the record unreadable: the old image is reinstated (R499). [DEDUCED, log 104] -/
def handoverFails (s : State) : State :=
  let s1 := match s.fw.job with
    | some id => finish id .format (causeDetail 9) s
    | none => s
  resumeService (raise 0x1186 2 s.fw.oldSlot 9 s1)

/-- Step 5 of a handover: the new image runs, its trial begins. -/
def handoverDone (s : State) : State :=
  let k := s.fw.target
  let s1 := resumeService ((onFwSlot k (fun h => { h with staged := false }) s).onFw fun f => { f with running := k, image := tget {} f.slots k })
  let s2 := ((s1.onFw fun f => { f with trialMs := f.trialNext, trialAge := 0, noCommit := f.noCommit }).onJournal fun j => { j with noWrite := true }).onLog fun l =>
    { l with handovers := inc l.handovers }
  let s3 := match s.fw.job with
    | some id => finish id .done s2.fw.image.version s2
    | none => s2
  raise 0x1184 1 k s.fw.handAge (s3.onStart fun r => { r with kind := .handover })

/-- Step 5 of a revert: the old image runs again and journals at its next cut what has changed since its last commit (R503). -/
def revertDone (s : State) : State :=
  let k := s.fw.target
  let s1 := resumeService (s.onFw fun f => { f with running := k, image := f.oldImage, trialMs := 0, trialAge := 0 })
  let s2 := s1.onJournal fun j => { j with noWrite := s.fw.noCommit }
  let s3 := match s.fw.job with
    | some id => finish id .done s2.fw.image.version s2
    | none => s2
  raise 0x1186 2 k 12 (s3.onStart fun r => { r with kind := .handover })

/-- HANDOVER_STEP_COMPLETE (R499): steps 1 to 4 end in turn, and step 5 follows the fourth. [DEDUCED, log 104] -/
def handoverStep (done : Bool) (s0 : State) : State :=
  let s := beginHandover s0
  if s.dev ≠ .handover then s0
  else if (s.fw.handStep = 2 ∨ s.fw.handStep = 3) ∧ done = false ∧ s.fw.reverting = false then driveHealth (handoverFails s)
  else if s.fw.handStep < 4 then s.onFw fun f => { f with handStep := f.handStep + 1 }
  else driveHealth (if s.fw.reverting then revertDone s else handoverDone s)

/-! ### Trial, commit, revert (R501, R503) -/

/-- A trial's commit is in writing. -/
def committing (s : State) : Bool := s.journal.writing.any fun c => decide (c.kind = .trial)

/-- The commit begins (R501): BOOT_SEQ of the new slot, then the first journal commit. -/
def commitTrial (s : State) : State :=
  let seq := (s.fwSlot s.fw.oldSlot).bootSeq + 1
  cutNow .trial (onFwSlot s.fw.running (fun h => { h with bootSeq := seq }) s)

/-- The trial's journal commit is durable: the security counter and the revocations follow (R501). -/
def trialCommitted (s : State) : State :=
  let h := s.fw.image
  let live := decide (s.fw.phase = .checking) && bitOf h.revoke (headerOf (checkedHeader [] s)).keyIndex && decide (s.fw.source ≠ .partner)
  let s1 := s.onKeys fun k => { k with secCounter := max k.secCounter h.security, revoked := Nat.lor k.revoked h.revoke, imageOrphan := k.imageOrphan || live }
  let s2 := if live ∧ s.keys.imageOrphan = false then raise 0x1085 2 2 0 s1 else s1
  let s3 := (s2.onFw fun f => { f with trialMs := 0, trialAge := 0, oldImage := {}, offer := if s.twin.session then h.digest else [] }).onJournal fun j => { j with noWrite := false }
  let s4 := (jobsOf s3 fun k => decide (k = .commitImage)).foldl (fun s id => finish id .done 0 s) s3
  raise 0x1185 1 s.fw.running h.version s4

/-- TRIAL_END: TRIAL_S has passed (R501); after a tamper alarm the commit is not made (R489). [DEDUCED, log 104] -/
def trialEnd (s : State) : State :=
  if s.dev.ready ∧ inTrial s ∧ s.fw.noCommit = false ∧ msTicks s.fw.trialMs ≤ s.fw.trialAge ∧ committing s = false ∧ s.fw.phase ≠ .handover then commitTrial s else s

/-- COMMIT_IMAGE (R512). -/
def commitImageInfo : CmdInfo := { opcode := 0x1104 }

/-- The effect of COMMIT_IMAGE: DONE once the journal commit is durable. -/
def commitImage (_ : Cmd) (s : State) : Res :=
  if inTrial s ∧ s.fw.noCommit = false then queued .commitImage (if committing s then s else commitTrial s) else rej .state 0xFFFF s

/-- REVERT (R503, R512). -/
def revertInfo : CmdInfo := { opcode := 0x1105 }

/-- The effect of REVERT. -/
def revert (_ : Cmd) (s : State) : Res :=
  if inTrial s ∧ committing s = false ∧ s.fw.phase ≠ .handover then
    queued .revert (orderHandover s.fw.oldSlot true (if sessionLive s then raise 0x1182 2 s.fw.source.code 0 (dropSession (match s.fw.job with
      | some id => finish id .state 0xFFFF s
      | none => s)) else s))
  else rej .state 0xFFFF s

/-- JOURNAL_COMMIT_DURABLE (R431): the trailer is programmed, or a device fails. -/
def commitDurable (ok0 ok1 : Bool) (s : State) : State :=
  match commitEnds ok0 ok1 s with
  | (s1, some c) => carryForward (if c.kind = .trial then trialCommitted s1 else s1)
  | (s1, none) => s1

/-- One tick of the firmware's times. -/
def tickFirmware (s : State) : State :=
  trialEnd (s.onFw fun f => { f with handAge := if s.dev = .handover then f.handAge + 1 else f.handAge, trialAge := if f.trialMs ≠ 0 then f.trialAge + 1 else 0 })

/-- Failing sectors of a device are rewritten from the other, each erased once; without the other the device has failed (R437, R440). -/
def rewriteSectors (d bad : Nat) (s : State) : State :=
  if bad = 0 ∨ (if d = 0 then s.journal.good0 else s.journal.good1) = false then s
  else if (if d = 0 then s.journal.good1 else s.journal.good0) then s.onJournal fun j => { j with erases := tmod 0 j.erases d fun e => satAdd 64 e bad }
  else norFails d s

/-- NOR_PATROL (R440, R495): weekly, every sector read, what fails rewritten from the other device, and both slots checked.
[DEDUCED, log 105] [DEDUCED, log 105] -/
def norPatrol (f0 f1 : PatrolFound) (causeA causeB : Nat) (s : State) : State :=
  if !s.dev.ready ∨ s.journal.patrolAge < 29030400000 then s
  else
    let s1 := s.onJournal fun j => { j with patrolAge := 0 }
    let s2 := if f0.ok then s1 else norFails 0 s1
    let s3 := rewriteSectors 1 f1.bad (rewriteSectors 0 f0.bad (if f1.ok then s2 else norFails 1 s2))
    let s4 := if (s.fwSlot 0).st = 1 ∧ causeA ≠ 0 then raise 0x1187 3 0 causeA s3 else s3
    if (s.fwSlot 1).st = 1 ∧ causeB ≠ 0 then raise 0x1187 3 1 causeB s4 else s4

/-! ### READ_FIRMWARE (R513) -/

/-- PHASE (R513). -/
def phaseCode (s : State) : Nat :=
  match s.fw.phase with
  | .idle => if inTrial s then 5 else 0
  | .checking => 1
  | .writing => 2
  | .staged => 3
  | .handover => 4

/-- The 64 bytes of a slot (R513), its digest last. -/
def slotBytes (s : State) (k : Nat) : List Byte :=
  let h := s.fwSlot k
  recordBytes 16 [(0, 1, h.st), (2, 2, h.security), (4, 4, h.version), (8, 4, h.bootSeq), (0x0C, 2, h.schemaW)] ++ fitBytes 48 h.digest

/-- The 144 bytes of READ_FIRMWARE. -/
def firmwareBytes (s : State) : List Byte :=
  recordBytes 16 [(0, 1, s.fw.running), (1, 1, s.fw.source.code), (2, 1, phaseCode s), (3, 1, s.obj.followList.length), (4, 4, s.fw.trialMs - s.fw.trialAge / 48),
    (8, 4, if sessionLive s then s.fw.bytes else 0)] ++ slotBytes s 0 ++ slotBytes s 1

/-- READ_FIRMWARE. -/
def readFirmwareInfo : CmdInfo := { opcode := 0x1107, readOnly := true, length := fun _ => 8 }

/-- The effect of READ_FIRMWARE. -/
def readFirmware (c : Cmd) (s : State) : Res := reply c 0 144 0 (firmwareBytes s) s

/-! ### The meanings -/

/-- STAGE_IMAGE. -/
def execStageImage (c : Cmd) (s : State) : Answer := answer (runCmd stageImageInfo stageImage c s)

/-- SET_FOLLOW_LIST. -/
def execSetFollowList (c : Cmd) (s : State) : Answer := answer (runCmd setFollowListInfo setFollowList c s)

/-- HANDOVER. -/
def execHandover (c : Cmd) (s : State) : Answer := answer (runCmd handoverInfo handover c s)

/-- COMMIT_IMAGE. -/
def execCommitImage (c : Cmd) (s : State) : Answer := answer (runCmd commitImageInfo commitImage c s)

/-- REVERT. -/
def execRevert (c : Cmd) (s : State) : Answer := answer (runCmd revertInfo revert c s)

/-- ABORT_UPDATE. -/
def execAbortUpdate (c : Cmd) (s : State) : Answer := answer (runCmd abortUpdateInfo abortUpdate c s)

/-- READ_FIRMWARE. -/
def execReadFirmware (c : Cmd) (s : State) : Answer := answer (runCmd readFirmwareInfo readFirmware c s)

/-- IMAGE_CHECK_COMPLETE (R493). -/
def execImageCheckComplete (header : List Byte) (results : ImageChecks) (s : State) : Answer := answer (imageCheckComplete header results s)

/-- SLOT_WRITE_COMPLETE (R494). -/
def execSlotWriteComplete (ok : Bool) (s : State) : Answer := answer (slotWriteComplete ok s)

/-- PARTNER_IMAGE_OFFER (R497). -/
def execPartnerImageOffer (digest : List Byte) (s : State) : Answer := answer (partnerOffer digest s)

/-- HANDOVER_STEP_COMPLETE (R499). -/
def execHandoverStepComplete (ok : Bool) (s : State) : Answer := answer (handoverStep ok s)

/-- TRIAL_END (R501). -/
def execTrialEnd (s : State) : Answer := answer (trialEnd s)

/-- JOURNAL_COMMIT_DURABLE (R431). -/
def execJournalCommitDurable (ok0 ok1 : Bool) (s : State) : Answer := answer (commitDurable ok0 ok1 s)

/-- NOR_PATROL (R495). -/
def execNorPatrol (found0 found1 : PatrolFound) (causeA causeB : Nat) (s : State) : Answer := answer (norPatrol found0 found1 causeA causeB s)

end Sys2Proof.Machine
end

