-- ==== Sys2Proof/Machine/Starts.lean ====
section
/-! DEFINITION.  Starts and stops: the start steps, retries, RESTART, power failure and resets
(spec/14_starts_stops_logbook.md, R419 to R432 and R442). -/

namespace Sys2Proof.Machine
open Sys2Proof

/-! ### What a start leaves standing (R212, R244, R419, R466) -/

/-- A stream's counts since the last cold start. -/
def keepStream (r : StreamRt) : StreamRt := { losses := r.losses, frameSeq := r.frameSeq }

/-- A destination's counts since the last cold start. -/
def keepRoute (r : RouteRt) : RouteRt := { rough := r.rough, takes := r.takes, ancDropped := r.ancDropped, lastTick := r.lastTick }

/-- Measurement counts of a stream. -/
def keepSrc (r : SrcRt) : SrcRt :=
  { crcTotal := r.crcTotal, trsTotal := r.trsTotal, tcDiscont := r.tcDiscont, essErrors := r.essErrors, damagedBarges := r.damagedBarges, frames := r.frames }

/-- Audio counts of a stream. -/
def keepAud (a : AudStream) : AudStream := { drops := a.drops, repeats := a.repeats, resets := a.resets, missing := a.missing, lastSlip := a.lastSlip }

/-- A head's counts; a head retired by a cold start's self-test stays so (R423). -/
def keepHead (r : HeadRt) : HeadRt :=
  { frames := r.frames, dmgFrames := r.dmgFrames, retired := r.retired,
    assay := r.assay.map (fun e => (e.1, { okCount := e.2.okCount, mismatches := e.2.mismatches, lastCrc := e.2.lastCrc })),
    layers := r.layers.map fun e => (e.1, { repeats := e.2.repeats, absentFrames := e.2.absentFrames, fallbacks := e.2.fallbacks }) }

/-- A lane out of service, its counts and equaliser values kept (R352). -/
def keepLane (l : LaneRt) : LaneRt := { l with rx := .off, tx := .off, coldNext := false }

/-- Twin counts. [DEDUCED, log 87] -/
def keepTwin (t : TwinRt) : TwinRt :=
  { missing := t.missing, records := t.records, sealChecks := t.sealChecks, sealMis := t.sealMis, failovers := t.failovers, disputes := t.disputes, resyncs := t.resyncs,
    resyncFails := t.resyncFails, resyncMs := t.resyncMs, roleTick := t.roleTick }

/-- Clock counts, and what the supplies and the sensors have shown; the Anvils lock anew (R421 step 2). -/
def keepClocks (warm : Bool) (c : ClocksRt) : ClocksRt :=
  let base : ClocksRt := { cleanA := c.cleanA, cleanB := c.cleanB, disagree := c.disagree, temps := c.temps, powerMw := c.powerMw, rails := c.rails, railMin := c.railMin,
                           lowRails := c.lowRails, railsUp := c.railsUp, railOut := c.railOut, aoUp := c.aoUp, aoAge := c.aoAge }
  if warm then { base with switches := c.switches, holdovers := c.holdovers, trips := c.trips, abandoned := c.abandoned, forced := c.forced, gatedResp := c.gatedResp,
                           entries := c.entries, throttleTicks := c.throttleTicks }
  else base

/-- The fault collector: a cold start clears it but for the record of the always-on island (R463, R466) and the times of the entries to
FATAL_D that R461 counts. -/
def keepFaults (warm : Bool) (f : FaultsRt) : FaultsRt :=
  if warm then { f with alive := 0, waited := 0, thermal := false, injects := [], masters := f.masters.map (fun e => (e.1, { e.2 with txns := [], waiting := [] })), targets := [] }
  else { first := f.first, entryTimes := f.entryTimes, aliveLevel := f.aliveLevel }

/-- What the NOR devices hold (R433): a commit in writing is cut off, later changes are gone. -/
def keepNor (warm : Bool) (j : JournalRt) : JournalRt :=
  { durable := j.durable, seq := j.seq, cutSeq := j.seq, cutTick := j.cutTick, formatted := j.formatted, good0 := j.good0, good1 := j.good1, erases := j.erases,
    headBytes := j.headBytes, places := j.places, book := j.book, records := j.records, final := j.final, patrolAge := j.patrolAge, rateDay := j.rateDay,
    torn := (j.writing.head?.map fun c => c.seq).or j.torn, unread := j.unread, commits := if warm then j.commits else 0 }

/-- What OTP and the always-on island hold of the keys, with the tamper lock, which only the post-scuttle start ends (R490). -/
def keepOtp (k : KeysRt) : KeysRt :=
  { programmed := k.programmed, killed := k.killed, killing := k.killing, retired := k.retired, secCounter := k.secCounter, vendor := k.vendor, revoked := k.revoked,
    lock := k.lock, tamperPin := k.tamperPin, debug := k.debug }

/-- Slots as NOR holds them: one that was being written reads as invalid (R430, R494). -/
def keepSlots (f : FwRt) : List (Nat × SlotHdr) := f.slots.filter fun e => e.2.st ≠ 2

/-- The stacks' repairs (R210 to R212): soft ones are lost at power-off, the budget used is not. -/
def keepStack (x : StackRt) : StackRt := { used := x.used, spareUsed := x.spareUsed, spared := x.spared, unspared := x.unspared, activePcs := x.activePcs }

/-- The mailboxes through a warm start, their sessions closed and their commands final (R70): interrupt settings return to the defaults
(R91), the event rings and the notification line stay (R90, R98). [DEDUCED, log 137] -/
def keepMbox (m : Mbox) : Mbox :=
  { m with jobs := [], admitted := 0, armed := 0, chAdmitted := [],
           channels := m.channels.map (fun e => (e.1, { e.2 with held := none, irq := {} })), rings := m.rings.map fun e => (e.1, { e.2 with irq := {} }) }

/-- The final statuses of R84, in the order of their codes. -/
def finalStatuses : List Status := [.done, .busy, .range, .state, .auth, .capacity, .format, .unknown, .stale, .timedOut, .deferred, .superseded, .partly, .tamper]

/-- An admitted command whose effect a warm start ends comes to its final completion (R70, R80); which status it has is not stated: a
free value. [DESIGN CHOICE, log 6, 136] -/
def endJob (s : State) (j : Job) : State :=
  let v := s.draw
  let w := v.2.draw
  finishJob j.id (finalStatuses.getD (v.1 % finalStatuses.length) .done) s.now j.gen (w.1 % 2 ^ 64) w.2

/-- The mailboxes as a warm start begins (R70): every session closes, and every admitted command comes to its end. -/
def quitMbox (s : State) : State := let s1 := closeSessions s; s1.mbox.jobs.foldl endJob s1

/-- The dies before a cold start: the logic is reset and the link goes down; Dry Dock's last completion stays to be read. [DEDUCED, log 92] -/
def coldReset (s : State) : State :=
  { dev := s.dev, mbox := { usedSessions := s.mbox.usedSessions, nextJob := s.mbox.nextJob }, host := { linkLost := true, ddCompletion := s.host.ddCompletion }, time := { elapsed := s.time.elapsed },
    wharf := { hbm := s.wharf.hbm.map fun e => (e.1, keepStack e.2) }, clocks := keepClocks false s.clocks, start := s.start, journal := keepNor false s.journal,
    faults := keepFaults false s.faults, keys := keepOtp s.keys, fw := { slots := keepSlots s.fw }, pins := s.pins, hdm := s.hdm, freeCtr := s.freeCtr, pending := s.pending }

/-- The dies before a warm start: HBM and the link stay (R420, R421), counts since the last cold start too. [DEDUCED, log 92] -/
def warmReset (s : State) : State :=
  { dev := s.dev, obj := s.obj, mbox := keepMbox s.mbox, host := s.host, time := { elapsed := s.time.elapsed, slips := s.time.slips, bgShed := s.time.bgShed },
    refs := { slots := s.refs.slots.map fun e => (e.1, { anomalies := e.2.anomalies, filtered := e.2.filtered, lastCause := e.2.lastCause }) },
    streams := s.streams.map (fun e => (e.1, keepStream e.2)),
    basin := { routes := s.basin.routes.map (fun e => (e.1, keepRoute e.2)), pounds := s.basin.pounds },
    wharf := { berths := s.wharf.berths.map (fun e => (e.1, e.2.counts)), hbm := s.wharf.hbm.map (fun e => (e.1, { e.2 with repairing := none, copying := none })),
               marginLost := s.wharf.marginLost },
    meas := { src := s.meas.src.map fun e => (e.1, keepSrc e.2) },
    audio := { streams := s.audio.streams.map (fun e => (e.1, keepAud e.2)), dst := s.audio.dst.map fun e => (e.1, { mutes := e.2.mutes, saturations := e.2.saturations }) },
    heads := s.heads.map (fun e => (e.1, keepHead e.2)), tow := { lanes := s.tow.lanes.map fun e => (e.1, keepLane e.2) }, twin := keepTwin s.twin,
    clocks := keepClocks true s.clocks, start := s.start, journal := keepNor true s.journal, log := s.log, faults := keepFaults true s.faults,
    keys := { keepOtp s.keys with sessions := s.keys.sessions, nextId := s.keys.nextId, version := s.keys.version, ide := s.keys.ide,
                                  orphanTandem := s.keys.orphanTandem, orphanIde := s.keys.orphanIde, orphanImage := s.keys.orphanImage },
    fw := { slots := keepSlots s.fw, running := s.fw.running, image := s.fw.image, hbmCopy := s.fw.hbmCopy }, pins := s.pins, hdm := s.hdm, freeCtr := s.freeCtr,
    pending := s.pending }

/-! ### Slots (R437, R494) -/

/-- A slot can be booted: VALID, and its device good. -/
def bootable (s : State) (k : Nat) : Bool := decide ((s.fwSlot k).st = 1) && (if k = 0 then s.journal.good0 else s.journal.good1)

/-- The boot slot: the bootable one with the larger BOOT_SEQ. -/
def bootSlot (s : State) : Nat :=
  if bootable s 1 ∧ (bootable s 0 = false ∨ (s.fwSlot 0).bootSeq < (s.fwSlot 1).bootSeq) then 1 else 0

/-! ### Beginning a start (R419, R420) -/

/-- A scuttle has run since the last start (R419). -/
def afterScuttle (s : State) : Bool := s.start.postScuttle || (decide (s.keys.programmed ≠ []) && (rootBank s).isNone)

/-- An attempt begins at step 1, where Slipway sets the XSPI outputs (R522, R523). -/
def beginAttempt (s : State) : State :=
  (s.onPins fun p => { p with xspiResetN := true, xspiSlew := 2 }).onStart fun r => { r with running := true, waiting := false, stepNo := 1, stepMs := [], attempts := r.attempts + 1 }

/-- A start begins, warm or cold, for a cause of R444. -/
def beginStart (warm : Bool) (cause : Nat) (s : State) : State :=
  let post := afterScuttle s
  let first := decide (s.keys.programmed = [])
  let w := warm && !post && !first
  let s1 := if w then warmReset (quitMbox s) else coldReset s
  let st : StartRt := { kind := if first then .first else if w then .warm else .cold, attempt := 1, slotB := decide (bootSlot s = 1), warm := w,
                        cause := if post then 5 else cause, postScuttle := post, hbmParams := w && s.start.hbmParams }
  beginAttempt { s1 with dev := if first then .firstStart else if w then .warmStart else .coldStart, start := st }

/-- The clocks as they run, their counts beginning again (R242). -/
def freshCounts (c : ClocksRt) : ClocksRt :=
  let z : ClocksRt := {}
  { c with switches := z.switches, holdovers := z.holdovers, trips := z.trips, abandoned := z.abandoned, forced := z.forced, gatedResp := z.gatedResp,
           entries := z.entries, throttleTicks := z.throttleTicks }

/-- A warm start goes on as cold (R420): the same attempt, image and training anew. -/
def becomeCold (s : State) : State :=
  let s1 := coldReset s
  { s1 with dev := .coldStart, start := { s.start with warm := false, becameCold := true, kind := .cold, cause := 4, hbmParams := false },
            keys := { s1.keys with vault := s.keys.vault, bank := s.keys.bank }, clocks := freshCounts s.clocks }

/-- The preconditions of a warm start hold (R420). -/
def warmHolds (f : StepFound) (s : State) : Bool :=
  s.clocks.railsUp && !s.clocks.railOut && s.start.hbmParams && f.paramsOk && f.copyOk && s.fw.hbmCopy && (decide (s.host.link ≠ .down) || !s.host.trained)

/-! ### The work of the steps (R421 to R424, R432) -/

/-- Step 3: the vault derives its keys; a first or post-scuttle start makes a root (R478, R491). -/
def stepVault (s : State) : State :=
  let new : Option Nat := if s.keys.programmed = [] then some 0 else if s.start.postScuttle ∧ !s.keys.programmed.contains 1 then some 1 else none
  let s1 := match new with
    | some b => s.onKeys fun k => { k with programmed := setAdd k.programmed b }
    | none => s
  s1.onKeys fun k => { k with lock := k.lock && !s.start.postScuttle, bank := rootBank s1, vault := (rootBank s1).isSome, latch := false, retired := k.retired || (rootBank s1).isNone }

/-- The image of a slot runs. -/
def runSlot (k : Nat) (s : State) : State := s.onFw fun f => { f with running := k, image := tget {} f.slots k }

/-- Step 4 of a first start: slot A holds the shipped image (R421). -/
def shipImage (s : State) : State :=
  if s.start.kind = .first ∧ (s.fwSlot 0).st ≠ 1 then onFwSlot 0 (fun _ => { headerOf Config.shippedHeader with st := 1 }) s else s

/-- A stack after its memory test (R211, R212): the rows that the journal lists are repaired, hard if the policy says so; a stack whose spare is used and
that has a further bad pseudo-channel is mapped over 30. -/
def testStack (s : State) (k : Nat) : State :=
  let rows := (s.journal.durable.repairRows.filter fun e => e.1 = k).map Prod.snd
  let hard := s.journal.durable.wharfPol.hardRepair
  s.onStack k fun x =>
    { hours := s.journal.durable.wharfPol.scrubHours, passStart := s.elapsed, used := max (max x.used (tget 0 s.journal.book.rows k)) rows.length, spareUsed := x.spareUsed || s.journal.book.spare.contains k, spared := x.spared,
      repaired := rows.foldl setAdd [], softRows := if hard then 0 else rows.length, hardRows := if hard then max x.hardRows rows.length else x.hardRows,
      activePcs := if x.unspared ≠ [] then 30 else x.activePcs }

/-- Pages that a pseudo-channel's 0.75 GB take from the margin (R191, R211). -/
def pcPages : Nat := pagesFor 750000000

/-- Step 7: HBM is cleared and tested. -/
def stepHbm (s : State) : State :=
  let s1 := (List.range 4).foldl testStack { s with hdm := [] }
  let lost := fun die => (((List.range 2).filter fun i => (s1.stack (die * 2 + i)).activePcs = 30).length) * pcPages
  ((s1.onHost fun h => { h with poison := [] }).onWharf fun w => { w with marginLost := tset 0 (tset 0 [] 0 (lost 0)) 1 (lost 1) }).onFw fun f =>
    { f with hbmCopy := true }

/-- A stream that the journal holds as LIVE is in service again, with an empty berth where it had one (R212). -/
def restoreStreamRt (s : State) (e : Nat × StreamObj) : State :=
  let x := e.2
  if x.st = .live ∨ x.st = .releasing then
    s.onStreamRt e.1 fun r => { r with effFormat := x.format, effPlane := x.plane }
  else s

/-- The berth of a stream whose frame synchroniser is enabled. -/
def restoreBerth (s : State) (e : Nat × FsyncObj) : State :=
  if e.2.enable ∧ berthable (s.stream e.1) then
    let old := s.berth e.1
    let s1 := s.onBerth e.1 fun _ => {}
    let n := berthPages s1 (s1.stream e.1) e.2.delay
    match berthDie s1 e.1 n with
    | some die => s1.onBerth e.1 fun _ => { old.counts with die := die, pages := n, slots := berthSlots s1 e.2.delay }
    | none => s1
  else s

/-- A head's part of the replay: its pending image is the active one, its Assay regions run. -/
def restoreHead (s : State) (e : Nat × HeadObj) : State :=
  let s1 := s.onHead e.1 fun r => { r with hallPend := e.2.hallActive, legacy := s.obj.trims.legacy }
  ((e.2.assay.filter fun a => a.2.mode ≠ 0).map Prod.fst).foldl (fun s r => startAssay e.1 r s) s1

/-- What the objects bring into service. -/
def restoreService (s : State) : State :=
  let s1 := s.obj.streams.foldl restoreStreamRt s
  let s2 := s1.obj.fsync.foldl restoreBerth (s1.onWharf fun w => { w with longChans := (s1.obj.chans.filter fun e => 12000 < e.2.delay).map Prod.fst })
  let layers := (s2.obj.routes.filter fun e => destRange e.1 = 2).filterMap fun e => e.2.source
  let s3 := layers.foldl (fun s h => (makePyramid h s).getD s) s2
  s3.obj.heads.foldl restoreHead s3

/-- Step 8: the journal is recovered and replayed; without a format, as at a first start, the rings are formatted and every object takes its first values. -/
def stepJournal (f : StepFound) (s : State) : State :=
  let s0 := if f.good0 then s else norFails 0 s
  let s1 := if f.good1 then s0 else norFails 1 s0
  let j := s1.journal
  let s2 := if j.formatted then
      let torn : Option Nat := if f.torn then some (j.torn.getD (j.seq + 1)) else j.torn
      let s3 := match torn with
        | some q => raise 0x0E88 1 0 (q % 2 ^ 32) (s1.onStart fun r => { r with torn := true })
        | none => s1
      { s3 with obj := j.durable, log := if torn.isSome ∨ j.unread then { j.book with unwarned := inc j.book.unwarned } else j.book }
    else { s1 with obj := {}, log := { tempMax := s1.log.tempMax },
                   journal := { j with durable := {}, places := [], seq := 0, cutSeq := 0, cutTick := 0, book := {}, records := [], formatted := true } }
  let s4 := s2.onLog fun l => if s2.start.kind = .warm then { l with warmStarts := inc l.warmStarts } else { l with coldStarts := inc l.coldStarts, cycles := inc l.cycles }
  let s5 := (retimeScrub s4.obj.trims.eco s4).onJournal fun j => { j with torn := none, unread := false, final := false, noWrite := false, interval := s4.obj.journalPol.baseMs, seen := s4.obj }
  let view := s5.journal.records.foldl (fun (a : Nat × State) b => (a.1 + 4096, a.2.hdmWrite a.1 b)) (0x10001000, s5.hdmWrite 0x10000000 (logBytes s5.journal.book s5.journal.erases))
  restoreService view.2

/-- Step 10: every lane that is not disabled goes to DETECT, warm at a warm start (R346, R352); step 11: the Tandem lanes. -/
def stepLanes (lanes : List Nat) (s : State) : State :=
  (lanes.filter fun l => (s.lanePol l).disabled = false).foldl (fun s l =>
    let t := s.onLane l fun x => { x with coldNext := !s.start.warm }
    toDetect l 0 t) s

/-- The pounds of a die that passed carry its slices, in their order; the ninth is the spare (R183, R423). [DEDUCED, log 50] -/
def poundsFrom (pass : List Nat) : PoundRt :=
  { traffic := (List.range 8).map (fun i => pass.getD (i % max 1 pass.length) 0), spare := if 9 ≤ pass.length then pass[8]? else none,
    retired := (List.range 9).filter fun p => !pass.contains p }

/-- Step 12: pound self-test, what is retired staying so through a warm start (R184), and at a cold start the Assay check of the heads. -/
def stepSelfTest (f : StepFound) (s : State) : State :=
  let pass := fun die => (List.range 9).filter fun p => f.padsOk.contains (die * 9 + p)
  let kept := fun (p : PoundRt) die => (pass die).filter fun n => !(s.start.warm && p.retired.contains n)
  let s1 := (List.range 2).foldl (fun s die => s.onPounds die fun p =>
    { poundsFrom (kept p die) with failed := s.start.warm && p.failed, rotAt := s.elapsed }) s
  if s.start.warm then s1 else f.headsBad.foldl (fun s h => if h < 32 then s.onHead h fun r => { r with retired := true } else s) s1

/-- A die has a pound that passed. -/
def dieHasPound (f : StepFound) (die : Nat) : Bool := (List.range 9).any fun p => f.padsOk.contains (die * 9 + p)

/-- T, E and the frequency correction of a start (R103). [DEDUCED, log 95] -/
def startTime (f : StepFound) (s : State) : State :=
  let b := s.journal.book
  let x : Nat × Int × Int × Nat := match f.partner with
    | some (t, e, q) => (t, if s.start.warm then e else 0, if s.start.warm then q else 0, 0)
    | none => if b.checkpoints ≠ 0 ∧ b.calSource ≠ 2 then (b.calendar * 48000 + b.calTicks, 0, 0, 1) else (0, 0, 0, 2)
  raise 0x0384 0 x.2.2.2 0 (s.onTime fun t => { t with tick := x.1, e := x.2.1, freq := x.2.2.1, source := x.2.2.2, running := true })

/-- A destination that the journal holds as routed is on the path that it would be cut to. [DEDUCED, log 92] -/
def restoreRoute (s : State) (e : Nat × RouteObj) : State :=
  match e.2.source with
  | none => s
  | some h =>
    let c := choosePath s e.1 (some h) s.obj.trims.syncAll
    s.onRouteRt e.1 fun r => { r with path := c.1, offset := c.2.1, via := c.2.2, inStep := decide (c.1 = .berth) || inStepWith s e.1 c.2.1, everRouted := true }

/-- Step 13: the grant is sampled; role, time, grids and routes follow (R103, R364, R424). [DEDUCED, log 92] -/
def stepState (f : StepFound) (s : State) : State :=
  let helm := !s.pins.grantN
  let s1 := (startTime f s).onStart fun r => { r with fromTwin := !helm }
  let s2 := s1.onTwin fun t => { t with helm := helm, grant := helm, st := if helm then (if tandemDown s then .alone else .paired) else .resyncing, roleTick := s1.now }
  let s3 := (placePlanes s2).onTime fun t =>
    { t with tmState := if helm then .freeRun else .coasting, planes := t.planes.map fun e => (e.1, { e.2 with latSync := s.obj.trims.syncAll }) }
  let s4 := (List.range 10).foldl (fun s r => if (s.refObj r).enable then s.onSlot r (freshSlot s) else s) s3
  refadeAll (s4.obj.routes.foldl restoreRoute s4)

/-- The event rings after a start's reset. -/
def resetEventRings (s : State) : State :=
  (List.range 4).foldl (fun s r =>
    let t := s.onRing r fun q => { irq := { known := q.irq.known, vector := q.irq.vector, n := q.irq.n, m := q.irq.m } }
    (t.hdmWrite (ringBase r) (toLe 4 0)).hdmWrite (ringBase r + 0x80) (toLe 4 0)) s

/-- Step 14: the rings are reset, DEVICE_STATE becomes READY, and the start's events are raised (R446, R466). [DEDUCED, log 92] -/
def stepReady (s : State) : State :=
  let held := s.start.events
  let s1 := if s.start.kind = .warm then resetAllRings s else resetEventRings (resetAllRings s)
  let s2 := ({ s1 with dev := if s.twin.helm then .readyHelm else .readyStandby }).onStart fun r => { r with running := false, stepNo := 14, events := [], readyTick := s.now }
  let s3 := held.foldl (fun (s : State) e => s.onMbox fun m => { m with tickEvents := mergeEvent { e with tick := s.now % 2 ^ 48 } m.tickEvents }) s2
  let s4 := if s3.start.fellBack then raise 0x0E83 2 (bit s3.start.slotB) 0 s3 else s3
  let s5 := if s4.faults.first.valid then raise 0x0F83 3 s4.faults.first.code (s4.faults.first.cls + 256 * s4.faults.first.overflow) s4 else s4
  let s6 := raise 0x0E81 1 s5.start.kind.code s5.start.startMs s5
  driveHealth (((if s6.twin.helm then s6 else beginResync s6).onFaults fun f => { f with alive := 1 }).onClocks fun c => { c with railOut := false })

/-! ### Steps in turn (R421, R425) -/

/-- An attempt fails: 100 ms later the next may begin (R425). -/
def failAttempt (s : State) : State :=
  let n := s.start.stepNo
  ((lanesOff (raise 0x0E82 2 n (s.start.attempt + 256 * bit s.start.slotB) s)).onKeys fun k => { k with latch := false }).onStart fun r =>
    { r with running := false, waiting := true, failedStep := n }

/-- The slot of this attempt is abandoned at once: its image fails verification (R425). -/
def abandonSlot (s : State) : State := failAttempt (s.onStart fun r => { r with tried := setAdd r.tried (bit r.slotB) })

/-- Record a step's duration and go to the step after it that the start runs: a warm start skips 6, 7 and 9. -/
def nextStep (s : State) : State :=
  let n := s.start.stepNo + 1
  let m := if s.start.warm then (if n = 6 then 8 else if n = 9 then 10 else n) else n
  let s1 := s.onStart fun r => { r with stepNo := m }
  if m = 3 then s1.onKeys fun k => { k with latch := true }
  else if m = 10 then stepLanes (List.range 128) s1
  else if m = 11 then stepLanes [128, 129] s1
  else s1

/-- Step 4: the slot is judged and its image runs (R421, R494). -/
def stepImage (f : StepFound) (s0 : State) : State :=
  let s := shipImage s0
  let k := bit s.start.slotB
  if s.start.warm then (if warmHolds f s then nextStep (runSlot (bootSlot s) s) else becomeCold s)
  else if !bootable s k ∨ (s.fwSlot k).security < s.keys.secCounter ∨ f.imageCause ≠ 0 then abandonSlot s
  else nextStep (runSlot k s)

/-- The work of the running step is done. -/
def doStep (f : StepFound) (s : State) : State :=
  let n := s.start.stepNo
  if n = 2 then (if s.clocks.rooted then nextStep (releaseDividers s) else failAttempt s)
  else if n = 3 then
    let s1 := stepVault s
    if s1.keys.retired ∨ s.start.postScuttle then enterDock 3 (s1.onStart fun r => { r with postScuttle := false }) else nextStep s1
  else if n = 4 then stepImage f s
  else if n = 6 then nextStep (s.onStart fun r => { r with hbmParams := true })
  else if n = 7 then nextStep (stepHbm s)
  else if n = 8 then nextStep (stepJournal f s)
  else if n = 12 then (if dieHasPound f 0 ∧ dieHasPound f 1 then nextStep (stepSelfTest f s) else failAttempt s)
  else if n = 13 then nextStep (stepState f s)
  else if n = 14 then stepReady s
  else nextStep s

/-- A step's time is in the record of the start (R444). -/
def clockStep (ms : Nat) (s : State) : State :=
  s.onStart fun r => { r with stepMs := tset 0 r.stepMs r.stepNo ms, startMs := satAdd 32 r.startMs ms }

/-- The bound of the running step in ms (R421): a first start's key generation adds 1,500 ms to step 3. -/
def stepBound (s : State) : Nat :=
  let n := s.start.stepNo
  let warm := s.start.warm
  if n = 1 then 20 else if n = 2 then 50 else if n = 3 then (if s.start.kind = .first then 1530 else 30)
  else if n = 4 then (if warm then 150 else 400) else if n = 5 then 150 else if n = 6 then 700 else if n = 7 then 3000
  else if n = 8 then (if warm then 500 else 600) else if n = 9 then 1000 else if n = 10 then (if warm then 10 else 150)
  else if n = 11 then (if warm then 110 else 2000) else if n = 12 then (if warm then 150 else 500) else if n = 13 then (if warm then 20 else 300) else 10

/-- START_STEP_TIMEOUT: steps 9 and 11 end at their bound, any other fails the attempt. -/
def stepTimeout (ms : Nat) (s : State) : State :=
  if !s.start.running then s
  else if s.start.stepNo = 9 ∨ s.start.stepNo = 11 then nextStep (clockStep ms s)
  else failAttempt (clockStep ms s)

/-- START_STEP_COMPLETE: a step that takes longer than its bound exceeds it (R421). [DESIGN CHOICE, log 8, 108] [DEDUCED, log 92] -/
def stepComplete (ms : Nat) (f : StepFound) (s : State) : State :=
  if !s.start.running then s
  else if stepBound s < ms then stepTimeout (stepBound s) s
  else if f.ok then doStep f (clockStep ms s) else failAttempt (clockStep ms s)

/-- START_RETRY (R425): three attempts on each slot, then Dry Dock; after a failed warm attempt every later one is cold. -/
def startRetry (s : State) : State :=
  if !s.start.waiting then s
  else
    let k := bit s.start.slotB
    let more := s.start.attempt < 3 ∧ !s.start.tried.contains k
    let s1 := coldReset (s.onStart fun r => { r with tried := if s.start.attempt < 3 then r.tried else setAdd r.tried k, startMs := satAdd 32 r.startMs 100, hbmParams := false })
    let s2 := if s.start.warm then { s1 with dev := .coldStart, start := { s1.start with warm := false, becameCold := true, kind := .cold, cause := 4 } } else s1
    if more then beginAttempt (s2.onStart fun r => { r with attempt := r.attempt + 1 })
    else if !s2.start.tried.contains (1 - k) then beginAttempt (s2.onStart fun r => { r with attempt := 1, slotB := !r.slotB, fellBack := true })
    else enterDock 1 s2

/-! ### Power (R411, R412, R419, R427 to R430) -/

/-- POWER_ON: the rails come up with VDD_AO (R419); nothing happens to a chip whose dies already run. [DESIGN CHOICE, log 8] -/
def powerOn (s : State) : State :=
  if s.dev ≠ .off then s
  else
    let cause := if s.start.cause = 3 then 3 else 0
    beginStart false cause (s.onClocks fun c => { c with railsUp := true, aoUp := true, lowRails := [] })

/-- What power leaves: OTP, NOR, the levels at the pins, and what the model itself keeps. -/
def powerDown (ao : Bool) (s : State) : State :=
  let c := coldReset s
  let k := c.keys
  { c with dev := .off, hdm := [], host := { linkLost := true }, mbox := if ao then c.mbox else { nextJob := s.mbox.nextJob },
           clocks := { aoUp := ao && s.clocks.aoUp, aoAge := if ao then s.clocks.aoAge else 0 },
           start := { postScuttle := afterScuttle s, cause := if ao then 3 else 0 },
           faults := if ao then { first := s.faults.first } else {},
           journal := { c.journal with unread := c.journal.unread || ((s.serving || decide (s.dev = .fatalD ∨ s.dev = .fatalS)) && !s.journal.final) },
           keys := { k with tamperPin := if ao then k.tamperPin else [], killing := if ao then k.killing else none },
           pins := { grantN := s.pins.grantN, pwrFailN := s.pins.pwrFailN } }

/-- POWER_LOSS (R430). [DEDUCED, log 93] -/
def powerLoss (s : State) : State := powerDown false s

/-- SUPPLY_RESET (R412): VDD_CORE, VDD_SRAM or VDD_AO below −8 %; the always-on island records it while VDD_AO is above 0.70 V. -/
def supplyReset (m mv : Nat) (s : State) : State :=
  if s.dev = .off ∨ nominalMv m * 92 ≤ mv * 100 ∨ ¬(m < 4 ∨ m = 7) then s
  else
    let keep := decide (m ≠ 7) || decide (700 < mv)
    powerDown keep (if keep then captureFirst 0x0901 3 mv (decide (m = 1 ∨ m = 3)) false s else s)

/-- The last record, the final commit and the logbook record of a stop (R427, R442). [DEDUCED, log 93] -/
def stopCommit (s : State) : State :=
  let s1 := sendRecord false (s.now + 7) s
  checkpoint (if s.journal.writes then cutNow .final s1 else s1)

/-- PWR_FAIL_ASSERTED (R427). [DEDUCED, log 93] -/
def pwrFailAsserted (s : State) : State :=
  let s1 := s.onPins fun p => { p with pwrFailN := false }
  if !s.serving ∨ s.start.powerFail then s1
  else
    let s2 := driveHealth ((s1.onStart fun r => { r with powerFail := true }).onLog fun l => { l with warned := inc l.warned })
    let s3 := if s.host.link = .down then s2 else raise 0x0E84 3 0 (pendingBytes s) s2
    let s4 := if s.fw.phase = .writing then
        raise 0x1182 2 s.fw.source.code 0 (dropSession (match s.fw.job with
          | some id => finish id .state 0xFFFF s3
          | none => s3))
      else s3
    stopCommit s4

/-- PWR_FAIL_WITHDRAWN (R429): withdrawn for 10 ms, the chip resumes admission. [DEDUCED, log 93] -/
def pwrFailWithdrawn (s : State) : State :=
  let s1 := s.onPins fun p => { p with pwrFailN := true }
  if s.start.powerFail then driveHealth (s1.onStart fun r => { r with powerFail := false }) else s1

/-! ### RESTART and the reset from FATAL_D (R415, R442, R461) -/

/-- RESTART (R442). -/
def restartInfo : CmdInfo := { opcode := 0x0E01, length := fun _ => 8 }

/-- The effect of RESTART: what precedes the start; the start itself follows. [DEDUCED, log 103] -/
def restart (c : Cmd) (s : State) : Res :=
  if 1 < c.u8 0 then rej .range 0x20 s
  else if s.fw.phase = .checking ∨ s.fw.phase = .writing then rej .busy 0 s
  else if s.twin.helm ∧ s.twin.st = .alone ∧ bitOf (c.u8 1) 0 = false then rej .state 0x21 s
  else ok (stopCommit (driveHealth (s.onStart fun r => { r with restart := some (decide (c.u8 0 = 0)) })))

/-- RESTART_START: the commit is durable and the wait for the grant is over. [DEDUCED, log 105] -/
def restartStart (s : State) : State :=
  match s.start.restart with
  | some warm => if s.journal.writing = [] ∧ s.dev.ready then beginStart warm 1 s else s
  | none => s

/-- AUTO_RESET (R415, R461): after the wait, at once or once the chip has cooled. [DEDUCED, log 97] -/
def autoReset (s : State) : State :=
  if s.dev ≠ .fatalD ∨ s.faults.waited < msTicks s.faults.waitMs then s
  else if s.faults.thermal ∧ 10 * (s.obj.powerPol.throttleC : Int) - 50 ≤ hottest s.clocks.temps then s.onFaults fun f => { f with waited := 0 }
  else beginStart true 2 s

/-! ### The meanings -/

/-- RESTART. -/
def execRestart (c : Cmd) (s : State) : Answer := answer (runCmd restartInfo restart c s)

/-- RESTART_START (R442). -/
def execRestartStart (s : State) : Answer := answer (restartStart s)

/-- POWER_ON (R419). -/
def execPowerOn (s : State) : Answer := answer (powerOn s)

/-- POWER_LOSS (R430). -/
def execPowerLoss (s : State) : Answer := answer (powerLoss s)

/-- SUPPLY_RESET (R412). -/
def execSupplyReset (monitor millivolts : Nat) (s : State) : Answer := answer (supplyReset monitor millivolts s)

/-- PWR_FAIL_ASSERTED (R427). -/
def execPwrFailAsserted (s : State) : Answer := answer (pwrFailAsserted s)

/-- PWR_FAIL_WITHDRAWN (R429). -/
def execPwrFailWithdrawn (s : State) : Answer := answer (pwrFailWithdrawn s)

/-- AUTO_RESET (R461). -/
def execAutoReset (s : State) : Answer := answer (autoReset s)

/-- START_STEP_COMPLETE (R421). -/
def execStartStepComplete (ms : Nat) (found : StepFound) (s : State) : Answer := answer (stepComplete ms found s)

/-- START_STEP_TIMEOUT (R421). -/
def execStartStepTimeout (ms : Nat) (s : State) : Answer := answer (stepTimeout ms s)

/-- START_RETRY (R425). -/
def execStartRetry (s : State) : Answer := answer (startRetry s)

end Sys2Proof.Machine
end

