-- ==== Sys2Proof/Machine/Dock.lean ====
section
/-! DEFINITION.  Dry Dock's commands on channel 0, the management interface and the test access port
(spec/16_keys_tamper_firmware.md, R505 and R514; spec/17_pins_package_electrical.md, R530 and R531). -/

namespace Sys2Proof.Machine
open Sys2Proof

/-! ### Channel 0 (R63) -/

/-- A Dry Dock command runs on channel 0 (R63): BUSY until it is final; DD_RESTART is followed by the cold start that it asks for. -/
def dockRun (i : CmdInfo) (body : Cmd → State → Res) (c : Cmd) (s : State) : State :=
  let r := judge i body c s
  if r.status = .queued then r.s.onHost fun h => { h with ddCmd := some (i.opcode, c) }
  else
    let t := complete 0 c.tag i.opcode c.session false r.status s.now 0 0 r.detail r.s
    if i.opcode = 0x0005 ∧ r.status = .done then beginStart false 1 t else t

/-- Commit a Dry Dock command to channel 0 (R63). -/
def runDock (i : CmdInfo) (body : Cmd → State → Res) (c : Cmd) (s : State) : State := commitDock i.opcode c (dockRun i body) s

/-- Only DD_STATUS is accepted outside DRY_DOCK (R505). -/
def inDock (s : State) (f : State → Res) : Res := if s.dev = .dryDock then f s else rej .state 0xFFFF s

/-! ### Ranges received -/

/-- Add the range from `a` up to `b` to rising, disjoint ranges. -/
def addRange (a b : Nat) : List (Nat × Nat) → List (Nat × Nat)
  | [] => [(a, b)]
  | (x, y) :: r =>
    if b < x then (a, b) :: (x, y) :: r
    else if y < a then (x, y) :: addRange a b r
    else addRange (min a x) (max b y) r

/-- Bytes received. -/
def ddCount (s : State) : Nat := (s.fw.ddHave.map fun e => e.2 - e.1).sum

/-- The whole image is here. [DEDUCED, log 105] -/
def ddComplete (s : State) : Bool := decide (s.fw.ddLength ≠ 0) && decide (ddCount s = s.fw.ddLength)

/-! ### The commands (R514) -/

/-- DD_STATUS. -/
def ddStatusInfo : CmdInfo := { opcode := 0x0001, readOnly := true }

/-- The effect of DD_STATUS. -/
def ddStatus (_ : Cmd) (s : State) : Res :=
  okWith (s.dev.code + 16 * s.start.dockReason + 256 * (s.keys.bank.getD 0) + 512 * bit s.keys.retired + 1024 * bit (ddComplete s) +
    2048 * bit (s.fw.ddTrained && decide (s.dev = .dryDock)) + 65536 * (ddCount s % 2 ^ 32)) s

/-- DD_BEGIN. -/
def ddBeginInfo : CmdInfo := { opcode := 0x0002, dock := true, length := fun _ => 8 }

/-- The effect of DD_BEGIN. -/
def ddBegin (c : Cmd) (s : State) : Res :=
  inDock s fun s =>
    if 2 < c.u8 4 then rej .range 0x24 s
    else ok (s.onFw fun f => { f with ddLength := c.u32 0, ddSlots := c.u8 4, ddHave := [], ddBytes := [] })

/-- DD_CHUNK: its payload is as long as COUNT says. -/
def ddChunkInfo : CmdInfo := { opcode := 0x0003, dock := true, length := fun c => 8 + c.u32 4 }

/-- The effect of DD_CHUNK. -/
def ddChunk (c : Cmd) (s : State) : Res :=
  inDock s fun s =>
    let a := c.u32 0
    let n := c.u32 4
    if n = 0 ∨ 4088 < n ∨ s.fw.ddLength < a + n then rej .range 0x24 s
    else ok (s.onFw fun f => { f with ddHave := addRange a (a + n) f.ddHave, ddBytes := memWrite f.ddBytes a (c.bytes 8 n) })

/-- DD_FINISH. -/
def ddFinishInfo : CmdInfo := { opcode := 0x0004, dock := true }

/-- The effect of DD_FINISH: the check begins, BUSY set until the slots are written. [DEDUCED, log 105] -/
def ddFinish (_ : Cmd) (s : State) : Res :=
  inDock s fun s =>
    if s.keys.retired ∨ s.keys.bank.isNone ∨ ddComplete s = false then rej .state 0xFFFF s
    else queued .stageImage (s.onFw fun f =>
      { f with source := .dryDock, phase := .checking, target := if f.ddSlots = 1 then 1 else 0, both := decide (f.ddSlots = 2), job := none, hash := none })

/-- DD_RESTART. -/
def ddRestartInfo : CmdInfo := { opcode := 0x0005, dock := true }

/-- The effect of DD_RESTART: the cold start follows its completion. -/
def ddRestart (_ : Cmd) (s : State) : Res := inDock s ok

/-- A commit while BUSY is ignored and sets OVERRUN (R63). -/
def commitWhileBusy (s : State) : State := if s.host.ddBusy then s.onHost fun h => { h with ddOverrun := true } else s

/-! ### Management (R530) -/

/-- The interface is served: from the end of step 1 of a start, and in every later state. -/
def mgmtUp (s : State) : Bool := decide (s.dev ≠ .off) && !(s.dev.starting && decide (s.start.stepNo < 2))

/-- The 16 bytes that the interface shows. -/
def mgmtBytes (s : State) : List Byte :=
  recordBytes 16 [(0, 2, 0x1152), (2, 1, 0xB0), (3, 1, deviceStateWord s), (4, 2, ofInt 16 (hottest s.clocks.temps)),
    (6, 2, if s.faults.first.valid then s.faults.first.code else 0), (8, 1, s.faults.alive), (9, 1, if s.dev.ready then roleByte s else 0xFF)]

/-- A write of one byte sets the offset; a longer one is acknowledged and discarded. [PRESUMED, log 106] -/
def mgmtWrite (data : List Byte) (s : State) : State :=
  match data with
  | [b] => if mgmtUp s then s.onPins fun p => { p with mgmtOffset := b.toNat % 16 } else s
  | _ => s

/-- A read of bytes from the offset on, which advances past each and wraps. [PRESUMED, log 106] -/
def mgmtRead (count : Nat) (s : State) : State :=
  if mgmtUp s then
    let o := s.pins.mgmtOffset
    s.onPins fun p => { p with mgmtData := (List.range count).map (fun i => (mgmtBytes s).getD ((o + i) % 16) 0#8), mgmtOffset := (o + count) % 16 }
  else s

/-! ### The test access port (R469, R531) -/

/-- The instructions of the port that the model tells apart. [PRESUMED, log 106] -/
def tapBypass : Nat := 1

/-- EXTEST is in force. -/
def tapExtest : Nat := 2

/-- The private instruction of R469 is in force. -/
def tapInject : Nat := 3

/-- IDCODE (R531): stepping B0, part 0x1152, manufacturer 0x3E1. -/
def idcode : Nat := 0xB * 2 ^ 28 + 0x1152 * 2 ^ 12 + 0x3E1 * 2 + 1

/-- TRST_N low, or five cycles with TMS high. -/
def tapReset (s : State) : State := s.onPins fun p => { p with tap := 0, tapReg := idcode }

/-- The states in which EXTEST may take the pins. -/
def extestOk (s : State) : Bool := decide (s.dev = .off ∨ s.dev = .dryDock ∨ s.dev = .fatalD) || !s.pins.perstN

/-- EXTEST, or its refusal: BYPASS is loaded, and a TARGET_ERROR against the debug master recorded. [PRESUMED, log 106] -/
def extest (s : State) : State :=
  if extestOk s then s.onPins fun p => { p with tap := tapExtest }
  else report { code := 0x0503, subject := 6 } (s.onPins fun p => { p with tap := tapBypass, tapReg := 0 })

/-- Fault injection through the port, while debug access is unlocked (R469): armed as INJECT_FAULT arms it, with no command waiting. -/
def jtagInject (kind : Nat) (west : Bool) (inst bits count timeoutMs : Nat) (s : State) : State :=
  if s.dev = .off ∨ s.keys.debug = false ∨ !injectable kind ∨ instanceLimit kind ≤ inst ∨ ¬(bits = 1 ∨ bits = 2) ∨ ¬(1 ≤ count ∧ count ≤ 255) ∨
      ¬(1 ≤ timeoutMs ∧ timeoutMs ≤ 60000) ∨ injectionArmed kind inst west s then s
  else (s.onPins fun p => { p with tap := tapInject }).onFaults fun f => { f with injects := f.injects ++
    [{ kind := kind, west := west, inst := inst, bits := bits, left := count, done := 0, ticks := msTicks timeoutMs, job := 0 }] }

/-! ### The meanings -/

/-- DD_STATUS. -/
def execDdStatus (c : Cmd) (s : State) : Answer := answer (runDock ddStatusInfo ddStatus c s)

/-- DD_BEGIN. -/
def execDdBegin (c : Cmd) (s : State) : Answer := answer (runDock ddBeginInfo ddBegin c s)

/-- DD_CHUNK. -/
def execDdChunk (c : Cmd) (s : State) : Answer := answer (runDock ddChunkInfo ddChunk c s)

/-- DD_FINISH. -/
def execDdFinish (c : Cmd) (s : State) : Answer := answer (runDock ddFinishInfo ddFinish c s)

/-- DD_RESTART. -/
def execDdRestart (c : Cmd) (s : State) : Answer := answer (runDock ddRestartInfo ddRestart c s)

/-- DD_COMMIT_WHILE_BUSY (R63). -/
def execDdCommitWhileBusy (s : State) : Answer := answer (commitWhileBusy s)

/-- MGMT_WRITE (R530). -/
def execMgmtWrite (data : List Byte) (s : State) : Answer := answer (mgmtWrite data s)

/-- MGMT_READ (R530). -/
def execMgmtRead (count : Nat) (s : State) : Answer := answer (mgmtRead count s)

/-- JTAG_TAP_RESET (R531). -/
def execJtagTapReset (s : State) : Answer := answer (tapReset s)

/-- JTAG_EXTEST (R531). -/
def execJtagExtest (s : State) : Answer := answer (extest s)

/-- JTAG_INJECT (R469). -/
def execJtagInject (kind : Nat) (west : Bool) (inst bits count timeoutMs : Nat) (s : State) : Answer :=
  answer (jtagInject kind west inst bits count timeoutMs s)

end Sys2Proof.Machine
end

