-- ==== Sys2Proof/Machine/Host.lean ====
section
/-! DEFINITION.  What the host does to the chip's registers and to HDM, the commands by their opcodes, and the release of a
command held for its tick (spec/03_mailboxes_and_cxl.md). -/

namespace Sys2Proof.Machine
open Sys2Proof

/-! ### The commands by their opcodes (R100) -/

/-- Range 0x00, which no channel but channel 0 accepts (R67). [DEDUCED, log 21] -/
def commands00 : List (CmdInfo × (Cmd → State → Res)) :=
  [(ddStatusInfo, ddStatus), (ddBeginInfo, ddBegin), (ddChunkInfo, ddChunk), (ddFinishInfo, ddFinish), (ddRestartInfo, ddRestart)]

/-- The commands of opcode range 0x01. -/
def commands01 : List (CmdInfo × (Cmd → State → Res)) :=
  [(identifyInfo, identify),
   (openSessionInfo, openSession),
   (closeSessionInfo, closeSession),
   (setInterruptsInfo, setInterrupts),
   (setChannelCeilingInfo, setChannelCeiling),
   (setNotifyInfo, setNotify),
   (setTrimInfo, setTrim),
   (keepaliveInfo, keepalive)]

/-- The commands of opcode range 0x02. -/
def commands02 : List (CmdInfo × (Cmd → State → Res)) :=
  [(defineStreamInfo, defineStream),
   (releaseStreamInfo, releaseStream),
   (setManifestInfo, setManifest)]

/-- The commands of opcode range 0x03. -/
def commands03 : List (CmdInfo × (Cmd → State → Res)) :=
  [(setPlaneInfo, setPlane),
   (readTimingInfo, readTiming)]

/-- The commands of opcode range 0x04. -/
def commands04 : List (CmdInfo × (Cmd → State → Res)) :=
  [(setReferenceInfo, setReference),
   (setSelectionPolicyInfo, setSelectionPolicy),
   (readReferencesInfo, readReferences)]

/-- The commands of opcode range 0x05. -/
def commands05 : List (CmdInfo × (Cmd → State → Res)) :=
  [(takeInfo, take),
   (salvoInfo, salvo),
   (cancelInfo, cancel),
   (lockDestinationInfo, lockDestination),
   (setGeneratorInfo, setGenerator),
   (readRoutesInfo, readRoutes)]

/-- The commands of opcode range 0x06. -/
def commands06 : List (CmdInfo × (Cmd → State → Res)) :=
  [(setFrameSyncInfo, setFrameSync),
   (readBerthsInfo, readBerths),
   (readWharfInfo, readWharf),
   (setWharfPolicyInfo, setWharfPolicy)]

/-- The commands of opcode range 0x07. -/
def commands07 : List (CmdInfo × (Cmd → State → Res)) :=
  [(setDestinationFormInfo, setDestinationForm),
   (setAncDestinationInfo, setAncDestination)]

/-- The commands of opcode range 0x08. -/
def commands08 : List (CmdInfo × (Cmd → State → Res)) :=
  [(setDetectorsInfo, setDetectors),
   (setLoudnessGroupInfo, setLoudnessGroup)]

/-- The commands of opcode range 0x09. -/
def commands09 : List (CmdInfo × (Cmd → State → Res)) :=
  [(setChannelGainInfo, setChannelGain),
   (setChannelDelayInfo, setChannelDelay),
   (setMixInfo, setMix),
   (setChannelOptionsInfo, setChannelOptions),
   (readAudioSourcesInfo, readAudioSources)]

/-- The commands of opcode range 0x0A. -/
def commands0A : List (CmdInfo × (Cmd → State → Res)) :=
  [(setHeadInfo, setHead),
   (setLayerInfo, setLayer),
   (setCoefficientsInfo, setCoefficients),
   (setLutInfo, setLut),
   (setAssayInfo, setAssay),
   (writeHallmarkInfo, writeHallmark),
   (setHallmarkRegionInfo, setHallmarkRegion),
   (readHeadInfo, readHead),
   (commitHeadInfo, commitHead)]

/-- The commands of opcode range 0x0B. -/
def commands0B : List (CmdInfo × (Cmd → State → Res)) :=
  [(laneControlInfo, laneControl),
   (setLanePolicyInfo, setLanePolicy)]

/-- The commands of opcode range 0x0C. -/
def commands0C : List (CmdInfo × (Cmd → State → Res)) :=
  [(readTwinInfo, readTwin),
   (setTwinPolicyInfo, setTwinPolicy),
   (resyncInfo, resync),
   (yieldHelmInfo, yieldHelm)]

/-- The commands of opcode range 0x0D. -/
def commands0D : List (CmdInfo × (Cmd → State → Res)) :=
  [(readClocksInfo, readClocks),
   (setPowerPolicyInfo, setPowerPolicy)]

/-- The commands of opcode range 0x0E. -/
def commands0E : List (CmdInfo × (Cmd → State → Res)) :=
  [(restartInfo, restart),
   (readStartsInfo, readStarts),
   (readLogbookInfo, readLogbook),
   (setJournalPolicyInfo, setJournalPolicy)]

/-- The commands of opcode range 0x0F. -/
def commands0F : List (CmdInfo × (Cmd → State → Res)) :=
  [(readFaultsInfo, readFaults),
   (setFaultPolicyInfo, setFaultPolicy),
   (injectFaultInfo, injectFault),
   (clearFirstFaultInfo, clearFirstFault)]

/-- The commands of opcode range 0x10. -/
def commands10 : List (CmdInfo × (Cmd → State → Res)) :=
  [(attestInfo, attest),
   (installKeyInfo, installKey),
   (swapKeyInfo, swapKey),
   (invalidateKeyInfo, invalidateKey),
   (readKeysInfo, readKeys),
   (scuttleInfo, scuttleCmd)]

/-- The commands of opcode range 0x11. -/
def commands11 : List (CmdInfo × (Cmd → State → Res)) :=
  [(stageImageInfo, stageImage),
   (setFollowListInfo, setFollowList),
   (handoverInfo, handover),
   (commitImageInfo, commitImage),
   (revertInfo, revert),
   (abortUpdateInfo, abortUpdate),
   (readFirmwareInfo, readFirmware)]

/-- Every command of the opcode index (R100) that channels 1 to 63 take, with its effect. -/
def commands : List (CmdInfo × (Cmd → State → Res)) :=
  commands00 ++ commands01 ++ commands02 ++ commands03 ++ commands04 ++ commands05 ++ commands06 ++ commands07 ++ commands08 ++ commands09 ++ commands0A ++ commands0B ++ commands0C ++ commands0D ++ commands0E ++ commands0F ++ commands10 ++ commands11

/-- The record of an opcode, at the head of its channel's ring: admitted, held, or left where it stands. [DESIGN CHOICE, log 9] -/
def runOpcode (opcode : Nat) (c : Cmd) (s : State) : State :=
  match commands.find? fun e => e.1.opcode = opcode with
  | some e => runCmd e.1 e.2 c s
  | none => runUnknown opcode c s

/-- A command of channel 0 runs, by its opcode (R63, R67). [DEDUCED, log 21] -/
def dockNow (opcode : Nat) (c : Cmd) (s : State) : State :=
  match commands00.find? fun e => e.1.opcode = opcode with
  | some e => dockRun e.1 e.2 c s
  | none => match commands.find? fun e => e.1.opcode = opcode with
    | some e => strayRun e.1 c s
    | none => unknownDock opcode c s

/-- The command held on a channel reaches its target tick (R76): it is admitted, and its channel is released.  It stays where
the channel cannot take it in this tick. -/
def releaseHeld (ch : Nat) (s : State) : State :=
  match (s.chan ch).held with
  | none => s
  | some (op, c) =>
    let s1 := s.onChan ch fun k => { k with held := none }
    if ch = 0 then (if s.now < c.targetTick then s else dockNow op c s1)
    else if s.now < c.targetTick ∨ gate c s1 = false then s else armGate s (runOpcode op c s1)

/-! ### Registers (R60, R62) -/

/-- The command that the staging registers hold (R62, R63, R78). -/
def stagedCmd (s : State) : Nat × Cmd :=
  let f := fun a n => leNat (memRead s.host.ddHeader a n)
  (f 0 2, { ch := 0, tag := f 2 2, session := f 4 2, flags := f 6 2, expectedGen := f 8 4, targetTick := f 0x10 8, length := f 0x18 4,
            payload := memRead s.host.ddPayload 0 (min (f 0x18 4) 4096) })

/-- A write of 1 to DD_COMMIT: header and payload as they are staged now become the executing command (R63). -/
def commitStaged (s : State) : State := commitDock (stagedCmd s).1 (stagedCmd s).2 (dockNow (stagedCmd s).1) s

/-- A write to BAR0: SCRATCH, the Dry Dock staging, DD_COMMIT, the doorbells and the MSI-X table take it, any other offset ignores
it.  Only aligned accesses of 4 and 8 bytes are supported (R62). [DEDUCED, log 23] -/
def bar0Write (off : Nat) (data : List Byte) (s : State) : State :=
  let n := data.length
  if (n ≠ 4 ∧ n ≠ 8) ∨ off % n ≠ 0 then s
  else if 0x0080 ≤ off ∧ off < 0x0088 then
    s.onHost fun h => { h with scratch := leNat (memRead (memWrite (memWrite [] 0 (toLe 8 h.scratch)) (off - 0x80) data) 0 8) }
  else if 0x0800 ≤ off ∧ off < 0x0820 then s.onHost fun h => { h with ddHeader := memWrite h.ddHeader (off - 0x800) data }
  else if off = 0x0840 then (if leNat data % 2 = 1 then commitStaged s else s)
  else if 0x0100 ≤ off ∧ off < 0x0300 ∧ off % 8 = 0 then doorbell ((off - 0x100) / 8) (leNat (data.take 2)) s
  else if 0x1000 ≤ off ∧ off < 0x2000 then s.onHost fun h => { h with ddPayload := memWrite h.ddPayload (off - 0x1000) data }
  else if 0x2000 ≤ off ∧ off < 0x2400 then sendUnmasked (msixWrite s (off - 0x2000) data)
  else s

/-- A write to a register space.  Configuration space and the component registers of BAR2 are held as written. [DEDUCED, log 23] -/
def registerWrite (space : RegSpace) (off : Nat) (data : List Byte) (s : State) : State :=
  if s.host.link = .down ∨ s.dev = .off then s
  else match space with
    | .bar0 => bar0Write off data (useIde s)
    | .bar2 => (useIde s).onHost fun h => { h with bar2 := memWrite h.bar2 (off % 65536) data }
    | .config => (useIde s).onHost fun h => { h with config := memWrite h.config (off % 4096) data }

/-! ### HDM (R56, R61, R64, R209, R307) -/

/-- The words of 32 bytes that an access of `n` bytes at `a` writes whole. [DEDUCED, log 23] -/
def wholeWord (a n w : Nat) : Bool := decide (a ≤ 32 * w) && decide (32 * (w + 1) ≤ a + n)

/-- A word of 32 bytes touches an access of `n` bytes at `a`. -/
def touchesWord (a n w : Nat) : Bool := decide (32 * w < a + n) && decide (a < 32 * (w + 1))

/-- A CXL.mem write at an HDM offset: the bytes are written, a word written whole is good again, and the pages of graphics back buffers that it
touches are recorded (R307). [DEDUCED, log 22] -/
def hostWrite (a : Nat) (data : List Byte) (s : State) : State :=
  if !s.hdmUp then s
  else
    let s1 := (markGraphics a data.length (useIde s)).hdmWrite a data
    s1.onHost fun h => { h with poison := h.poison.filter fun w => !wholeWord a data.length w }

/-- A CXL.mem read at an HDM offset: the bytes, poisoned where a word is uncorrectable (R209). [DEDUCED, log 22, 56] -/
def hostRead (a n : Nat) (s : State) : State :=
  if !s.hdmUp then s
  else (useIde s).onHost fun h => { h with readData := memRead s.hdm a n, readPoison := h.poison.any (touchesWord a n) }

/-! ### The meanings -/

/-- REGISTER_WRITE (R62). -/
def execRegisterWrite (space : RegSpace) (offset : Nat) (data : List Byte) (s : State) : Answer := answer (registerWrite space offset data s)

/-- HOST_HDM_WRITE (R307), at a host physical address: no address outside the two ranges of R61 exists. [DEDUCED, log 22] -/
def execHostHdmWrite (addr : Nat) (data : List Byte) (s : State) : Answer :=
  if !s.hdmUp then answer s
  else match hdmOffset s addr data.length with
    | some a => answer (hostWrite a data s)
    | none => .fault (.noSuchHdmAddress addr)

/-- HOST_HDM_READ (R209), at a host physical address: no address outside the two ranges of R61 exists. [DEDUCED, log 22] -/
def execHostHdmRead (addr length : Nat) (s : State) : Answer :=
  if !s.hdmUp then answer s
  else match hdmOffset s addr length with
    | some a => answer (hostRead a length s)
    | none => .fault (.noSuchHdmAddress addr)

/-- AT_TICK_RELEASE (R76). -/
def execAtTickRelease (ch : Nat) (s : State) : Answer := answer (releaseHeld ch s)

end Sys2Proof.Machine
end

