-- ==== Sys2Proof/Machine/Tick.lean ====
section
/-! DEFINITION.  The 48 kHz tick: commits, adoption, frame ticks, admission from the rings, the budget, ALIVE and the Chart's
periodic publication (spec/04_tick_and_timing_planes.md; spec/08_bridging_and_measurement.md, R238 and R242;
spec/15_fabric_and_faults.md, R467 and R468).

SAMPLE_TICK ends tick T and begins T + 1: steps 4 to 7 of R118 are done for T where no row of their own has done them, and
steps 1 to 3 for T + 1.  The rows between two of them fall in tick T + 1 (log entry 7). -/

namespace Sys2Proof.Machine
open Sys2Proof

/-! ### Commits (R116, R117, R159, R162) -/

/-- The commit deadline of a plane's next frame has come, and that frame is not committed. -/
def commitDue (s : State) (p : Nat) : Bool :=
  let q := s.planeRt p
  (s.rate p).isSome && decide (frameTick s p q.nextFrame - 8 ≤ s.now) && (match q.committed with
    | some c => decide (c < q.nextFrame)
    | none => true)

/-- The hardware takes a commit for frame n until the end of tick F(n) − 4 (R117). [DEDUCED, log 38] -/
def commitLate (s : State) (p : Nat) (n : Int) (at_ : Nat) : Bool := decide (frameTick s p n - 4 < at_)

/-- The frame for which a commit that arrives at a tick is made. [DEDUCED, log 40] -/
def commitTo (s : State) (p : Nat) (n : Int) (at_ : Nat) : Int := if commitLate s p n at_ then frameAfter n else n

/-- LIMIT_TICK of the record that carries a plane's commit (R376). -/
def commitLimit (s : State) (p at_ : Nat) : Nat := (frameTick s p (commitTo s p (s.planeRt p).nextFrame at_) - 1).toNat

/-- One take is committed to frame `f`, by the path that it finds now (R164, R173).  Meeting another entry for that frame, the one
admitted earlier is superseded (R158, R162). [DEDUCED, log 40] -/
def commitTake (f : Int) (s : State) (x : Nat × Entry) : State :=
  let d := x.1
  let e := x.2
  let c := choosePath s d e.source (syncAt s e.plane f)
  let new : Entry := { e with frame := f, committed := true, path := c.1, offset := c.2.1, via := c.2.2, delta := routeDelta s e.source }
  let put := fun t => (putIn d new t).onTwin fun w => { w with commits := w.commits ++ [(d, new)] }
  if e.frame = f then put (takeOut d e s)
  else match entryAt s d f with
    | none => put (takeOut d e s)
    | some old =>
      if old.committed ∨ e.job ≤ old.job then dropEntry d e (old.tag + 65536 * old.ch) s
      else put (dropEntry d old (e.tag + 65536 * e.ch) (takeOut d e s))

/-- The commit of a plane's next frame, arriving at tick `at_`: losses, takes, berth and layer choices.  A chip that is not helm
commits nothing, and knows only that the frame is closed. [DEDUCED, log 40] -/
def commitPlane (at_ p : Nat) (s : State) : State :=
  if !commitDue s p then s
  else
    let n := (s.planeRt p).nextFrame
    let mark := fun (t : State) => t.onPlaneRt p fun q => { q with committed := some n, closed := q.closed.filter fun g => n < g }
    if !s.isHelm then mark s
    else
      let s1 := judgeLosses s
      let takes := openEntries s1 fun _ e => decide (e.plane = p) && decide (e.frame ≤ n)
      mark (headDeadline p n (berthDecisions p n (takes.foldl (commitTake (commitTo s1 p n at_)) s1)))

/-- COMMIT_DEADLINE (R117): the tick's one Tandem record goes with the last plane that is due. [DESIGN CHOICE, log 7] [DEDUCED, log 38, 41] -/
def commitDeadline (p : Nat) (s : State) : State :=
  if !s.serving ∨ !commitDue s p then s
  else
    let s1 := commitPlane s.now p s
    if (enabledPlanes s1).any (commitDue s1) then s1 else sendRecord false (commitLimit s p s.now) s1

/-- Step 5 of a tick (R118), reached at tick `at_`: the planes whose deadline it is commit, and one record goes out. [DEDUCED, log 41] -/
def commitStep (at_ : Nat) (s : State) : State :=
  match (enabledPlanes s).filter (commitDue s) with
  | [] => s
  | p :: ps => sendRecord false (ps.foldl (fun m q => min m (commitLimit s q at_)) (commitLimit s p at_)) ((p :: ps).foldl (fun s q => commitPlane at_ q s) s)

/-! ### Adoption (R111) -/

/-- A plane's adoption tick: the grid, and all that waits on its frames. [DESIGN CHOICE, log 7] -/
def adoptionTick (p : Nat) (s : State) : State :=
  if !s.serving ∨ !adoptionDue s p then s
  else if sameGrid s p then adoptSwitch p none (adoptGrid p s)
  else
    let m := (s.planeRt p).frame
    let s1 := adoptGrid p s
    let k := (s1.planeRt p).nextFrame
    let due : Option (Nat × Int) → Option (Nat × Int) := fun x => x.map fun e => if e.1 = p then (e.1, rearmed m k e.2) else e
    let s2 := s1.onStreams fun t => t.map fun e => (e.1, { e.2 with effAt := due e.2.effAt, fillAt := due e.2.fillAt })
    rearmTrims p m k (rearmForms p m k (rearmHeads p m k (rearmChans p m k (rearmTakes p m k (adoptSwitch p (some k) s2)))))

/-! ### Frame ticks (R86, R182, R238) -/

/-- A stream's waiting change acts (R40, R43): its data is read or built under the new format from here on. -/
def streamDue (p : Nat) (n : Int) (s : State) (k : Nat) : State :=
  let r := s.streamRt k
  let hit : Option (Nat × Int) → Bool := fun x => match x with
    | some (q, m) => decide (q = p ∧ m ≤ n)
    | none => false
  let s1 := if hit r.fillAt then s.onStreamRt k fun r => { r with sendIdle := true, fillAt := none } else s
  if hit r.effAt then
    let x := s1.stream k
    let s2 := s1.onStreamRt k fun r => { r with effFormat := x.format, effPlane := p, effAt := none }
    if keyDir k = 1 then judgeMatch s2 (keyBay k)
    else
      let s3 := if x.format ≠ r.effFormat then rebuildPyramid k x.format s2 else s2
      (routesFrom s3 k).foldl judgeMatch s3
  else s1

/-- Pattern changes of a plane's generators show from here on (R182). -/
def generatorsDue (p : Nat) (s : State) : State :=
  s.onBasin fun b => { b with genPend := b.genPend.filter fun e => (s.gen e.1).plane ≠ some p }

/-- Channel settings that wait at a frame tick (key p) or a switch point (key p + 8). -/
def channelsDue (q : Nat) (s : State) : State := ((s.audio.dst.filter fun e => !e.2.due.isEmpty).map Prod.fst).foldl (chanDue q) s

/-- FRAME_TICK (R238): what waited for the frame acts, heads and generators go on, and the plane's records are published. -/
def planeFrame (p : Nat) (s : State) : State :=
  if !s.serving ∨ !frameNow s p ∨ (s.planeRt p).pubFrame = some (s.planeRt p).frame then s
  else
    let n := (s.planeRt p).frame
    let s1 := ((s.streams.filter fun e => e.2.effAt.isSome || e.2.fillAt.isSome).map Prod.fst).foldl (streamDue p n) s
    settleTrims (publishPlane p (headFrames p (channelsDue p (generatorsDue p (genCompletes p (fillFrames p s1))))))

/-- The switch point of a plane's current frame on 1,125 interface lines falls in this tick: channels return to following (R265). [DEDUCED, log 68] -/
def channelsReturn (s : State) (p : Nat) : State :=
  let q := s.planeRt p
  if switchTick s p 0xFFFF q.frame = s.now then channelsDue (p + 8) s else s

/-! ### Admission from the rings (R72 to R78) -/

/-- A record at a unit of a submission ring, with its opcode; the payload goes round the ring's end. -/
def recordAt (s : State) (ch unit : Nat) : Nat × Cmd :=
  let a := sqAddr ch unit
  let n := s.hdmNat (a + 0x18) 4
  (s.hdmNat a 2,
   { ch := ch, tag := s.hdmNat (a + 2) 2, session := s.hdmNat (a + 4) 2, flags := s.hdmNat (a + 6) 2, expectedGen := s.hdmNat (a + 8) 4,
     targetTick := s.hdmNat (a + 0x10) 8, length := n,
     payload := (List.range n).map fun i => memGet s.hdm (chBase ch + 0x10000 + (unit * 32 + 32 + i) % 131072) })

/-- The next thing of a channel: its held command, a faulty record, or the record at its head. -/
def admitNext (ch : Nat) (s : State) : State :=
  let k := s.chan ch
  let room := unitsTo k.sqHead k.eligible
  if k.held.isSome then releaseHeld ch s
  else if room = 0 ∨ k.ringFault ∨ !s.dev.ready ∨ !s.hdmUp ∨ s.time.slipped then s
  else match recFault s ch k.sqHead room with
    | some cause => ringFault ch cause k.sqHead s
    | none =>
      let r := recordAt s ch k.sqHead
      armGate s (runOpcode r.1 r.2 s)

/-- A channel has a record to take. -/
def channelWaits (s : State) (ch : Nat) : Bool :=
  let k := s.chan ch
  k.held.isSome || decide (k.sqHead ≠ k.eligible)

/-- A channel's turn: at most 16 commands (R75). [DESIGN CHOICE, log 9] [DEDUCED, log 24] -/
def admitChannel (s : State) (ch : Nat) : State :=
  if channelWaits s ch then (List.range 16).foldl (fun s _ => admitNext ch s) s else s

/-- Step 3 of a tick (R75): the channels in ascending number from T mod 64 on. -/
def admission (s : State) : State := ((List.range 64).map fun i => (s.now + i) % 64).foldl admitChannel s

/-! ### The Chart's periodic publication (R150, R242, R359, R391, R416, R444, R474) -/

/-- The blocks published every 48 ticks, and the lane records of every 480. [DEDUCED, log 42] -/
def publishBlocks (s : State) : State :=
  let s1 := s.hdmWrite 0x2001000 (referenceBlock s)
  let s2 := (((s1.chartWrite 0x23E0000 (twinBlock s1)).chartWrite 0x23E4000 (clocksBlock s1)).chartWrite 0x23E8000 (startsBlock s1)).chartWrite 0x23EC000 (faultBlock s1)
  let s3 := if s.now % 480 = 0 then (List.range 128).foldl publishLane s2 else s2
  ((s3.hdmWrite 0x2000000 (toLe 8 1)).hdmWrite 0x2000008 (toLe 8 s.now)).onTime fun t => { t with published := some s.elapsed }

/-- CHART_PERIODIC_PUBLISH: every 48 ticks, once. [DEDUCED, log 42] -/
def chartPublish (s : State) : State :=
  if s.dev.ready ∧ s.now % 48 = 0 ∧ s.time.published ≠ some s.elapsed then publishBlocks s else s

/-! ### ALIVE and the heartbeats (R467, R468) -/

/-- An edge of ALIVE. [DEDUCED, log 43] -/
def aliveEdge (s : State) : State := s.onFaults fun f => { f with aliveLevel := !f.aliveLevel, aliveAt := some s.elapsed }

/-- ALIVE_TOGGLE: at ticks divisible by 24 while the chip serves, every 50 ms in Dry Dock; otherwise ALIVE holds its level. [DEDUCED, log 43] -/
def aliveToggle (s : State) : State :=
  if s.serving then (if s.now % 24 = 0 ∧ s.faults.aliveAt ≠ some s.elapsed then aliveEdge s else s)
  else if s.dev = .dryDock ∧ (s.faults.aliveAt.all fun t => decide (t + 2400 ≤ s.elapsed)) = true then aliveEdge s
  else s

/-- The tick that ends had its heartbeats, or was missed (R468). -/
def countBeats (east west : Bool) (s : State) : State :=
  s.onTime fun t => { t with missedEast := if east then 0 else t.missedEast + 1, missedWest := if west then 0 else t.missedWest + 1 }

/-! ### The budget (R118 to R120, R123) -/

/-- A window of 48,000 ticks ends (R119): BACKGROUND_STARVED below 3.0 µs on average. [DEDUCED, log 37] -/
def backgroundWindow (s : State) : State :=
  if s.time.bgCount < 48000 then s
  else
    let avg := s.time.bgSum / s.time.bgCount
    let s1 := if s.time.bgSum < 3000 * s.time.bgCount then raise 0x0382 2 0 avg s else s
    s1.onTime fun t => { t with bgSum := 0, bgCount := 0 }

/-- A tick's foreground lasted `fg` ns from its start, its background slice `bg` ns. [DEDUCED, log 37] -/
def noteBudget (fg bg : Nat) (s : State) : State :=
  s.onTime fun t =>
    let w := peaks t.fgWin t.elapsed (min fg 0xFFFFFFFF)
    { t with bgSum := t.bgSum + bg, bgCount := t.bgCount + 1, bgShed := if 12000 < fg then satAdd 32 t.bgShed 1 else t.bgShed,
             fgWin := w, fgMax := highest w }

/-- The foreground of a tick was not done when the next began (a tick lasts 62,500 / 3 ns). [DEDUCED, log 38] -/
def slipsTick (fg : Nat) : Bool := decide (62500 < 3 * fg)

/-- The tick slipped (R120): counted, and TICK_SLIP with its overrun. [DEDUCED, log 38] -/
def noteSlip (fg : Nat) (s : State) : State :=
  if slipsTick fg then
    raise 0x0381 2 0 (min 0xFFFFFFFF ((3 * fg - 62500) / 3)) ((s.onTime fun t => { t with slips := satAdd 32 t.slips 1 }).onLog fun l => { l with slips := inc l.slips })
  else s

/-! ### SAMPLE_TICK (R118) -/

/-- Records that were not applied by the end of their LIMIT_TICK are missing (R376). -/
def dropExpired (s : State) : State :=
  (((s.twin.east ++ s.twin.west).filter fun r => r.limit ≤ s.now).map fun r => r.rseq).foldl (fun s n => missRecord n s) s

/-- Step 7 of a tick (R118): none of it runs where the foreground left the background no time. -/
def background (bg : Nat) (s : State) : State :=
  if !s.dev.ready then s
  else if bg = 0 then regularCut false s
  else hourlyCheckpoint (chartPublish (regularCut true s))

/-- The firmware's part of a tick that ends, its foreground having lasted `fg` ns: the leases that end with step 3, and steps 5 to 7.
During a handover admission and background rest (R499, R500). -/
def closeForeground (fg bg : Nat) (s : State) : State :=
  let at_ := s.now + 3 * fg / 62500
  let s1 := if s.dev.ready then expireLeases s else s
  let s2 := stepReferences (idleRecord (commitStep at_ (slipDecisions s1)))
  beginHandover (scuttleNow (background bg s2))

/-- A tick ends: the foreground ran unless a heartbeat is missing; then no background ran either (R119). [DESIGN CHOICE, log 7] -/
def closeTick (fg bg : Nat) (east west : Bool) (s : State) : State :=
  let s1 := countBeats east west s
  let s2 := if east && west then noteBudget fg bg (closeForeground fg bg s1) else noteBudget 0 0 s1
  endTickMail (dropExpired s2)

/-- T and the elapsed time advance; records announced in the tick before are eligible; a slipped tick is run without step 3. [DEDUCED, log 43] -/
def advanceTick (slipped : Bool) (s : State) : State :=
  let s1 := s.onTime fun t =>
    { t with tick := t.tick + 1, elapsed := t.elapsed + 1, slipped := slipped, corr := t.corr + t.freq + 1000 * s.obj.policy.spreadPpb }
  s1.onMbox fun m => { m with channels := m.channels.map fun e => (e.1, { e.2 with eligible := e.2.sqTail }) }

/-- Times that run through a tick of service. -/
def ageTick (s : State) : State :=
  tickPounds (tickPounds (tickCollector (tickLeases (ageManifests (ageJournal (tickSpdm (tickFirmware (tickTwin s))))))) 0) 1

/-- Step 1 of a tick (R118): planes, adoption, frame ticks, switch points, sound, lanes and clocks. -/
def openHardware (s : State) : State :=
  let ps := enabledPlanes s
  let s1 := ps.foldl (fun s p => advancePlane p s) (aliveToggle s)
  let s2 := ps.foldl (fun s p => planeFrame p s) (ps.foldl (fun s p => adoptionTick p s) s1)
  let s3 := quietSwitches (switchPoints (ps.foldl (fun s p => latencyPoint p s) s2))
  let s4 := ps.foldl channelsReturn s3
  tickTow (tickSlots (tickInputs (tickMeas (pushRows (tickAudio s4)))))

/-- A tick begins: step 1, the records that are due (step 2), and admission (step 3). [DESIGN CHOICE, log 7] -/
def openTick (s : State) : State :=
  let s1 := driveHealth (ageTick (openHardware s))
  admission (applyRecords s1.twin.east.length s1)

/-- The watchdog of both dies. [DEDUCED, log 39] -/
def judgeBeats (s : State) : State := watchdog true (watchdog false s)

/-- What a tick is to a chip that does not serve: elapsed time runs (R541), and T where a start has set it. [DESIGN CHOICE, log 7] [DEDUCED, log 39] -/
def idleTick (s : State) : State :=
  if s.dev = .off then s.onTime fun t => { t with elapsed := t.elapsed + 1 }
  else
    let s1 := (endTickMail s).onTime fun t => { t with elapsed := t.elapsed + 1, tick := if timeRuns s then t.tick + 1 else t.tick }
    let s2 := if s.dev = .fatalD then s1.onFaults fun f => { f with waited := f.waited + 1 } else s1
    releaseHeld 0 (aliveToggle (tickLog (tickSpdm (tickClocks s2))))

/-- SAMPLE_TICK. [DESIGN CHOICE, log 7] -/
def sampleTick (fg bg : Nat) (east west : Bool) (s : State) : State :=
  if !s.serving then idleTick s
  else
    let ran := east && west
    let s1 := closeTick fg bg east west s
    let s2 := judgeBeats (advanceTick (!ran || slipsTick fg) s1)
    let s3 := tickLog (tickClocks (backgroundWindow (if ran then noteSlip fg s2 else s2)))
    if s3.serving then openTick s3 else s3

/-! ### The meanings -/

/-- SAMPLE_TICK (R118). -/
def execSampleTick (fgNs bgNs : Nat) (beatEast beatWest : Bool) (s : State) : Answer := answer (sampleTick fgNs bgNs beatEast beatWest s)

/-- COMMIT_DEADLINE (R117). -/
def execCommitDeadline (plane : Nat) (s : State) : Answer := answer (commitDeadline plane s)

/-- ADOPTION_TICK (R111). -/
def execAdoptionTick (plane : Nat) (s : State) : Answer := answer (adoptionTick plane s)

/-- FRAME_TICK (R238). -/
def execFrameTick (plane : Nat) (s : State) : Answer := answer (planeFrame plane s)

/-- ALIVE_TOGGLE (R467). -/
def execAliveToggle (s : State) : Answer := answer (aliveToggle s)

/-- BACKGROUND_WINDOW (R119). -/
def execBackgroundWindow (s : State) : Answer := answer (backgroundWindow s)

/-- CHART_PERIODIC_PUBLISH (R242). -/
def execChartPeriodicPublish (s : State) : Answer := answer (chartPublish s)

end Sys2Proof.Machine
end

