-- ==== Sys2Proof/Machine/Dispatch.lean ====
section
/-! DEFINITION.  The dispatcher: one arm per command, each a direct call of its meaning. -/

namespace Sys2Proof.Machine
open Sys2Proof

/-- The effect of a command on everything but the queue. -/
def exec (i : Instr) (s : State) : Host.Outcome State Fault Refusal :=
  match i with
  | .ddStatus c => Sys2Proof.Machine.execDdStatus c s
  | .ddBegin c => Sys2Proof.Machine.execDdBegin c s
  | .ddChunk c => Sys2Proof.Machine.execDdChunk c s
  | .ddFinish c => Sys2Proof.Machine.execDdFinish c s
  | .ddRestart c => Sys2Proof.Machine.execDdRestart c s
  | .ddCommitWhileBusy => Sys2Proof.Machine.execDdCommitWhileBusy s
  | .identify c => Sys2Proof.Machine.execIdentify c s
  | .openSession c => Sys2Proof.Machine.execOpenSession c s
  | .closeSession c => Sys2Proof.Machine.execCloseSession c s
  | .keepalive c => Sys2Proof.Machine.execKeepalive c s
  | .setInterrupts c => Sys2Proof.Machine.execSetInterrupts c s
  | .setChannelCeiling c => Sys2Proof.Machine.execSetChannelCeiling c s
  | .setNotify c => Sys2Proof.Machine.execSetNotify c s
  | .setTrim c => Sys2Proof.Machine.execSetTrim c s
  | .commandUnknownOpcode opcode c => Sys2Proof.Machine.execCommandUnknownOpcode opcode c s
  | .defineStream c => Sys2Proof.Machine.execDefineStream c s
  | .releaseStream c => Sys2Proof.Machine.execReleaseStream c s
  | .setManifest c => Sys2Proof.Machine.execSetManifest c s
  | .setPlane c => Sys2Proof.Machine.execSetPlane c s
  | .readTiming c => Sys2Proof.Machine.execReadTiming c s
  | .setReference c => Sys2Proof.Machine.execSetReference c s
  | .setSelectionPolicy c => Sys2Proof.Machine.execSetSelectionPolicy c s
  | .readReferences c => Sys2Proof.Machine.execReadReferences c s
  | .take c => Sys2Proof.Machine.execTake c s
  | .salvo c => Sys2Proof.Machine.execSalvo c s
  | .cancel c => Sys2Proof.Machine.execCancel c s
  | .lockDestination c => Sys2Proof.Machine.execLockDestination c s
  | .setGenerator c => Sys2Proof.Machine.execSetGenerator c s
  | .readRoutes c => Sys2Proof.Machine.execReadRoutes c s
  | .setFrameSync c => Sys2Proof.Machine.execSetFrameSync c s
  | .readBerths c => Sys2Proof.Machine.execReadBerths c s
  | .readWharf c => Sys2Proof.Machine.execReadWharf c s
  | .setWharfPolicy c => Sys2Proof.Machine.execSetWharfPolicy c s
  | .setDestinationForm c => Sys2Proof.Machine.execSetDestinationForm c s
  | .setAncDestination c => Sys2Proof.Machine.execSetAncDestination c s
  | .setDetectors c => Sys2Proof.Machine.execSetDetectors c s
  | .setLoudnessGroup c => Sys2Proof.Machine.execSetLoudnessGroup c s
  | .setChannelGain c => Sys2Proof.Machine.execSetChannelGain c s
  | .setChannelDelay c => Sys2Proof.Machine.execSetChannelDelay c s
  | .setMix c => Sys2Proof.Machine.execSetMix c s
  | .setChannelOptions c => Sys2Proof.Machine.execSetChannelOptions c s
  | .readAudioSources c => Sys2Proof.Machine.execReadAudioSources c s
  | .setHead c => Sys2Proof.Machine.execSetHead c s
  | .setLayer c => Sys2Proof.Machine.execSetLayer c s
  | .setCoefficients c => Sys2Proof.Machine.execSetCoefficients c s
  | .setLut c => Sys2Proof.Machine.execSetLut c s
  | .setAssay c => Sys2Proof.Machine.execSetAssay c s
  | .writeHallmark c => Sys2Proof.Machine.execWriteHallmark c s
  | .setHallmarkRegion c => Sys2Proof.Machine.execSetHallmarkRegion c s
  | .readHead c => Sys2Proof.Machine.execReadHead c s
  | .commitHead c => Sys2Proof.Machine.execCommitHead c s
  | .laneControl c => Sys2Proof.Machine.execLaneControl c s
  | .setLanePolicy c => Sys2Proof.Machine.execSetLanePolicy c s
  | .readTwin c => Sys2Proof.Machine.execReadTwin c s
  | .setTwinPolicy c => Sys2Proof.Machine.execSetTwinPolicy c s
  | .resync c => Sys2Proof.Machine.execResync c s
  | .yieldHelm c => Sys2Proof.Machine.execYieldHelm c s
  | .readClocks c => Sys2Proof.Machine.execReadClocks c s
  | .setPowerPolicy c => Sys2Proof.Machine.execSetPowerPolicy c s
  | .restart c => Sys2Proof.Machine.execRestart c s
  | .readStarts c => Sys2Proof.Machine.execReadStarts c s
  | .readLogbook c => Sys2Proof.Machine.execReadLogbook c s
  | .setJournalPolicy c => Sys2Proof.Machine.execSetJournalPolicy c s
  | .readFaults c => Sys2Proof.Machine.execReadFaults c s
  | .setFaultPolicy c => Sys2Proof.Machine.execSetFaultPolicy c s
  | .injectFault c => Sys2Proof.Machine.execInjectFault c s
  | .clearFirstFault c => Sys2Proof.Machine.execClearFirstFault c s
  | .attest c => Sys2Proof.Machine.execAttest c s
  | .installKey c => Sys2Proof.Machine.execInstallKey c s
  | .swapKey c => Sys2Proof.Machine.execSwapKey c s
  | .invalidateKey c => Sys2Proof.Machine.execInvalidateKey c s
  | .readKeys c => Sys2Proof.Machine.execReadKeys c s
  | .scuttle c => Sys2Proof.Machine.execScuttle c s
  | .stageImage c => Sys2Proof.Machine.execStageImage c s
  | .setFollowList c => Sys2Proof.Machine.execSetFollowList c s
  | .handover c => Sys2Proof.Machine.execHandover c s
  | .commitImage c => Sys2Proof.Machine.execCommitImage c s
  | .revert c => Sys2Proof.Machine.execRevert c s
  | .abortUpdate c => Sys2Proof.Machine.execAbortUpdate c s
  | .readFirmware c => Sys2Proof.Machine.execReadFirmware c s
  | .doorbellWrite ch value => Sys2Proof.Machine.execDoorbellWrite ch value s
  | .registerWrite space offset data => Sys2Proof.Machine.execRegisterWrite space offset data s
  | .hdmDecoderCommit decoder base => Sys2Proof.Machine.execHdmDecoderCommit decoder base s
  | .hostHdmWrite addr data => Sys2Proof.Machine.execHostHdmWrite addr data s
  | .hostHdmRead addr length => Sys2Proof.Machine.execHostHdmRead addr length s
  | .eventRingSpaceReturns ring eqHead => Sys2Proof.Machine.execEventRingSpaceReturns ring eqHead s
  | .channelDrained ch => Sys2Proof.Machine.execChannelDrained ch s
  | .cxlLinkUp width rate => Sys2Proof.Machine.execCxlLinkUp width rate s
  | .plainPcieLink width rate => Sys2Proof.Machine.execPlainPcieLink width rate s
  | .linkLoss cause => Sys2Proof.Machine.execLinkLoss cause s
  | .perstDeasserted => Sys2Proof.Machine.execPerstDeasserted s
  | .doeDiscovery index => Sys2Proof.Machine.execDoeDiscovery index s
  | .getVersion => Sys2Proof.Machine.execGetVersion s
  | .getCapabilities version => Sys2Proof.Machine.execGetCapabilities version s
  | .negotiateAlgorithms offered => Sys2Proof.Machine.execNegotiateAlgorithms offered s
  | .getDigests => Sys2Proof.Machine.execGetDigests s
  | .getCertificate slot offset length => Sys2Proof.Machine.execGetCertificate slot offset length s
  | .challenge slot nonce => Sys2Proof.Machine.execChallenge slot nonce s
  | .getMeasurements block nonce => Sys2Proof.Machine.execGetMeasurements block nonce s
  | .keyExchange heartbeat exchange => Sys2Proof.Machine.execKeyExchange heartbeat exchange s
  | .finish session verified => Sys2Proof.Machine.execFinish session verified s
  | .keyUpdate session => Sys2Proof.Machine.execKeyUpdate session s
  | .heartbeat session => Sys2Proof.Machine.execHeartbeat session s
  | .endSession session => Sys2Proof.Machine.execEndSession session s
  | .spdmHeartbeatLapse session => Sys2Proof.Machine.execSpdmHeartbeatLapse session s
  | .query session stream => Sys2Proof.Machine.execQuery session stream s
  | .keyProg session stream direction keySet key => Sys2Proof.Machine.execKeyProg session stream direction keySet key s
  | .kSetGo session stream direction keySet => Sys2Proof.Machine.execKSetGo session stream direction keySet s
  | .kSetStop session stream direction keySet => Sys2Proof.Machine.execKSetStop session stream direction keySet s
  | .sampleTick fgNs bgNs beatEast beatWest => Sys2Proof.Machine.execSampleTick fgNs bgNs beatEast beatWest s
  | .moderationTimeout event index => Sys2Proof.Machine.execModerationTimeout event index s
  | .atTickRelease ch => Sys2Proof.Machine.execAtTickRelease ch s
  | .sessionLeaseExpiry ch => Sys2Proof.Machine.execSessionLeaseExpiry ch s
  | .commitDeadline plane => Sys2Proof.Machine.execCommitDeadline plane s
  | .switchPoint dest => Sys2Proof.Machine.execSwitchPoint dest s
  | .adoptionTick plane => Sys2Proof.Machine.execAdoptionTick plane s
  | .frameTick plane => Sys2Proof.Machine.execFrameTick plane s
  | .aliveToggle => Sys2Proof.Machine.execAliveToggle s
  | .backgroundWindow => Sys2Proof.Machine.execBackgroundWindow s
  | .chartPeriodicPublish => Sys2Proof.Machine.execChartPeriodicPublish s
  | .frameRefPulse pin pulse => Sys2Proof.Machine.execFrameRefPulse pin pulse s
  | .beaconRecord slot record arrival => Sys2Proof.Machine.execBeaconRecord slot record arrival s
  | .referenceMissing slot => Sys2Proof.Machine.execReferenceMissing slot s
  | .qualificationComplete slot => Sys2Proof.Machine.execQualificationComplete slot s
  | .referenceFrequencyWindow withinNs => Sys2Proof.Machine.execReferenceFrequencyWindow withinNs s
  | .holdoverBudgetCrossing => Sys2Proof.Machine.execHoldoverBudgetCrossing s
  | .slipDecision => Sys2Proof.Machine.execSlipDecision s
  | .slipEffect bay => Sys2Proof.Machine.execSlipEffect bay s
  | .primingComplete bay => Sys2Proof.Machine.execPrimingComplete bay s
  | .lossHoldExpiry bay => Sys2Proof.Machine.execLossHoldExpiry bay s
  | .journalCut => Sys2Proof.Machine.execJournalCut s
  | .journalCommitDurable ok0 ok1 => Sys2Proof.Machine.execJournalCommitDurable ok0 ok1 s
  | .commitIntervalReview => Sys2Proof.Machine.execCommitIntervalReview s
  | .logbookCheckpoint => Sys2Proof.Machine.execLogbookCheckpoint s
  | .norPatrol found0 found1 causeA causeB => Sys2Proof.Machine.execNorPatrol found0 found1 causeA causeB s
  | .poundRotation die => Sys2Proof.Machine.execPoundRotation die s
  | .poundTrafficMove outputs => Sys2Proof.Machine.execPoundTrafficMove outputs s
  | .poundSelfTestComplete die pass => Sys2Proof.Machine.execPoundSelfTestComplete die pass s
  | .patrolScrubRead stack found => Sys2Proof.Machine.execPatrolScrubRead stack found s
  | .scrubPassComplete stack => Sys2Proof.Machine.execScrubPassComplete stack s
  | .softRepairComplete stack => Sys2Proof.Machine.execSoftRepairComplete stack s
  | .spareCopyComplete stack => Sys2Proof.Machine.execSpareCopyComplete stack s
  | .bargeTransmit lane payload => Sys2Proof.Machine.execBargeTransmit lane payload s
  | .dataBargeReceived lane barge => Sys2Proof.Machine.execDataBargeReceived lane barge s
  | .calibrationBarge lane tail commaErrors snr => Sys2Proof.Machine.execCalibrationBarge lane tail commaErrors snr s
  | .levelHistogramWindow lane shares => Sys2Proof.Machine.execLevelHistogramWindow lane shares s
  | .trainingBarge lane tail commaErrors control adapt => Sys2Proof.Machine.execTrainingBarge lane tail commaErrors control adapt s
  | .commaLoss lane => Sys2Proof.Machine.execCommaLoss lane s
  | .relockTimeout lane => Sys2Proof.Machine.execRelockTimeout lane s
  | .laneBringupTimeout lane => Sys2Proof.Machine.execLaneBringupTimeout lane s
  | .detectIdleEnd lane => Sys2Proof.Machine.execDetectIdleEnd lane s
  | .capsRecord lane record => Sys2Proof.Machine.execCapsRecord lane record s
  | .epochRecord lane record => Sys2Proof.Machine.execEpochRecord lane record s
  | .statusRecord lane record => Sys2Proof.Machine.execStatusRecord lane record s
  | .moorRecord lane record => Sys2Proof.Machine.execMoorRecord lane record s
  | .manifestEpoch direction lane => Sys2Proof.Machine.execManifestEpoch direction lane s
  | .manifestTimeout lane => Sys2Proof.Machine.execManifestTimeout lane s
  | .moorBarge direction lane => Sys2Proof.Machine.execMoorBarge direction lane s
  | .signalDetectWake lane epoch => Sys2Proof.Machine.execSignalDetectWake lane epoch s
  | .wakeComplete lane => Sys2Proof.Machine.execWakeComplete lane s
  | .ecoMoor lane => Sys2Proof.Machine.execEcoMoor lane s
  | .helmGrantAsserted => Sys2Proof.Machine.execHelmGrantAsserted s
  | .helmGrantDeasserted => Sys2Proof.Machine.execHelmGrantDeasserted s
  | .idleRecord => Sys2Proof.Machine.execIdleRecord s
  | .tandemRecordReceived west tagOk record => Sys2Proof.Machine.execTandemRecordReceived west tagOk record s
  | .tandemRecordApply => Sys2Proof.Machine.execTandemRecordApply s
  | .recordMissing rseq => Sys2Proof.Machine.execRecordMissing rseq s
  | .tandemAckReceived ack => Sys2Proof.Machine.execTandemAckReceived ack s
  | .partnerAdrift => Sys2Proof.Machine.execPartnerAdrift s
  | .adrift => Sys2Proof.Machine.execAdrift s
  | .tandemKeyExchange offer => Sys2Proof.Machine.execTandemKeyExchange offer s
  | .tandemRekey rseq offer => Sys2Proof.Machine.execTandemRekey rseq offer s
  | .resyncPhaseComplete snapshot => Sys2Proof.Machine.execResyncPhaseComplete snapshot s
  | .resyncPhaseOverrun => Sys2Proof.Machine.execResyncPhaseOverrun s
  | .resyncRetry => Sys2Proof.Machine.execResyncRetry s
  | .yieldTimeout => Sys2Proof.Machine.execYieldTimeout s
  | .graphicsTransferComplete head => Sys2Proof.Machine.execGraphicsTransferComplete head s
  | .refclkFault clockB cause => Sys2Proof.Machine.execRefclkFault clockB cause s
  | .anvilUnlock => Sys2Proof.Machine.execAnvilUnlock s
  | .refclkClean clockB => Sys2Proof.Machine.execRefclkClean clockB s
  | .anvilLocked anvil debt => Sys2Proof.Machine.execAnvilLocked anvil debt s
  | .anvilHoldoverTimeout => Sys2Proof.Machine.execAnvilHoldoverTimeout s
  | .rootFrequencyTrip west => Sys2Proof.Machine.execRootFrequencyTrip west s
  | .preferredAnvilReturn => Sys2Proof.Machine.execPreferredAnvilReturn s
  | .slewDebtCleared => Sys2Proof.Machine.execSlewDebtCleared s
  | .powerOn => Sys2Proof.Machine.execPowerOn s
  | .powerLoss => Sys2Proof.Machine.execPowerLoss s
  | .supplyReset monitor millivolts => Sys2Proof.Machine.execSupplyReset monitor millivolts s
  | .supplyLow monitor millivolts => Sys2Proof.Machine.execSupplyLow monitor millivolts s
  | .pwrFailAsserted => Sys2Proof.Machine.execPwrFailAsserted s
  | .pwrFailWithdrawn => Sys2Proof.Machine.execPwrFailWithdrawn s
  | .thermalSample temps powerMw => Sys2Proof.Machine.execThermalSample temps powerMw s
  | .thermalTrip sensor temp => Sys2Proof.Machine.execThermalTrip sensor temp s
  | .tamperAlarm trip => Sys2Proof.Machine.execTamperAlarm trip s
  | .scuttleComplete ok => Sys2Proof.Machine.execScuttleComplete ok s
  | .faultReport report => Sys2Proof.Machine.execFaultReport report s
  | .injectionTimeout kind west inst => Sys2Proof.Machine.execInjectionTimeout kind west inst s
  | .wheelhouseWatchdog west => Sys2Proof.Machine.execWheelhouseWatchdog west s
  | .autoReset => Sys2Proof.Machine.execAutoReset s
  | .fabricRequest request => Sys2Proof.Machine.execFabricRequest request s
  | .targetTimeout die master stream => Sys2Proof.Machine.execTargetTimeout die master stream s
  | .masterReset die master => Sys2Proof.Machine.execMasterReset die master s
  | .quiesce domain close => Sys2Proof.Machine.execQuiesce domain close s
  | .quiesceAbandoned domain => Sys2Proof.Machine.execQuiesceAbandoned domain s
  | .forcedGate domain => Sys2Proof.Machine.execForcedGate domain s
  | .domainRampComplete domain => Sys2Proof.Machine.execDomainRampComplete domain s
  | .startStepComplete ms found => Sys2Proof.Machine.execStartStepComplete ms found s
  | .startStepTimeout ms => Sys2Proof.Machine.execStartStepTimeout ms s
  | .startRetry => Sys2Proof.Machine.execStartRetry s
  | .restartStart => Sys2Proof.Machine.execRestartStart s
  | .slotWriteComplete ok => Sys2Proof.Machine.execSlotWriteComplete ok s
  | .partnerImageOffer digest => Sys2Proof.Machine.execPartnerImageOffer digest s
  | .handoverStepComplete ok => Sys2Proof.Machine.execHandoverStepComplete ok s
  | .trialEnd => Sys2Proof.Machine.execTrialEnd s
  | .mgmtWrite data => Sys2Proof.Machine.execMgmtWrite data s
  | .mgmtRead count => Sys2Proof.Machine.execMgmtRead count s
  | .jtagTapReset => Sys2Proof.Machine.execJtagTapReset s
  | .jtagExtest => Sys2Proof.Machine.execJtagExtest s
  | .jtagInject kind west inst bits count timeoutMs => Sys2Proof.Machine.execJtagInject kind west inst bits count timeoutMs s
  | .h2dSnoop addr => Sys2Proof.Machine.execH2dSnoop addr s
  | .imageCheckComplete header results => Sys2Proof.Machine.execImageCheckComplete header results s

end Sys2Proof.Machine
end

