-- ==== Sys2Proof/Safety.lean ====
section
/-! DEFINITION.  What counts as a well-kept state, and when a mailbox command is accepted, in the terms the claims use. -/

namespace Sys2Proof
open Sys2Proof.Machine

/-- HDM stands in its one canonical form (log entry 4). -/
def hdmCanonical (s : State) : Prop := Memory.wf s.hdm = true

/-- The state in which an admitted record's own checks and effect are judged: the record is read (SQ_HEAD past it, the tick's
counts advanced, R72 and R75), and its session's lease renewed (R71). -/
def admittedAt (c : Cmd) (s : State) : State := renewLease c (countRead c s)

/-- The record is admitted in the present tick and passes checks 1 to 8 of R83: the chip serves and the channel can take it, it
does not wait for a target tick, and no check finds fault. -/
def accepts (i : CmdInfo) (c : Cmd) (s : State) : Prop :=
  gate c s = true ∧ ¬(c.atTick = true ∧ s.now < c.targetTick) ∧ checkCmd i c (admittedAt c s) = none

/-- The next state of a record that was read and answered `r`: its completion written (R79 to R81), and the command kept as a job
while it is QUEUED. -/
def concluded (i : CmdInfo) (c : Cmd) (r : Res) : Host.Outcome State Fault Refusal := .next (conclude i c r).settled

/-- Every accepted record of a row that meets `pre` in the state of its admission is carried out: the row answers the next state
that the result `res` gives. -/
def Carries (row : Cmd → Instr) (i : CmdInfo) (pre : Cmd → State → Prop) (res : Cmd → State → Res) : Prop :=
  ∀ (c : Cmd) (s : State), accepts i c s → pre c (admittedAt c s) → exec (row c) s = concluded i c (res c (admittedAt c s))

/-- A row answers the next state `t`, with its HDM in canonical form. -/
def Answers (i : Instr) (s t : State) : Prop := exec i s = .next t.settled

/-- Channel 0 has taken a command (R63): BUSY set, OVERRUN clear. -/
def dockTaken (s : State) : State := s.onHost fun h => { h with ddBusy := true, ddOverrun := false }

/-- A record of a Dry Dock command is taken in Dry Dock, waits for no target tick, and passes the checks of R83. -/
def dockTakes (i : CmdInfo) (c : Cmd) (s : State) : Prop :=
  dockUp s = true ∧ s.dev = .dryDock ∧ (c.atTick = true → c.targetTick ≤ s.now) ∧ checkCmd i { c with ch := 0 } (dockTaken s) = none

/-- A Dry Dock command is final: DONE in DD_COMPLETION, with DETAIL (R63). -/
def dockDone (i : CmdInfo) (c : Cmd) (detail : Nat) (s : State) : State := complete 0 c.tag i.opcode c.session false .done s.now 0 0 detail s

/-- DONE, the reply written at its REPLY_OFFSET before the completion (R81, R82); the offset stands at payload offset `at_`. -/
def replied (c : Cmd) (at_ detail : Nat) (bytes : List Byte) (s : State) : Res := okWith detail (s.hdmWrite (replyAddr c.ch (c.u32 at_)) bytes)

/-- REPLY_OFFSET is a multiple of 32 and the reply fits the channel's reply area (R82). -/
def replyFits (c : Cmd) (at_ len : Nat) : Prop := c.u32 at_ % 32 = 0 ∧ c.u32 at_ + len ≤ 65536

/-- The transaction that a fabric request makes at a target (R449). -/
def requested (q : FabricReq) (d : Nat) : Txn :=
  { master := q.master, stream := q.stream, target := d, addr := q.addr, write := q.write, beats := q.beats, data := q.data, done := q.answer.isSome,
    resp := q.answer.getD 0, remote := q.remote, buffer := q.buffer }

/-- The mailbox command that a row carries, with the record. -/
def mailboxRow : Instr → Option ((CmdInfo × (Cmd → State → Res)) × Cmd)
  | .identify c => some ((identifyInfo, identify), c)
  | .openSession c => some ((openSessionInfo, openSession), c)
  | .closeSession c => some ((closeSessionInfo, closeSession), c)
  | .keepalive c => some ((keepaliveInfo, keepalive), c)
  | .setInterrupts c => some ((setInterruptsInfo, setInterrupts), c)
  | .setChannelCeiling c => some ((setChannelCeilingInfo, setChannelCeiling), c)
  | .setNotify c => some ((setNotifyInfo, setNotify), c)
  | .setTrim c => some ((setTrimInfo, setTrim), c)
  | .defineStream c => some ((defineStreamInfo, defineStream), c)
  | .releaseStream c => some ((releaseStreamInfo, releaseStream), c)
  | .setManifest c => some ((setManifestInfo, setManifest), c)
  | .setPlane c => some ((setPlaneInfo, setPlane), c)
  | .readTiming c => some ((readTimingInfo, readTiming), c)
  | .setReference c => some ((setReferenceInfo, setReference), c)
  | .setSelectionPolicy c => some ((setSelectionPolicyInfo, setSelectionPolicy), c)
  | .readReferences c => some ((readReferencesInfo, readReferences), c)
  | .take c => some ((takeInfo, take), c)
  | .salvo c => some ((salvoInfo, salvo), c)
  | .cancel c => some ((cancelInfo, cancel), c)
  | .lockDestination c => some ((lockDestinationInfo, lockDestination), c)
  | .setGenerator c => some ((setGeneratorInfo, setGenerator), c)
  | .readRoutes c => some ((readRoutesInfo, readRoutes), c)
  | .setFrameSync c => some ((setFrameSyncInfo, setFrameSync), c)
  | .readBerths c => some ((readBerthsInfo, readBerths), c)
  | .readWharf c => some ((readWharfInfo, readWharf), c)
  | .setWharfPolicy c => some ((setWharfPolicyInfo, setWharfPolicy), c)
  | .setDestinationForm c => some ((setDestinationFormInfo, setDestinationForm), c)
  | .setAncDestination c => some ((setAncDestinationInfo, setAncDestination), c)
  | .setDetectors c => some ((setDetectorsInfo, setDetectors), c)
  | .setLoudnessGroup c => some ((setLoudnessGroupInfo, setLoudnessGroup), c)
  | .setChannelGain c => some ((setChannelGainInfo, setChannelGain), c)
  | .setChannelDelay c => some ((setChannelDelayInfo, setChannelDelay), c)
  | .setMix c => some ((setMixInfo, setMix), c)
  | .setChannelOptions c => some ((setChannelOptionsInfo, setChannelOptions), c)
  | .readAudioSources c => some ((readAudioSourcesInfo, readAudioSources), c)
  | .setHead c => some ((setHeadInfo, setHead), c)
  | .setLayer c => some ((setLayerInfo, setLayer), c)
  | .setCoefficients c => some ((setCoefficientsInfo, setCoefficients), c)
  | .setLut c => some ((setLutInfo, setLut), c)
  | .setAssay c => some ((setAssayInfo, setAssay), c)
  | .writeHallmark c => some ((writeHallmarkInfo, writeHallmark), c)
  | .setHallmarkRegion c => some ((setHallmarkRegionInfo, setHallmarkRegion), c)
  | .readHead c => some ((readHeadInfo, readHead), c)
  | .commitHead c => some ((commitHeadInfo, commitHead), c)
  | .laneControl c => some ((laneControlInfo, laneControl), c)
  | .setLanePolicy c => some ((setLanePolicyInfo, setLanePolicy), c)
  | .readTwin c => some ((readTwinInfo, readTwin), c)
  | .setTwinPolicy c => some ((setTwinPolicyInfo, setTwinPolicy), c)
  | .resync c => some ((resyncInfo, resync), c)
  | .yieldHelm c => some ((yieldHelmInfo, yieldHelm), c)
  | .readClocks c => some ((readClocksInfo, readClocks), c)
  | .setPowerPolicy c => some ((setPowerPolicyInfo, setPowerPolicy), c)
  | .restart c => some ((restartInfo, restart), c)
  | .readStarts c => some ((readStartsInfo, readStarts), c)
  | .readLogbook c => some ((readLogbookInfo, readLogbook), c)
  | .setJournalPolicy c => some ((setJournalPolicyInfo, setJournalPolicy), c)
  | .readFaults c => some ((readFaultsInfo, readFaults), c)
  | .setFaultPolicy c => some ((setFaultPolicyInfo, setFaultPolicy), c)
  | .injectFault c => some ((injectFaultInfo, injectFault), c)
  | .clearFirstFault c => some ((clearFirstFaultInfo, clearFirstFault), c)
  | .attest c => some ((attestInfo, attest), c)
  | .installKey c => some ((installKeyInfo, installKey), c)
  | .swapKey c => some ((swapKeyInfo, swapKey), c)
  | .invalidateKey c => some ((invalidateKeyInfo, invalidateKey), c)
  | .readKeys c => some ((readKeysInfo, readKeys), c)
  | .scuttle c => some ((scuttleInfo, scuttleCmd), c)
  | .stageImage c => some ((stageImageInfo, stageImage), c)
  | .setFollowList c => some ((setFollowListInfo, setFollowList), c)
  | .handover c => some ((handoverInfo, handover), c)
  | .commitImage c => some ((commitImageInfo, commitImage), c)
  | .revert c => some ((revertInfo, revert), c)
  | .abortUpdate c => some ((abortUpdateInfo, abortUpdate), c)
  | .readFirmware c => some ((readFirmwareInfo, readFirmware), c)
  | _ => none

end Sys2Proof
end

