-- ==== Sys2Proof/Certificates/Slice0/Obligations.lean ====
section
/-! DEFINITION.  The statements for the provers.  `Carries row i pre res` says that every accepted record of the row that meets `pre` is carried out with
the result `res`; `Answers i s t` that the row answers the next state `t` (both in Safety.lean). -/

open Sys2Proof Sys2Proof.Machine

/-- A step carries out the command at the front of the queue on the queue's rest, and idles on an empty queue (log entry 5). -/
def Obligations.StepRunsTheFrontCommand : Prop :=
  (∀ (c : Instr) (s : State), step { s with pending := c :: s.pending } = exec c s) ∧ ∀ s : State, s.pending = [] → step s = .next s

/-- R212, R215, R362, R392, R417, R443, R472: the chip at reset is without power, with nothing queued and HDM empty, and the objects hold the first values
that the manual gives them. -/
def Obligations.ResetHoldsFirstValues : Prop :=
  hdmCanonical State.reset ∧ State.reset.hdm = [] ∧ State.reset.pending = [] ∧ State.reset.dev = .off ∧ State.reset.serving = false ∧
  (State.reset.obj.wharfPol.scrubHours, State.reset.obj.wharfPol.hardRepair) = (24, true) ∧
  (∀ lane, (State.reset.lanePol lane).histBound = 20 ∧ (State.reset.lanePol lane).serLimit = 100000 ∧ (State.reset.lanePol lane).snrMin = 1500 ∧
    (State.reset.lanePol lane).drift = 150) ∧
  State.reset.obj.twinPol.retryS = 10 ∧ (State.reset.obj.powerPol.throttleC, State.reset.obj.powerPol.preferAnvil, State.reset.obj.powerPol.stepMs) = (100, 0, 100) ∧
  (State.reset.obj.journalPol.baseMs, State.reset.obj.journalPol.maxMs) = (100, 1000) ∧
  (State.reset.obj.faultPol.autoResetMs, State.reset.obj.faultPol.rateLimit) = (1000, 100) ∧
  (∀ d, (State.reset.route d).source = none ∧ (State.reset.route d).locked = false) ∧ (∀ k, (State.reset.stream k).st = .undef)

/-- Every step keeps HDM in its one canonical form. -/
def Obligations.StepKeepsHdmCanonical : Prop := ∀ s t : State, hdmCanonical s → step s = .next t → hdmCanonical t

/-- Every command, of every row of the table, answers a next state in every state; the one exception is a host access to HDM while its decoders are up
that lies within neither of their two ranges (R61), which faults. -/
def Obligations.EveryCommandAnswers : Prop :=
  (∀ (i : Instr) (s : State), (∀ a d, i ≠ .hostHdmWrite a d) → (∀ a n, i ≠ .hostHdmRead a n) → ∃ t, exec i s = .next t) ∧
  (∀ (a : Nat) (d : List Byte) (s : State), (s.hdmUp = false ∨ (hdmOffset s a d.length).isSome = true) → ∃ t, exec (.hostHdmWrite a d) s = .next t) ∧
  (∀ (a n : Nat) (s : State), (s.hdmUp = false ∨ (hdmOffset s a n).isSome = true) → ∃ t, exec (.hostHdmRead a n) s = .next t) ∧
  (∀ (a n : Nat) (d : List Byte) (s : State), s.hdmUp = true →
    (hdmOffset s a d.length = none → exec (.hostHdmWrite a d) s = .fault (.noSuchHdmAddress a)) ∧
    (hdmOffset s a n = none → exec (.hostHdmRead a n) s = .fault (.noSuchHdmAddress a)))

/-- A mailbox row carries out its record: admitted, held for its tick, or left where it stands, as `runCmd` says; a TAKE or SALVO that the tick's limit of
armed takes has no room for waits. -/
def Obligations.MailboxRowsRunTheirCommand : Prop :=
  ∀ (i : Instr) (e : CmdInfo × (Cmd → State → Res)) (c : Cmd) (s : State), mailboxRow i = some (e, c) →
    (runCmd e.1 e.2 c s).mbox.armed ≤ 8192 → exec i s = .next (runCmd e.1 e.2 c s).settled

/-- A record that its channel cannot take in the tick stays where it stands, and nothing changes; one that names a later target tick, within 60 s of the
tick in which it became eligible, is held. -/
def Obligations.RecordsWaitForTheirTurn : Prop :=
  (∀ (i : CmdInfo) (body : Cmd → State → Res) (c : Cmd) (s : State), 1 ≤ c.ch → gate c s = false → runCmd i body c s = s) ∧
  (∀ (i : CmdInfo) (body : Cmd → State → Res) (c : Cmd) (s : State), gate c s = true → c.atTick = true → s.now < c.targetTick →
    c.targetTick ≤ eligTick s c.ch c.units + 2880000 →
    runCmd i body c s = syncChannel c.ch (s.onChan c.ch fun k => { k with held := some (i.opcode, c) }))

/-- The checks of R83 in their order: the first that fails gives the status and DETAIL, and the command's own effect is not carried out. -/
def Obligations.FirstFailingCheckAnswers : Prop :=
  let limit (c : Cmd) (s : State) : Nat := (if c.ch = 0 then s.now else (s.chan c.ch).readAt) + 2880000
  (∀ (i : CmdInfo) (body : Cmd → State → Res) (c : Cmd) (s : State) (st : Status) (d : Nat), gate c s = true →
    ¬(c.atTick = true ∧ s.now < c.targetTick ∧ c.targetTick ≤ eligTick s c.ch c.units + 2880000) → checkCmd i c (admittedAt c s) = some (st, d) →
    runCmd i body c s = conclude i c (rej st d (admittedAt c s))) ∧
  (∀ (i : CmdInfo) (c : Cmd) (s : State),
    (c.length ≠ i.length c → checkCmd i c s = some (.range, 0x0018)) ∧
    (c.length = i.length c → acceptedOn i c.ch = false → checkCmd i c s = some (.auth, 0x0000)) ∧
    (c.length = i.length c → acceptedOn i c.ch = true → sessionOk i c s = false → checkCmd i c s = some (.auth, 0x0004)) ∧
    (c.length = i.length c → acceptedOn i c.ch = true → sessionOk i c s = true → privOk i c s = false →
      checkCmd i c s = some (.auth, 0x0000)) ∧
    (c.length = i.length c → acceptedOn i c.ch = true → sessionOk i c s = true → privOk i c s = true → s.keys.lock = true →
      i.readOnly = false → i.opcode / 256 ≠ 0x01 → i.opcode / 256 ≠ 0x0F → checkCmd i c s = some (.tamper, 0)) ∧
    (c.length = i.length c → acceptedOn i c.ch = true → sessionOk i c s = true → privOk i c s = true → s.keys.lock = false →
      ((i.content = true ∧ s.isHelm = false) ∨ (i.dock = true ∧ s.dev ≠ .dryDock)) → checkCmd i c s = some (.state, 0xFFFF)) ∧
    (c.length = i.length c → acceptedOn i c.ch = true → sessionOk i c s = true → privOk i c s = true → s.keys.lock = false →
      (i.content = true → s.isHelm = true) → (i.dock = true → s.dev = .dryDock) → c.atTick = true → limit c s < c.targetTick → checkCmd i c s = some (.range, 0x0010)) ∧
    (c.length = i.length c → acceptedOn i c.ch = true → sessionOk i c s = true → privOk i c s = true → s.keys.lock = false →
      (i.content = true → s.isHelm = true) → (i.dock = true → s.dev = .dryDock) → (c.atTick = true → c.targetTick ≤ limit c s) →
      ∀ g, i.gen c s = some g → c.checkGen = true → g ≠ c.expectedGen → checkCmd i c s = some (.stale, 0x0008)) ∧
    (c.length = i.length c → acceptedOn i c.ch = true → sessionOk i c s = true → privOk i c s = true → s.keys.lock = false →
      (i.content = true → s.isHelm = true) → (i.dock = true → s.dev = .dryDock) → (c.atTick = true → c.targetTick ≤ limit c s) → c.checkGen = false →
      checkCmd i c s = none))

/-- The completion record of a command on a ring: written at CQ_TAIL with the fields of R79, PHASE as R81 says, CQ_TAIL moved on, SQ_HEAD and STATE of the
control block in HDM; every other byte of HDM stands, and so does everything outside the mailbox. -/
def Obligations.CompletionIsWritten : Prop :=
  ∀ (ch tag op session : Nat) (silent : Bool) (st : Status) (tick gen head detail : Nat) (s : State), hdmCanonical s → 1 ≤ ch → ch < 64 →
    tableOk ({} : Channel) s.mbox.channels = true → (s.chan ch).cqTail < 1024 →
    let t := complete ch tag op session silent st tick gen head detail s
    memRead t.hdm (cqAddr ch (s.chan ch).cqTail) 32 = completionBytes tag st.code (bit (s.chan ch).phase) op session tick gen head detail ∧
    (t.chan ch).cqTail = ((s.chan ch).cqTail + 1) % 1024 ∧
    ((t.chan ch).phase = if (s.chan ch).cqTail = 1023 then !(s.chan ch).phase else (s.chan ch).phase) ∧
    memRead t.hdm (chBase ch + 0x80) 4 = toLe 4 (t.chan ch).cqTail ∧
    (∀ a, ¬(cqAddr ch (s.chan ch).cqTail ≤ a ∧ a < cqAddr ch (s.chan ch).cqTail + 32) → ¬(chBase ch ≤ a ∧ a < chBase ch + 4) →
      ¬(chBase ch + 0x80 ≤ a ∧ a < chBase ch + 0x84) → ¬(chBase ch + 0xC0 ≤ a ∧ a < chBase ch + 0xC4) → memGet t.hdm a = memGet s.hdm a) ∧
    (∀ c, c ≠ ch → t.chan c = s.chan c) ∧ t.obj = s.obj ∧ t.time = s.time ∧ t.host = s.host ∧ t.basin = s.basin ∧ t.heads = s.heads ∧
    t.streams = s.streams ∧ t.pending = s.pending

/-- A new session's number is 1 to 65,535, never one in use, and none is used twice in a power-on period until all are used. -/
def Obligations.NewSessionIsFresh : Prop :=
  ∀ s : State, (openSessions s).length ≤ 61 → s.mbox.usedSessions.Nodup →
    (∀ n ∈ s.mbox.usedSessions, 1 ≤ n ∧ n ≤ 65535) → 1 ≤ newSession s ∧ newSession s ≤ 65535 ∧ (s.mbox.usedSessions.length < 65535 → newSession s ∉ s.mbox.usedSessions) ∧
    (65535 ≤ s.mbox.usedSessions.length → newSession s ∉ openSessions s)

/-- IDENTIFY, CLOSE_SESSION, KEEPALIVE, OPEN_SESSION, SET_INTERRUPTS, SET_CHANNEL_CEILING and SET_NOTIFY are carried out.  SET_CHANNEL_CEILING on channel
1: the ceiling is written and ANDed into an open session's mask; with CLOSE_NOW the session closes.  Each of these rows answers a next state under
conditions on state and operands alone (conclusion exec i s = next t): identify, openSession, setInterrupts, setNotify, setChannelCeiling. -/
def Obligations.SessionCommandsComplete : Prop :=
  (
    Carries .identify identifyInfo (fun c _ => c.u32 0 % 32 = 0 ∧ c.u32 0 + 64 ≤ 65536)
      (fun c s => okWith 0 (s.hdmWrite (replyAddr c.ch (c.u32 0)) (identifyBytes s))) ∧
    Carries .openSession openSessionInfo (fun c s => (s.chan c.ch).draining = false ∧ (c.u32 4 = 0 ∨ (100 ≤ c.u32 4 ∧ c.u32 4 ≤ 600000)))
      (fun c s => { s := syncChannel c.ch ((s.onMbox fun x => { x with usedSessions := setAdd x.usedSessions (newSession s) }).onChan c.ch fun k =>
                      { k with isOpen := true, session := newSession s, priv := grantedMask (c.u32 0) c.ch s, leaseMs := c.u32 4, leaseAge := 0,
                               label := c.bytes 8 16 }),
                    detail := newSession s + 65536 * grantedMask (c.u32 0) c.ch s, session := some (newSession s) }) ∧
    Carries .openSession openSessionInfo (fun c s => (s.chan c.ch).draining = true) (fun _ s => rej .busy 0 s) ∧
    Carries .setInterrupts setInterruptsInfo
      (fun c _ => c.u8 0 = 0 ∧ c.u8 1 < 64 ∧ c.u8 2 < 64 ∧ c.u16 4 ≤ 1024 ∧ c.u16 6 ≤ 4800)
      (fun c s => ok (s.onChan (c.u8 1) fun x => { x with irq := { s.chIrq (c.u8 1) with next := some (c.u8 2, if c.u16 4 = 0 then 1 else c.u16 4, c.u16 6) } })) ∧
    Carries .setInterrupts setInterruptsInfo
      (fun c _ => c.u8 0 = 1 ∧ c.u8 1 < 4 ∧ c.u8 2 < 64 ∧ c.u16 4 ≤ 1024 ∧ c.u16 6 ≤ 4800)
      (fun c s => ok (s.onRing (c.u8 1) fun x => { x with irq := { s.ringIrq (c.u8 1) with next := some (c.u8 2, if c.u16 4 = 0 then 1 else c.u16 4, c.u16 6) } })) ∧
    Carries .setNotify setNotifyInfo (fun c _ => c.u64 0 % 64 = 0 ∧ c.u8 8 ≤ 1)
      (fun c s => ok (s.onMbox fun m => { m with notifyAddr := c.u64 0, notifyOn := decide (c.u8 8 = 1) }))) ∧
  (
    Carries .setChannelCeiling setChannelCeilingInfo (fun c s => 3 ≤ c.u8 0 ∧ c.u8 0 ≤ 63 ∧ (s.chan (c.u8 0)).isOpen = true)
      (fun c s => { s := ((s.onObj fun o => { o with ceilings := tset 0xFFFE o.ceilings (c.u8 0) (Nat.land (c.u32 4) 0xFFFE) }).touch 0x01 (c.u8 0)).onChan (c.u8 0)
                      fun k => { k with priv := Nat.land k.priv (Nat.land (c.u32 4) 0xFFFE) },
                    close := if bitOf (c.u8 1) 0 then some (c.u8 0) else none }) ∧
    Carries .setChannelCeiling setChannelCeilingInfo (fun c s => 3 ≤ c.u8 0 ∧ c.u8 0 ≤ 63 ∧ (s.chan (c.u8 0)).isOpen = false)
      (fun c s => ok ((s.onObj fun o => { o with ceilings := tset 0xFFFE o.ceilings (c.u8 0) (Nat.land (c.u32 4) 0xFFFE) }).touch 0x01 (c.u8 0))))

/-- R95: CLOSE_SESSION and KEEPALIVE have no payload; the one closes the issuing session behind its completion, the other does nothing but renew the
lease, which its admission does.  Each of these rows answers a next state under conditions on state and operands alone (conclusion exec i s = next t):
closeSession, keepalive. -/
def Obligations.CloseAndKeepalive : Prop :=
  (∀ c, closeSessionInfo.length c = 0) ∧ (∀ c, keepaliveInfo.length c = 0) ∧
  Carries .closeSession closeSessionInfo (fun _ _ => True) (fun c s => { s := s, close := some c.ch }) ∧
  (∀ (c : Cmd) (r : Res), r.close = some c.ch → ∃ t, conclude closeSessionInfo c r = closeChannel c.ch t) ∧
  Carries .keepalive keepaliveInfo (fun _ _ => True) (fun _ s => ok s) ∧
  (∀ (c : Cmd) (s : State), tableOk ({} : Channel) s.mbox.channels = true → (s.chan c.ch).isOpen = true → (s.chan c.ch).session = c.session →
    ((admittedAt c s).chan c.ch).leaseAge = 0) ∧
  (∀ (c : Cmd) (s : State), accepts closeSessionInfo c s → tableOk ({} : Channel) s.mbox.channels = true →
    ∃ t, exec (.closeSession c) s = .next t ∧ (t.chan c.ch).isOpen = false ∧ t.obj = s.obj) ∧
  (∀ (c : Cmd) (s : State), accepts keepaliveInfo c s → tableOk ({} : Channel) s.mbox.channels = true →
    ∃ t, exec (.keepalive c) s = .next t ∧ (t.chan c.ch).leaseAge = 0 ∧ t.obj = s.obj)

/-- R514: what each Dry Dock command does where it is taken in DRY_DOCK, and that a commit while BUSY only sets OVERRUN (R63).  R505, R514: DD_STATUS is
accepted in every state in which channel 0 is reached, and answers with the DETAIL that R514 lays out; the other Dry Dock commands complete with
REJECTED_STATE outside DRY_DOCK.  R469, R530, R531: the management interface shows its 16 bytes from the offset on and wraps; the port resets; EXTEST
takes the pins only in OFF, DRY_DOCK and FATAL_D or under PERST_N, and is otherwise refused and reported; injection through the port needs debug
access.  Each of these rows answers a next state under conditions on state and operands alone (conclusion exec i s = next t): ddBegin, ddChunk,
ddFinish, ddRestart, ddCommitWhileBusy, ddStatus, mgmtWrite, mgmtRead, jtagTapReset, jtagExtest, jtagInject. -/
def Obligations.DryDockAndPinRowsComplete : Prop :=
  (
    (∀ (c : Cmd) (s : State), dockTakes ddBeginInfo c s → c.u8 4 ≤ 2 →
      Answers (.ddBegin c) s (dockDone ddBeginInfo c 0
        ((dockTaken s).onFw fun f => { f with ddLength := c.u32 0, ddSlots := c.u8 4, ddHave := [], ddBytes := [] }))) ∧
    (∀ (c : Cmd) (s : State), dockTakes ddChunkInfo c s → 1 ≤ c.u32 4 → c.u32 4 ≤ 4088 → c.u32 0 + c.u32 4 ≤ s.fw.ddLength →
      Answers (.ddChunk c) s (dockDone ddChunkInfo c 0
        ((dockTaken s).onFw fun f => { f with ddHave := addRange (c.u32 0) (c.u32 0 + c.u32 4) f.ddHave,
                                              ddBytes := memWrite f.ddBytes (c.u32 0) (c.bytes 8 (c.u32 4)) }))) ∧
    (∀ (c : Cmd) (s : State), dockTakes ddFinishInfo c s → s.keys.retired = false → s.keys.bank.isSome = true → ddComplete s = true →
      Answers (.ddFinish c) s
        (((dockTaken s).onFw fun f => { f with source := .dryDock, phase := .checking, target := if f.ddSlots = 1 then 1 else 0,
                                               both := decide (f.ddSlots = 2), job := none, hash := none }).onHost fun h =>
          { h with ddCmd := some (0x0004, { c with ch := 0 }) })) ∧
    (∀ (c : Cmd) (s : State), dockTakes ddRestartInfo c s → Answers (.ddRestart c) s (beginStart false 1 (dockDone ddRestartInfo c 0 (dockTaken s)))) ∧
    (∀ (op : Nat) (c : Cmd) (run : Cmd → State → State) (s : State), dockReached s = true → s.host.ddBusy = true →
      commitDock op c run s = s.onHost fun h => { h with ddOverrun := true }) ∧
    (∀ s : State, Answers .ddCommitWhileBusy s (if s.host.ddBusy = true then s.onHost fun h => { h with ddOverrun := true } else s))) ∧
  (
    (∀ (c : Cmd) (s : State), dockUp s = true → (c.atTick = true → c.targetTick ≤ s.now) →
      checkCmd ddStatusInfo { c with ch := 0 } (dockTaken s) = none →
      Answers (.ddStatus c) s (dockDone ddStatusInfo c
        (s.dev.code + 16 * s.start.dockReason + 256 * (s.keys.bank.getD 0) + 512 * bit s.keys.retired + 1024 * bit (ddComplete s) +
          2048 * bit (s.fw.ddTrained && decide (s.dev = .dryDock)) + 65536 * (ddCount s % 2 ^ 32)) (dockTaken s))) ∧
    (∀ (i : CmdInfo) (body : Cmd → State → Res) (c : Cmd) (s : State),
      (i, body) ∈ [(ddBeginInfo, ddBegin), (ddChunkInfo, ddChunk), (ddFinishInfo, ddFinish), (ddRestartInfo, ddRestart)] →
      dockUp s = true → s.dev ≠ .dryDock → c.length = i.length c → c.session = 0 → s.keys.lock = false → ¬(c.atTick = true ∧ s.now < c.targetTick) →
      runDock i body c s = complete 0 c.tag i.opcode c.session false .state s.now 0 0 0xFFFF (dockTaken s))) ∧
  (
    (∀ (b : Byte) (s : State), mgmtUp s = true → Answers (.mgmtWrite [b]) s (s.onPins fun p => { p with mgmtOffset := b.toNat % 16 })) ∧
    (∀ (d : List Byte) (s : State), (d.length ≠ 1 ∨ mgmtUp s = false) → Answers (.mgmtWrite d) s s) ∧
    (∀ (n : Nat) (s : State), mgmtUp s = true → Answers (.mgmtRead n) s (s.onPins fun p =>
      { p with mgmtData := (List.range n).map (fun i => (mgmtBytes s).getD ((s.pins.mgmtOffset + i) % 16) 0#8), mgmtOffset := (s.pins.mgmtOffset + n) % 16 })) ∧
    (∀ (n : Nat) (s : State), mgmtUp s = false → Answers (.mgmtRead n) s s) ∧
    (∀ s : State, Answers .jtagTapReset s (s.onPins fun p => { p with tap := 0, tapReg := idcode })) ∧
    (∀ s : State, (s.dev = .off ∨ s.dev = .dryDock ∨ s.dev = .fatalD ∨ s.pins.perstN = false) → Answers .jtagExtest s (s.onPins fun p => { p with tap := tapExtest })) ∧
    (∀ s : State, s.dev ≠ .off → s.dev ≠ .dryDock → s.dev ≠ .fatalD → s.pins.perstN = true →
      Answers .jtagExtest s (report { code := 0x0503, subject := 6 } (s.onPins fun p => { p with tap := tapBypass, tapReg := 0 }))) ∧
    (∀ (k i b n ms : Nat) (w : Bool) (s : State), s.dev ≠ .off → s.keys.debug = true → injectable k = true → i < instanceLimit k → (b = 1 ∨ b = 2) → 1 ≤ n → n ≤ 255 →
      1 ≤ ms → ms ≤ 60000 → injectionArmed k i w s = false →
      Answers (.jtagInject k w i b n ms) s ((s.onPins fun p => { p with tap := tapInject }).onFaults fun f => { f with injects := f.injects ++
        [{ kind := k, west := w, inst := i, bits := b, left := n, done := 0, ticks := msTicks ms, job := 0 }] })) ∧
    (∀ (k i b n ms : Nat) (w : Bool) (s : State), (s.dev = .off ∨ s.keys.debug = false ∨ injectable k = false ∨ instanceLimit k ≤ i ∨ (b ≠ 1 ∧ b ≠ 2) ∨ n = 0 ∨ 255 < n ∨ ms = 0 ∨
      60000 < ms ∨ injectionArmed k i w s = true) → Answers (.jtagInject k w i b n ms) s s))

/-- R72 to R75: a doorbell of a serving channel with a sound tail announces it, its records eligible from the next tick; a tail above 4,095 is a ring
fault, whose record names the unit at SQ_HEAD; where no session is open, the records announced are looked over, and the doorbell counts only if one of
them names session 0, the first faulty one else being a ring fault; a stopped channel, or one whose HDM the host cannot reach, takes none.  R62, R63:
a write of SCRATCH is held, staging is held, a write of 1 to DD_COMMIT runs the staged record, a write to a channel's doorbell is that doorbell, a
write to the MSI-X table is held and sends what it unmasks; the offsets that BAR0 does not list and accesses that are not of 4 or 8 aligned bytes
change nothing; BAR2 and configuration space hold what is written.  R70, R71, R90, R91: a drained channel's rings are reset and it is free; a lease
that has run out raises SESSION_EXPIRED and closes the session; an event ring with room again takes what waited; a ring whose moderation time has
passed becomes ready.  Each of these rows answers a next state under conditions on state and operands alone (conclusion exec i s = next t):
doorbellWrite, registerWrite, sessionLeaseExpiry, eventRingSpaceReturns, moderationTimeout, channelDrained. -/
def Obligations.DoorbellsAndRegistersAndTimers : Prop :=
  (
    (∀ (ch value : Nat) (s : State), 1 ≤ ch → ch < 64 → s.serving = true → s.hdmUp = true → (s.chan ch).ringFault = false → value ≤ 4095 →
      (ch < 3 ∨ (s.chan ch).isOpen = true) →
      Answers (.doorbellWrite ch value) s ((useIde s).onChan ch fun c =>
        { c with sqTail := value, elig := if value = c.sqTail then c.elig else c.elig ++ [(value, s.now + 1)] })) ∧
    (∀ (ch value : Nat) (s : State), 3 ≤ ch → ch < 64 → s.serving = true → s.hdmUp = true → (s.chan ch).ringFault = false → value ≤ 4095 →
      (s.chan ch).isOpen = false → (s.chan ch).sqTail ≠ value →
      let seen := scanRecords s ch 4096 (s.chan ch).sqHead (unitsTo (s.chan ch).sqHead value)
      Answers (.doorbellWrite ch value) s (if seen.2 = true then (useIde s).onChan ch fun c => { c with sqTail := value, elig := c.elig ++ [(value, s.now + 1)] }
        else match seen.1 with
          | some (cause, unit) => ringFault ch cause unit (useIde s)
          | none => useIde s)) ∧
    (∀ (ch value : Nat) (s : State), 1 ≤ ch → ch < 64 → s.serving = true → s.hdmUp = true → (s.chan ch).ringFault = false → 4095 < value →
      Answers (.doorbellWrite ch value) s (ringFault ch 1 ((s.chan ch).headShown.getD (s.chan ch).sqHead) (useIde s))) ∧
    (∀ (ch value : Nat) (s : State), (ch = 0 ∨ 64 ≤ ch ∨ s.serving = false ∨ s.hdmUp = false ∨ (s.chan ch).ringFault = true) →
      Answers (.doorbellWrite ch value) s (useIde s))) ∧
  (
    (∀ (d : List Byte) (s : State), s.host.link ≠ .down → s.dev ≠ .off → d.length = 8 →
      Answers (.registerWrite .bar0 0x0080 d) s ((useIde s).onHost fun h => { h with scratch := leNat d })) ∧
    (∀ (off : Nat) (d : List Byte) (s : State), s.host.link ≠ .down → s.dev ≠ .off → (d.length = 4 ∨ d.length = 8) → off % d.length = 0 →
      (0x0800 ≤ off → off < 0x0820 →
        Answers (.registerWrite .bar0 off d) s ((useIde s).onHost fun h => { h with ddHeader := memWrite h.ddHeader (off - 0x800) d })) ∧
      (0x1000 ≤ off → off < 0x2000 →
        Answers (.registerWrite .bar0 off d) s ((useIde s).onHost fun h => { h with ddPayload := memWrite h.ddPayload (off - 0x1000) d })) ∧
      (off = 0x0840 → leNat d % 2 = 1 → Answers (.registerWrite .bar0 off d) s (commitStaged (useIde s))) ∧
      (off = 0x0840 → leNat d % 2 = 0 → Answers (.registerWrite .bar0 off d) s (useIde s)) ∧
      (0x0100 ≤ off → off < 0x0300 → off % 8 = 0 →
        Answers (.registerWrite .bar0 off d) s (doorbell ((off - 0x100) / 8) (leNat (d.take 2)) (useIde s))) ∧
      (0x2000 ≤ off → off < 0x2400 → Answers (.registerWrite .bar0 off d) s (sendUnmasked (msixWrite (useIde s) (off - 0x2000) d)))) ∧
    (∀ (off : Nat) (d : List Byte) (s : State), s.host.link ≠ .down → s.dev ≠ .off →
      ((d.length ≠ 4 ∧ d.length ≠ 8) ∨ off % d.length ≠ 0 ∨ off < 0x0080 ∨ (0x0088 ≤ off ∧ off < 0x0100) ∨ (0x0300 ≤ off ∧ off < 0x0800) ∨
        (0x0820 ≤ off ∧ off < 0x0840) ∨ (0x0848 ≤ off ∧ off < 0x1000) ∨ 0x2400 ≤ off) →
      Answers (.registerWrite .bar0 off d) s (useIde s)) ∧
    (∀ (off : Nat) (d : List Byte) (s : State), s.host.link ≠ .down → s.dev ≠ .off →
      Answers (.registerWrite .bar2 off d) s ((useIde s).onHost fun h => { h with bar2 := memWrite h.bar2 (off % 65536) d }) ∧
      Answers (.registerWrite .config off d) s ((useIde s).onHost fun h => { h with config := memWrite h.config (off % 4096) d })) ∧
    (∀ (sp : RegSpace) (off : Nat) (d : List Byte) (s : State), (s.host.link = .down ∨ s.dev = .off) → Answers (.registerWrite sp off d) s s)) ∧
  (
    (∀ (ch : Nat) (s : State), (s.chan ch).isOpen = true → (s.chan ch).leaseMs ≠ 0 → msTicks (s.chan ch).leaseMs ≤ (s.chan ch).leaseAge →
      Answers (.sessionLeaseExpiry ch) s (closeChannel ch (raise 0x0182 1 ch (s.chan ch).session s))) ∧
    (∀ (ch : Nat) (s : State), (s.chan ch).isOpen = true → (s.chan ch).leaseAge < msTicks (s.chan ch).leaseMs → Answers (.sessionLeaseExpiry ch) s s) ∧
    (∀ (r head : Nat) (s : State), s.hdmUp = true → Answers (.eventRingSpaceReturns r head) s (ringCatchUp r (s.hdmWrite (ringBase r + 0x40) (toLe 4 head)))) ∧
    (∀ (i : Nat) (s : State), ((s.chIrq i).prune (cqUnread s i)).timedOut s.elapsed = true →
      Answers (.moderationTimeout false i) s (s.onChan i fun c => { c with irq := { (s.chIrq i).prune (cqUnread s i) with ready := true } })) ∧
    (∀ (i : Nat) (s : State), ((s.ringIrq i).prune (eqUnread s i)).timedOut s.elapsed = true →
      Answers (.moderationTimeout true i) s (s.onRing i fun c => { c with irq := { (s.ringIrq i).prune (eqUnread s i) with ready := true } })) ∧
    (∀ (ch : Nat) (s : State), (s.chan ch).draining = true → openCommands s ch = 0 → Answers (.channelDrained ch) s (resetRings ch s)) ∧
    (∀ (ch : Nat) (s : State), ((s.chan ch).draining = false ∨ openCommands s ch ≠ 0) → Answers (.channelDrained ch) s s))

/-- The host link's own rows: decoders are committed (R61), the link trains as CXL or as plain PCI Express (R58, R73), PERST_N is released (R529), a snoop
is answered without a line held (R56).  R59: a link loss resets the CXL controller (master 1 of the East die), takes the link, the decoders, the MSI-X
table, configuration space and IDE, closes every session and discards the completions still owed, clears SET_NOTIFY's setting; the video path runs on.
Each of these rows answers a next state under conditions on state and operands alone (conclusion exec i s = next t): hdmDecoderCommit, cxlLinkUp,
plainPcieLink, perstDeasserted, h2dSnoop, linkLoss. -/
def Obligations.HostLinkRowsComplete : Prop :=
  (
    (∀ (d base : Nat) (s : State), s.host.link = .cxl →
      Answers (.hdmDecoderCommit d base) s (s.onHost fun h => if d = 0 then { h with dec0 := some base } else { h with dec1 := some base })) ∧
    (∀ (w r : Nat) (s : State), mayTrain s = true →
      let t := s.onHost fun h => { h with link := .cxl, linkWidth := w, linkRate := r, linkLost := false, trained := true }
      Answers (.cxlLinkUp w r) s (if s.host.linkLost = true then resetAllRings t else t)) ∧
    (∀ (w r : Nat) (s : State), mayTrain s = true →
      let t := s.onHost fun h => { h with link := .pcie, linkWidth := w, linkRate := r, linkLost := false, trained := true, dec0 := none, dec1 := none }
      Answers (.plainPcieLink w r) s (if s.host.linkLost = true then resetAllRings t else t)) ∧
    (∀ s : State, Answers .perstDeasserted s (s.onPins fun p => { p with perstN := true })) ∧
    (∀ (a : Nat) (s : State), Answers (.h2dSnoop a) s (s.onHost fun h => { h with snoops := h.snoops + 1 }))) ∧
  (
    ∀ (cause : LossCause) (s : State), ∃ t : State,
      Answers (.linkLoss cause) s (masterReset 0 1 t) ∧
      t.host = { s.host with link := .down, linkWidth := 0, linkRate := 0, linkLost := true, dec0 := none, dec1 := none, msixTable := [], config := [],
                             bar2 := [], ideIo := false, ideMem := false } ∧
      (tableOk ({} : Channel) s.mbox.channels = true → ∀ ch, 3 ≤ ch → ch ≤ 63 → (t.chan ch).isOpen = false) ∧
      (∀ j ∈ t.mbox.jobs, 1 ≤ j.cmd.ch → j.owed = false) ∧ t.mbox.notifyAddr = 0 ∧ t.mbox.notifyOn = false ∧ t.mbox.msixPending = 0 ∧
      t.keys.ide = [] ∧ t.obj = s.obj ∧ t.time = s.time ∧ t.streams = s.streams ∧ t.audio = s.audio ∧ t.tow = s.tow ∧ t.twin = s.twin ∧
      t.wharf = s.wharf ∧ t.dev = s.dev)

/-- R58: a link trained as plain PCI Express exposes no HDM (a host access does nothing), shows it in DEVICE_STATE[6], takes no command on a channel but
channel 0, which it does offer, and no doorbell write announces anything or touches a channel.  Each of these rows answers a next state under
conditions on state and operands alone (conclusion exec i s = next t): hostHdmWrite, hostHdmRead, doorbellWrite. -/
def Obligations.PlainLinkOffersOnlyChannelZero : Prop :=
  ∀ s : State, s.host.link = .pcie →
    (∀ (a : Nat) (d : List Byte), Answers (.hostHdmWrite a d) s s) ∧
    (∀ a n : Nat, Answers (.hostHdmRead a n) s s) ∧
    bitOf (deviceStateWord s) 6 = true ∧
    (∀ (i : CmdInfo) (body : Cmd → State → Res) (c : Cmd), 1 ≤ c.ch → runCmd i body c s = s) ∧
    (s.dev ≠ .off → s.host.ddBusy = false → dockUp s = true) ∧
    (∀ ch v : Nat, Answers (.doorbellWrite ch v) s (useIde s)) ∧
    (∀ ch : Nat, (useIde s).chan ch = s.chan ch)

/-- The read-only commands that show one block each: the reply is written and the completion is DONE.  The read-only commands with operands: READ_ROUTES
over one range of destinations (R187), READ_BERTHS over frame synchronizers (R216), READ_AUDIO_SOURCES over live inputs with audio, READ_HEAD of an
active or pending configuration (R322), and ATTEST, whose MAC the current attestation secret makes over the 160 bytes before it (R507).  Each of these
rows answers a next state under conditions on state and operands alone (conclusion exec i s = next t): readTiming, readReferences, readWharf,
readTwin, readClocks, readStarts, readLogbook, readFaults, readKeys, readFirmware, readRoutes, readBerths, readAudioSources, readHead, attest. -/
def Obligations.ReadCommandsReply : Prop :=
  (
    Carries .readTiming readTimingInfo (fun c _ => replyFits c 0 320) (fun c s => replied c 0 0 (timingBytes s) s) ∧
    Carries .readReferences readReferencesInfo (fun c _ => replyFits c 0 384) (fun c s => replied c 0 0 (referenceBlock s) s) ∧
    Carries .readWharf readWharfInfo (fun c _ => replyFits c 0 192) (fun c s => replied c 0 0 (wharfBytes s) s) ∧
    Carries .readTwin readTwinInfo (fun c _ => replyFits c 0 512) (fun c s => replied c 0 0 (toLe 4 (s.hdmNat 0x23E0000 4) ++ (twinBlock s).drop 4) s) ∧
    Carries .readClocks readClocksInfo (fun c _ => replyFits c 0 512) (fun c s => replied c 0 0 (toLe 4 (s.hdmNat 0x23E4000 4) ++ (clocksBlock s).drop 4) s) ∧
    Carries .readStarts readStartsInfo (fun c _ => replyFits c 0 256) (fun c s => replied c 0 0 (toLe 4 (s.hdmNat 0x23E8000 4) ++ (startsBlock s).drop 4) s) ∧
    Carries .readLogbook readLogbookInfo (fun c _ => replyFits c 0 4096) (fun c s => replied c 0 0 (logbookBytes s) s) ∧
    Carries .readFaults readFaultsInfo (fun c _ => replyFits c 0 1280) (fun c s => replied c 0 0 (readFaultsBytes s) s) ∧
    Carries .readKeys readKeysInfo (fun c _ => replyFits c 0 256) (fun c s => replied c 0 0 (keysBytes s) s) ∧
    Carries .readFirmware readFirmwareInfo (fun c _ => replyFits c 0 144) (fun c s => replied c 0 0 (firmwareBytes s) s)) ∧
  (
    Carries .readRoutes readRoutesInfo
      (fun c _ => 1 ≤ c.u16 2 ∧ c.u16 2 ≤ 2048 ∧ c.u16 0 + c.u16 2 ≤ 65536 ∧ destRange (c.u16 0) = destRange (c.u16 0 + c.u16 2 - 1) ∧
        replyFits c 4 (32 * c.u16 2))
      (fun c s => replied c 4 0 ((span (c.u16 0) (c.u16 2)).flatMap (routeRecord s)) s) ∧
    Carries .readBerths readBerthsInfo (fun c _ => 1 ≤ c.u16 2 ∧ c.u16 2 ≤ 512 ∧ replyFits c 4 (32 * c.u16 2))
      (fun c s => let found := (s.wharf.berths.map Prod.fst).filter fun b => berthed s b ∧ c.u16 0 ≤ b ∧ b < c.u16 0 + c.u16 2
        replied c 4 found.length (found.flatMap (berthRecord s)) s) ∧
    Carries .readAudioSources readAudioSourcesInfo (fun c _ => 1 ≤ c.u16 2 ∧ c.u16 2 ≤ 512 ∧ replyFits c 4 (32 * c.u16 2))
      (fun c s => let found := (liveInputs s).filter fun b => c.u16 0 ≤ b ∧ b < c.u16 0 + c.u16 2 ∧ (s.stream b).audioCount ≠ 0
        replied c 4 found.length (found.flatMap (audioRecord s)) s) ∧
    Carries .readHead readHeadInfo (fun c _ => c.u8 0 < 32 ∧ c.u8 1 ≤ 1 ∧ replyFits c 4 8256)
      (fun c s => replied c 4 0 (headBytes (c.u8 0) (if c.u8 1 = 1 then (s.headObj (c.u8 0)).cfg else pendingCfg s (c.u8 0))) s) ∧
    (∀ key, Carries .attest attestInfo (fun c s => (s.keySlot 1).current = some key ∧ replyFits c 0x20 208)
      (fun c s => replied c 0x20 0 (attestBytes c s ++ macOf key (attestBytes c s)) s)) ∧
    Carries .attest attestInfo (fun _ s => (s.keySlot 1).current = none) (fun _ s => rej .state 0xFFFF s))

/-- R81, R82: a reply stands in the reply area as it was written, once its completion has been written behind it; a REPLY_OFFSET that is no multiple of 32
or that leads out of the area is refused at its place in the record, with nothing written. -/
def Obligations.ReplyStandsInItsArea : Prop :=
  (∀ (i : CmdInfo) (c : Cmd) (at_ detail : Nat) (bytes : List Byte) (s : State), hdmCanonical s → 1 ≤ c.ch → c.ch < 64 →
    (s.chan c.ch).cqTail < 1024 → c.u32 at_ + bytes.length ≤ 65536 →
    memRead (conclude i c (replied c at_ detail bytes s)).hdm (replyAddr c.ch (c.u32 at_)) bytes.length = bytes) ∧
  (∀ (c : Cmd) (at_ len detail : Nat) (bytes : List Byte) (s : State), ¬(c.u32 at_ % 32 = 0 ∧ c.u32 at_ + len ≤ 65536) →
    reply c at_ len detail bytes s = rej .range (0x20 + at_) s)

/-- R4: the fields of a record stand at their offsets, least significant byte first: a field that no later one touches reads back as its value, cut to its
width, and a byte that no field names is zero. -/
def Obligations.RecordFieldsReadBack : Prop :=
  (∀ (n off w v : Nat) (fs : List (Nat × Nat × Nat)), off + w ≤ n → (∀ f ∈ fs, f.1 + f.2.1 ≤ off ∨ off + w ≤ f.1) →
    leNat (((recordBytes n ((off, w, v) :: fs)).drop off).take w) = v % 256 ^ w) ∧
  (∀ (n a : Nat) (fs : List (Nat × Nat × Nat)), a < n → (∀ f ∈ fs, a < f.1 ∨ f.1 + f.2.1 ≤ a) → (recordBytes n fs)[a]? = some 0#8) ∧
  (∀ (n : Nat) (fs : List (Nat × Nat × Nat)), (recordBytes n fs).length = n)

/-- R61: with both decoders up, a host physical address within the first GiB of decoder 0's range or the 15 GiB of decoder 1's names its byte of HDM. A
host write stores its bytes there and no others and makes the words that it overwrites whole good; a read answers with the bytes that stand there and
POISON where a word is uncorrectable (R209); while the link or a decoder is down, neither does anything; outside the two ranges no address exists.
Each of these rows answers a next state under conditions on state and operands alone (conclusion exec i s = next t): hostHdmWrite, hostHdmRead. -/
def Obligations.HostMemoryAccess : Prop :=
  (∀ (b0 b1 addr n : Nat) (s : State), s.host.dec0 = some b0 → s.host.dec1 = some b1 →
    (b0 ≤ addr → addr + n ≤ b0 + 0x40000000 → hdmOffset s addr n = some (addr - b0)) ∧
    (¬(b0 ≤ addr ∧ addr + n ≤ b0 + 0x40000000) → b1 ≤ addr → addr + n ≤ b1 + 0x3C0000000 → hdmOffset s addr n = some (addr - b1 + 0x40000000)) ∧
    (¬(b0 ≤ addr ∧ addr + n ≤ b0 + 0x40000000) → ¬(b1 ≤ addr ∧ addr + n ≤ b1 + 0x3C0000000) → hdmOffset s addr n = none)) ∧
  (∀ (addr a : Nat) (d : List Byte) (s : State), hdmCanonical s → s.hdmUp = true → hdmOffset s addr d.length = some a →
    ∃ t, Answers (.hostHdmWrite addr d) s t ∧
    memRead t.hdm a d.length = d ∧ (∀ b, (b < a ∨ a + d.length ≤ b) → memGet t.hdm b = memGet s.hdm b) ∧
    t.host = { s.host with poison := s.host.poison.filter fun w => !wholeWord a d.length w } ∧ t.mbox = s.mbox ∧ t.obj = s.obj ∧ t.time = s.time) ∧
  (∀ (addr a n : Nat) (s : State), s.hdmUp = true → hdmOffset s addr n = some a →
    ∃ t, Answers (.hostHdmRead addr n) s t ∧ t.host.readData = memRead s.hdm a n ∧
    t.host.readPoison = s.host.poison.any (touchesWord a n) ∧ t.hdm = s.hdm ∧ t.mbox = s.mbox ∧ t.obj = s.obj ∧ t.time = s.time) ∧
  (∀ (a : Nat) (d : List Byte) (s : State), s.hdmUp = false → Answers (.hostHdmWrite a d) s s) ∧
  (∀ (a n : Nat) (s : State), s.hdmUp = false → Answers (.hostHdmRead a n) s s) ∧
  (∀ (a n : Nat) (d : List Byte) (s : State), s.hdmUp = true →
    (hdmOffset s a d.length = none → exec (.hostHdmWrite a d) s = .fault (.noSuchHdmAddress a)) ∧
    (hdmOffset s a n = none → exec (.hostHdmRead a n) s = .fault (.noSuchHdmAddress a)))

/-- R83 check 2: a record whose opcode is not implemented is read and completes with REJECTED_OPCODE, once its target tick, if it has one within 60 s, has
come; on channel 0 the completion goes to DD_COMPLETION.  Each of these rows answers a next state under conditions on state and operands alone
(conclusion exec i s = next t): commandUnknownOpcode. -/
def Obligations.UnknownOpcodeAnswered : Prop :=
  (∀ (op : Nat) (c : Cmd) (s : State), 1 ≤ c.ch → gate c s = true → waitsTick c (eligTick s c.ch c.units) s.now = false →
    Answers (.commandUnknownOpcode op c) s (complete c.ch c.tag op c.session c.silent .unknown (admittedAt c s).now 0 ((admittedAt c s).chan c.ch).sqHead 0
      (admittedAt c s))) ∧
  (∀ (op : Nat) (c : Cmd) (s : State), c.ch = 0 → dockUp s = true → waitsTick c s.now s.now = false →
    Answers (.commandUnknownOpcode op c) s (complete 0 c.tag op c.session false .unknown s.now 0 0 0 (dockTaken s)))

/-- R24: bay number = lane × 64 + hold × 8 + bay-in-hold; each number below 8,192 is exactly one lane, hold and bay-in-hold, in both directions. -/
def Obligations.BaysAreNumbered : Prop :=
  (∀ dir lane hold b : Nat, dir < 2 → lane < 128 → hold < 8 → b < 8 →
    let bay := lane * 64 + hold * 8 + b
    bay < 8192 ∧ keyBay (streamKey dir bay) = bay ∧ keyLane (streamKey dir bay) = lane ∧ bayHold bay = hold ∧ bay % 8 = b) ∧
  (∀ bay : Nat, bay < 8192 → keyLane bay < 128 ∧ bayHold bay < 8 ∧ keyLane bay * 64 + bayHold bay * 8 + bay % 8 = bay)

/-- DEFINE_STREAM: a stream that no check refuses is defined with its record's fields and its generation advanced, the first one of an undefined handle
being 1; an amendment keeps a live stream live; the definition in force again changes nothing. The field checks come first, then those of state and
those of format (R539), and the first that fails answers at its field.  RELEASE_STREAM: a defined stream becomes undefined, a live one that is not
busy, or with FORCE, begins to be released; an undefined or releasing one is refused with REJECTED_STATE.  SET_MANIFEST: a manifest that no check
refuses is accepted: it waits for its epoch on a lane that takes one, and otherwise switches at once.  Each of these rows answers a next state under
conditions on state and operands alone (conclusion exec i s = next t): defineStream, releaseStream, setManifest. -/
def Obligations.StreamCommandsComplete : Prop :=
  (
    let passes (c : Cmd) (s : State) : Prop := firstBad (defineRange c) = none ∧ firstBad (defineState c s) = none ∧ firstBad (defineFormat c s) = none
    let key (c : Cmd) : Nat := streamKey (c.u8 2) (c.u16 0)
    let next (c : Cmd) (s : State) : StreamObj :=
      definition c .defined (if (s.stream (key c)).st = .undef then 1 else genNext (s.stream (key c)).gen)
    Carries .defineStream defineStreamInfo
      (fun c s => passes c s ∧ c.u8 5 = 0 ∧ definition c .defined (s.stream (key c)).gen ≠ s.stream (key c))
      (fun c s => ok (redefineBerth (key c) (next c s) (putStream (key c) (next c s) s))) ∧
    (∀ t, Carries .defineStream defineStreamInfo
      (fun c s => passes c s ∧ c.u8 5 = 1 ∧ definition c .live (s.stream (key c)).gen ≠ s.stream (key c) ∧
        amendStream (key c) (definition c .live (genNext (s.stream (key c)).gen)) s = some t)
      (fun _ _ => ok t)) ∧
    Carries .defineStream defineStreamInfo
      (fun c s => passes c s ∧ c.u8 5 = 0 ∧ definition c .defined (s.stream (key c)).gen = s.stream (key c)) (fun _ s => ok s) ∧
    Carries .defineStream defineStreamInfo
      (fun c s => passes c s ∧ c.u8 5 = 1 ∧ definition c .live (s.stream (key c)).gen = s.stream (key c)) (fun _ s => ok s) ∧
    (∀ off, Carries .defineStream defineStreamInfo (fun c _ => firstBad (defineRange c) = some off) (fun _ s => rej .range off s)) ∧
    (∀ off, Carries .defineStream defineStreamInfo (fun c s => firstBad (defineRange c) = none ∧ firstBad (defineState c s) = some off)
      (fun _ s => rej .state off s)) ∧
    (∀ off, Carries .defineStream defineStreamInfo
      (fun c s => firstBad (defineRange c) = none ∧ firstBad (defineState c s) = none ∧ firstBad (defineFormat c s) = some off)
      (fun _ s => rej .format off s)) ∧
    (∀ (c : Cmd) (s : State), tableOk ({} : StreamObj) s.obj.streams = true → c.u8 5 = 0 → (putStream (key c) (next c s) s).stream (key c) = next c s ∧
      (next c s).st = .defined ∧ ∀ k, k ≠ key c → (putStream (key c) (next c s) s).stream k = s.stream k)) ∧
  (
    let key (c : Cmd) : Nat := streamKey (c.u8 2) (c.u16 0)
    let good (c : Cmd) : Prop := c.u16 0 < 8192 ∧ c.u8 2 ≤ 1
    Carries .releaseStream releaseStreamInfo (fun c s => good c ∧ (s.stream (key c)).st = .defined ∧ inPending s (key c) = false)
      (fun c s => ok (setUndef (key c) s)) ∧
    Carries .releaseStream releaseStreamInfo
      (fun c s => good c ∧ (s.stream (key c)).st = .live ∧ (streamBusy s (key c) (s.stream (key c)) = false ∨ bitOf (c.u8 3) 0 = true))
      (fun c s => ok (releaseLive c (key c) (s.stream (key c)) s)) ∧
    Carries .releaseStream releaseStreamInfo (fun c s => good c ∧ ((s.stream (key c)).st = .undef ∨ (s.stream (key c)).st = .releasing))
      (fun _ s => rej .state 0xFFFF s) ∧
    Carries .releaseStream releaseStreamInfo
      (fun c s => good c ∧ (s.stream (key c)).st = .live ∧ streamBusy s (key c) (s.stream (key c)) = true ∧ bitOf (c.u8 3) 0 = false)
      (fun _ s => rej .state 0xFFFF s) ∧
    (∀ (k : Nat) (s : State), tableOk ({} : StreamObj) (clearStream k (s.stream k) s).obj.streams = true →
      ((setUndef k s).stream k).st = .undef ∧ ((setUndef k s).stream k).gen = genNext (s.stream k).gen)) ∧
  (
    let good (c : Cmd) (s : State) : Prop := c.u8 0 < 128 ∧ c.u8 1 ≤ 1 ∧ c.u8 2 ≤ 64 ∧ (c.u8 1 = 1 ∨ c.u16 4 ≤ 60000) ∧
      manifestFault s (c.u8 1) (c.u8 0) (manifestList c) = none
    Carries .setManifest setManifestInfo (fun c s => good c s ∧ (c.u8 1 = 1 ∨ s.obj.trims.syncAll = false)) (fun c s => acceptManifest c s) ∧
    (∀ st d, Carries .setManifest setManifestInfo
      (fun c s => c.u8 0 < 128 ∧ c.u8 1 ≤ 1 ∧ c.u8 2 ≤ 64 ∧ (c.u8 1 = 1 ∨ c.u16 4 ≤ 60000) ∧
        manifestFault s (c.u8 1) (c.u8 0) (manifestList c) = some (st, d))
      (fun _ s => rej st d s)) ∧
    (∀ (c : Cmd) (s : State), atEpoch s (c.u8 1) (c.u8 0) = true →
      (acceptManifest c s).status = .queued ∧ (acceptManifest c s).job = .manifest (manKey (c.u8 1) (c.u8 0))) ∧
    (∀ (c : Cmd) (s : State), atEpoch s (c.u8 1) (c.u8 0) = false → (acceptManifest c s).status = .done))

/-- SET_PLANE: a new rate places a plane that nothing names from the present epoch; 255 disables it; another phase at the same rate waits for its
adoption; the same setting changes nothing; a plane in use keeps its rate.  SET_REFERENCE and SET_SELECTION_POLICY: a setting that no check refuses is
written with its generation advanced, the slot follows, and the selector decides at step 6 of the tick; the setting in force again changes nothing; a
beacon slot whose lane another enabled one names, a pin slot whose plane is disabled, and a new spread while the timing master is DISCIPLINED or in
HOLDOVER are refused.  Each of these rows answers a next state under conditions on state and operands alone (conclusion exec i s = next t): setPlane,
setReference, setSelectionPolicy. -/
def Obligations.PlanesAndReferencesAreSet : Prop :=
  (
    let good (c : Cmd) : Prop := c.u8 0 < 8 ∧ c.u8 1 ≤ 12 ∧ phaseOk (c.u8 1) (c.u64 8) = true
    let free (c : Cmd) (s : State) : Prop := (s.plane (c.u8 0)).rate = none ∨ planeNamed s (c.u8 0) = false
    Carries .setPlane setPlaneInfo (fun c s => good c ∧ (s.plane (c.u8 0)).rate ≠ some (c.u8 1) ∧ free c s)
      (fun c s => ok (enablePlane (c.u8 0) (c.u8 1) (c.u64 8) (supersedePhase (c.u8 0) c s))) ∧
    Carries .setPlane setPlaneInfo (fun c s => c.u8 0 < 8 ∧ c.u8 1 = 255 ∧ (s.plane (c.u8 0)).rate.isSome = true ∧ planeNamed s (c.u8 0) = false)
      (fun c s => ok (disablePlane (c.u8 0) (supersedePhase (c.u8 0) c s))) ∧
    Carries .setPlane setPlaneInfo (fun c s => good c ∧ (s.plane (c.u8 0)).rate = some (c.u8 1) ∧ (s.plane (c.u8 0)).phase ≠ c.u64 8)
      (fun c s => queued (.plane (c.u8 0)) ((supersedePhase (c.u8 0) c (putPlane (c.u8 0) (some (c.u8 1)) (c.u64 8) s)).onPlaneRt (c.u8 0) fun q =>
        { q with job := some s.mbox.nextJob })) ∧
    Carries .setPlane setPlaneInfo (fun c s => good c ∧ (s.plane (c.u8 0)).rate = some (c.u8 1) ∧ (s.plane (c.u8 0)).phase = c.u64 8) (fun _ s => ok s) ∧
    Carries .setPlane setPlaneInfo
      (fun c s => (good c ∨ (c.u8 0 < 8 ∧ c.u8 1 = 255)) ∧ (s.plane (c.u8 0)).rate ≠ (if c.u8 1 = 255 then none else some (c.u8 1)) ∧
        (s.plane (c.u8 0)).rate.isSome = true ∧ planeNamed s (c.u8 0) = true)
      (fun _ s => rej .state 0xFFFF s)) ∧
  (
    let next (c : Cmd) (s : State) : RefObj := refSetting c (s.refObj (c.u8 0)).gen
    let free (c : Cmd) (s : State) : Prop := if 8 ≤ c.u8 0 then (s.rate (next c s).plane).isSome = true else laneNamed s (c.u8 0) (next c s).lane = false
    let policyOk (c : Cmd) : Prop := c.u8 0 ≤ 2 ∧ c.u8 1 < 10 ∧ c.u32 4 ≤ 2500000 ∧ c.u32 8 ≤ 100000 ∧ c.u32 0x0C ≤ 10000 ∧ 1 ≤ c.u32 0x10 ∧
      c.u32 0x10 ≤ 1000000000
    let policy (c : Cmd) (gen : Nat) : PolicyObj :=
      { mode := if c.u8 0 = 0 then .auto else if c.u8 0 = 1 then .forceSlot else .forceHoldover, forced := c.u8 1, spreadPpb := c.u32 4, driftPpb := c.u32 8,
        offsetPpb := c.u32 0x0C, budgetNs := c.u32 0x10, gen := gen }
    let spreads (c : Cmd) (s : State) : Prop := c.u32 4 = s.obj.policy.spreadPpb ∨ (s.time.tmState ≠ .disciplined ∧ s.time.tmState ≠ .holdover)
    Carries .setReference setReferenceInfo (fun c s => firstBad (refRange c) = none ∧ free c s ∧ next c s ≠ s.refObj (c.u8 0))
      (fun c s => ok (applyRef (c.u8 0) (s.refObj (c.u8 0)) (next c s)
        ((s.onObj fun o => { o with refs := tset {} o.refs (c.u8 0) (refSetting c (genNext (s.refObj (c.u8 0)).gen)) }).touch 0x04 (c.u8 0)))) ∧
    Carries .setReference setReferenceInfo (fun c s => firstBad (refRange c) = none ∧ free c s ∧ next c s = s.refObj (c.u8 0)) (fun _ s => ok s) ∧
    Carries .setReference setReferenceInfo (fun c s => firstBad (refRange c) = none ∧ ¬free c s) (fun _ s => rej .state 0xFFFF s) ∧
    (∀ off, Carries .setReference setReferenceInfo (fun c _ => firstBad (refRange c) = some off) (fun _ s => rej .range off s)) ∧
    Carries .setSelectionPolicy setSelectionPolicyInfo (fun c s => policyOk c ∧ spreads c s ∧ policy c s.obj.policy.gen ≠ s.obj.policy)
      (fun c s => ok (budgetCrossing ((s.onObj fun o => { o with policy := policy c (genNext s.obj.policy.gen) }).touch 0x04 0x10000))) ∧
    Carries .setSelectionPolicy setSelectionPolicyInfo (fun c s => policyOk c ∧ policy c s.obj.policy.gen = s.obj.policy) (fun _ s => ok s) ∧
    Carries .setSelectionPolicy setSelectionPolicyInfo (fun c s => policyOk c ∧ ¬spreads c s) (fun _ s => rej .state 0xFFFF s))

/-- SET_TRIM: each of the four trims takes its new value, either way; a trim in force again changes nothing; the Stowage trim is refused while any page is
in use; the Power trim acts at once on the scrub's pace, and off, on what it moored and gated; Composer and Latency changes are DONE, or QUEUED while
a head or a plane still waits for its frame; SYNC-ALL is refused with REJECTED_CAPACITY where its berths do not fit (R22, R99).  The policies of the
twin (R392), of power (R417), of the journal (R443) and of faults (R472), and CLEAR_FIRST_FAULT (R473): each new setting is written with its
generation advanced, its zeros selecting the defaults; the setting in force again changes nothing; the first fault is cleared by its own code alone.
Each of these rows answers a next state under conditions on state and operands alone (conclusion exec i s = next t): setTrim, setTwinPolicy,
setPowerPolicy, setJournalPolicy, setFaultPolicy, clearFirstFault. -/
def Obligations.TrimsAndPoliciesAreSet : Prop :=
  (
    let val (c : Cmd) : Bool := decide (c.u8 1 = 1)
    Carries .setTrim setTrimInfo (fun c s => c.u8 0 ≤ 3 ∧ c.u8 1 ≤ 1 ∧ trimValue s (c.u8 0) = val c) (fun _ s => ok s) ∧
    Carries .setTrim setTrimInfo (fun c s => c.u8 0 = 0 ∧ c.u8 1 ≤ 1 ∧ s.obj.trims.shallow ≠ val c ∧ (∀ e ∈ s.wharf.berths, e.2.pages = 0))
      (fun c s => ok (putTrims (fun t => { t with shallow := val c }) s)) ∧
    Carries .setTrim setTrimInfo (fun c s => c.u8 0 = 0 ∧ c.u8 1 ≤ 1 ∧ s.obj.trims.shallow ≠ val c ∧ (∃ e ∈ s.wharf.berths, e.2.pages ≠ 0))
      (fun _ s => rej .state 0xFFFF s) ∧
    Carries .setTrim setTrimInfo (fun c s => c.u8 0 = 2 ∧ c.u8 1 = 1 ∧ s.obj.trims.eco = false)
      (fun _ s => ok (retimeScrub true (putTrims (fun t => { t with eco := true }) s))) ∧
    Carries .setTrim setTrimInfo (fun c s => c.u8 0 = 2 ∧ c.u8 1 = 0 ∧ s.obj.trims.eco = true)
      (fun c s => ok (wakeTrimmed (byCommand c) ((retimeScrub false (putTrims (fun t => { t with eco := false }) s)).onHeads fun t =>
        t.map fun e => (e.1, { e.2 with gated := false })))) ∧
    Carries .setTrim setTrimInfo (fun c s => c.u8 0 = 1 ∧ c.u8 1 ≤ 1 ∧ s.obj.trims.legacy ≠ val c) (fun c s => trimComposer c (val c) s) ∧
    Carries .setTrim setTrimInfo (fun c s => c.u8 0 = 3 ∧ c.u8 1 ≤ 1 ∧ s.obj.trims.syncAll ≠ val c) (fun c s => trimLatency c (val c) s) ∧
    (∀ (c : Cmd) (v : Bool) (s : State), ((trimComposer c v s).status = .done ∨ (trimComposer c v s).status = .queued) ∧
      (trimComposer c v s).s.obj.trims = { s.obj.trims with legacy := v, gen := genNext s.obj.trims.gen }) ∧
    (∀ (c : Cmd) (s : State), (trimLatency c false s).status = .done ∨ (trimLatency c false s).status = .queued) ∧
    (∀ (c : Cmd) (s : State), ((syncBerths (byCommand c) (liveInputs s) s).isSome = true →
        (trimLatency c true s).status = .done ∨ (trimLatency c true s).status = .queued) ∧
      (syncBerths (byCommand c) (liveInputs s) s = none → trimLatency c true s = rej .capacity 0xFFFF s)) ∧
    (∀ (c : Cmd) (off : Nat) (s : State), firstBad [(decide (c.u8 0 ≤ 3), 0x20), (decide (c.u8 1 ≤ 1), 0x21)] = some off → setTrim c s = rej .range off s)) ∧
  (
    let dflt (d n : Nat) : Nat := if n = 0 then d else n
    let twin (c : Cmd) (gen : Nat) : TwinPolObj := { autoResync := c.u8 0 = 1, sealCheck := c.u8 1 = 1, retryS := dflt 10 (c.u16 4), gen := gen }
    let power (c : Cmd) (gen : Nat) : PowerPolObj := { throttleC := dflt 100 (c.u8 0), preferAnvil := c.u8 1, stepMs := dflt 100 (c.u16 2), gen := gen }
    let base (c : Cmd) : Nat := dflt 100 (c.u16 0)
    let most (c : Cmd) : Nat := dflt 1000 (c.u16 2)
    let fault (c : Cmd) (gen : Nat) : FaultPolObj := { autoResetMs := dflt 1000 (c.u32 0), rateLimit := dflt 100 (c.u16 4), gen := gen }
    let twinOk (c : Cmd) : Prop := c.u8 0 ≤ 1 ∧ c.u8 1 ≤ 1 ∧ c.u16 4 ≤ 600
    let powerOk (c : Cmd) : Prop := (c.u8 0 = 0 ∨ (85 ≤ c.u8 0 ∧ c.u8 0 ≤ 100)) ∧ c.u8 1 ≤ 2 ∧ (c.u16 2 = 0 ∨ (10 ≤ c.u16 2 ∧ c.u16 2 ≤ 10000))
    let journalOk (c : Cmd) : Prop := base c ∈ [100, 200, 500, 1000] ∧ most c ∈ [100, 200, 500, 1000] ∧ base c ≤ most c
    let faultOk (c : Cmd) : Prop := c.u32 0 = 0 ∨ (100 ≤ c.u32 0 ∧ c.u32 0 ≤ 60000)
    Carries .setTwinPolicy setTwinPolicyInfo (fun c s => twinOk c ∧ twin c s.obj.twinPol.gen ≠ s.obj.twinPol)
      (fun c s => ok ((s.onObj fun x => { x with twinPol := twin c (genNext s.obj.twinPol.gen) }).touch 0x0C 0)) ∧
    Carries .setTwinPolicy setTwinPolicyInfo (fun c s => twinOk c ∧ twin c s.obj.twinPol.gen = s.obj.twinPol) (fun _ s => ok s) ∧
    Carries .setPowerPolicy setPowerPolicyInfo (fun c s => powerOk c ∧ power c s.obj.powerPol.gen ≠ s.obj.powerPol)
      (fun c s => ok ((s.onObj fun x => { x with powerPol := power c (genNext s.obj.powerPol.gen) }).touch 0x0D 0)) ∧
    Carries .setPowerPolicy setPowerPolicyInfo (fun c s => powerOk c ∧ power c s.obj.powerPol.gen = s.obj.powerPol) (fun _ s => ok s) ∧
    Carries .setJournalPolicy setJournalPolicyInfo (fun c s => journalOk c ∧ ¬(s.obj.journalPol.baseMs = base c ∧ s.obj.journalPol.maxMs = most c))
      (fun c s => ok (setInterval (min (most c) (max (base c) s.journal.interval))
        ((s.onObj fun x => { x with journalPol := { baseMs := base c, maxMs := most c, gen := genNext s.obj.journalPol.gen } }).touch 0x0E 0))) ∧
    Carries .setJournalPolicy setJournalPolicyInfo (fun c s => journalOk c ∧ s.obj.journalPol.baseMs = base c ∧ s.obj.journalPol.maxMs = most c)
      (fun _ s => ok s) ∧
    Carries .setFaultPolicy setFaultPolicyInfo (fun c s => faultOk c ∧ fault c s.obj.faultPol.gen ≠ s.obj.faultPol)
      (fun c s => ok ((s.onObj fun x => { x with faultPol := fault c (genNext s.obj.faultPol.gen) }).touch 0x0F 0)) ∧
    Carries .setFaultPolicy setFaultPolicyInfo (fun c s => faultOk c ∧ fault c s.obj.faultPol.gen = s.obj.faultPol) (fun _ s => ok s) ∧
    Carries .clearFirstFault clearFirstFaultInfo (fun c s => c.u16 0 = s.faults.first.code) (fun _ s => ok (s.onFaults fun f => { f with first := {} })) ∧
    Carries .clearFirstFault clearFirstFaultInfo (fun c s => c.u16 0 ≠ s.faults.first.code) (fun _ s => rej .stale 0x0008 s))

/-- TAKE: an accepted take is QUEUED with its number of frame in DETAIL, armed on the first open frame with room from the frame it asks for on; the takes
of the tick that go beyond 8,192 wait, and nothing else happens (R163); a take whose checks fail is refused and arms nothing.  SALVO: an accepted
salvo of 1 to 512 entries is QUEUED, its takes armed together on one frame, or each on its own with SPLIT; one that fails any entry's checks, or finds
a queue full, arms none and names the entry (R168); the entries are checked in their order, each as a TAKE after those before it.  Each of these rows
answers a next state under conditions on state and operands alone (conclusion exec i s = next t): take, salvo. -/
def Obligations.TakeAndSalvoArm : Prop :=
  (
    let starts (c : Cmd) (s : State) : Int × Int := takeFrames s (planeOf s (c.u16 0)) (bitOf (c.u16 6) 0) (toInt 64 (c.u64 8))
    let entry (c : Cmd) (s : State) : Entry := newEntry s c (c.u16 0) (c.u16 2) (c.u16 4) (starts c s).2
    let good (c : Cmd) (s : State) : Prop := takeFault s (c.u16 0) (c.u16 2) (c.u16 4) c.session = none ∧
      targetNear s (planeOf s (c.u16 0)) (bitOf (c.u16 6) 0) (toInt 64 (c.u64 8)) = true
    let result (c : Cmd) (t : State) (n : Int) : Res := { queued (.take (c.u16 0)) (countArmed 1 t) with detail := ofInt 64 n }
    (∀ (c : Cmd) (s t : State) (n : Int), accepts takeInfo c s → good c (admittedAt c s) →
      placeTake (c.u16 0) (entry c (admittedAt c s)) (starts c (admittedAt c s)).1 (byCommand c)
        (takePrepares (admittedAt c s) (c.u16 0, entry c (admittedAt c s))) = some (t, n) →
      (conclude takeInfo c (result c t n)).mbox.armed ≤ 8192 → exec (.take c) s = concluded takeInfo c (result c t n)) ∧
    (∀ (c : Cmd) (s t : State) (n : Int), accepts takeInfo c s → good c (admittedAt c s) →
      placeTake (c.u16 0) (entry c (admittedAt c s)) (starts c (admittedAt c s)).1 (byCommand c)
        (takePrepares (admittedAt c s) (c.u16 0, entry c (admittedAt c s))) = some (t, n) →
      8192 < (conclude takeInfo c (result c t n)).mbox.armed → Answers (.take c) s (s.onMbox fun m => { m with admitted := 256 })) ∧
    (∀ (c : Cmd) (s : State) (st : Status) (off : Nat), takeFault s (c.u16 0) (c.u16 2) (c.u16 4) c.session = some (st, off) →
      take c s = rej st (0x20 + off) s) ∧
    (∀ (c : Cmd) (s : State), takeFault s (c.u16 0) (c.u16 2) (c.u16 4) c.session = none →
      targetNear s (planeOf s (c.u16 0)) (bitOf (c.u16 6) 0) (toInt 64 (c.u64 8)) = false → take c s = rej .range 0x28 s) ∧
    (∀ (c : Cmd) (s : State), good c s →
      placeTake (c.u16 0) (entry c s) (starts c s).1 (byCommand c) (takePrepares s (c.u16 0, entry c s)) = none → take c s = rej .capacity 0x20 s)) ∧
  (
    let plane (c : Cmd) (s : State) : Nat := (destPlane s (salvoEntry c 0).1).getD 0
    let starts (c : Cmd) (s : State) : Int × Int := takeFrames s (plane c s) (bitOf (c.u16 2) 1) (toInt 64 (c.u64 8))
    let entries (c : Cmd) (s : State) : List (Nat × Entry) := (List.range (c.u16 0)).map (salvoTake s c (starts c s).2)
    let placed (c : Cmd) (s : State) : State × Int ⊕ Nat :=
      if bitOf (c.u16 2) 0 then placeSplit (starts c s).1 (byCommand c) 0 (entries c s) none ((entries c s).foldl takePrepares s)
      else placeWhole (plane c s) (entries c s) (starts c s).1 (byCommand c) ((entries c s).foldl takePrepares s)
    let good (c : Cmd) (s : State) : Prop := c.checkGen = false ∧ 1 ≤ c.u16 0 ∧ c.u16 0 ≤ 512 ∧
      salvoFault c (destPlane s (salvoEntry c 0).1) [] (List.range (c.u16 0)) s = none
    (∀ (c : Cmd) (s t : State) (g : Int), accepts salvoInfo c s → good c (admittedAt c s) → placed c (admittedAt c s) = .inl (t, g) →
      let kind : JobKind := .salvo (c.u16 0) 0 0 0 (starts c (admittedAt c s)).2 g 0 0
      let r : Res := { queued kind (countArmed (c.u16 0) t) with detail := ofInt 64 g }
      (conclude salvoInfo c r).mbox.armed ≤ 8192 → exec (.salvo c) s = concluded salvoInfo c r) ∧
    (∀ (c : Cmd) (s : State) (i : Nat), good c s → placed c s = .inr i → salvo c s = rej .capacity (0x30 + 6 * i) s) ∧
    (∀ (c : Cmd) (s : State) (st : Status) (off : Nat), c.checkGen = false → 1 ≤ c.u16 0 → c.u16 0 ≤ 512 →
      salvoFault c (destPlane s (salvoEntry c 0).1) [] (List.range (c.u16 0)) s = some (st, off) → salvo c s = rej st off s) ∧
    (∀ (c : Cmd) (p0 : Option Nat) (seen r : List Nat) (i : Nat) (st : Status) (off : Nat) (s : State),
      takeFault s (salvoEntry c i).1 (salvoEntry c i).2.1 (salvoEntry c i).2.2 c.session = some (st, off) →
      salvoFault c p0 seen (i :: r) s = some (st, 0x30 + 6 * i + off)) ∧
    (∀ (c : Cmd) (s : State) (t : State) (g : Int), accepts salvoInfo c s → good c (admittedAt c s) → placed c (admittedAt c s) = .inl (t, g) →
      let kind : JobKind := .salvo (c.u16 0) 0 0 0 (starts c (admittedAt c s)).2 g 0 0
      8192 < (conclude salvoInfo c { queued kind (countArmed (c.u16 0) t) with detail := ofInt 64 g }).mbox.armed →
      Answers (.salvo c) s (s.onMbox fun m => { m with admitted := 256 })))

/-- R158, R161, R162: arming an entry keeps a destination's queue in the order of its frames, no two entries on one frame and at most four of them; the
entry stands in it, and the only other entry that can go is the one of its frame, which it replaces; a fifth is not armed. -/
def Obligations.QueueKeepsFrames : Prop :=
  let frames (s : State) (d : Nat) : List Int := (s.routeRt d).queue.map fun q => q.frame
  (∀ (d by_ : Nat) (e : Entry) (s t : State), tableOk ({} : RouteRt) s.basin.routes = true → (frames s d).Pairwise (· < ·) →
    (s.routeRt d).queue.length ≤ 4 → armEntry d e by_ s = some t →
    (frames t d).Pairwise (· < ·) ∧ (t.routeRt d).queue.length ≤ 4 ∧ e ∈ (t.routeRt d).queue ∧
    (∀ q ∈ (t.routeRt d).queue, q = e ∨ q ∈ (s.routeRt d).queue) ∧
    (∀ q ∈ (s.routeRt d).queue, q.frame ≠ e.frame → q ∈ (t.routeRt d).queue)) ∧
  (∀ (d by_ : Nat) (e : Entry) (s : State), openEntryAt s d e.frame = none → 4 ≤ (s.routeRt d).queue.length → armEntry d e by_ s = none)

/-- R161: the frame found for a take is the first open one from the frame asked for on that has room within 4,096 takes; every frame passed is closed or
has no room. -/
def Obligations.FirstFrameWithRoom : Prop :=
  ∀ (s : State) (p fuel : Nat) (need : Int → Nat) (f : Int), let r := findFrame s p need fuel f
    f ≤ r.1 ∧ r.1 ≤ f + fuel ∧
    (∀ g, f ≤ g → g < r.1 → frameOpen s p g = false ∨ 4096 < armedFor s p g + need g) ∧
    (∀ g ∈ r.2, frameOpen s p g = true ∧ f ≤ g ∧ g < r.1) ∧
    (r.1 < f + fuel → frameOpen s p r.1 = true ∧ armedFor s p r.1 + need r.1 ≤ 4096)

/-- CANCEL, LOCK_DESTINATION and SET_GENERATOR are carried out: a CANCEL in either mode drops what it reaches, and is refused where it reaches no take; a
lock of 1 to 4,096 handles of one range acts on each in turn, or on none; a generator takes its new setting, a change of its pattern or flat colour
showing from its next frame start, and the setting in force again changes nothing; a generator in use keeps its shape; its plane is enabled or none,
and its format a serial one of its width and of the plane's rate.  R171: a locked destination takes no take, and one protected by a session takes only
that session's; a destination that is locked or protected drops its uncommitted takes, of all sessions or of the others; unlocking leaves it free.
Each of these rows answers a next state under conditions on state and operands alone (conclusion exec i s = next t): cancel, lockDestination,
setGenerator. -/
def Obligations.BasinCommandsComplete : Prop :=
  (
    let lockGood (c : Cmd) : Prop := (c.checkGen = true → lockCount c = 1) ∧ lockCount c ≤ 4096 ∧ c.u16 0 + lockCount c ≤ 65536 ∧
      destRange (c.u16 0) = destRange (c.u16 0 + lockCount c - 1) ∧ c.u8 4 ≤ 2
    let fields (c : Cmd) : Prop := c.u8 0 < 16 ∧ (c.u8 1 < 8 ∨ c.u8 1 = 255) ∧ c.u8 2 ∈ [1, 2, 4, 8] ∧ c.u8 3 ≤ 5 ∧ c.u8 6 ≤ 1 ∧ (c.u8 7 = 1 ∨ c.u8 7 = 2) ∧
      c.u16 8 < 1024 ∧ c.u16 0x0A < 1024 ∧ c.u16 0x0C < 1024
    let old (c : Cmd) (s : State) : GenObj := s.gen (c.u8 0)
    let shape (c : Cmd) (s : State) : Bool := genReshaped (old c s) (genSetting c (old c s).gen)
    let fits (c : Cmd) (s : State) : Prop := serialIn (c.u8 2) (c.u16 4) = true ∧ (c.u8 1 = 255 ∨ s.rate (c.u8 1) = some (fmtRate (c.u16 4)))
    let written (c : Cmd) (s : State) : State :=
      (s.onObj fun o => { o with gens := tset {} o.gens (c.u8 0) (genSetting c (genNext (old c s).gen)) }).touch 0x05 (0x20000 + c.u8 0)
    let shown (c : Cmd) (s : State) : GenObj := tget {} s.basin.genPend (c.u8 0)
    let new (c : Cmd) (s : State) : Prop := genSetting c (old c s).gen ≠ old c s
    Carries .cancel cancelInfo (fun c s => c.u8 0 ≤ 1 ∧ openEntries s (cancelReach c s) ≠ [])
      (fun c s => okWith (openEntries s (cancelReach c s)).length (dropEntries (byCommand c) (openEntries s (cancelReach c s)) s)) ∧
    Carries .cancel cancelInfo (fun c s => c.u8 0 ≤ 1 ∧ openEntries s (cancelReach c s) = [])
      (fun c s => rej .state (if c.u8 0 = 0 then 0x21 else 0x24) s) ∧
    Carries .cancel cancelInfo (fun c _ => 1 < c.u8 0) (fun _ s => rej .range 0x20 s) ∧
    Carries .lockDestination lockDestinationInfo (fun c s => lockGood c ∧ ∀ d ∈ span (c.u16 0) (lockCount c), lockable s (c.u8 4) c.session d = true)
      (fun c s => ok ((span (c.u16 0) (lockCount c)).foldl (lockOne c) s)) ∧
    Carries .lockDestination lockDestinationInfo (fun c s => lockGood c ∧ ∃ d ∈ span (c.u16 0) (lockCount c), lockable s (c.u8 4) c.session d = false)
      (fun _ s => rej .state 0x20 s) ∧
    Carries .lockDestination lockDestinationInfo (fun c _ => ¬lockGood c)
      (fun c s => rej .range (if (c.checkGen = true ∧ 1 < lockCount c) ∨ ¬(lockCount c ≤ 4096 ∧ c.u16 0 + lockCount c ≤ 65536 ∧
        destRange (c.u16 0) = destRange (c.u16 0 + lockCount c - 1)) then 0x22 else 0x24) s) ∧
    Carries .setGenerator setGeneratorInfo (fun c s => fields c ∧ fits c s ∧ new c s ∧ shape c s = true ∧ genUsed s (c.u8 0) = false)
      (fun c s => ok ((written c s).onBasin fun b => { b with genPend := tset {} b.genPend (c.u8 0) {} })) ∧
    Carries .setGenerator setGeneratorInfo (fun c s => fields c ∧ fits c s ∧ new c s ∧ shape c s = false ∧ shown c s ≠ {})
      (fun c s => ok (written c s)) ∧
    Carries .setGenerator setGeneratorInfo (fun c s => fields c ∧ fits c s ∧ new c s ∧ shape c s = false ∧ shown c s = {})
      (fun c s => ok ((written c s).onBasin fun b => { b with genPend := tset {} b.genPend (c.u8 0) (old c s) })) ∧
    Carries .setGenerator setGeneratorInfo (fun c s => fields c ∧ fits c s ∧ ¬new c s) (fun _ s => ok s) ∧
    Carries .setGenerator setGeneratorInfo (fun c s => fields c ∧ fits c s ∧ shape c s = true ∧ genUsed s (c.u8 0) = true)
      (fun _ s => rej .state 0xFFFF s) ∧
    Carries .setGenerator setGeneratorInfo (fun c s => fields c ∧ c.u8 1 < 8 ∧ s.rate (c.u8 1) = none) (fun _ s => rej .state 0xFFFF s) ∧
    Carries .setGenerator setGeneratorInfo (fun c s => fields c ∧ (c.u8 1 = 255 ∨ (s.rate (c.u8 1)).isSome = true) ∧ ¬fits c s)
      (fun _ s => rej .format 0x24 s)) ∧
  (
    (∀ (s : State) (d src fl session : Nat), (s.route d).locked = true → takeFault s d src fl session ≠ none) ∧
    (∀ (s : State) (d src fl session : Nat), (s.routeRt d).protect ≠ 0 → (s.routeRt d).protect ≠ session → takeFault s d src fl session ≠ none) ∧
    (∀ (c : Cmd) (s : State) (d : Nat), tableOk ({} : RouteObj) s.obj.routes = true → c.u8 4 = 2 → ((lockOne c s d).route d).locked = true) ∧
    (∀ (c : Cmd) (s : State) (d : Nat), tableOk ({} : RouteRt) s.basin.routes = true → c.u8 4 = 2 → ((s.route d).locked = false ∨ (s.routeRt d).protect ≠ 0) →
      ∀ e ∈ ((lockOne c s d).routeRt d).queue, e.committed = true) ∧
    (∀ (c : Cmd) (s : State) (d : Nat), tableOk ({} : RouteObj) s.obj.routes = true → tableOk ({} : RouteRt) s.basin.routes = true → c.u8 4 = 1 →
      ((lockOne c s d).route d).locked = false ∧ ((lockOne c s d).routeRt d).protect = c.session) ∧
    (∀ (c : Cmd) (s : State) (d : Nat), tableOk ({} : RouteObj) s.obj.routes = true → tableOk ({} : RouteRt) s.basin.routes = true → c.u8 4 = 0 →
      ((lockOne c s d).route d).locked = false ∧ ((lockOne c s d).routeRt d).protect = 0))

/-- R117, R153, R159: at a commit deadline the plane commits and the tick's one record goes with the last plane that is due; at a switch point the
committed takes that are due are executed in the order of their frames, and a live destination's route names the take's source, its generation
advanced.  Each of these rows answers a next state under conditions on state and operands alone (conclusion exec i s = next t): commitDeadline,
switchPoint. -/
def Obligations.TakesCommitAndExecute : Prop :=
  (∀ (p : Nat) (s : State), s.serving = true → commitDue s p = true →
    let t := commitPlane s.now p s
    Answers (.commitDeadline p) s (if (enabledPlanes t).any (commitDue t) = true then t else sendRecord false (commitLimit s p s.now) t)) ∧
  (∀ (d : Nat) (s : State), Answers (.switchPoint d) s ((dueEntries s d).foldl (fun s e => executeTake d e s) s)) ∧
  (∀ (d : Nat) (e : Entry) (s : State), tableOk ({} : RouteObj) s.obj.routes = true → destLive s d = true →
    ((executeTake d e s).route d).source = e.source ∧ ((executeTake d e s).route d).gen = genNext (s.route d).gen ∧
    ∀ k, k ≠ d → (executeTake d e s).route k = s.route k)

/-- SET_FRAME_SYNC and SET_WHARF_POLICY: a frame synchronizer that fits is held and its setting written; one without destinations is freed when it is
disabled, one with destinations is QUEUED until they have left it, and a stream without one only keeps its setting; memory that does not suffice
refuses with REJECTED_CAPACITY, an undefined or releasing stream, a disabled plane, ENABLE 0 under SYNC-ALL and another plane under destinations with
REJECTED_STATE, an audio-only stream and a plane of another rate with REJECTED_FORMAT. A new wharf policy is written, the one in force changes
nothing.  SET_DESTINATION_FORM and SET_ANC_DESTINATION: a new setting is written, its generation advanced; a destination whose frame to come is known
takes it at that frame, until which the setting in force stands; the setting in force again changes nothing. LEVEL B needs a serial stream of two
bays, drop-frame generation a stream with a picture at a rate of at most 60 Hz, and an audio-only stream takes neither timecode nor payload
identification; an audio or payload-identifier packet and a line without vertical ancillary space are refused, as is an ANC destination that no stream
owns.  Each of these rows answers a next state under conditions on state and operands alone (conclusion exec i s = next t): setFrameSync,
setWharfPolicy, setDestinationForm, setAncDestination. -/
def Obligations.WharfAndDestinationSettings : Prop :=
  (
    let set (c : Cmd) (s : State) : FsyncObj := fsyncSetting c (s.fsync (c.u16 0)).gen
    let plane (c : Cmd) (s : State) : Nat := if c.u8 3 = 255 then (s.stream (c.u16 0)).plane else c.u8 3
    let fields (c : Cmd) : Prop := c.u16 0 < 8192 ∧ c.u8 2 ≤ 1 ∧ (c.u8 3 < 8 ∨ c.u8 3 = 255) ∧ c.u8 4 ≤ 60 ∧ c.u8 5 ≤ 1 ∧ c.u8 6 < 16 ∧
      (c.u32 8 ≤ 600000 ∨ c.u32 8 = 0xFFFFFFFF)
    let stands (c : Cmd) (s : State) : Prop := (s.stream (c.u16 0)).st = .defined ∨ (s.stream (c.u16 0)).st = .live
    let timed (c : Cmd) (s : State) : Prop := (s.rate (plane c s)).isSome = true ∧ s.rate (plane c s) = s.rate (s.stream (c.u16 0)).plane
    let free (c : Cmd) (s : State) : Prop := plane c s = readPlane s (c.u16 0) ∨ (berthDests s (c.u16 0)).isEmpty = true
    let good (c : Cmd) (s : State) : Prop := fields c ∧ stands c s ∧ (s.stream (c.u16 0)).form ≠ 3 ∧ timed c s ∧ free c s
    let policy (c : Cmd) (gen : Nat) : WharfPolObj := { scrubHours := if c.u16 0 = 0 then 24 else c.u16 0, hardRepair := decide (c.u8 2 = 1), gen := gen }
    let policyOk (c : Cmd) : Prop := (c.u16 0 = 0 ∨ (12 ≤ c.u16 0 ∧ c.u16 0 ≤ 168)) ∧ c.u8 2 ≤ 1
    (∀ t, Carries .setFrameSync setFrameSyncInfo (fun c s => good c s ∧ c.u8 2 = 1 ∧ fitBerth (c.u16 0) (set c s) s = some t)
      (fun c s => ok (writeFsync (c.u16 0) (set c s) (keepBerth (c.u16 0) (byCommand c) t)))) ∧
    Carries .setFrameSync setFrameSyncInfo (fun c s => good c s ∧ c.u8 2 = 1 ∧ fitBerth (c.u16 0) (set c s) s = none) (fun _ s => rej .capacity 0xFFFF s) ∧
    Carries .setFrameSync setFrameSyncInfo
      (fun c s => good c s ∧ c.u8 2 = 0 ∧ s.obj.trims.syncAll = false ∧ berthed s (c.u16 0) = true ∧ (berthDests s (c.u16 0)).isEmpty = true)
      (fun c s => ok (freeBerth (c.u16 0) (writeFsync (c.u16 0) (set c s) s))) ∧
    Carries .setFrameSync setFrameSyncInfo
      (fun c s => good c s ∧ c.u8 2 = 0 ∧ s.obj.trims.syncAll = false ∧ berthed s (c.u16 0) = true ∧ (berthDests s (c.u16 0)).isEmpty = false)
      (fun c s => queued (.frameSync (c.u16 0)) ((writeFsync (c.u16 0) (set c s) (keepBerth (c.u16 0) (byCommand c) s)).onBerth (c.u16 0) fun b =>
        { b with freeing := some s.mbox.nextJob })) ∧
    Carries .setFrameSync setFrameSyncInfo (fun c s => good c s ∧ c.u8 2 = 0 ∧ s.obj.trims.syncAll = false ∧ berthed s (c.u16 0) = false)
      (fun c s => ok (writeFsync (c.u16 0) (set c s) s)) ∧
    Carries .setFrameSync setFrameSyncInfo (fun c s => fields c ∧ ¬stands c s) (fun _ s => rej .state 0xFFFF s) ∧
    Carries .setFrameSync setFrameSyncInfo (fun c s => fields c ∧ stands c s ∧ (s.stream (c.u16 0)).form = 3) (fun _ s => rej .format 0x20 s) ∧
    Carries .setFrameSync setFrameSyncInfo
      (fun c s => fields c ∧ stands c s ∧ (s.stream (c.u16 0)).form ≠ 3 ∧ (s.rate (plane c s)).isSome = true ∧ s.rate (plane c s) ≠ s.rate (s.stream (c.u16 0)).plane)
      (fun _ s => rej .format 0x23 s) ∧
    Carries .setFrameSync setFrameSyncInfo
      (fun c s => fields c ∧ stands c s ∧ (s.stream (c.u16 0)).form ≠ 3 ∧ (s.rate (plane c s) = none ∨ (timed c s ∧ ((c.u8 2 = 0 ∧ s.obj.trims.syncAll = true) ∨ ¬free c s))))
      (fun _ s => rej .state 0xFFFF s) ∧
    Carries .setWharfPolicy setWharfPolicyInfo (fun c s => policyOk c ∧ policy c s.obj.wharfPol.gen ≠ s.obj.wharfPol)
      (fun c s => ok ((s.onObj fun o => { o with wharfPol := policy c (genNext s.obj.wharfPol.gen) }).touch 0x06 0x10000)) ∧
    Carries .setWharfPolicy setWharfPolicyInfo (fun c s => policyOk c ∧ policy c s.obj.wharfPol.gen = s.obj.wharfPol) (fun _ s => ok s) ∧
    Carries .setWharfPolicy setWharfPolicyInfo (fun c _ => ¬policyOk c)
      (fun c s => rej .range (if c.u16 0 = 0 ∨ (12 ≤ c.u16 0 ∧ c.u16 0 ≤ 168) then 0x22 else 0x20) s)) ∧
  (
    let form (c : Cmd) (gen : Nat) : DestFormObj :=
      { level := c.u8 2, tcMode := c.u8 3, pidMode := c.u8 4, dropFrame := bitOf (c.u8 5) 0, tcOffset := c.i32 8, gen := gen }
    let anc (c : Cmd) (gen : Nat) : AncObj := { mode := c.u8 2, did := c.u8 3, sdid := c.u8 4, line := c.u16 6, gen := gen }
    let out (c : Cmd) (s : State) : StreamObj := s.stream (streamKey 1 (c.u16 0))
    let fields (c : Cmd) : Prop := c.u16 0 < 8192 ∧ c.u8 2 ≤ 1 ∧ c.u8 3 ≤ 2 ∧ c.u8 4 ≤ 1 ∧ -86400 ≤ c.i32 8 ∧ c.i32 8 ≤ 86400
    let stands (c : Cmd) (s : State) : Prop := (out c s).st = .defined ∨ (out c s).st = .live
    let suits (c : Cmd) (x : StreamObj) : Prop := (c.u8 2 = 0 ∨ (x.form = 1 ∧ x.width = 2)) ∧ (c.u8 3 ≠ 2 ∨ (x.form ≠ 3 ∧ fmtRate x.format < 10)) ∧
      (x.form ≠ 3 ∨ (c.u8 3 = 0 ∧ c.u8 4 = 0))
    let ancFields (c : Cmd) : Prop := 0xF000 ≤ c.u16 0 ∧ c.u8 2 ≤ 2 ∧ audioDid (c.u8 3) = false ∧ (c.u8 3 ≠ 0x41 ∨ c.u8 4 ≠ 1) ∧
      (c.u16 6 = 0 ∨ (9 ≤ c.u16 6 ∧ c.u16 6 ≤ 1125))
    Carries .setDestinationForm setDestinationFormInfo
      (fun c s => fields c ∧ stands c s ∧ suits c (out c s) ∧ form c (s.destForm (c.u16 0)).gen ≠ s.destForm (c.u16 0))
      (fun c s =>
        let t := (s.onObj fun y => { y with destForm := tset {} y.destForm (c.u16 0) (form c (genNext (s.destForm (c.u16 0)).gen)) }).touch 0x07 (c.u16 0)
        ok (match dueFrame s (c.u16 0) with
          | some n => t.onRouteRt (c.u16 0) fun r =>
              { r with formCur := some (formInForce s (c.u16 0)), formDue := r.formDue ++ [(n, form c (genNext (s.destForm (c.u16 0)).gen))] }
          | none => t)) ∧
    Carries .setDestinationForm setDestinationFormInfo
      (fun c s => fields c ∧ stands c s ∧ suits c (out c s) ∧ form c (s.destForm (c.u16 0)).gen = s.destForm (c.u16 0)) (fun _ s => ok s) ∧
    Carries .setDestinationForm setDestinationFormInfo (fun c s => fields c ∧ ¬stands c s) (fun _ s => rej .state 0xFFFF s) ∧
    (∀ (c : Cmd) (s : State), fields c → stands c s → ¬suits c (out c s) → ∃ off, setDestinationForm c s = rej .format off s) ∧
    (∀ x, Carries .setAncDestination setAncDestinationInfo
      (fun c s => ancFields c ∧ (c.u16 6 = 0 ∨ verticalAnc x (c.u16 6) = true) ∧ ancDefined s (c.u16 0) = some x ∧
        anc c (s.anc (c.u16 0)).gen ≠ s.anc (c.u16 0))
      (fun c s =>
        let t := (s.onObj fun y => { y with anc := tset {} y.anc (c.u16 0) (anc c (genNext (s.anc (c.u16 0)).gen)) }).touch 0x07 (c.u16 0)
        ok (match dueFrame s (c.u16 0) with
          | some n => t.onRouteRt (c.u16 0) fun r =>
              { r with ancCur := some (ancInForce s (c.u16 0)), ancDue := r.ancDue ++ [(n, anc c (genNext (s.anc (c.u16 0)).gen))] }
          | none => t))) ∧
    (∀ x, Carries .setAncDestination setAncDestinationInfo
      (fun c s => ancFields c ∧ (c.u16 6 = 0 ∨ verticalAnc x (c.u16 6) = true) ∧ ancDefined s (c.u16 0) = some x ∧
        anc c (s.anc (c.u16 0)).gen = s.anc (c.u16 0)) (fun _ s => ok s)) ∧
    (∀ x, Carries .setAncDestination setAncDestinationInfo
      (fun c s => ancFields c ∧ c.u16 6 ≠ 0 ∧ verticalAnc x (c.u16 6) = false ∧ ancDefined s (c.u16 0) = some x) (fun _ s => rej .range 0x26 s)) ∧
    Carries .setAncDestination setAncDestinationInfo (fun c s => ancFields c ∧ ancDefined s (c.u16 0) = none) (fun _ s => rej .state 0xFFFF s) ∧
    Carries .setAncDestination setAncDestinationInfo
      (fun c _ => 0xF000 ≤ c.u16 0 ∧ c.u8 2 ≤ 2 ∧ (audioDid (c.u8 3) = true ∨ (c.u8 3 = 0x41 ∧ c.u8 4 = 1))) (fun _ s => rej .range 0x23 s))

/-- SET_DETECTORS and SET_LOUDNESS_GROUP: a new setting is written, its generation advanced, and a changed group measures afresh; the setting in force
again changes nothing, but that a group told to restarts its gated measure; an undefined or releasing stream, and channels that no stream holds, are
refused with REJECTED_STATE, a picture's detectors on an audio-only stream with REJECTED_FORMAT.  SET_CHANNEL_GAIN, SET_CHANNEL_DELAY, SET_MIX and
SET_CHANNEL_OPTIONS on the channels of one destination stream, SET_CHANNEL_OPTIONS on those of a source stream too: short and long delays, a mix entry
set and taken away, pairs linked and parted; a long delay without memory, a mix source that is not live or breaks a pair, and a link of channels in
use are refused.  Each of these rows answers a next state under conditions on state and operands alone (conclusion exec i s = next t): setDetectors,
setLoudnessGroup, setChannelGain, setChannelDelay, setMix, setChannelOptions. -/
def Obligations.MeasurementAndAudioSettings : Prop :=
  (
    let det (c : Cmd) (gen : Nat) : DetObj :=
      { enable := c.u8 2 % 16, tcSource := c.u8 3, blackLevel := c.u16 4, blackArea := c.u16 6, blackFrames := c.u16 8, freezeFrames := c.u16 0x0A,
        freezeLimit := c.u32 0x0C, silenceDb := c.i16 0x10, silenceMs := c.u32 0x14, gen := gen }
    let group (c : Cmd) (gen : Nat) : LoudObj :=
      { channels := (List.range (c.u8 2)).map fun i => c.u16 (8 + 2 * i), weights := (List.range (c.u8 2)).map fun i => c.u8 (0x18 + i), gen := gen }
    let fields (c : Cmd) : Prop := c.u16 0 < 8192 ∧ c.u8 3 ≤ 1 ∧ c.u16 4 ≤ 1023 ∧ 1 ≤ c.u16 6 ∧ c.u16 6 ≤ 1000 ∧ 1 ≤ c.u16 8 ∧ 1 ≤ c.u16 0x0A ∧
      c.u32 0x0C ≤ 2 ^ 31 ∧ -12000 ≤ c.i16 0x10 ∧ c.i16 0x10 ≤ 0 ∧ 100 ≤ c.u32 0x14 ∧ c.u32 0x14 ≤ 3600000
    let stands (c : Cmd) (s : State) : Prop := (s.stream (c.u16 0)).st = .defined ∨ (s.stream (c.u16 0)).st = .live
    let suits (c : Cmd) (s : State) : Prop := (s.stream (c.u16 0)).form ≠ 3 ∨ c.u8 2 % 8 = 0
    let old (c : Cmd) (s : State) : LoudObj := tget {} s.obj.loud (c.u16 0)
    let listed (c : Cmd) : Prop := c.u16 0 < 2048 ∧ c.u8 2 ≤ 8 ∧ badChannel [] 0 (group c 0).channels = none ∧ (∀ w ∈ (group c 0).weights, w ≤ 2)
    let held (c : Cmd) (s : State) : Prop := c.u8 2 = 0 ∨ (rangeStream s 0 ((group c 0).channels.headD 0) 1).isSome = true
    Carries .setDetectors setDetectorsInfo (fun c s => fields c ∧ stands c s ∧ suits c s ∧ det c (s.det (c.u16 0)).gen ≠ s.det (c.u16 0))
      (fun c s => ok ((s.onObj fun y => { y with detectors := tset {} y.detectors (c.u16 0) (det c (genNext (s.det (c.u16 0)).gen)) }).touch 0x08 (c.u16 0))) ∧
    Carries .setDetectors setDetectorsInfo (fun c s => fields c ∧ stands c s ∧ suits c s ∧ det c (s.det (c.u16 0)).gen = s.det (c.u16 0))
      (fun _ s => ok s) ∧
    Carries .setDetectors setDetectorsInfo (fun c s => fields c ∧ ¬stands c s) (fun _ s => rej .state 0xFFFF s) ∧
    Carries .setDetectors setDetectorsInfo (fun c s => fields c ∧ stands c s ∧ ¬suits c s) (fun _ s => rej .format 0x22 s) ∧
    Carries .setLoudnessGroup setLoudnessGroupInfo (fun c s => listed c ∧ held c s ∧ group c (old c s).gen ≠ old c s)
      (fun c s =>
        let t := ((s.onObj fun y => { y with loud := tset {} y.loud (c.u16 0) (group c (genNext (old c s).gen)) }).touch
          0x08 (0x10000 + c.u16 0)).onMeas fun m => { m with loud := tset {} m.loud (c.u16 0) {} }
        ok (if c.u8 2 = 0 then t.zeroRecord 32 (groupAddr (c.u16 0)) else t)) ∧
    Carries .setLoudnessGroup setLoudnessGroupInfo (fun c s => listed c ∧ held c s ∧ group c (old c s).gen = old c s ∧ bitOf (c.u8 3) 0 = true)
      (fun c s => ok (s.onMeas fun m => { m with loud := tmod {} m.loud (c.u16 0) fun l => { l with blocks := [], i := none, gated := 0, age := 0 } })) ∧
    Carries .setLoudnessGroup setLoudnessGroupInfo (fun c s => listed c ∧ held c s ∧ group c (old c s).gen = old c s ∧ bitOf (c.u8 3) 0 = false)
      (fun _ s => ok s) ∧
    Carries .setLoudnessGroup setLoudnessGroupInfo (fun c s => listed c ∧ ¬held c s) (fun _ s => rej .state 0xFFFF s)) ∧
  (
    let range (c : Cmd) (n : Nat) (s : State) (k : Nat) (x : StreamObj) : Prop := destChannels (c.u16 0) n = true ∧ 1 ≤ n ∧ n ≤ 64 ∧
      (c.checkGen = true → n = 1) ∧ rangeStream s 1 (c.u16 0) n = some (k, x) ∧ cutsPair s x (c.u16 0) = false
    let srcRange (c : Cmd) (s : State) (k : Nat) (x : StreamObj) : Prop := 0x4000 ≤ c.u16 0 ∧ c.u16 0 + c.u8 2 ≤ 0x10000 ∧ 1 ≤ c.u8 2 ∧ c.u8 2 ≤ 64 ∧
      (c.checkGen = true → c.u8 2 = 1) ∧ bitOf (c.u8 3) 0 = false ∧ bitOf (c.u8 3) 4 = false ∧ rangeStream s 0 (c.u16 0) (c.u8 2) = some (k, x)
    let whole (c : Cmd) (x : StreamObj) : Prop := posIn x (c.u16 0) % 2 = 0 ∧ c.u8 2 % 2 = 0
    let named (c : Cmd) (s : State) (x : StreamObj) : List Nat := (span (c.u16 0) (c.u8 2)).flatMap (settled s x)
    let mixFields (c : Cmd) : Prop := 1 ≤ c.u8 2 ∧ c.u8 2 ≤ 3 ∧ gainOk (c.i32 8) = true
    let adds (c : Cmd) : Prop := bitOf (c.u8 3) 0 = true ∧ sourceKindOk (c.u16 0) (c.u16 4) = true
    (∀ k x, Carries .setChannelGain setChannelGainInfo (fun c s => range c (c.u8 2) s k x ∧ gainOk (c.i32 4) = true)
      (fun c s => ok (changeChans x (c.u16 0) (c.u8 2) (fun o => { o with gainDb := if c.i32 4 = -2147483648 then 0 else c.i32 4,
                                                                          minusInf := decide (c.i32 4 = -2147483648), invert := bitOf (c.u8 3) 0 }) s))) ∧
    (∀ k x, Carries .setChannelGain setChannelGainInfo (fun c s => range c (c.u8 2) s k x ∧ gainOk (c.i32 4) = false) (fun _ s => rej .range 0x24 s)) ∧
    (∀ k x, Carries .setChannelDelay setChannelDelayInfo (fun c s => range c (c.u8 2) s k x ∧ c.u32 4 ≤ 12000)
      (fun c s => ok (changeChans x (c.u16 0) (c.u8 2) (fun o => { o with delay := c.u32 4 })
        (s.onWharf fun w => { w with longChans := (named c s x).foldl setDel w.longChans })))) ∧
    (∀ k x, Carries .setChannelDelay setChannelDelayInfo (fun c s => range c (c.u8 2) s k x ∧ 12000 < c.u32 4 ∧ c.u32 4 ≤ 96000 ∧ longFits s (named c s x) = true)
      (fun c s => ok (changeChans x (c.u16 0) (c.u8 2) (fun o => { o with delay := c.u32 4 })
        (s.onWharf fun w => { w with longChans := (named c s x).foldl setAdd w.longChans })))) ∧
    (∀ k x, Carries .setChannelDelay setChannelDelayInfo (fun c s => range c (c.u8 2) s k x ∧ 12000 < c.u32 4 ∧ c.u32 4 ≤ 96000 ∧ longFits s (named c s x) = false)
      (fun _ s => rej .capacity 0x24 s)) ∧
    (∀ k x, Carries .setChannelDelay setChannelDelayInfo (fun c s => range c (c.u8 2) s k x ∧ 96000 < c.u32 4) (fun _ s => rej .range 0x24 s)) ∧
    (∀ k x, Carries .setMix setMixInfo (fun c s => range c 1 s k x ∧ mixFields c ∧ adds c ∧ sourceLive s (c.u16 0) (c.u16 4) = true ∧ linkRule s (c.u16 0) (c.u16 4) = true)
      (fun c s => ok (changeChans x (c.u16 0) 1 (withMix (c.u8 2) (some { source := c.u16 4, invert := bitOf (c.u8 3) 1, gainDb := c.i32 8 })) s))) ∧
    (∀ k x, Carries .setMix setMixInfo (fun c s => range c 1 s k x ∧ mixFields c ∧ bitOf (c.u8 3) 0 = false)
      (fun c s => ok (changeChans x (c.u16 0) 1 (withMix (c.u8 2) none) s))) ∧
    (∀ k x, Carries .setMix setMixInfo (fun c s => range c 1 s k x ∧ mixFields c ∧ adds c ∧ sourceLive s (c.u16 0) (c.u16 4) = false)
      (fun _ s => rej .state 0x24 s)) ∧
    (∀ k x, Carries .setMix setMixInfo (fun c s => range c 1 s k x ∧ mixFields c ∧ adds c ∧ sourceLive s (c.u16 0) (c.u16 4) = true ∧ linkRule s (c.u16 0) (c.u16 4) = false)
      (fun _ s => rej .format 0x24 s)) ∧
    (∀ k x, Carries .setChannelOptions setChannelOptionsInfo
      (fun c s => optionsDest c s = true ∧ range c (c.u8 2) s k x ∧ (bitOf (c.u8 3) 4 = true → c.u16 4 ≤ 192) ∧ (bitOf (c.u8 3) 2 = true → whole c x ∧
        ∀ d ∈ span (c.u16 0) (c.u8 2), (s.chanObj d).linked = bitOf (c.u8 3) 3 ∨ destInUse s d = false))
      (fun c s => ok (changeChans x (c.u16 0) (c.u8 2) (optionSetting c) s))) ∧
    (∀ k x, Carries .setChannelOptions setChannelOptionsInfo
      (fun c s => optionsDest c s = true ∧ range c (c.u8 2) s k x ∧ (bitOf (c.u8 3) 4 = true → c.u16 4 ≤ 192) ∧ bitOf (c.u8 3) 2 = true ∧ whole c x ∧
        ∃ d ∈ span (c.u16 0) (c.u8 2), (s.chanObj d).linked ≠ bitOf (c.u8 3) 3 ∧ destInUse s d = true)
      (fun _ s => rej .state 0x20 s)) ∧
    (∀ k x, Carries .setChannelOptions setChannelOptionsInfo
      (fun c s => optionsDest c s = false ∧ srcRange c s k x ∧ bitOf (c.u8 3) 2 = true ∧ whole c x ∧
        ∀ h ∈ span (c.u16 0) (c.u8 2), (tget {} s.obj.srcLinks h : SrcLinkObj).linked = bitOf (c.u8 3) 3 ∨ srcInUse s h = false)
      (fun c s => ok ((span (c.u16 0) (c.u8 2)).foldl (linkSources (bitOf (c.u8 3) 3)) s))) ∧
    (∀ k x, Carries .setChannelOptions setChannelOptionsInfo (fun c s => optionsDest c s = false ∧ srcRange c s k x ∧ bitOf (c.u8 3) 2 = false)
      (fun _ s => ok s)))

/-- SET_HEAD, SET_LAYER, SET_COEFFICIENTS and SET_LUT write the session's pending copy of a head, which another session's writes find BUSY: a head on a
plane with a format of its rate, or on no plane; a layer of every kind, off, video or graphics; a bank; entries of the five tables. A retired head
takes no SET_HEAD (R423), nor does one on a disabled plane or in a format that does not suit it.  COMMIT_HEAD: DISCARD drops the pending copy; a
commit that changes the head's shape takes effect at once, any other, with or without flips, is QUEUED for the head's frame, superseding one that has
not applied; with nothing pending and no flip it is DONE; a flip while another still waits for its pages is BUSY; a configuration that order 1 to 4 of
R289 refuses is refused.  SET_ASSAY: a region is set from the head's next frame on; a measurement of counted frames is QUEUED; a new setting
supersedes the measurement that runs; a region outside the raster is refused.  Each of these rows answers a next state under conditions on state and
operands alone (conclusion exec i s = next t): setHead, setLayer, setCoefficients, setLut, commitHead, setAssay. -/
def Obligations.HeadCommandsComplete : Prop :=
  (
    let mine (c : Cmd) (s : State) : Prop := c.u8 0 < 32 ∧ ownedByOther c s = none
    let headFields (c : Cmd) : Prop := (c.u8 1 < 8 ∨ c.u8 1 = 255) ∧ c.u8 2 ≤ 1 ∧ firstBad (matrixRange c 0x10) = none
    let inUse (c : Cmd) (s : State) : Prop := replaying s = true ∨ (s.head (c.u8 0)).retired = false
    let suits (c : Cmd) (s : State) : Prop := headFormatOk (s.rate (c.u8 1)) (decide (c.u8 2 = 1)) (c.u16 4) = true
    let pend (c : Cmd) (s : State) : HeadCfg := pendingCfg s (c.u8 0)
    let lutVals (c : Cmd) : List Nat := (List.range (c.u16 6)).map fun i => c.u16 (0x10 + 2 * i)
    Carries .setHead setHeadInfo
      (fun c s => mine c s ∧ headFields c ∧ inUse c s ∧ (c.u8 1 = 255 ∨ ((s.rate (c.u8 1)).isSome = true ∧ suits c s)))
      (fun c s => ok (writePend c { pend c s with headSet := c.bytes 0 64, plane := if c.u8 1 = 255 then none else some (c.u8 1),
                                                  split := decide (c.u8 2 = 1), format := c.u16 4, background := c.u32 8 % 2 ^ 30,
                                                  outMatrix := c.bytes 0x10 32 } s)) ∧
    Carries .setHead setHeadInfo (fun c s => mine c s ∧ headFields c ∧ ¬inUse c s) (fun _ s => rej .state 0xFFFF s) ∧
    Carries .setHead setHeadInfo (fun c s => mine c s ∧ headFields c ∧ inUse c s ∧ c.u8 1 < 8 ∧ s.rate (c.u8 1) = none) (fun _ s => rej .state 0x21 s) ∧
    Carries .setHead setHeadInfo (fun c s => mine c s ∧ headFields c ∧ inUse c s ∧ c.u8 1 < 8 ∧ (s.rate (c.u8 1)).isSome = true ∧ ¬suits c s)
      (fun _ s => rej .format 0x24 s) ∧
    Carries .setLayer setLayerInfo
      (fun c s => mine c s ∧ c.u8 1 < 128 ∧ c.u8 2 ≤ 2 ∧ (c.u8 2 = 2 → c.u8 3 < 4) ∧ c.u16 6 ≤ 1023 ∧
        (c.u8 2 = 0 ∨ rectOk (pend c s) (c.bytes 0 64) = true) ∧ c.u8 0x18 < 16 ∧ c.u8 0x19 < 4 ∧ c.u8 0x1A ≤ 2 ∧
        (c.u8 2 = 1 → firstBad (matrixRange c 0x20) = none))
      (fun c s => ok (writePend c { pend c s with layers := tset [] (pend c s).layers (c.u8 1) (c.bytes 0 64) } s)) ∧
    Carries .setCoefficients setCoefficientsInfo
      (fun c s => mine c s ∧ c.u8 1 < 16 ∧ c.u8 2 ≤ 1 ∧ firstBad ((List.range 64).flatMap (phaseChecks c)) = none)
      (fun c s => ok (writePend c { pend c s with banks :=
        (tset [] (pend c s).banks (c.u8 1 * 2 + c.u8 2) ((List.range 64).flatMap fun p => (List.range 8).map (coefAt c p))) } s)) ∧
    Carries .setLut setLutInfo
      (fun c s => mine c s ∧ c.u8 1 ≤ 4 ∧ 1 ≤ c.u16 6 ∧ c.u16 6 ≤ 2040 ∧ c.u16 4 + c.u16 6 ≤ (if c.u8 1 = 4 then 4097 else 1024) ∧
        (c.u8 1 = 4 → ∀ v ∈ lutVals c, v ≤ 1023))
      (fun c s => ok (writePend c { pend c s with luts :=
        (tset [] (pend c s).luts (c.u8 1) (writeLut (c.u8 1) (tget [] (pend c s).luts (c.u8 1)) (c.u16 4) (lutVals c))) } s)) ∧
    (∀ (c : Cmd) (s : State) (o : Nat) (range : List (Bool × Nat)) (rest : List (Bool × Status × Nat)) (cfg : HeadCfg), c.u8 0 < 32 →
      firstBad range = none → ownedByOther c s = some o → pendWrite c range rest cfg s = rej .busy o s)) ∧
  (
    let mine (c : Cmd) (s : State) : Prop := c.u8 0 < 32 ∧ ownedByOther c s = none
    let flips (c : Cmd) : Nat := fieldOf (c.u8 1) 1 4
    let waits (c : Cmd) (s : State) : Bool := ((s.head (c.u8 0)).commit.map HeadCommit.waiting).getD false
    let cfg (c : Cmd) (s : State) : HeadCfg := pendingCfg s (c.u8 0)
    let acts (c : Cmd) (s : State) : Prop := mine c s ∧ bitOf (c.u8 1) 0 = false ∧ ((s.head (c.u8 0)).pend.isSome = true ∨ flips c ≠ 0)
    let past (c : Cmd) (s : State) : State := match (s.head (c.u8 0)).commit with
      | some j => finish j.job .superseded (byCommand c) (ungate (c.u8 0) s)
      | none => ungate (c.u8 0) s
    Carries .commitHead commitHeadInfo (fun c s => mine c s ∧ bitOf (c.u8 1) 0 = true ∧ flips c = 0)
      (fun c s => ok ((ungate (c.u8 0) s).onHead (c.u8 0) fun r => { r with pend := none, owner := 0 })) ∧
    Carries .commitHead commitHeadInfo (fun c s => mine c s ∧ bitOf (c.u8 1) 0 = false ∧ (s.head (c.u8 0)).pend = none ∧ flips c = 0)
      (fun c s => ok (ungate (c.u8 0) s)) ∧
    Carries .commitHead commitHeadInfo
      (fun c s => acts c s ∧ commitFault s (c.u8 0) (cfg c s) = none ∧ (flips c = 0 ∨ waits c s = false) ∧ reshapes (s.headObj (c.u8 0)).cfg (cfg c s) = false)
      (fun c s => queued (.commitHead (c.u8 0)) (queueCommit c (c.u8 0) (flips c) (cfg c s) (ungate (c.u8 0) s))) ∧
    Carries .commitHead commitHeadInfo
      (fun c s => acts c s ∧ commitFault s (c.u8 0) (cfg c s) = none ∧ (flips c = 0 ∨ waits c s = false) ∧ reshapes (s.headObj (c.u8 0)).cfg (cfg c s) = true)
      (fun c s => ok (reshapeHead (c.u8 0)
        { flips := Nat.lor (flips c) (((s.head (c.u8 0)).commit.map HeadCommit.flips).getD 0), cfg := cfg c s } (past c s))) ∧
    Carries .commitHead commitHeadInfo (fun c s => acts c s ∧ commitFault s (c.u8 0) (cfg c s) = none ∧ flips c ≠ 0 ∧ waits c s = true)
      (fun _ s => rej .busy 0 s) ∧
    (∀ st d, Carries .commitHead commitHeadInfo (fun c s => acts c s ∧ commitFault s (c.u8 0) (cfg c s) = some (st, d)) (fun _ s => rej st d s)) ∧
    Carries .commitHead commitHeadInfo (fun c _ => c.u8 0 < 32 ∧ bitOf (c.u8 1) 0 = true ∧ flips c ≠ 0) (fun _ s => rej .range 0x21 s)) ∧
  (
    let cfg (c : Cmd) (s : State) : HeadCfg := (s.headObj (c.u8 0)).cfg
    let region (c : Cmd) (s : State) : AssayObj :=
      { mode := c.u8 2, frames := if c.u8 2 = 1 then c.u16 4 else 0, x := c.u16 8, y := c.u16 0x0A, w := c.u16 0x0C, h := c.u16 0x0E, expected := c.u32 0x10,
        gen := genNext (tget {} (s.headObj (c.u8 0)).assay (c.u8 1) : AssayObj).gen }
    let past (c : Cmd) (s : State) : State := match (s.assayRt (c.u8 0) (c.u8 1)).job with
      | some id => finish id .superseded (byCommand c) s
      | none => s
    let wrote (c : Cmd) (s t : State) (job : Option Nat) : State :=
      (((ungate (c.u8 0) t).onHeadObj (c.u8 0) fun x => { x with assay := tset {} x.assay (c.u8 1) (region c s) }).touch 0x0A
        (0x10000 + c.u8 0 * 16 + c.u8 1)).onAssay (c.u8 0) (c.u8 1) fun a => { a with since := some (commitFrame s (cfg c s)), job := job }
    let inside (c : Cmd) (s : State) : Prop := c.u16 8 + c.u16 0x0C ≤ rasterW (cfg c s) ∧ c.u16 0x0A + c.u16 0x0E ≤ rasterH (cfg c s)
    let named (c : Cmd) : Prop := c.u8 0 < 32 ∧ c.u8 1 < 16
    Carries .setAssay setAssayInfo (fun c s => named c ∧ (c.u8 2 = 0 ∨ (c.u8 2 = 2 ∧ inside c s))) (fun c s => ok (wrote c s (past c s) none)) ∧
    Carries .setAssay setAssayInfo (fun c s => named c ∧ c.u8 2 = 1 ∧ 1 ≤ c.u16 4 ∧ inside c s)
      (fun c s => queued (.assay (c.u8 0) (c.u8 1)) (wrote c s (past c s) (some s.mbox.nextJob))) ∧
    Carries .setAssay setAssayInfo (fun c s => named c ∧ (c.u8 2 = 2 ∨ (c.u8 2 = 1 ∧ 1 ≤ c.u16 4)) ∧ ¬inside c s) (fun _ s => rej .range 0x28 s))

/-- R310, R319, R320: a Hallmark command under a good MAC and a higher COUNTER is carried out: pixels are written into the pending image, over what stands
or afresh, a region is placed or taken away, and with COMMIT the pending image becomes active from the head's frame on; a wrong MAC and a COUNTER that
is not higher are refused and raise HALLMARK_AUTH_FAILED; without a key the command is refused.  Each of these rows answers a next state under
conditions on state and operands alone (conclusion exec i s = next t): writeHallmark, setHallmarkRegion. -/
def Obligations.HallmarkCommandsAuthenticated : Prop :=
  let signed (c : Cmd) (n : Nat) (s : State) : Prop := c.u8 0 < 32 ∧ s.mbox.nextJob ≠ 0 ∧
    (∃ key, hallKey s = some key ∧ macOf key (c.bytes 0 n) = c.bytes n 48) ∧ s.obj.hallCounter < c.u64 0x10
  let region (c : Cmd) (s : State) : HallReg := tget {} (s.head (c.u8 0)).hallPend (c.u8 2)
  let newImage (c : Cmd) (s : State) : HallReg :=
    let px := writePixels (region c s).w (c.u16 4) (c.u16 6) (c.u16 8) (if bitOf (c.u8 1) 1 then [] else (region c s).pixels) 0
      ((List.range (c.u16 8 * c.u16 0x0A)).map fun i => c.u16 (0x18 + 2 * i))
    { region c s with pixels := px }
  let fits (c : Cmd) (s : State) : Prop := c.u8 2 < 8 ∧ (region c s).enable = true ∧ c.u16 8 * c.u16 0x0A ≤ 2000 ∧ c.u16 4 + c.u16 8 ≤ (region c s).w ∧
    c.u16 6 + c.u16 0x0A ≤ (region c s).h
  let fresh (c : Cmd) : Prop := bitOf (c.u8 1) 1 = true ∨ 0 < c.u16 8 * c.u16 0x0A
  let wrote (c : Cmd) (s : State) : State := (hallAccept c s).onHead (c.u8 0) fun r =>
    { r with hallPend := tset {} r.hallPend (c.u8 2) (newImage c s), hallNew := if fresh c then setAdd r.hallNew (c.u8 2) else r.hallNew }
  let place (c : Cmd) : HallReg := { enable := true, x := c.u16 4, y := c.u16 6, w := c.u16 8, h := c.u16 0x0A }
  let placed (c : Cmd) (r : HallReg) (s : State) : State :=
    (hallAccept c s).onHead (c.u8 0) fun x => { x with hallPend := tset {} x.hallPend (c.u8 1) r, hallNew := setAdd x.hallNew (c.u8 1) }
  let ending (c : Cmd) (flags : Nat) (s : State) : State := if bitOf flags 0 = true then hallCommit (c.u8 0) s else s
  Carries .writeHallmark writeHallmarkInfo (fun c s => signed c 0xFD0 s ∧ fits c s) (fun c s => ok (ending c (c.u8 1) (wrote c s))) ∧
  Carries .writeHallmark writeHallmarkInfo (fun c s => signed c 0xFD0 s ∧ ¬(c.u8 2 < 8 ∧ (region c s).enable = true)) (fun _ s => rej .range 0x22 s) ∧
  Carries .setHallmarkRegion setHallmarkRegionInfo (fun c s => signed c 0x20 s ∧ c.u8 1 < 8 ∧ c.u8 2 = 0)
    (fun c s => ok (ending c (c.u8 3) (placed c {} s))) ∧
  Carries .setHallmarkRegion setHallmarkRegionInfo
    (fun c s => signed c 0x20 s ∧ c.u8 1 < 8 ∧ c.u8 2 = 1 ∧ regionFits (s.headObj (c.u8 0)).cfg (s.head (c.u8 0)).hallPend (c.u8 1) (place c) = true)
    (fun c s => ok (ending c (c.u8 3) (placed c (place c) s))) ∧
  Carries .setHallmarkRegion setHallmarkRegionInfo
    (fun c s => signed c 0x20 s ∧ c.u8 1 < 8 ∧ c.u8 2 = 1 ∧ regionFits (s.headObj (c.u8 0)).cfg (s.head (c.u8 0)).hallPend (c.u8 1) (place c) = false)
    (fun _ s => rej .range 0x24 s) ∧
  (∀ (c : Cmd) (n : Nat) (s : State) (body : State → Res) (key : List Byte), c.u8 0 < 32 → s.mbox.nextJob ≠ 0 → hallKey s = some key →
    macOf key (c.bytes 0 n) ≠ c.bytes n 48 → hallAuth c n s body = rej .auth (0x20 + n) (raise 0x0A84 3 (c.u8 0) 1 s)) ∧
  (∀ (c : Cmd) (n : Nat) (s : State) (body : State → Res) (key : List Byte), c.u8 0 < 32 → s.mbox.nextJob ≠ 0 → hallKey s = some key →
    macOf key (c.bytes 0 n) = c.bytes n 48 → c.u64 0x10 ≤ s.obj.hallCounter → hallAuth c n s body = rej .auth 0x30 (raise 0x0A84 3 (c.u8 0) 2 s)) ∧
  (∀ (c : Cmd) (n : Nat) (s : State) (body : State → Res), c.u8 0 < 32 → s.mbox.nextJob ≠ 0 → hallKey s = none →
    hallAuth c n s body = rej .state 0xFFFF s)

/-- LANE_CONTROL and SET_LANE_POLICY: an action on one lane, or on all of them with 0xFF, and a policy, are carried out; a lane in use is disturbed only
with FORCE; a lane that is off or under test cannot be trained anew by its own name; the policy in force changes nothing.  Each of these rows answers
a next state under conditions on state and operands alone (conclusion exec i s = next t): laneControl, setLanePolicy. -/
def Obligations.LaneCommandsComplete : Prop :=
  let named (c : Cmd) : Prop := c.u8 0 < 128 ∨ (c.u8 0 = 0xFF ∧ c.checkGen = false)
  let acted (c : Cmd) (s : State) : List Nat :=
    if c.u8 0 = 0xFF ∧ c.u8 1 = 2 then (namedLanes (c.u8 0)).filter fun l => !offOrTest s l else namedLanes (c.u8 0)
  let forced (c : Cmd) (s : State) : Prop := bitOf (c.u8 2) 0 = true ∨ ∀ l ∈ acted c s, laneInUse s l = false
  let policy (c : Cmd) : Prop := c.u8 1 ≤ 2 ∧ (c.u16 2 = 0 ∨ (5 ≤ c.u16 2 ∧ c.u16 2 ≤ 100)) ∧ (c.u32 4 = 0 ∨ (1 ≤ c.u32 4 ∧ c.u32 4 ≤ 10000000)) ∧
    (c.u16 8 = 0 ∨ (1000 ≤ c.u16 8 ∧ c.u16 8 ≤ 3000)) ∧ (c.u16 0x0A = 0 ∨ (50 ≤ c.u16 0x0A ∧ c.u16 0x0A ≤ 600))
  let put (c : Cmd) (t : State) (l : Nat) : State := if policySetting c (t.lanePol l) = t.lanePol l then t
    else (t.onObj fun o => { o with lanes := tmod {} o.lanes l (policySetting c) }).touch 0x0B l
  Carries .laneControl laneControlInfo (fun c _ => named c ∧ c.u8 1 = 0) (fun c s => ok ((acted c s).foldl (laneAction c) s)) ∧
  Carries .laneControl laneControlInfo
    (fun c s => named c ∧ (c.u8 1 = 1 ∨ c.u8 1 = 5 ∨ c.u8 1 = 6 ∨ (c.u8 1 = 2 ∧ (c.u8 0 = 0xFF ∨ offOrTest s (c.u8 0) = false))) ∧ forced c s)
    (fun c s => ok ((acted c s).foldl (laneAction c) s)) ∧
  Carries .laneControl laneControlInfo (fun c s => c.u8 0 < 128 ∧ c.u8 1 = 2 ∧ offOrTest s (c.u8 0) = true) (fun _ s => rej .state 0x21 s) ∧
  Carries .laneControl laneControlInfo
    (fun c s => named c ∧ (c.u8 1 = 1 ∨ c.u8 1 = 5 ∨ c.u8 1 = 6 ∨ (c.u8 1 = 2 ∧ (c.u8 0 = 0xFF ∨ offOrTest s (c.u8 0) = false))) ∧ ¬forced c s)
    (fun _ s => rej .state 0x20 s) ∧
  Carries .laneControl laneControlInfo (fun c _ => named c ∧ c.u8 1 = 3) (fun c s => moorLanes (namedLanes (c.u8 0)) s) ∧
  Carries .laneControl laneControlInfo (fun c _ => named c ∧ c.u8 1 = 4) (fun c s => wakeLanes c (namedLanes (c.u8 0)) s) ∧
  Carries .laneControl laneControlInfo (fun c _ => named c ∧ 6 < c.u8 1) (fun _ s => rej .range 0x21 s) ∧
  Carries .setLanePolicy setLanePolicyInfo (fun c _ => named c ∧ policy c) (fun c s => ok ((namedLanes (c.u8 0)).foldl (put c) s)) ∧
  (namedLanes 0xFF = List.range 128 ∧ ∀ n, n < 128 → namedLanes n = [n])

/-- RESYNC, YIELD_HELM, RESTART and INJECT_FAULT: a standby resynchronises, a paired helm yields, an injection is armed with its COUNT of checks, each
QUEUED, a later RESYNC or YIELD_HELM superseding the one that runs; a restart waits for the journal; in the wrong role or state, beside a session that
checks or writes, over an armed injection or without FATAL_OK where the checker is fatal, the command is refused.  Each of these rows answers a next
state under conditions on state and operands alone (conclusion exec i s = next t): resync, yieldHelm, restart, injectFault. -/
def Obligations.TwinAndRestartCommandsComplete : Prop :=
  let stopped (c : Cmd) (job : Option Nat) (s : State) : State := match job with
    | some id => finish id .superseded (byCommand c) s
    | none => s
  let checker (c : Cmd) : Prop := injectable (c.u8 0) = true ∧ c.u8 1 ≤ 1 ∧ c.u16 2 < instanceLimit (c.u8 0) ∧ (c.u8 4 = 1 ∨ c.u8 4 = 2) ∧ 1 ≤ c.u16 6 ∧
    c.u16 6 ≤ 255 ∧ 1 ≤ c.u32 8 ∧ c.u32 8 ≤ 60000
  let allowed (c : Cmd) : Prop := fatalChecker (c.u8 0) (c.u8 4) = false ∨ bitOf (c.u8 5) 0 = true
  let armed (c : Cmd) (s : State) : Bool := injectionArmed (c.u8 0) (c.u16 2) (decide (c.u8 1 = 1)) s
  let busy (s : State) : Prop := s.fw.phase = .checking ∨ s.fw.phase = .writing
  Carries .resync resyncInfo (fun c s => s.twin.helm = false ∧ tandemDown s = false ∧ (s.twin.st ≠ .inStep ∨ bitOf (c.u8 0) 0 = true))
    (fun c s => queued .resync ((beginResync (stopped c s.twin.resyncJob s)).onTwin fun t => { t with resyncJob := some s.mbox.nextJob })) ∧
  Carries .resync resyncInfo (fun c s => s.twin.helm = false ∧ tandemDown s = false ∧ s.twin.st = .inStep ∧ bitOf (c.u8 0) 0 = false) (fun _ s => ok s) ∧
  Carries .resync resyncInfo (fun _ s => s.twin.helm = true ∨ tandemDown s = true) (fun _ s => rej .state 0xFFFF s) ∧
  Carries .yieldHelm yieldHelmInfo (fun c s => 1 ≤ c.u16 0 ∧ c.u16 0 ≤ 60000 ∧ s.twin.helm = true ∧ s.twin.st = .paired)
    (fun c s => queued .yieldHelm (driveHealth ((stopped c (s.twin.yield.map Prod.fst) s).onTwin fun t =>
      { t with yield := some (s.mbox.nextJob, c.u16 0), yieldAge := 0 }))) ∧
  Carries .yieldHelm yieldHelmInfo (fun c s => 1 ≤ c.u16 0 ∧ c.u16 0 ≤ 60000 ∧ (s.twin.helm = false ∨ s.twin.st ≠ .paired))
    (fun _ s => rej .state 0xFFFF s) ∧
  Carries .yieldHelm yieldHelmInfo (fun c _ => c.u16 0 = 0 ∨ 60000 < c.u16 0) (fun _ s => rej .range 0x20 s) ∧
  Carries .restart restartInfo (fun c s => c.u8 0 ≤ 1 ∧ ¬busy s ∧ (s.twin.helm = false ∨ s.twin.st ≠ .alone ∨ bitOf (c.u8 1) 0 = true))
    (fun c s => ok (stopCommit (driveHealth (s.onStart fun r => { r with restart := some (decide (c.u8 0 = 0)) })))) ∧
  Carries .restart restartInfo (fun c s => c.u8 0 ≤ 1 ∧ busy s) (fun _ s => rej .busy 0 s) ∧
  Carries .restart restartInfo (fun c s => c.u8 0 ≤ 1 ∧ ¬busy s ∧ s.twin.helm = true ∧ s.twin.st = .alone ∧ bitOf (c.u8 1) 0 = false)
    (fun _ s => rej .state 0x21 s) ∧
  Carries .injectFault injectFaultInfo (fun c s => checker c ∧ allowed c ∧ armed c s = false)
    (fun c s => queued (.inject (c.u8 0)) (s.onFaults fun f => { f with injects := f.injects ++
      [{ kind := c.u8 0, west := decide (c.u8 1 = 1), inst := c.u16 2, bits := c.u8 4, left := c.u16 6, done := 0, ticks := msTicks (c.u32 8),
         job := s.mbox.nextJob }] })) ∧
  Carries .injectFault injectFaultInfo (fun c _ => checker c ∧ ¬allowed c) (fun _ s => rej .state 0x25 s) ∧
  Carries .injectFault injectFaultInfo (fun c s => checker c ∧ allowed c ∧ armed c s = true) (fun _ s => rej .busy 0 s)

/-- R506 to R509, R511: a key command under a good MAC and a higher COUNTER is carried out and its COUNTER becomes KEY_COUNTER: INSTALL_KEY writes the
next slot (the current one with PROVISION), SWAP_KEY makes next current, INVALIDATE_KEY clears both, SCUTTLE is carried out at the end of the tick; a
key that does not unwrap or whose check value differs, a swap without a next key, PROVISION over a secret, another KIND and another serial number are
refused.  R506: a MAC that fails is refused at the MAC field, a COUNTER that is not above KEY_COUNTER at the COUNTER field, and both raise
KEY_AUTH_FAILED; without a current attestation secret every such command is refused with REJECTED_STATE but INSTALL_KEY of KIND 1 with PROVISION.
Each of these rows answers a next state under conditions on state and operands alone (conclusion exec i s = next t): installKey, swapKey,
invalidateKey, scuttle. -/
def Obligations.KeyCommandsAuthenticated : Prop :=
  (
    let signed (c : Cmd) (n : Nat) (s : State) : Prop :=
      (∃ key, (s.keySlot 1).current = some key ∧ macOf key (c.bytes 0 n) = c.bytes n 48) ∧ s.obj.keyCounter < c.u64 8
    let given (c : Cmd) (s : State) : Option (List Byte) :=
      unwrapKey (s.keys.bank.getD 0) (c.u8 0) (c.bytes 0x10 96) (c.bytes 0x70 12) (c.bytes 0 16) (c.bytes 0x80 48) (c.bytes 0xB0 16)
    let kind (c : Cmd) : Prop := c.u8 0 = 1 ∨ c.u8 0 = 2
    (∀ key, Carries .installKey installKeyInfo
      (fun c s => kind c ∧ bitOf (c.u8 1) 0 = false ∧ signed c 0xC0 s ∧ given c s = some key ∧ kcvOf key = c.u32 4)
      (fun c s => okWith (kcvOf key) (raise 0x1083 1 (c.u8 0) (kcvOf key)
        (onKeySlot (c.u8 0) (fun k => { k with next := some key, kcvNext := kcvOf key }) (acceptCounter c s))))) ∧
    (∀ key, Carries .installKey installKeyInfo
      (fun c s => c.u8 0 = 1 ∧ bitOf (c.u8 1) 0 = true ∧ (s.keySlot 1).current = none ∧ s.obj.keyCounter < c.u64 8 ∧ given c s = some key ∧ kcvOf key = c.u32 4)
      (fun c s => okWith (kcvOf key) (raise 0x1084 1 1 (kcvOf key) (raise 0x1083 1 1 (kcvOf key)
        (onKeySlot 1 (fun k => { k with current := some key, next := none, kcvCurrent := kcvOf key, kcvNext := 0 }) (acceptCounter c s)))))) ∧
    (∀ key, Carries .swapKey swapKeyInfo
      (fun c s => kind c ∧ signed c 0x10 s ∧ (s.keySlot (c.u8 0)).next = some key ∧ c.u32 4 = (s.keySlot (c.u8 0)).kcvNext ∧
        kcvOf key = (s.keySlot (c.u8 0)).kcvNext)
      (fun c s => ok (raise 0x1084 1 (c.u8 0) (s.keySlot (c.u8 0)).kcvNext (orphanChildren (c.u8 0) (onKeySlot (c.u8 0)
        (fun k => { current := some key, next := none, kcvCurrent := k.kcvNext, kcvNext := 0 }) (acceptCounter c s)))))) ∧
    Carries .invalidateKey invalidateKeyInfo (fun c s => kind c ∧ signed c 0x10 s)
      (fun c s => ok (raise 0x1084 1 (c.u8 0) 0 (orphanChildren (c.u8 0) (onKeySlot (c.u8 0) (fun _ => {}) (acceptCounter c s))))) ∧
    Carries .scuttle scuttleInfo (fun c s => c.u32 0 = Config.serial % 2 ^ 32 ∧ signed c 0x10 s)
      (fun c s => ok ((acceptCounter c s).onKeys fun k => { k with scuttleDue := true })) ∧
    Carries .installKey installKeyInfo (fun c s => kind c ∧ bitOf (c.u8 1) 0 = false ∧ signed c 0xC0 s ∧ given c s = none) (fun _ s => rej .auth 0xD0 s) ∧
    (∀ key, Carries .installKey installKeyInfo
      (fun c s => kind c ∧ bitOf (c.u8 1) 0 = false ∧ signed c 0xC0 s ∧ given c s = some key ∧ kcvOf key ≠ c.u32 4) (fun _ s => rej .auth 0x24 s)) ∧
    Carries .installKey installKeyInfo
      (fun c s => kind c ∧ bitOf (c.u8 1) 0 = true ∧ ¬(c.u8 0 = 1 ∧ (s.keySlot 1).current = none)) (fun _ s => rej .state 0x21 s) ∧
    Carries .swapKey swapKeyInfo (fun c s => kind c ∧ signed c 0x10 s ∧ (s.keySlot (c.u8 0)).next = none) (fun _ s => rej .state 0x24 s) ∧
    Carries .swapKey swapKeyInfo
      (fun c s => kind c ∧ signed c 0x10 s ∧ (s.keySlot (c.u8 0)).next.isSome = true ∧ c.u32 4 ≠ (s.keySlot (c.u8 0)).kcvNext) (fun _ s => rej .state 0x24 s) ∧
    Carries .installKey installKeyInfo (fun c _ => ¬kind c) (fun _ s => rej .range 0x20 s) ∧
    Carries .swapKey swapKeyInfo (fun c _ => ¬kind c) (fun _ s => rej .range 0x20 s) ∧
    Carries .invalidateKey invalidateKeyInfo (fun c _ => ¬kind c) (fun _ s => rej .range 0x20 s) ∧
    Carries .scuttle scuttleInfo (fun c _ => c.u32 0 ≠ Config.serial % 2 ^ 32) (fun _ s => rej .range 0x20 s)) ∧
  (
    (∀ (op : Nat) (c : Cmd) (n : Nat) (s : State) (body : State → Res) (key : List Byte), (s.keySlot 1).current = some key →
      macOf key (c.bytes 0 n) ≠ c.bytes n 48 → keyAuth op c n s body = rej .auth (0x20 + n) (raise 0x1086 3 op 1 s)) ∧
    (∀ (op : Nat) (c : Cmd) (n : Nat) (s : State) (body : State → Res) (key : List Byte), (s.keySlot 1).current = some key →
      macOf key (c.bytes 0 n) = c.bytes n 48 → c.u64 8 ≤ s.obj.keyCounter → keyAuth op c n s body = rej .auth 0x28 (raise 0x1086 3 op 2 s)) ∧
    (∀ (op : Nat) (c : Cmd) (n : Nat) (s : State) (body : State → Res), (s.keySlot 1).current = none → keyAuth op c n s body = rej .state 0xFFFF s) ∧
    (∀ (c : Cmd) (s : State), (s.keySlot 1).current = none → (c.u8 0 = 1 ∨ c.u8 0 = 2) → ¬(c.u8 0 = 1 ∧ bitOf (c.u8 1) 0 = true) →
      (installKey c s).status = .state ∧ (installKey c s).s = s ∧ (swapKey c s) = rej .state 0xFFFF s ∧ (invalidateKey c s) = rej .state 0xFFFF s))

/-- The firmware commands (R498, R503, R512): STAGE_IMAGE begins a session, ending one of the partner's, HANDOVER and REVERT are ordered for the end of
the tick, COMMIT_IMAGE begins a trial's commit, ABORT_UPDATE ends a session, SET_FOLLOW_LIST is held; STAGE_IMAGE beside a session of the host's or a
handover, HANDOVER in a trial, to a slot without a good image, below the security counter, across a schema or a partner that it does not suit, and the
commands of a trial without one are refused.  Each of these rows answers a next state under conditions on state and operands alone (conclusion exec i
s = next t): stageImage, setFollowList, handover, commitImage, revert, abortUpdate. -/
def Obligations.FirmwareCommandsComplete : Prop :=
  let slotted (c : Cmd) (s : State) : Prop := c.u32 0 % 4096 = 0 ∧ c.u32 0 + c.u32 4 ≤ 0x20000000 ∧ c.u32 0 < 0x20000000 ∧ c.u8 8 ≤ 1 ∧ c.u8 8 ≠ s.fw.running
  let image (c : Cmd) (s : State) : SlotHdr := s.fwSlot (c.u8 0)
  let fields (c : Cmd) : Prop := c.u8 0 ≤ 1 ∧ c.u16 2 ≤ 3600
  let good (c : Cmd) (s : State) : Prop := inTrial s = false ∧ (image c s).st = 1 ∧ c.u8 0 ≠ s.fw.running
  let secure (c : Cmd) (s : State) : Prop := s.keys.secCounter ≤ (image c s).security
  let schema (c : Cmd) (s : State) : Prop := (image c s).schemaMin ≤ s.fw.image.schemaW ∧ s.fw.image.schemaW ≤ (image c s).schemaMax
  let suits (c : Cmd) (s : State) : Prop := bitOf (c.u8 1) 0 = true ∨ partnerRefuses (image c s) s = false
  let ended (s : State) : State := if sessionLive s = true then raise 0x1182 2 s.fw.source.code 0 (dropSession (match s.fw.job with
      | some id => finish id .state 0xFFFF s
      | none => s)) else s
  Carries .stageImage stageImageInfo (fun c s => slotted c s ∧ (sessionLive s = false ∨ s.fw.source = .partner) ∧ s.fw.phase ≠ .handover)
    (fun c s => queued .stageImage ((displacePartner s).onFw fun f => { f with source := .host, phase := .checking, target := c.u8 8,
                                                                               stageAt := 0x20000000 + c.u32 0, stageLen := c.u32 4, bytes := 0,
                                                                               both := false, job := some s.mbox.nextJob })) ∧
  Carries .stageImage stageImageInfo (fun c s => slotted c s ∧ ((sessionLive s = true ∧ s.fw.source ≠ .partner) ∨ s.fw.phase = .handover))
    (fun _ s => rej .busy 0 s) ∧
  Carries .setFollowList setFollowListInfo (fun c _ => c.u8 0 ≤ 8)
    (fun c s => ok ((s.onObj fun o => { o with followList := (List.range (c.u8 0)).map fun i => c.bytes (8 + 48 * i) 48 }).touch 0x11 0)) ∧
  Carries .setFollowList setFollowListInfo (fun c _ => 8 < c.u8 0) (fun _ s => rej .range 0x20 s) ∧
  Carries .handover handoverInfo
    (fun c s => fields c ∧ good c s ∧ secure c s ∧ schema c s ∧ suits c s ∧ s.fw.phase ≠ .handover ∧ s.fw.phase ≠ .checking)
    (fun c s => queued .handover ((orderHandover (c.u8 0) false s).onFw fun f =>
      { f with oldSlot := f.running, oldImage := f.image, trialNext := (if c.u16 2 = 0 then 10 else c.u16 2) * 1000 })) ∧
  Carries .handover handoverInfo (fun c s => fields c ∧ ¬good c s) (fun _ s => rej .state 0xFFFF s) ∧
  Carries .handover handoverInfo (fun c s => fields c ∧ good c s ∧ ¬secure c s) (fun _ s => rej .state (causeDetail 4) s) ∧
  Carries .handover handoverInfo (fun c s => fields c ∧ good c s ∧ secure c s ∧ ¬schema c s) (fun _ s => rej .format (causeDetail 10) s) ∧
  Carries .handover handoverInfo (fun c s => fields c ∧ good c s ∧ secure c s ∧ schema c s ∧ ¬suits c s) (fun _ s => rej .state (causeDetail 11) s) ∧
  Carries .handover handoverInfo
    (fun c s => fields c ∧ good c s ∧ secure c s ∧ schema c s ∧ suits c s ∧ (s.fw.phase = .handover ∨ s.fw.phase = .checking)) (fun _ s => rej .busy 0 s) ∧
  Carries .commitImage commitImageInfo (fun _ s => inTrial s = true ∧ s.fw.noCommit = false)
    (fun _ s => queued .commitImage (if committing s = true then s else commitTrial s)) ∧
  Carries .commitImage commitImageInfo (fun _ s => inTrial s = false ∨ s.fw.noCommit = true) (fun _ s => rej .state 0xFFFF s) ∧
  Carries .revert revertInfo (fun _ s => inTrial s = true ∧ committing s = false ∧ s.fw.phase ≠ .handover)
    (fun _ s => queued .revert (orderHandover s.fw.oldSlot true (ended s))) ∧
  Carries .revert revertInfo (fun _ s => inTrial s = false ∨ committing s = true ∨ s.fw.phase = .handover) (fun _ s => rej .state 0xFFFF s) ∧
  (∀ id, Carries .abortUpdate abortUpdateInfo (fun _ s => sessionLive s = true ∧ s.fw.job = some id)
    (fun c s => ok (raise 0x1182 2 s.fw.source.code 0 (dropSession (finish id .superseded (byCommand c) s))))) ∧
  Carries .abortUpdate abortUpdateInfo (fun _ s => sessionLive s = true ∧ s.fw.job = none)
    (fun _ s => ok (raise 0x1182 2 s.fw.source.code 0 (dropSession s))) ∧
  Carries .abortUpdate abortUpdateInfo (fun _ s => sessionLive s = false) (fun _ s => rej .state 0xFFFF s)

/-- R493: the checks of an image in their order, each with its cause; an image that passes them all has cause 0.  R437, R493, R494, R497, R512: a check
that finds no fault begins the slot's writing, with the slot invalid until it ends; one that finds a fault, or a partner's image that is not the one
offered, refuses the image with its cause; a written image is staged, its slot programmed VALID last, and Dry Dock's is bootable, in both slots where
it was so asked; a device that does not take it ends the session; a partner's offer is taken up only when the follow list names it and no session
runs.  Each of these rows answers a next state under conditions on state and operands alone (conclusion exec i s = next t): imageCheckComplete,
slotWriteComplete, partnerImageOffer. -/
def Obligations.ImagesAreCheckedInOrder : Prop :=
  (
    ∀ (h : List Byte) (n : Option Nat) (r : ImageChecks) (s : State),
      (shapeOk h n = false → imageCause h n r s = 8) ∧
      (shapeOk h n = true → r.signature = false → imageCause h n r s = 1) ∧
      (shapeOk h n = true → r.signature = true → vendorKeyOk s (headerOf h).keyIndex = false → imageCause h n r s = 7) ∧
      (shapeOk h n = true → r.signature = true → vendorKeyOk s (headerOf h).keyIndex = true → (headerOf h).security < s.keys.secCounter → imageCause h n r s = 4) ∧
      (shapeOk h n = true → r.signature = true → vendorKeyOk s (headerOf h).keyIndex = true → s.keys.secCounter ≤ (headerOf h).security →
        Config.romVersion < (headerOf h).romMin → imageCause h n r s = 6) ∧
      (shapeOk h n = true → r.signature = true → vendorKeyOk s (headerOf h).keyIndex = true → s.keys.secCounter ≤ (headerOf h).security →
        (headerOf h).romMin ≤ Config.romVersion → imageCause h n r s = if r.tag = false then 2 else if r.digest = false then 3 else 0)) ∧
  (
    (∀ (h : List Byte) (r : ImageChecks) (s : State), s.fw.phase ≠ .checking → Answers (.imageCheckComplete h r) s s) ∧
    (∀ (g : List Byte) (r : ImageChecks) (s : State), s.fw.phase = .checking →
      let h := checkedHeader g s
      let s1 := (useImageKey (hdrField h 0x20 4) s).onFw fun f => { f with bytes := min 0xFFFFFFFF (512 + hdrField h 0x20 4 + 16) }
      imageCause h (checkedLength s) r s ≠ 0 → Answers (.imageCheckComplete g r) s (refuseImage (imageCause h (checkedLength s) r s) s1)) ∧
    (∀ (g : List Byte) (r : ImageChecks) (s : State), s.fw.phase = .checking → s.fw.source ≠ .partner → imageCause (checkedHeader g s) (checkedLength s) r s = 0 →
      let h := checkedHeader g s
      let s1 := (useImageKey (hdrField h 0x20 4) s).onFw fun f => { f with bytes := min 0xFFFFFFFF (512 + hdrField h 0x20 4 + 16) }
      Answers (.imageCheckComplete g r) s (beginSlotWrite (headerOf h) s1)) ∧
    (∀ (g d : List Byte) (r : ImageChecks) (s : State), s.fw.phase = .checking → s.fw.source = .partner → s.fw.hash = some d →
      imageCause (checkedHeader g s) (checkedLength s) r s = 0 →
      let h := checkedHeader g s
      let s1 := (useImageKey (hdrField h 0x20 4) s).onFw fun f => { f with bytes := min 0xFFFFFFFF (512 + hdrField h 0x20 4 + 16) }
      Answers (.imageCheckComplete g r) s (if d = (headerOf h).digest then beginSlotWrite (headerOf h) s1 else refuseImage 3 s1)) ∧
    (∀ (h : SlotHdr) (s : State), ((beginSlotWrite h s).fwSlot s.fw.target).st = 2 ∧ (beginSlotWrite h s).fw.phase = .writing) ∧
    (∀ (ok : Bool) (s : State), s.fw.phase ≠ .writing → Answers (.slotWriteComplete ok) s s) ∧
    (∀ (id : Nat) (s : State), s.fw.phase = .writing → s.fw.source = .host → s.fw.job = some id →
      let s1 := (onFwSlot s.fw.target (fun _ => { s.fw.incoming with st := 1, bootSeq := 0, staged := true }) s).onFw fun f => { f with phase := .staged, job := none }
      Answers (.slotWriteComplete true) s (raise 0x1181 1 s.fw.target s.fw.incoming.version (finish id .done s.fw.incoming.version s1))) ∧
    (∀ (id : Nat) (s : State), s.fw.phase = .writing → s.fw.source = .host → s.fw.job = some id →
      Answers (.slotWriteComplete false) s (raise 0x1182 2 1 0 (dropSession (finish id .state 0xFFFF (norFails s.fw.target s))))) ∧
    (∀ s : State, s.fw.phase = .writing → s.fw.source = .partner → s.fw.job = none →
      let s1 := (onFwSlot s.fw.target (fun _ => { s.fw.incoming with st := 1, bootSeq := 0, staged := true }) s).onFw fun f => { f with phase := .staged, job := none }
      Answers (.slotWriteComplete true) s (raise 0x1181 1 s.fw.target s.fw.incoming.version s1) ∧
      Answers (.slotWriteComplete false) s (raise 0x1182 2 2 0 (dropSession (norFails s.fw.target s)))) ∧
    (∀ s : State, s.fw.phase = .writing → s.fw.source = .dryDock → s.fw.both = true →
      Answers (.slotWriteComplete true) s ((onFwSlot s.fw.target (fun _ => { s.fw.incoming with st := 1, bootSeq := nextBootSeq s }) s).onFw fun f =>
        { f with target := 1 - s.fw.target, both := false, incoming := { s.fw.incoming with bootSeq := nextBootSeq s } })) ∧
    (∀ (op : Nat) (c : Cmd) (s : State), s.fw.phase = .writing → s.fw.source = .dryDock → s.fw.both = false → s.host.ddCmd = some (op, c) →
      Answers (.slotWriteComplete true) s ((complete 0 c.tag op c.session false .done 0 0 0 0
        (onFwSlot s.fw.target (fun _ => { s.fw.incoming with st := 1, bootSeq := max (nextBootSeq s) s.fw.incoming.bootSeq }) s)).onFw fun f =>
        { f with source := .none, phase := .idle, incoming := {} })) ∧
    (∀ (op : Nat) (c : Cmd) (s : State), s.fw.phase = .writing → s.fw.source = .dryDock → s.host.ddCmd = some (op, c) →
      Answers (.slotWriteComplete false) s (dropSession (complete 0 c.tag op c.session false .state 0 0 0 0xFFFF (norFails s.fw.target s)))) ∧
    (∀ (d : List Byte) (s : State), (s.dev.ready = false ∨ s.twin.session = false ∨ tandemDown s = true) → Answers (.partnerImageOffer d) s s) ∧
    (∀ (d : List Byte) (s : State), s.dev.ready = true → s.twin.session = true → tandemDown s = false → sessionLive s = false → s.fw.phase ≠ .handover →
      s.obj.followList.contains d = true →
      Answers (.partnerImageOffer d) s (s.onFw fun f => { f with source := .partner, phase := .checking, target := 1 - f.running, bytes := 0, both := false, job := none, hash := some d })) ∧
    (∀ (d : List Byte) (s : State), s.dev.ready = true → s.twin.session = true → tandemDown s = false → sessionLive s = false → s.fw.phase ≠ .handover →
      s.obj.followList.contains d = false → Answers (.partnerImageOffer d) s (raise 0x1183 1 0 2 s)) ∧
    (∀ (d : List Byte) (s : State), s.dev.ready = true → s.twin.session = true → tandemDown s = false → (sessionLive s = true ∨ s.fw.phase = .handover) →
      Answers (.partnerImageOffer d) s (raise 0x1183 1 0 1 s)))

/-- R438, R499, R501, R503: a handover that was ordered begins with the old image's cut and checkpoint; its steps follow in order, the fifth upon the
fourth; an unreadable record at step 2 or 3 reinstates the old image, but not in a revert; the end of a trial commits it, except after a tamper alarm,
while its commit is in writing, or in a handover.  Each of these rows answers a next state under conditions on state and operands alone (conclusion
exec i s = next t): handoverStepComplete, trialEnd. -/
def Obligations.HandoverRowsComplete : Prop :=
  (∀ (ok : Bool) (s : State), s.dev.ready = true → s.fw.phase = .handover → s.fw.handStep = 0 →
    let s1 := (checkpoint (if s.journal.writes = true ∧ s.journal.pending ≠ [] then cutNow .regular s else s)).onFw fun f => { f with handStep := 1, healthHigh := s.twin.health }
    let s2 : State := { s1 with dev := .handover }
    Answers (.handoverStepComplete ok) s (s2.onFw fun f => { f with handStep := f.handStep + 1 })) ∧
  (∀ (ok : Bool) (s : State), s.dev = .handover → s.fw.handStep ≤ 1 → Answers (.handoverStepComplete ok) s (s.onFw fun f => { f with handStep := f.handStep + 1 })) ∧
  (∀ (ok : Bool) (s : State), s.dev = .handover → (s.fw.handStep = 2 ∨ s.fw.handStep = 3) → (ok = true ∨ s.fw.reverting = true) →
    Answers (.handoverStepComplete ok) s (s.onFw fun f => { f with handStep := f.handStep + 1 })) ∧
  (∀ s : State, s.dev = .handover → (s.fw.handStep = 2 ∨ s.fw.handStep = 3) → s.fw.reverting = false →
    Answers (.handoverStepComplete false) s (driveHealth (handoverFails s))) ∧
  (∀ (ok : Bool) (s : State), s.dev = .handover → 4 ≤ s.fw.handStep → s.fw.reverting = false → Answers (.handoverStepComplete ok) s (driveHealth (handoverDone s))) ∧
  (∀ (ok : Bool) (s : State), s.dev = .handover → 4 ≤ s.fw.handStep → s.fw.reverting = true → Answers (.handoverStepComplete ok) s (driveHealth (revertDone s))) ∧
  (∀ (ok : Bool) (s : State), s.dev ≠ .handover → (s.fw.phase ≠ .handover ∨ s.dev.ready = false ∨ s.fw.handStep ≠ 0) → Answers (.handoverStepComplete ok) s s) ∧
  (∀ s : State, s.dev.ready = true → s.fw.trialMs ≠ 0 → s.fw.noCommit = false → msTicks s.fw.trialMs ≤ s.fw.trialAge → committing s = false → s.fw.phase ≠ .handover →
    let seq := (s.fwSlot s.fw.oldSlot).bootSeq + 1
    Answers .trialEnd s (cutNow .trial (onFwSlot s.fw.running (fun h => { h with bootSeq := seq }) s))) ∧
  (∀ s : State, (s.dev.ready = false ∨ s.fw.trialMs = 0 ∨ s.fw.noCommit = true ∨ s.fw.trialAge < msTicks s.fw.trialMs ∨ committing s = true ∨ s.fw.phase = .handover) →
    Answers .trialEnd s s)

/-- R108, R109, R116: a tick is at or before a frame start exactly when the frame at or after the tick is at or before that frame, for every rate, phase
and E; frame ticks do not fall back, and any five frames of a grid take five whole frame lengths. -/
def Obligations.FrameGrid : Prop :=
  (∀ (rate phase : Nat) (e t n : Int), t ≤ gridTick rate phase e n ↔ frameAtTick rate phase e t ≤ n) ∧
  (∀ (rate phase : Nat) (e n m : Int), n ≤ m → gridTick rate phase e n ≤ gridTick rate phase e m) ∧
  (∀ (rate phase : Nat) (e n : Int), gridTick rate phase e (n + 5) = gridTick rate phase e n + ((5 * 48000 * (rateND rate).2 / (rateND rate).1 : Nat) : Int))

/-- R102, R120, R468, R541: a tick of an unpowered chip counts elapsed time alone, and of one that does not serve T too where a start has set it; a tick
of service closes the one before, makes the records announced before it eligible, and begins with the hardware's step; a foreground longer than 62,500
/ 3 ns is a slip, and a missing heartbeat counts a missed tick of its die.  Each of these rows answers a next state under conditions on state and
operands alone (conclusion exec i s = next t): sampleTick. -/
def Obligations.SampleTickRuns : Prop :=
  (∀ (fg bg : Nat) (e w : Bool) (s : State), s.dev = .off → Answers (.sampleTick fg bg e w) s (s.onTime fun t => { t with elapsed := t.elapsed + 1 })) ∧
  (∀ (fg bg : Nat) (e w : Bool) (s : State), s.serving = false → s.dev ≠ .off →
    let s1 := (endTickMail s).onTime fun t => { t with elapsed := t.elapsed + 1, tick := if s.time.running then t.tick + 1 else t.tick }
    let s2 := if s.dev = .fatalD then s1.onFaults fun f => { f with waited := f.waited + 1 } else s1
    Answers (.sampleTick fg bg e w) s (releaseHeld 0 (aliveToggle (tickLog (tickSpdm (tickClocks s2)))))) ∧
  (∀ (fg bg : Nat) (e w : Bool) (s : State), s.serving = true →
    let s1 := closeTick fg bg e w s
    let s2 := judgeBeats (advanceTick (!(e && w) || slipsTick fg) s1)
    let s3 := tickLog (tickClocks (backgroundWindow (if e && w then noteSlip fg s2 else s2)))
    Answers (.sampleTick fg bg e w) s (if s3.serving = true then openTick s3 else s3)) ∧
  (∀ (sl : Bool) (s : State), (advanceTick sl s).now = s.now + 1 ∧ (advanceTick sl s).elapsed = s.elapsed + 1 ∧ (advanceTick sl s).time.slipped = sl ∧
    ∀ ch, tableOk ({} : Channel) s.mbox.channels = true → ((advanceTick sl s).chan ch).eligible = (s.chan ch).sqTail ∧
      ((advanceTick sl s).chan ch).sqTail = (s.chan ch).sqTail) ∧
  (∀ (fg : Nat) (s : State), slipsTick fg = false → noteSlip fg s = s) ∧
  (∀ (fg : Nat) (s : State), slipsTick fg = true → (noteSlip fg s).time.slips = satAdd 32 s.time.slips 1 ∧ (noteSlip fg s).log.slips = inc s.log.slips) ∧
  (∀ (e w : Bool) (s : State), (countBeats e w s).time.missedEast = (if e then 0 else s.time.missedEast + 1) ∧
    (countBeats e w s).time.missedWest = (if w then 0 else s.time.missedWest + 1))

/-- R75: the channels of a tick's admission come in ascending number from T mod 64 on, round all 64; each has at most 16 commands, and the tick 256. -/
def Obligations.AdmissionOrder : Prop :=
  (∀ s : State, ((List.range 64).map fun i => (s.now + i) % 64).Nodup ∧ ∀ ch, ch < 64 → ch ∈ (List.range 64).map fun i => (s.now + i) % 64) ∧
  (∀ s : State, admission s = ((List.range 64).map fun i => (s.now + i) % 64).foldl admitChannel s) ∧
  (∀ (s : State) (ch : Nat), channelWaits s ch = false → admitChannel s ch = s) ∧
  (∀ (c : Cmd) (s : State), 256 ≤ s.mbox.admitted → gate c s = false)

/-- R76, R86, R111, R119, R238, R242, R467: the rows of a tick that are due act: a command held for its tick is released, on channel 0 as a Dry Dock
command; a plane adopts its grid, and where the grid has changed everything armed beyond its frame moves to frame k; a frame's waiting settings act
and its records are published; ALIVE toggles, in Dry Dock every 50 ms; the Chart is published; the background window is judged. Where they are not
due, nothing happens.  Each of these rows answers a next state under conditions on state and operands alone (conclusion exec i s = next t):
atTickRelease, adoptionTick, frameTick, aliveToggle, chartPeriodicPublish, backgroundWindow. -/
def Obligations.TickRowsComplete : Prop :=
  (∀ (ch op : Nat) (c : Cmd) (s : State), ch ≠ 0 → (s.chan ch).held = some (op, c) → c.targetTick ≤ s.now →
    gate c (s.onChan ch fun k => { k with held := none }) = true →
    Answers (.atTickRelease ch) s (armGate s (runOpcode op c (s.onChan ch fun k => { k with held := none })))) ∧
  (∀ (op : Nat) (c : Cmd) (s : State), (s.chan 0).held = some (op, c) → c.targetTick ≤ s.now →
    Answers (.atTickRelease 0) s (dockNow op c (s.onChan 0 fun k => { k with held := none }))) ∧
  (∀ (ch op : Nat) (c : Cmd) (s : State), (s.chan ch).held = some (op, c) → s.now < c.targetTick → Answers (.atTickRelease ch) s s) ∧
  (∀ (ch op : Nat) (c : Cmd) (s : State), ch ≠ 0 → (s.chan ch).held = some (op, c) → gate c (s.onChan ch fun k => { k with held := none }) = false →
    Answers (.atTickRelease ch) s s) ∧
  (∀ (ch : Nat) (s : State), (s.chan ch).held = none → Answers (.atTickRelease ch) s s) ∧
  (∀ (p : Nat) (s : State), s.serving = true → adoptionDue s p = true → sameGrid s p = true →
    Answers (.adoptionTick p) s (adoptSwitch p none (adoptGrid p s))) ∧
  (∀ (p : Nat) (s : State), s.serving = true → adoptionDue s p = true → sameGrid s p = false →
    let m := (s.planeRt p).frame
    let k := ((adoptGrid p s).planeRt p).nextFrame
    let due : Option (Nat × Int) → Option (Nat × Int) := fun x => x.map fun e => if e.1 = p then (e.1, rearmed m k e.2) else e
    let s2 := (adoptGrid p s).onStreams fun t => t.map fun e => (e.1, { e.2 with effAt := due e.2.effAt, fillAt := due e.2.fillAt })
    Answers (.adoptionTick p) s (rearmTrims p m k (rearmForms p m k (rearmHeads p m k (rearmChans p m k (rearmTakes p m k (adoptSwitch p (some k) s2))))))) ∧
  (∀ (p : Nat) (s : State), (s.serving = false ∨ adoptionDue s p = false) → Answers (.adoptionTick p) s s) ∧
  (∀ (p : Nat) (s : State), s.serving = true → frameNow s p = true → (s.planeRt p).pubFrame ≠ some (s.planeRt p).frame →
    let s1 := ((s.streams.filter fun e => e.2.effAt.isSome || e.2.fillAt.isSome).map Prod.fst).foldl (streamDue p (s.planeRt p).frame) s
    Answers (.frameTick p) s (settleTrims (publishPlane p (headFrames p (channelsDue p (generatorsDue p (genCompletes p (fillFrames p s1)))))))) ∧
  (∀ (p : Nat) (s : State), (s.serving = false ∨ frameNow s p = false ∨ (s.planeRt p).pubFrame = some (s.planeRt p).frame) → Answers (.frameTick p) s s) ∧
  (∀ s : State, s.serving = true → s.now % 24 = 0 → s.faults.aliveAt ≠ some s.elapsed →
    Answers .aliveToggle s (s.onFaults fun f => { f with aliveLevel := !f.aliveLevel, aliveAt := some s.elapsed })) ∧
  (∀ s : State, s.serving = true → (s.now % 24 ≠ 0 ∨ s.faults.aliveAt = some s.elapsed) → Answers .aliveToggle s s) ∧
  (∀ s : State, s.dev = .dryDock → (s.faults.aliveAt.all fun t => decide (t + 2400 ≤ s.elapsed)) = true →
    Answers .aliveToggle s (s.onFaults fun f => { f with aliveLevel := !f.aliveLevel, aliveAt := some s.elapsed })) ∧
  (∀ s : State, s.serving = false → (s.dev ≠ .dryDock ∨ (s.faults.aliveAt.all fun t => decide (t + 2400 ≤ s.elapsed)) = false) → Answers .aliveToggle s s) ∧
  (∀ s : State, s.dev.ready = true → s.now % 48 = 0 → s.time.published ≠ some s.elapsed → Answers .chartPeriodicPublish s (publishBlocks s)) ∧
  (∀ s : State, (s.dev.ready = false ∨ s.now % 48 ≠ 0 ∨ s.time.published = some s.elapsed) → Answers .chartPeriodicPublish s s) ∧
  (∀ s : State, s.time.bgCount < 48000 → Answers .backgroundWindow s s) ∧
  (∀ s : State, 48000 ≤ s.time.bgCount → ∃ t : State, Answers .backgroundWindow s t ∧ t.time.bgSum = 0 ∧ t.time.bgCount = 0 ∧ t.time.fgMax = s.time.fgMax ∧
    t.time.fgWin = s.time.fgWin ∧ (3000 * s.time.bgCount ≤ s.time.bgSum → t.mbox = s.mbox) ∧
    (s.time.bgSum < 3000 * s.time.bgCount → t.mbox = (raise 0x0382 2 0 (s.time.bgSum / s.time.bgCount) s).mbox))

/-- R128, R129, R133, R134, R141, R143: a reference slot that its rows name: the pin's filter passes a pulse of 25 ns or more and counts one below 20 ns;
a pulse on the slot's grid is a measurement and one beside it an anomaly; a beacon gives its quality and a phase measurement, and 1 µs from its
prediction it disqualifies; a silent slot is MISSING; a slot that has served its time qualifies; a frequency beyond 10 ppm disqualifies; each 1 s
window judges the disputes of the helm; a holdover beyond its budget is out of specification on the helm, once.  Each of these rows answers a next
state under conditions on state and operands alone (conclusion exec i s = next t): frameRefPulse, beaconRecord, referenceMissing,
qualificationComplete, referenceFrequencyWindow, holdoverBudgetCrossing. -/
def Obligations.ReferenceRowsComplete : Prop :=
  (∀ (pin w : Nat) (at_ : Int) (s : State), pin ≤ 1 → (s.slot (8 + pin)).st ≠ .disabled → 25 ≤ w →
    let r := 8 + pin
    let x := s.slot r
    let inst := at_ - (s.refObj r).delayNs
    let gaps := match x.lastPulse with
      | some l => x.gaps ++ [at_ - l]
      | none => x.gaps
    let s1 := s.onSlot r fun x => { x with lastPulse := some at_, gaps := gaps.drop (gaps.length - 8), missing := false }
    Answers (.frameRefPulse pin ⟨at_, w⟩) s (startTimer r (watchRate r
      (if x.havePred = true ∧ 1000 * (slotRate s r).1 < (wrapNum (slotRate s r) (inst - x.pos.getD inst)).natAbs then offGridPulse r inst s1 else onGridPulse r inst s1)))) ∧
  (∀ (r : Nat) (inst : Int) (s : State), (s.slot r).meas = [] → onGridPulse r inst s = s.onSlot r fun x =>
    { x with pos := some inst, havePred := true, gridBad := false, measuredRate := if x.havePred then 0 else x.measuredRate, meas := addMeas inst 0 s.time.corr x.meas }) ∧
  (∀ (pin w : Nat) (at_ : Int) (s : State), pin ≤ 1 → (s.slot (8 + pin)).st ≠ .disabled → w < 20 →
    Answers (.frameRefPulse pin ⟨at_, w⟩) s (s.onSlot (8 + pin) fun x => { x with filtered := satAdd 16 x.filtered 1 })) ∧
  (∀ (pin w : Nat) (at_ : Int) (s : State), pin ≤ 1 → (s.slot (8 + pin)).st ≠ .disabled → 20 ≤ w → w < 25 →
    Answers (.frameRefPulse pin ⟨at_, w⟩) s (if s.draw.1 % 2 = 0 then validPulse (8 + pin) at_ s.draw.2
      else s.draw.2.onSlot (8 + pin) fun x => { x with filtered := satAdd 16 x.filtered 1 })) ∧
  (∀ (pin w : Nat) (at_ : Int) (s : State), (1 < pin ∨ (s.slot (8 + pin)).st = .disabled) → Answers (.frameRefPulse pin ⟨at_, w⟩) s s) ∧
  (∀ (r : Nat) (record : List Byte) (a : BeaconArrival) (s : State), (8 ≤ r ∨ (s.slot r).st = .disabled ∨ (s.lane (s.refObj r).lane).rx ≠ .active) →
    Answers (.beaconRecord r record a) s s) ∧
  (∀ (r : Nat) (record : List Byte) (a : BeaconArrival) (s : State), r < 8 → tableOk ({} : SlotRt) s.refs.slots = true → (s.slot r).st ≠ .disabled →
    (s.lane (s.refObj r).lane).rx = .active → (s.slot r).jump = none →
    let field := fun off n => leNat ((record.drop off).take n)
    let t := a.rxNs - eNs s
    let phase : Int := (a.txSeconds * 1000000000 + a.txNanos : Nat) - (t - (s.refObj r).delayNs)
    let s0 := s.onSlot r fun x => { x with pos := some phase, havePred := true, meas := addMeas t phase s.time.corr x.meas }
    let s1 := if (s.slot r).havePred = true ∧ 1000 < (phase - (s.slot r).pos.getD phase).natAbs then disqualify r 3 s0 else startTimer r s0
    let s2 := s1.onSlot r fun x =>
      { x with missing := false, missedRun := 0, due := some (nextDue (field 4 4)), seen := true, quality := field 0 1, utcOffset := toInt 16 (field 2 2),
               sourceId := field 0x10 8 }
    let s3 := noteJump r (bitOf (field 1 1) 0) (field 4 4) (field 8 4) (toInt 32 (field 0x0C 4)) s2
    Answers (.beaconRecord r record a) s (if field 0 1 = 255 then disqualify r 7 s3 else startTimer r s3)) ∧
  (∀ (r : Nat) (s : State), (s.slot r).st ≠ .disabled → (s.slot r).missing = false → silentTooLong s r = true →
    Answers (.referenceMissing r) s (disqualify r 1 (s.onSlot r fun x =>
      { x with meas := [], cover := 0, freqJudged := false, freqBad := false, havePred := false, gridBad := false, offGrid := [], missing := true }))) ∧
  (∀ (r : Nat) (s : State), ((s.slot r).st = .disabled ∨ (s.slot r).missing = true ∨ silentTooLong s r = false) → Answers (.referenceMissing r) s s) ∧
  (∀ (r : Nat) (s : State), (s.slot r).st = .qualifying → conditionOn s r = false → timeServed s r = true →
    Answers (.qualificationComplete r) s (raise 0x0481 1 r (qualityOf s r) (s.onSlot r fun x => { x with st := .qualified }))) ∧
  (∀ (r : Nat) (s : State), ((s.slot r).st ≠ .qualifying ∨ conditionOn s r = true ∨ timeServed s r = false) → Answers (.qualificationComplete r) s s) ∧
  (∀ (within : Nat) (s : State), s.refs.window < 48000 → Answers (.referenceFrequencyWindow within) s s) ∧
  (∀ (within : Nat) (s : State), 48000 ≤ s.refs.window →
    Answers (.referenceFrequencyWindow within) s (windowDispute (dropDispute ((List.range 10).foldl (fun s r => judgeFreqAt within r s) (s.onRefs fun x => { x with window := 0 }))))) ∧
  (∀ (within r : Nat) (f : Int) (s : State), (s.slot r).st ≠ .disabled → 48000 ≤ (s.slot r).cover →
    slopeOf (slotRate s r) s.obj.policy.spreadPpb ((s.slot r).meas.filter fun e => decide ((s.now : Int) * 62500 + 3 * within ≤ (e.1 + 1000000000) * 3)) = some f →
    let s1 := s.onSlot r fun x => { x with freq := f, freqJudged := true, freqBad := decide (10000000 < f.natAbs) }
    judgeFreqAt within r s = if 10000000 < f.natAbs ∧ (s.slot r).freqBad = false then disqualify r 2 s1 else s1) ∧
  (∀ s : State, s.isHelm = true → s.refs.holdover = true → s.refs.outOfSpec = false → overBudget s.obj.policy s.refs.holdAge = true →
    Answers .holdoverBudgetCrossing s (raise 0x0485 3 0 (estimateNs s) (s.onRefs fun x => { x with outOfSpec := true }))) ∧
  (∀ s : State, (s.isHelm = false ∨ s.refs.holdover = false ∨ s.refs.outOfSpec = true ∨ overBudget s.obj.policy s.refs.holdAge = false) →
    Answers .holdoverBudgetCrossing s s)

/-- R258, R260 to R263, R204: slip decisions fall every 480 ticks alone, on the helm, outside the fills 16 to 112; a pending slip acts at its tick alone;
a stream is primed at a fill of 64; a lost berth goes over to the fill when its hold has run out.  Each of these rows answers a next state under
conditions on state and operands alone (conclusion exec i s = next t): slipDecision, slipEffect, primingComplete, lossHoldExpiry. -/
def Obligations.AudioRowsComplete : Prop :=
  (∀ s : State, s.now % 480 ≠ 0 → Answers .slipDecision s s) ∧
  (∀ (bay t : Nat) (s : State), s.now % 480 = 0 → liveInputs s = [bay] → (s.aud bay).primed = true → (s.aud bay).winMin ≤ (s.aud bay).winMax →
    s.isHelm = true → (s.aud bay).slip = none → ((s.aud bay).winMin < 16 ∨ 112 < (s.aud bay).winMax) → slipTick s = some t →
    let drop := decide (16 ≤ (s.aud bay).winMin)
    let s1 := s.onAud bay fun a => { a with fillMin := a.winMin, fillMax := a.winMax, winMin := 128, winMax := 0 }
    Answers .slipDecision s ((raise 0x0981 1 bay (bit drop) (s1.onAud bay fun a => { a with slip := some (drop, t), clean := 0, sync := false })).onTwin fun w =>
      { w with slips := w.slips ++ [(bay, drop, t)] })) ∧
  (∀ (bay : Nat) (s : State), s.now % 480 = 0 → liveInputs s = [bay] → (s.aud bay).primed = true → 16 ≤ (s.aud bay).winMin →
    (s.aud bay).winMin ≤ (s.aud bay).winMax → (s.aud bay).winMax ≤ 112 →
    let s1 := s.onAud bay fun a => { a with fillMin := a.winMin, fillMax := a.winMax, winMin := 128, winMax := 0 }
    Answers .slipDecision s (noSlip s1 bay)) ∧
  (∀ (bay : Nat) (drop : Bool) (s : State), (s.aud bay).slip = some (drop, s.now) → Answers (.slipEffect bay) s (slipNow bay drop s)) ∧
  (∀ (bay t : Nat) (drop : Bool) (s : State), (s.aud bay).slip = some (drop, t) → t ≠ s.now → Answers (.slipEffect bay) s s) ∧
  (∀ (bay : Nat) (s : State), (s.aud bay).slip = none → Answers (.slipEffect bay) s s) ∧
  (∀ (bay : Nat) (s : State), s.isHelm = true → (s.aud bay).primed = false → streamLive s bay = true → 64 ≤ audFill s bay →
    let s1 := s.onAud bay fun a => { a with primed := true, pairing := some (s.now, firstHeld s bay), read := firstHeld s bay, faded := false, winMin := 128, winMax := 0, clean := 0 }
    Answers (.primingComplete bay) s (refadeAll (s1.onTwin fun w => { w with primings := w.primings ++ [(bay, s.now, firstHeld s bay)] }))) ∧
  (∀ (bay : Nat) (s : State), (s.isHelm = false ∨ (s.aud bay).primed = true ∨ streamLive s bay = false ∨ audFill s bay < 64) → Answers (.primingComplete bay) s s) ∧
  (∀ (bay : Nat) (s : State), (s.streamRt bay).lost ≠ 0 → berthed s bay = true → (s.streamRt bay).filling = false →
    msTicks (s.fsync bay).lossHoldMs ≤ (s.streamRt bay).lostFor →
    Answers (.lossHoldExpiry bay) s (raise 0x0683 1 bay (bit (s.fsync bay).lossFill)
      ((s.onStreamRt bay fun r => { r with filling := true }).onBerth bay fun b => { b with filling := true }))) ∧
  (∀ (bay : Nat) (s : State), (s.streamRt bay).lostFor < msTicks (s.fsync bay).lossHoldMs → Answers (.lossHoldExpiry bay) s s)

/-- R431, R434, R435, R437, R438, R495: a due cut with changes takes the objects as they stand, one without changes writes nothing, and a power failure
stops cuts; a commit written on the good devices becomes durable; the interval follows the write rate; a checkpoint adds a record of 4,096 bytes and
its view.  Each of these rows answers a next state under conditions on state and operands alone (conclusion exec i s = next t): journalCut,
journalCommitDurable, commitIntervalReview, logbookCheckpoint, norPatrol. -/
def Obligations.JournalRowsComplete : Prop :=
  (∀ s : State, s.dev.ready = true → s.start.powerFail = false → s.journal.writes = true → cutDue s = true → s.journal.pending ≠ [] →
    Answers .journalCut s (cutNow .regular (s.onJournal fun j => { j with regular := some s.elapsed }))) ∧
  (∀ s : State, s.dev.ready = true → s.start.powerFail = false → s.journal.writes = true → cutDue s = false → s.journal.starved = true →
    s.journal.pending ≠ [] → Answers .journalCut s (cutNow .regular s)) ∧
  (∀ s : State, cutDue s = false → s.journal.starved = false → Answers .journalCut s s) ∧
  (∀ s : State, s.dev.ready = true → s.start.powerFail = false → s.journal.writes = true → cutDue s = true → s.journal.pending = [] →
    Answers .journalCut s ((s.onJournal fun j => { j with regular := some s.elapsed }).onJournal fun j => { j with starved := false, waited := 0 })) ∧
  (∀ s : State, (s.dev.ready = false ∨ s.start.powerFail = true ∨ s.journal.writes = false) → Answers .journalCut s s) ∧
  (∀ (c : CutRec) (r : List CutRec) (s : State), s.journal.writing = c :: r → c.kind ≠ .trial → (s.journal.good0 = true ∨ s.journal.good1 = true) →
    Answers (.journalCommitDurable true true) s (carryForward (storeCommit c (s.onJournal fun j => { j with writing := r })))) ∧
  (∀ (c : CutRec) (r : List CutRec) (ok0 ok1 : Bool) (s : State), s.journal.writing = c :: r →
    let s0 := s.onJournal fun j => { j with writing := r }
    let s1 := if ok0 then s0 else norFails 0 s0
    let s2 := if ok1 then s1 else norFails 1 s1
    s2.journal.good0 = false → s2.journal.good1 = false → Answers (.journalCommitDurable ok0 ok1) s (s2.onJournal fun j => { j with writing := [] })) ∧
  (∀ (c : CutRec) (s : State), (storeCommit c s).journal.durable = c.obj ∧ (storeCommit c s).journal.seq = c.seq ∧ (storeCommit c s).journal.cutTick = c.tick ∧
    (storeCommit c s).journal.commits = inc s.journal.commits ∧ (storeCommit c s).journal.writing = s.journal.writing ∧
    (storeCommit c s).journal.pending = s.journal.pending ∧ (storeCommit c s).obj = s.obj ∧ (storeCommit c s).mbox = s.mbox) ∧
  (∀ (ok0 ok1 : Bool) (s : State), s.journal.writing = [] → Answers (.journalCommitDurable ok0 ok1) s s) ∧
  (∀ s : State, 14336 < writeRate s → 2880000 ≤ s.journal.sinceUp → s.journal.interval < s.obj.journalPol.maxMs →
    Answers .commitIntervalReview s (setInterval (min (longer s.journal.interval) s.obj.journalPol.maxMs) s)) ∧
  (∀ s : State, writeRate s < 3584 → 28800000 ≤ s.journal.lowFor → s.obj.journalPol.baseMs < s.journal.interval →
    Answers .commitIntervalReview s (setInterval (max (shorter s.journal.interval) s.obj.journalPol.baseMs) s)) ∧
  (∀ s : State, 3584 ≤ writeRate s → writeRate s ≤ 14336 → Answers .commitIntervalReview s s) ∧
  (∀ s : State, s.dev.ready = true → 172800000 ≤ s.log.age → Answers .logbookCheckpoint s (checkpoint s)) ∧
  (∀ s : State, s.log.age < 172800000 → Answers .logbookCheckpoint s s) ∧
  (∀ s : State, (checkpoint s).log.checkpoints = inc s.log.checkpoints ∧ (checkpoint s).log.lastTick = s.now ∧ (checkpoint s).log.age = 0 ∧
    (checkpoint s).obj = s.obj ∧ (checkpoint s).journal.pending = s.journal.pending ∧ ∃ b : List Byte, b.length = 4096 ∧
      (checkpoint s).hdm = memWrite s.hdm 0x10000000 b ∧ (checkpoint s).journal.records = (s.journal.records ++ [b]).drop (s.journal.records.length + 1 - 512)) ∧
  (∀ (ok0 ok1 : Bool) (bad0 bad1 a b : Nat) (s : State), s.dev.ready = true → 29030400000 ≤ s.journal.patrolAge →
    let s1 := s.onJournal fun j => { j with patrolAge := 0 }
    let s2 := if ok0 then s1 else norFails 0 s1
    let s3 := rewriteSectors 1 bad1 (rewriteSectors 0 bad0 (if ok1 then s2 else norFails 1 s2))
    let s4 := if (s.fwSlot 0).st = 1 ∧ a ≠ 0 then raise 0x1187 3 0 a s3 else s3
    Answers (.norPatrol ⟨ok0, bad0⟩ ⟨ok1, bad1⟩ a b) s (if (s.fwSlot 1).st = 1 ∧ b ≠ 0 then raise 0x1187 3 1 b s4 else s4)) ∧
  (∀ (d bad : Nat) (s : State), 0 < bad → s.journal.good0 = true → s.journal.good1 = true →
    rewriteSectors d bad s = s.onJournal fun j => { j with erases := tmod 0 j.erases d fun e => satAdd 64 e bad }) ∧
  (∀ (ok0 ok1 : Bool) (bad0 bad1 a b : Nat) (s : State), (s.dev.ready = false ∨ s.journal.patrolAge < 29030400000) →
    Answers (.norPatrol ⟨ok0, bad0⟩ ⟨ok1, bad1⟩ a b) s s)

/-- R190, R208, R210, R211, R414: a patrol read falls when its place in the pass is due and the chip sheds nothing: one wrong symbol is corrected, more
are not; a pass that has read every unit ends with SCRUB_PASS and its count, the next taking the period then set; a soft repair puts the row out of
use, is kept in the store and lets the rows that wait go on, and the sixty-fourth of a pseudo-channel calls for the spare; the copy to the spare ends
with SPARE_USED.  R183, R184: a rotation begins 10 s after the last where the die has a spare; the traffic moves when the shadow has carried 16
barges, and barges that differ are a mismatch told as the traffic moves; the self-test of the outgoing pound ends it: passed, the pound is the spare;
failed, it is retired.  Each of these rows answers a next state under conditions on state and operands alone (conclusion exec i s = next t):
patrolScrubRead, scrubPassComplete, softRepairComplete, spareCopyComplete, poundRotation, poundTrafficMove, poundSelfTestComplete. -/
def Obligations.RepairAndPoundRowsComplete : Prop :=
  (
    (∀ (k : Nat) (f : ScrubFound) (s : State), scrubDue s k = false → Answers (.patrolScrubRead k f) s s) ∧
    (∀ (k : Nat) (s : State), scrubDue s k = true → Answers (.patrolScrubRead k .clean) s (s.onStack k fun x => { x with unit := x.unit + 1 })) ∧
    (∀ (k row : Nat) (o : WordOwner) (cut : Bool) (s : State), scrubDue s k = true →
      Answers (.patrolScrubRead k (.errors 0 row o cut)) s (s.onStack k fun x => { x with unit := x.unit + 1 })) ∧
    (∀ (k row : Nat) (o : WordOwner) (cut : Bool) (s : State), scrubDue s k = true →
      Answers (.patrolScrubRead k (.errors 1 row o cut)) s (scrubCorrected k (foundRow (s.stack k) row) cut (s.onStack k fun x => { x with unit := x.unit + 1 }))) ∧
    (∀ (k n row : Nat) (o : WordOwner) (cut : Bool) (s : State), scrubDue s k = true → 2 ≤ n →
      Answers (.patrolScrubRead k (.errors n row o cut)) s (scrubUncorrectable k (foundRow (s.stack k) row) o (s.onStack k fun x => { x with unit := x.unit + 1 }))) ∧
    (∀ (k : Nat) (s : State), s.shedding = true → scrubDue s k = false) ∧
    (∀ (k : Nat) (s : State), scrubUnits ≤ (s.stack k).unit → Answers (.scrubPassComplete k) s
      (raise 0x0688 0 k (s.stack k).passCorrected (s.onStack k fun x =>
        { x with unit := 0, passes := inc x.passes, passCorrected := 0, passStart := s.elapsed, hours := s.obj.wharfPol.scrubHours }))) ∧
    (∀ (k : Nat) (s : State), (s.stack k).unit < scrubUnits → Answers (.scrubPassComplete k) s s) ∧
    (∀ (k : Nat) (s : State), (s.stack k).repairing = none → Answers (.softRepairComplete k) s s) ∧
    (∀ (k row : Nat) (s : State), (s.stack k).repairing = some row →
      let s1 := s.onStack k fun x =>
        { x with repairing := none, repaired := setAdd x.repaired row, softRows := satAdd 16 x.softRows 1, used := min 1536 (x.used + 1), toRepair := [] }
      let s2 := raise 0x0684 1 k row ((s1.onObj fun o => { o with repairRows := o.repairRows ++ [(k, row)] }).touch 0x06 (0x20000 + k))
      let s3 := if 1152 ≤ (s2.stack k).used ∧ (s2.stack k).budgetLow = false then
        raise 0x0686 2 k (1536 - (s2.stack k).used) (s2.onStack k fun x => { x with budgetLow := true }) else s2
      let s4 := if 64 ≤ ((s2.stack k).repaired.filter fun r => rowPc r = rowPc row).length then sparePc k (rowPc row) s3 else s3
      Answers (.softRepairComplete k) s ((s.stack k).toRepair.foldl (fun s r => repairRow k r s) s4)) ∧
    (∀ (k pc : Nat) (s : State), (s.stack k).copying = some pc → Answers (.spareCopyComplete k) s
      (raise 0x0685 2 k pc (s.onStack k fun x => { x with copying := none, spareUsed := true, spared := some pc }))) ∧
    (∀ (k : Nat) (s : State), (s.stack k).copying = none → Answers (.spareCopyComplete k) s s)) ∧
  (
    let free (die : Nat) (s : State) : Prop := (s.pounds die).spare.isSome = true ∧ (s.pounds die).shadow = none ∧ (s.pounds die).testing = false ∧
      (s.pounds die).failed = false ∧ s.shedding = false ∧ (s.pounds die).rotAt + 480000 ≤ s.elapsed
    let moved (die k new : Nat) (s : State) : State := s.onPounds die fun p =>
      { p with traffic := p.traffic.set k new, spare := some ((s.pounds die).traffic.getD k 0), nextSlice := (k + 1) % 8, shadow := none, barges := 0,
               mismatch := false, testing := true, testAt := s.elapsed }
    let carried (die k new : Nat) (s : State) : Prop := (s.pounds die).shadow = some k ∧ (s.pounds die).spare = some new ∧ 16 ≤ (s.pounds die).barges
    (∀ (die : Nat) (s : State), free die s → Answers (.poundRotation die) s (s.onPounds die fun p =>
      { p with shadow := some p.nextSlice, barges := 0, mismatch := false, rotAt := s.elapsed })) ∧
    (∀ (die : Nat) (s : State), ¬free die s → Answers (.poundRotation die) s s) ∧
    (∀ (die k new : Nat) (bytes : List Byte) (s : State), carried die k new s → (s.pounds die).mismatch = false →
      Answers (.poundTrafficMove ⟨die, bytes, bytes⟩) s (moved die k new s)) ∧
    (∀ (die k new : Nat) (a b : List Byte) (s : State), carried die k new s → ((s.pounds die).mismatch = true ∨ a ≠ b) →
      Answers (.poundTrafficMove ⟨die, a, b⟩) s (tellMismatch die ((s.pounds die).traffic.getD k 0) (s.pounds die).mismatch (moved die k new s))) ∧
    (∀ (die : Nat) (a b : List Byte) (s : State), ((s.pounds die).shadow = none ∨ (s.pounds die).spare = none ∨ (s.pounds die).barges < 16) →
      Answers (.poundTrafficMove ⟨die, a, b⟩) s s) ∧
    (∀ (die n : Nat) (s : State), (s.pounds die).spare = some n → (s.pounds die).testing = true →
      Answers (.poundSelfTestComplete die true) s (s.onPounds die fun p => { p with testing := false })) ∧
    (∀ (die n : Nat) (s : State), (s.pounds die).spare = some n → (s.pounds die).testing = true →
      Answers (.poundSelfTestComplete die false) s (raise 0x0586 3 (n + 256 * die) 0 (report { code := 0x0402, west := decide (die = 1), subject := n }
        (s.onPounds die fun p => { p with testing := false, spare := none, retired := setAdd p.retired n, failed := true })))))

/-- R485, R490: while the link is up and the vault is open, SPDM's discovery, version, capability, algorithm, certificate, challenge and measurement
requests answer as R485 has them and change nothing else; under the tamper lock every SPDM request is answered with an error; while the link is down a
request never reaches the chip.  R485: a session is made by KEY_EXCHANGE, at most two at once, and established by FINISH; only an established session
may update its keys, keep itself alive, end, or program, start and stop the IDE keys of two streams in two directions and two key sets; a session
whose heartbeat period has passed ends.  Each of these rows answers a next state under conditions on state and operands alone (conclusion exec i s =
next t): doeDiscovery, getVersion, getCapabilities, negotiateAlgorithms, getDigests, getCertificate, challenge, getMeasurements, keyExchange, finish,
heartbeat, keyUpdate, endSession, query, kSetGo, keyProg, kSetStop, spdmHeartbeatLapse. -/
def Obligations.SpdmAndIdeRowsComplete : Prop :=
  (
    (∀ (i : Nat) (s : State), doeUp s = true → Answers (.doeDiscovery i) s (s.onKeys fun k => { k with doe := .discovery (if i < 3 then [i] else []) })) ∧
    (∀ (i : Instr) (s : State), doeUp s = false →
      (i ∈ [.getVersion, .getDigests] ∨ (∃ n, i ∈ [.doeDiscovery n, .getCapabilities n, .keyUpdate n, .heartbeat n, .endSession n]) ∨ (∃ b, i = .negotiateAlgorithms b) ∨
        (∃ n m, i = .query n m) ∨ (∃ n a b, i = .getCertificate n a b) ∨ (∃ n x, i ∈ [.challenge n x, .getMeasurements n x, .keyExchange n x]) ∨ (∃ n v, i = .finish n v) ∨
        (∃ n a b d, i ∈ [.kSetGo n a b d, .kSetStop n a b d]) ∨ (∃ n a b d k, i = .keyProg n a b d k)) → Answers i s s) ∧
    (∀ (i : Instr) (s : State), doeUp s = true → (s.keys.lock = true ∨ s.keys.vault = false) →
      (i ∈ [.getVersion, .getDigests] ∨ (∃ n, i ∈ [.getCapabilities n, .keyUpdate n, .heartbeat n, .endSession n]) ∨ (∃ b, i = .negotiateAlgorithms b) ∨
        (∃ n m, i = .query n m) ∨ (∃ n a b, i = .getCertificate n a b) ∨ (∃ n x, i ∈ [.challenge n x, .getMeasurements n x, .keyExchange n x]) ∨ (∃ n v, i = .finish n v) ∨
        (∃ n a b d, i ∈ [.kSetGo n a b d, .kSetStop n a b d]) ∨ (∃ n a b d k, i = .keyProg n a b d k)) → Answers i s (s.onKeys fun k => { k with doe := .error false })) ∧
    (∀ s : State, doeUp s = true → s.keys.lock = false → s.keys.vault = true →
      Answers .getVersion s (s.onKeys fun k => { k with version := 0, doe := .versions [0x11, 0x12] }) ∧
      (∀ v, (v = 0x11 ∨ v = 0x12) → Answers (.getCapabilities v) s (s.onKeys fun k => { k with
        version := v
        doe := .capabilities ["CERT", "CHAL", "MEAS", "MEAS_FRESH", "ENCRYPT", "MAC", "KEY_EX", "HBEAT", "KEY_UPD"] })) ∧
      Answers (.negotiateAlgorithms true) s (s.onKeys fun k => { k with doe := .algorithms "ECDSA P-384" "SHA-384" "secp384r1" "AES-256-GCM" "SHA-384" }) ∧
      (s.keys.bank = some 0 → Answers .getDigests s (s.onKeys fun k => { k with doe := .digests 1 (Config.sha384 Config.certChain) })) ∧
      (s.keys.bank ≠ some 0 → Answers .getDigests s (s.onKeys fun k => { k with doe := .digests 0 [] })) ∧
      (∀ a n, s.keys.bank = some 0 → Answers (.getCertificate 0 a n) s (s.onKeys fun k => { k with doe := .certificate ((Config.certChain.drop a).take n) false })) ∧
      (∀ a n, s.keys.bank ≠ some 0 → Answers (.getCertificate 0 a n) s (s.onKeys fun k => { k with doe := .certificate (((dikPublic 1).drop a).take n) true })) ∧
      (∀ v, v ≠ 0x11 → v ≠ 0x12 → Answers (.getCapabilities v) s (s.onKeys fun k => { k with doe := .error false })) ∧
      Answers (.negotiateAlgorithms false) s (s.onKeys fun k => { k with doe := .error false }) ∧
      (∀ slot x, slot ≠ 0 → Answers (.challenge slot x) s (s.onKeys fun k => { k with doe := .error false })) ∧
      (∀ x, let bs := [1, 2, 3, 4].map fun n => (n, measureBlock s n)
        Answers (.getMeasurements 255 x) s (s.onKeys fun k => { k with doe := .measurements bs (dikSign (s.keys.bank.getD 0) (x ++ bs.flatMap Prod.snd)) })) ∧
      (∀ b x, b ≠ 255 → (b = 0 ∨ 4 < b) → Answers (.getMeasurements b x) s (s.onKeys fun k => { k with doe := .error false })) ∧
      (∀ slot a n, slot ≠ 0 → Answers (.getCertificate slot a n) s (s.onKeys fun k => { k with doe := .error false })) ∧
      (∀ x, Answers (.challenge 0 x) s (s.onKeys fun k => { k with doe := .challengeAuth (dikSign (s.keys.bank.getD 0) x) })) ∧
      (∀ b x, 1 ≤ b → b ≤ 4 → Answers (.getMeasurements b x) s (s.onKeys fun k => { k with
        doe := .measurements [(b, measureBlock s b)] (dikSign (s.keys.bank.getD 0) (x ++ measureBlock s b)) })))) ∧
  (
    (∀ (h : Nat) (x : List Byte) (s : State), doeUp s = true → s.keys.lock = false → s.keys.vault = true → s.keys.sessions.length < 2 → h ≤ 60 →
      Answers (.keyExchange h x) s (s.onKeys fun k => { k with
        nextId := k.nextId + 1, sessions := k.sessions ++ [{ id := k.nextId, st := .handshake, heartbeat := h }],
        doe := .keyExchange k.nextId h (Config.dheShare k.nextId) (dikSign (k.bank.getD 0) x) })) ∧
    (∀ (h : Nat) (x : List Byte) (s : State), doeUp s = true → s.keys.lock = false → s.keys.vault = true → 2 ≤ s.keys.sessions.length →
      Answers (.keyExchange h x) s (s.onKeys fun k => { k with doe := .error true })) ∧
    (∀ (h : Nat) (x : List Byte) (s : State), doeUp s = true → s.keys.lock = false → s.keys.vault = true → s.keys.sessions.length < 2 → 60 < h →
      Answers (.keyExchange h x) s (s.onKeys fun k => { k with doe := .error false })) ∧
    (∀ (id : Nat) (x : Spdm) (s : State), doeUp s = true → s.keys.lock = false → s.keys.vault = true → s.spdmSession id = some x → x.st = .handshake →
      Answers (.finish id true) s (s.onKeys fun k => { k with
        sessions := k.sessions.map fun y => if y.id = id then { y with st := .established, age := 0 } else y, doe := .finished id })) ∧
    (∀ (id : Nat) (v : Bool) (s : State), doeUp s = true → s.keys.lock = false → s.keys.vault = true → s.spdmSession id = none →
      Answers (.finish id v) s (s.onKeys fun k => { k with doe := .error false })) ∧
    (∀ (id : Nat) (x : Spdm) (s : State), doeUp s = true → s.keys.lock = false → s.keys.vault = true → s.spdmSession id = some x →
      Answers (.finish id false) s ((closeSpdm id s).onKeys fun k => { k with doe := .error false })) ∧
    (∀ (id : Nat) (x : Spdm) (s : State), doeUp s = true → s.keys.lock = false → s.keys.vault = true → s.spdmSession id = some x → x.st ≠ .handshake →
      Answers (.finish id true) s (s.onKeys fun k => { k with doe := .error false })) ∧
    (∀ (id : Nat) (s : State), doeUp s = true → s.keys.lock = false → s.keys.vault = true → inSession s id = false →
      ∀ i : Instr, (i ∈ [.keyUpdate id, .heartbeat id, .endSession id] ∨ (∃ n, i = .query id n) ∨ (∃ a b d k, i ∈ [.keyProg id a b d k, .kSetGo id a b d, .kSetStop id a b d])) →
        Answers i s (s.onKeys fun k => { k with doe := .error false })) ∧
    (∀ (id : Nat) (s : State), doeUp s = true → s.keys.lock = false → s.keys.vault = true → inSession s id = true →
      let s1 := s.onKeys fun k => { k with sessions := k.sessions.map fun y => if y.id = id then { y with age := 0 } else y }
      Answers (.heartbeat id) s (s1.onKeys fun k => { k with doe := .heartbeatAck id }) ∧
      Answers (.keyUpdate id) s ((s1.onKeys fun k => { k with sessions := k.sessions.map fun y => if y.id = id then { y with keyNo := y.keyNo + 1 } else y }).onKeys fun k =>
        { k with doe := .keyUpdated id }) ∧
      Answers (.endSession id) s ((closeSpdm id s1).onKeys fun k => { k with doe := .ended id }) ∧
      (∀ n, n < 2 → Answers (.query id n) s (s1.onKeys fun k => { k with doe := .queryResp 2 })) ∧
      (∀ n, 2 ≤ n → Answers (.query id n) s (s1.onKeys fun k => { k with doe := .error false })) ∧
      (∀ st d ks key, (2 ≤ st ∨ 2 ≤ d ∨ 2 ≤ ks) → ∀ i : Instr, i ∈ [.keyProg id st d ks key, .kSetGo id st d ks, .kSetStop id st d ks] →
        Answers i s (s1.onKeys fun k => { k with doe := .error false })) ∧
      (∀ st d ks, (tget ({} : IdeKeys) s.keys.ide (ideKey st d ks)).key = [] → Answers (.kSetGo id st d ks) s (s1.onKeys fun k => { k with doe := .error false })) ∧
      (∀ st d ks key, st < 2 → d < 2 → ks < 2 → Answers (.keyProg id st d ks key) s ((s1.onKeys fun k =>
        { k with ide := tset {} k.ide (ideKey st d ks) { key := fitBytes 32 key, session := id } }).onKeys fun k => { k with doe := .keyProgAck ks })) ∧
      (∀ st d ks, st < 2 → d < 2 → ks < 2 → (tget ({} : IdeKeys) s.keys.ide (ideKey st d ks)).key ≠ [] →
        Answers (.kSetGo id st d ks) s (ideUse ((s1.onKeys fun k => { k with ide := tmod {} k.ide (ideKey st d ks) fun x => { x with active := true } }).onKeys fun k =>
          { k with doe := .goStopAck ks true }))) ∧
      (∀ st d ks, st < 2 → d < 2 → ks < 2 → Answers (.kSetStop id st d ks) s (ideUse ((s1.onKeys fun k => { k with ide := tset {} k.ide (ideKey st d ks) {} }).onKeys fun k =>
        { k with doe := .goStopAck ks false })))) ∧
    (∀ (id : Nat) (x : Spdm) (s : State), s.spdmSession id = some x → x.heartbeat ≠ 0 → x.heartbeat * 48000 ≤ x.age → Answers (.spdmHeartbeatLapse id) s (closeSpdm id s)) ∧
    (∀ (id : Nat) (x : Spdm) (s : State), s.spdmSession id = some x → (x.heartbeat = 0 ∨ x.age < x.heartbeat * 48000) → Answers (.spdmHeartbeatLapse id) s s) ∧
    (∀ (id : Nat) (s : State), s.spdmSession id = none → Answers (.spdmHeartbeatLapse id) s s))

/-- R477, R487 to R491: a TAMPER_N input held low for the filter's time at its upper bound is an alarm, one held for less than its lower bound is none; an
alarm while kill bits are being programmed only advances OVERFLOW, and with the always-on supply gone has no effect; otherwise it is recorded, told to
the host where its link is up, and scuttles: the vault, its sessions, the IDE keys and the installed keys are cleared and the journal stops. A kill
that ends retires the bank; one that fails is Fatal-S. (The bounds 970 and 1,030 ns of R487's 1 µs ± 3 % are the model's reading, log 138.)  Each of
these rows answers a next state under conditions on state and operands alone (conclusion exec i s = next t): tamperAlarm, scuttleComplete. -/
def Obligations.TamperScuttles : Prop :=
  (∀ (source low : Nat) (s : State), source < 2 → low < 970 → Answers (.tamperAlarm ⟨source, low⟩) s s) ∧
  (∀ (low : Nat) (s : State), s.clocks.railsUp = false → Answers (.tamperAlarm ⟨3, low⟩) s s) ∧
  (∀ (source low : Nat) (s : State), (1030 ≤ low ∨ 2 ≤ source) → (source = 3 → s.clocks.railsUp = true) → s.dev = .off → s.clocks.aoUp = false →
    Answers (.tamperAlarm ⟨source, low⟩) s s) ∧
  (∀ (source low : Nat) (s : State), (1030 ≤ low ∨ 2 ≤ source) → (source = 3 → s.clocks.railsUp = true) → (s.dev ≠ .off ∨ s.clocks.aoUp = true) → s.keys.killing.isSome = true →
    let s0 := if source < 2 then s.onKeys fun k => { k with tamperPin := setAdd k.tamperPin source } else s
    Answers (.tamperAlarm ⟨source, low⟩) s (s0.onFaults fun f => { f with first := { f.first with overflow := satAdd 8 f.first.overflow 1 } })) ∧
  (∀ (source low : Nat) (s : State), (1030 ≤ low ∨ 2 ≤ source) → (source = 3 → s.clocks.railsUp = true) → (s.dev ≠ .off ∨ s.clocks.aoUp = true) → s.keys.killing = none →
    let s0 := if source < 2 then s.onKeys fun k => { k with tamperPin := setAdd k.tamperPin source } else s
    Answers (.tamperAlarm ⟨source, low⟩) s (scuttle (if s.host.link = .down then recordTamper source s0 else raise 0x1081 4 source s.dev.code (recordTamper source s0)))) ∧
  (∀ (source low : Nat) (s : State), source < 2 → 970 ≤ low → low < 1030 →
    Answers (.tamperAlarm ⟨source, low⟩) s (if s.draw.1 % 2 = 1 then tamperAlarm source s.draw.2 else s.draw.2)) ∧
  (∀ s : State, let t := clearVault s
    t.keys.vault = false ∧ t.keys.sessions = [] ∧ t.keys.ide = [] ∧ t.obj.keys = [] ∧ t.twin.session = false ∧ t.journal.formatted = false ∧ t.journal.noWrite = true ∧
    t.journal.writing = [] ∧ t.obj.routes = s.obj.routes ∧ t.streams = s.streams ∧ t.audio = s.audio ∧ t.mbox = s.mbox ∧ t.time = s.time) ∧
  (∀ (ok : Bool) (s : State), s.keys.killing = none → Answers (.scuttleComplete ok) s s) ∧
  (∀ (b : Nat) (s : State), s.keys.killing = some b →
    let s2 := (s.onKeys fun k => { k with killing := none }).onKeys fun k => { k with killed := setAdd k.killed b, bank := none, retired := k.retired || decide (b = 1) }
    Answers (.scuttleComplete true) s (if s.host.link = .down then s2 else raise 0x1082 4 b 0 s2)) ∧
  (∀ (b : Nat) (s : State), s.keys.killing = some b → s.dev = .fatalS → Answers (.scuttleComplete false) s (s.onKeys fun k => { k with killing := none })) ∧
  (∀ (b : Nat) (s : State), s.keys.killing = some b → s.dev ≠ .fatalS →
    Answers (.scuttleComplete false) s (fatalS 0x0C03 0 b false (s.onKeys fun k => { k with killing := none })))

/-- R396 to R398, R405 to R409: what a refclk's loss or return, an Anvil's lock or unlock and a root trip do, the root's own refclk or not; a start's
first pair of Anvils takes the root, and the other pair takes it in holdover; a holdover that nothing ends in 10 ms and a root trip are Fatal-D; the
preferred Anvil takes the root back once eligible for 1 s, and the slew debt is judged paid only out of holdover.  R400, R403, R404, R412, R414, R415:
a domain's port drains before it stops and is gated at the end of its ramp; a drain that does not end reopens it; a rail is told low once per
excursion; a reading below 115.0 °C does not trip, one at or above it is Fatal-D with the throttle at 4.  Each of these rows answers a next state
under conditions on state and operands alone (conclusion exec i s = next t): refclkFault, anvilUnlock, refclkClean, anvilLocked, anvilHoldoverTimeout,
rootFrequencyTrip, preferredAnvilReturn, slewDebtCleared, quiesce, quiesceAbandoned, forcedGate, domainRampComplete, supplyLow, thermalTrip,
thermalSample. -/
def Obligations.ClockAndPowerRowsComplete : Prop :=
  (
    (∀ (b : Bool) (cause : Nat) (s : State), cause ≠ 3 →
      let s1 := s.onClocks fun c => { c with trips := inc c.trips }
      let s2 := if cause = 1 ∧ s.pins.perstN = false then s1 else raise 0x0D82 2 (bit b) cause s1
      let s3 := dropAnvils b false (s2.onClocks fun c => if b then { c with cleanB := false } else { c with cleanA := false })
      Answers (.refclkFault b cause) s (if s.clocks.rooted = true ∧ s.clocks.rootB = b ∧ s.clocks.holdover = false then startHoldover s3 else s3)) ∧
    (∀ (b : Bool) (s : State), Answers (.refclkFault b 3) s
      (dropAnvils (!s.clocks.rootB) true ((raise 0x0D82 2 (bit b) 3 (s.onClocks fun c => { c with trips := inc c.trips })).onClocks fun c => { c with disagree := true }))) ∧
    (∀ s : State, (s.clocks.rooted = false ∨ s.clocks.holdover = true) →
      Answers .anvilUnlock s (dropAnvils s.clocks.rootB false (s.onClocks fun c => { c with trips := inc c.trips }))) ∧
    (∀ s : State, s.clocks.rooted = true → s.clocks.holdover = false →
      Answers .anvilUnlock s (startHoldover (dropAnvils s.clocks.rootB false (s.onClocks fun c => { c with trips := inc c.trips })))) ∧
    (∀ (b : Bool) (s : State), Answers (.refclkClean b) s (s.onClocks fun c =>
      { c with cleanA := c.cleanA || !b, cleanB := c.cleanB || b, disagree := if b ≠ c.rootB then false else c.disagree })) ∧
    (∀ (a : Nat) (d : Int) (s : State), mayLock (decide (a % 2 = 1)) s = false → Answers (.anvilLocked a d) s s) ∧
    (∀ (a : Nat) (d : Int) (s : State), mayLock (decide (a % 2 = 1)) s = true →
      let b := decide (a % 2 = 1)
      let s1 := raise 0x0D84 0 (a % 2 + 256 * (a / 2)) 0 (s.onAnvil a fun x => { x with locked := true, eligible := true, eligFor := 0 })
      (s.clocks.rooted = true → s.clocks.holdover = false → Answers (.anvilLocked a d) s s1) ∧
      (s.clocks.rooted = false → bothEligible b s1 = true → Answers (.anvilLocked a d) s (s1.onClocks fun c => { c with rooted := true, rootB := b })) ∧
      (bothEligible b s1 = false → Answers (.anvilLocked a d) s s1) ∧
      (s.clocks.rooted = true → s.clocks.holdover = true → b = s.clocks.rootB → Answers (.anvilLocked a d) s s1) ∧
      (s.clocks.rooted = true → s.clocks.holdover = true → b ≠ s.clocks.rootB → bothEligible b s1 = true →
        Answers (.anvilLocked a d) s (switchRoot b true (s1.onClocks fun c =>
          { c with slewDebt := c.slewDebt + d, marking := decide (360 ≤ (c.slewDebt + d).natAbs) })))) ∧
    (∀ s : State, s.clocks.holdover = true → bothEligible true s = false → bothEligible false s = false → Answers .anvilHoldoverTimeout s (fatalD 0x0701 0 0 false false s)) ∧
    (∀ s : State, (s.clocks.holdover = false ∨ bothEligible true s = true ∨ bothEligible false s = true) → Answers .anvilHoldoverTimeout s s) ∧
    (∀ (w : Bool) (s : State), Answers (.rootFrequencyTrip w) s (fatalD 0x0702 (bit w) 0 w false (s.onClocks fun c => { c with trips := inc c.trips }))) ∧
    (∀ s : State, s.obj.powerPol.preferAnvil = 2 → s.clocks.rooted = true → s.clocks.holdover = false → s.clocks.rootB = false → bothEligible true s = true →
      48000 ≤ (s.anvil 1).eligFor → 48000 ≤ (s.anvil 3).eligFor → Answers .preferredAnvilReturn s (switchRoot true false s)) ∧
    (∀ s : State, s.obj.powerPol.preferAnvil = 1 → s.clocks.rooted = true → s.clocks.holdover = false → s.clocks.rootB = true → bothEligible false s = true →
      48000 ≤ (s.anvil 0).eligFor → 48000 ≤ (s.anvil 2).eligFor → Answers .preferredAnvilReturn s (switchRoot false false s)) ∧
    (∀ s : State, let b := decide (s.obj.powerPol.preferAnvil = 2)
      ((s.obj.powerPol.preferAnvil ≠ 1 ∧ s.obj.powerPol.preferAnvil ≠ 2) ∨ s.clocks.rooted = false ∨ s.clocks.holdover = true ∨ s.clocks.rootB = b ∨ bothEligible b s = false ∨
        (s.anvil (bit b)).eligFor < 48000 ∨ (s.anvil (2 + bit b)).eligFor < 48000) → Answers .preferredAnvilReturn s s) ∧
    (∀ s : State, s.clocks.holdover = true → Answers .slewDebtCleared s s) ∧
    (∀ s : State, s.clocks.holdover = false → Answers .slewDebtCleared s (s.onClocks fun c => { c with marking := false, slewDebt := clampI (-359) 359 c.slewDebt }))) ∧
  (
    (∀ (d : Nat) (s : State), ((s.domain d).port = .opened ∧ gateable d s = true ∧ (s.domain d).retryAfter ≤ s.elapsed ∨ (s.domain d).port = .draining) →
      Answers (.quiesce d true) s (if outstandingAt d s = 0 then s.onDomain d fun x => { x with port := .stopping, ramping := true, upward := false }
        else s.onDomain d fun x => { x with port := .draining })) ∧
    (∀ (d : Nat) (s : State), (s.domain d).port ≠ .draining → ((s.domain d).port ≠ .opened ∨ gateable d s = false ∨ s.elapsed < (s.domain d).retryAfter) →
      Answers (.quiesce d true) s s) ∧
    (∀ (d : Nat) (s : State), (s.domain d).port = .gated → Answers (.quiesce d false) s
      ((s.onDomain d fun x => { x with port := .starting, ramping := true, upward := true, running := true }).onFaults fun f =>
        { f with targets := tmod {} f.targets ((if 32 ≤ d then 256 else 0) + d) fun t => { t with hung := false, times := [] } })) ∧
    (∀ (d : Nat) (s : State), (s.domain d).port ≠ .gated → Answers (.quiesce d false) s s) ∧
    (∀ (d : Nat) (s : State), (s.domain d).port = .draining → s.dev ≠ .fatalD → s.dev ≠ .fatalS → Answers (.quiesceAbandoned d) s
      (raise 0x0D85 1 d (outstandingAt d s) ((s.onDomain d fun x => { x with port := .opened, retryAfter := s.elapsed + 48000 }).onClocks fun c =>
        { c with abandoned := inc c.abandoned }))) ∧
    (∀ (d : Nat) (s : State), (s.dev = .fatalD ∨ s.dev = .fatalS) → Answers (.quiesceAbandoned d) s s) ∧
    (∀ (d : Nat) (s : State), (s.domain d).port ≠ .draining → Answers (.quiesceAbandoned d) s s ∧ Answers (.forcedGate d) s s) ∧
    (∀ (d : Nat) (s : State), (s.domain d).port = .draining → (s.dev = .fatalS ∨ (s.dev = .fatalD ∧ s.faults.thermal = true)) →
      Answers (.forcedGate d) s (forceGate d s)) ∧
    (∀ (d : Nat) (s : State), s.dev ≠ .fatalS → (s.dev ≠ .fatalD ∨ s.faults.thermal = false) → Answers (.forcedGate d) s s) ∧
    (∀ (d : Nat) (s : State), (s.domain d).ramping = false → Answers (.domainRampComplete d) s s) ∧
    (∀ (d : Nat) (s : State), (s.domain d).ramping = true → (s.domain d).port = .stopping →
      Answers (.domainRampComplete d) s (s.onDomain d fun x => { x with ramping := false, rampFor := 0, running := false, port := .gated })) ∧
    (∀ (d : Nat) (s : State), (s.domain d).ramping = true → (s.domain d).port = .starting →
      Answers (.domainRampComplete d) s (s.onDomain d fun x => { x with ramping := false, rampFor := 0, running := true, port := .opened })) ∧
    (∀ (d : Nat) (s : State), (s.domain d).ramping = true → (s.domain d).port ≠ .stopping → (s.domain d).port ≠ .starting →
      Answers (.domainRampComplete d) s (s.onDomain d fun x => { x with ramping := false, rampFor := 0 })) ∧
    (∀ (m mv : Nat) (s : State), mv * 100 < nominalMv m * 96 → s.clocks.lowRails.contains m = true → Answers (.supplyLow m mv) s (noteRail m mv s)) ∧
    (∀ (m mv : Nat) (s : State), mv * 100 < nominalMv m * 96 → s.clocks.lowRails.contains m = false →
      Answers (.supplyLow m mv) s (raise 0x0D89 2 m mv ((noteRail m mv s).onClocks fun c => { c with lowRails := setAdd c.lowRails m }))) ∧
    (∀ (m mv : Nat) (s : State), nominalMv m * 96 ≤ mv * 100 → Answers (.supplyLow m mv) s ((noteRail m mv s).onClocks fun c => { c with lowRails := setDel c.lowRails m })) ∧
    (∀ (k : Nat) (t : Int) (s : State), t < 1150 → Answers (.thermalTrip k t) s s) ∧
    (∀ (k : Nat) (t : Int) (s : State), 1150 ≤ t →
      let s1 := fatalD 0x0801 k (ofInt 64 t) (decide (24 ≤ k)) false (s.onClocks fun c => { c with throttle := 4 })
      Answers (.thermalTrip k t) s (((List.range 59).filter fun d => !tripKeeps d).foldl beginForcedGate (s1.onFaults fun f => { f with thermal := true }))) ∧
    (∀ (ts : List Int) (mw : Nat) (s : State), hottest ts < 10 * s.obj.powerPol.throttleC - 50 → s.clocks.throttle = 0 →
      Answers (.thermalSample ts mw) s ((s.onClocks fun c => { c with temps := ts, powerMw := mw, throttle := 0, hot := 0, inStep := c.inStep + 48, coolFor := c.coolFor + 48 }).onLog fun l =>
        thermalCycle (hottest ts) { l with tempMax := max l.tempMax (hottest ts) })) ∧
    (∀ (ts : List Int) (mw : Nat) (s : State),
      let t := hottest ts
      let old := s.clocks.throttle
      let n := if old = 4 then 4 else throttleNext t s
      let s2 := (s.onClocks fun c =>
        { c with temps := ts, powerMw := mw, throttle := n, hot := if 10 * s.obj.powerPol.throttleC ≤ t then min 2 (c.hot + 1) else 0,
                 inStep := if n = old then c.inStep + 48 else 0,
                 coolFor := if n < old then 0 else if t < 10 * s.obj.powerPol.throttleC - 50 then c.coolFor + 48 else 0,
                 entries := if old = 0 ∧ n = 1 then inc c.entries else c.entries,
                 throttleTicks := if 1 ≤ n then c.throttleTicks + 48 else c.throttleTicks }).onLog fun l => thermalCycle t { l with tempMax := max l.tempMax t }
      Answers (.thermalSample ts mw) s (if old < n then raise 0x0D87 2 n (ofInt 32 t) s2 else if n < old then raise 0x0D88 1 old (ofInt 32 t) s2 else s2)) ∧
    (∀ (t : Int) (s : State), 10 * s.obj.powerPol.throttleC ≤ t → s.clocks.throttle = 0 → throttleNext t s = if 1 ≤ s.clocks.hot then 1 else 0) ∧
    (∀ (t : Int) (s : State), 10 * s.obj.powerPol.throttleC ≤ t → 1 ≤ s.clocks.throttle → s.clocks.throttle < 3 →
      throttleNext t s = if msTicks s.obj.powerPol.stepMs ≤ s.clocks.inStep + 48 then s.clocks.throttle + 1 else s.clocks.throttle) ∧
    (∀ (t : Int) (s : State), t < 10 * s.obj.powerPol.throttleC - 50 → 1 ≤ s.clocks.throttle → s.clocks.throttle ≤ 3 →
      throttleNext t s = if 48000 ≤ s.clocks.coolFor + 48 then s.clocks.throttle - 1 else s.clocks.throttle))

/-- R448 to R456: a request of no target, or one that its master may not make, is answered DECODE_ERROR; one that leaves its page or has no or too many
beats too; a request behind one of its stream to another target is held; a target that does not answer is hung and answers TIMEOUT, and its third
timeout in a second is Fatal-D; a master's reset leaves no request of it waiting.  R184, R296, R311, R458 to R463, R468 to R470, R475: a report acts
by its class: a corrected one is counted, a contained one counted, entered and told, a Fatal-D or Fatal-S one stops the service, a supply's or a
tamper's is captured; what the checker's data reaches is marked beside it; the report of an armed injection is charged to it first; the 48th missed
tick of a die is Fatal-D; an injection whose time has passed ends TIMED_OUT with the checks it affected; the reset from FATAL_D waits its time, and
for the chip to cool.  Each of these rows answers a next state under conditions on state and operands alone (conclusion exec i s = next t):
fabricRequest, targetTimeout, masterReset, faultReport, wheelhouseWatchdog, injectionTimeout, autoReset. -/
def Obligations.FabricAndFaultRowsComplete : Prop :=
  (
    (∀ (q : FabricReq) (s0 : State),
      let k := q.die * 8 + q.master
      let s := answerTxns q.die k q.earlier s0
      (q.target = none → Answers (.fabricRequest q) s0 (deliver k (requested q 255) 2 s)) ∧
      (∀ d, q.target = some d → (requestFits q.addr q.beats = false ∨ mayReach s q.master d = false) → Answers (.fabricRequest q) s0 (deliver k (requested q d) 2 s)) ∧
      (∀ d, q.target = some d → requestFits q.addr q.beats = true → mayReach s q.master d = true →
        let t := requested q d
        (heldBack (s.master k) t = true →
          Answers (.fabricRequest q) s0 (s.onMaster k fun m => { m with waiting := m.waiting ++ [t], holdBacks := inc m.holdBacks })) ∧
        (heldBack (s.master k) t = false → queuedBehind (s.master k) t = true →
          Answers (.fabricRequest q) s0 (s.onMaster k fun m => { m with waiting := m.waiting ++ [t] })) ∧
        (heldBack (s.master k) t = false → queuedBehind (s.master k) t = false →
          Answers (.fabricRequest q) s0 (retryHeld q.die k (issue q.die k t s))))) ∧
    (∀ (k : Nat) (t : Txn) (s : State), t.behalf = false → deliver k t 0 s = s.onMaster k fun m => { m with total := satAdd 64 m.total 1, lastResp := 0, lastData := if t.write = true then List.replicate (32 * t.beats) 0#8 else t.data }) ∧
    (∀ (die m st : Nat) (s : State), ((s.master (die * 8 + m)).txns.find? fun t => t.stream = st ∧ t.done = false) = none → Answers (.targetTimeout die m st) s s) ∧
    (∀ (die m st : Nat) (t : Txn) (s : State), ((s.master (die * 8 + m)).txns.find? fun t => t.stream = st ∧ t.done = false) = some t →
      let k := die * 8 + m
      let tk := die * 256 + t.target
      let times := ((s.target tk).times.filter fun x => s.elapsed < x + 48000) ++ [s.elapsed]
      let s1 := s.onFaults fun f => { f with targets := tmod {} f.targets tk fun x => { x with hung := true, times := times } }
      let s3 := retryHeld die k (drainMaster k 65 (s1.onMaster k fun m => { m with txns := answerFirst st 4 [] m.txns }))
      Answers (.targetTimeout die m st) s (if 3 ≤ times.length then fatalD 0x0504 t.target t.addr (decide (die = 1)) false s3
        else report { code := 0x0504, west := decide (die = 1), subject := t.target, detail := t.addr } s3)) ∧
    (∀ (die m : Nat) (s : State),
      let k := die * 8 + m
      let live := (s.master k).txns.filter fun t => t.behalf = false
      let s1 := s.onMaster k fun x =>
        { x with txns := x.txns.map (fun t => { t with behalf := true, data := t.data.take (32 * t.sentBeats) }), waiting := [], midBurst := satAdd 32 x.midBurst live.length }
      Answers (.masterReset die m) s (live.foldl (fun s t => report { code := 0x0501, west := decide (die = 1), subject := m, detail := t.addr } s) s1))) ∧
  (
    (∀ (r : FaultRep) (s : State), (r.injected = false ∨ injectionOf r s = none) →
      let q : FaultRep := { r with injected := false }
      (faultClass r.code = 0 → Answers (.faultReport r) s (containFault r s)) ∧
      (faultClass r.code = 1 → Answers (.faultReport r) s (containFault r (reportCorrected q s))) ∧
      (faultClass r.code = 2 → Answers (.faultReport r) s (containFault r (raiseContained q
        (addHistory r.code 2 r.subject r.detail 1 r.west false (onKind r.code (fun k => { k with contained := inc k.contained }) s))))) ∧
      (faultClass r.code = 3 → r.code ≠ 0x0901 → Answers (.faultReport r) s (containFault r (fatalD r.code r.subject r.detail r.west false s))) ∧
      (r.code = 0x0901 → Answers (.faultReport r) s (containFault r (captureFirst r.code 3 r.detail r.west false s))) ∧
      (faultClass r.code = 4 → Answers (.faultReport r) s (containFault r (fatalS r.code r.subject r.detail r.west s))) ∧
      (faultClass r.code = 5 → Answers (.faultReport r) s (containFault r
        (addHistory r.code 5 r.subject r.detail 1 r.west false (captureFirst r.code 5 r.detail r.west false s))))) ∧
    (∀ (r : FaultRep) (i : Inject) (s : State), r.injected = true → injectionOf r s = some i →
      Answers (.faultReport r) s (containFault r (reportByClass r (chargeInjection i r s)))) ∧
    (∀ (r : FaultRep) (s : State), r.hallmark = none → r.line = false → r.holds = [] → r.code ≠ 0x0401 → containFault r s = s) ∧
    (∀ (r : FaultRep) (s : State), (containFault r s).tow.txDamage = r.holds.foldl setAdd
      (containFault { r with holds := [] } s).tow.txDamage) ∧
    (∀ (code subj detail : Nat) (w i : Bool) (s : State), s.dev ≠ .fatalD → s.dev ≠ .fatalS →
      let t := fatalD code subj detail w i s
      t.dev = .fatalD ∧ t.serving = false ∧ t.twin.health = false ∧ t.faults.entries = inc s.faults.entries ∧ t.faults.waited = 0 ∧ t.obj = s.obj ∧ t.time = s.time) ∧
    (∀ (w : Bool) (s : State), s.serving = true → 48 ≤ (if w then s.time.missedWest else s.time.missedEast) →
      Answers (.wheelhouseWatchdog w) s (fatalD 0x0604 (bit w) (if w then s.time.missedWest else s.time.missedEast) w false s)) ∧
    (∀ (w : Bool) (s : State), (if w then s.time.missedWest else s.time.missedEast) < 48 → Answers (.wheelhouseWatchdog w) s s) ∧
    (∀ (w : Bool) (s : State), s.serving = false → Answers (.wheelhouseWatchdog w) s s) ∧
    (∀ (kind inst : Nat) (w : Bool) (i : Inject) (s : State), (s.faults.injects.find? fun i => i.kind = kind ∧ i.west = w ∧ i.inst = inst) = some i →
      Answers (.injectionTimeout kind w inst) s (finishNow i.job .timedOut 0 i.done (s.onFaults fun f => { f with injects := f.injects.filter fun j => j ≠ i }))) ∧
    (∀ (kind inst : Nat) (w : Bool) (s : State), (s.faults.injects.find? fun i => i.kind = kind ∧ i.west = w ∧ i.inst = inst) = none → Answers (.injectionTimeout kind w inst) s s) ∧
    (∀ s : State, s.dev = .fatalD → msTicks s.faults.waitMs ≤ s.faults.waited → (s.faults.thermal = false ∨ hottest s.clocks.temps < 10 * (s.obj.powerPol.throttleC : Int) - 50) →
      Answers .autoReset s (beginStart true 2 s)) ∧
    (∀ s : State, s.dev = .fatalD → msTicks s.faults.waitMs ≤ s.faults.waited → s.faults.thermal = true →
      10 * (s.obj.powerPol.throttleC : Int) - 50 ≤ hottest s.clocks.temps → Answers .autoReset s (s.onFaults fun f => { f with waited := 0 })) ∧
    (∀ s : State, (s.dev ≠ .fatalD ∨ s.faults.waited < msTicks s.faults.waitMs) → Answers .autoReset s s))

/-- R449: a request is of 1 to 16 beats of 32 bytes inside one 4 KiB page; one that would cross a page is answered with DECODE_ERROR (2), and none of its
beats reaches a target: nothing of it is outstanding or waiting, and no target changes.  Each of these rows answers a next state under conditions on
state and operands alone (conclusion exec i s = next t): fabricRequest. -/
def Obligations.CrossingRequestsRefused : Prop :=
  (∀ addr beats : Nat, requestFits addr beats = true ↔ 1 ≤ beats ∧ beats ≤ 16 ∧ addr / 4096 = (addr + 32 * beats - 1) / 4096) ∧
  (∀ (q : FabricReq) (d : Nat) (s : State), q.target = some d → requestFits q.addr q.beats = false →
    Answers (.fabricRequest q) s (deliver (q.die * 8 + q.master) (requested q d) 2 (answerTxns q.die (q.die * 8 + q.master) q.earlier s))) ∧
  (∀ (k : Nat) (q : FabricReq) (d : Nat) (s : State), tableOk ({} : MasterRt) s.faults.masters = true → let t := deliver k (requested q d) 2 s
    (t.master k).lastResp = 2 ∧ (t.master k).txns = (s.master k).txns ∧ (t.master k).waiting = (s.master k).waiting ∧ t.faults.targets = s.faults.targets)

/-- R411, R412, R419, R427 to R430, R442: power comes up from OFF alone; its loss leaves OTP, the NOR devices and the pins; a supply below −8 % is
recorded where the always-on island lives; a power warning is counted, told, and ends in a final commit; withdrawn, it lets service resume; RESTART's
start waits for the commit.  R420, R421, R425, R426: a step of a start that ends within its bound has its time recorded, its work is done and the next
step begins, a warm start leaving out steps 6, 7 and 9; one that fails, or passes its bound at any step but 9 and 11, ends the attempt; a start
without a root clock fails step 2, one whose keys are gone or whose slot holds no good image leaves the attempt or goes to Dry Dock, one without a
pound fails step 12; a failed attempt is retried, three on a slot, then the other slot, then Dry Dock, and every attempt after a warm one is cold.
Each of these rows answers a next state under conditions on state and operands alone (conclusion exec i s = next t): powerOn, powerLoss, supplyReset,
pwrFailAsserted, pwrFailWithdrawn, restartStart, startStepComplete, startStepTimeout, startRetry. -/
def Obligations.SupplyAndStartRowsComplete : Prop :=
  (
    (∀ s : State, s.dev = .off → Answers .powerOn s (beginStart false (if s.start.cause = 3 then 3 else 0) (s.onClocks fun c => { c with railsUp := true, aoUp := true, lowRails := [] }))) ∧
    (∀ s : State, s.dev ≠ .off → Answers .powerOn s s) ∧
    (∀ s : State, ∃ t : State, Answers .powerLoss s t ∧ t.dev = .off ∧ t.hdm = [] ∧ t.host = { linkLost := true } ∧ t.mbox = { nextJob := s.mbox.nextJob } ∧ t.faults = {} ∧
      t.clocks = {} ∧ t.pins = { grantN := s.pins.grantN, pwrFailN := s.pins.pwrFailN } ∧ t.keys.killed = s.keys.killed ∧ t.keys.secCounter = s.keys.secCounter ∧
      t.journal.durable = s.journal.durable ∧ t.fw.slots = s.fw.slots.filter fun e => e.2.st ≠ 2) ∧
    (∀ (m mv : Nat) (s : State), s.dev ≠ .off → mv * 100 < nominalMv m * 92 → m < 4 →
      Answers (.supplyReset m mv) s (powerDown true (captureFirst 0x0901 3 mv (decide (m = 1 ∨ m = 3)) false s))) ∧
    (∀ (mv : Nat) (s : State), s.dev ≠ .off → mv ≤ 700 → Answers (.supplyReset 7 mv) s (powerDown false s)) ∧
    (∀ (mv : Nat) (s : State), s.dev ≠ .off → 700 < mv → mv < 736 → Answers (.supplyReset 7 mv) s (powerDown true (captureFirst 0x0901 3 mv false false s))) ∧
    (∀ (m mv : Nat) (s : State), (s.dev = .off ∨ nominalMv m * 92 ≤ mv * 100 ∨ 4 ≤ m ∧ m ≠ 7) → Answers (.supplyReset m mv) s s) ∧
    (∀ s : State, s.serving = false → Answers .pwrFailAsserted s (s.onPins fun p => { p with pwrFailN := false })) ∧
    (∀ s : State, s.start.powerFail = true → Answers .pwrFailAsserted s (s.onPins fun p => { p with pwrFailN := false })) ∧
    (∀ s : State, s.serving = true → s.start.powerFail = false →
      let s2 := driveHealth (((s.onPins fun p => { p with pwrFailN := false }).onStart fun r => { r with powerFail := true }).onLog fun l => { l with warned := inc l.warned })
      let s3 := if s.host.link = .down then s2 else raise 0x0E84 3 0 (pendingBytes s) s2
      (s.fw.phase ≠ .writing → Answers .pwrFailAsserted s (stopCommit s3)) ∧
      (∀ id, s.fw.phase = .writing → s.fw.job = some id →
        Answers .pwrFailAsserted s (stopCommit (raise 0x1182 2 s.fw.source.code 0 (dropSession (finish id .state 0xFFFF s3))))) ∧
      (s.fw.phase = .writing → s.fw.job = none → Answers .pwrFailAsserted s (stopCommit (raise 0x1182 2 s.fw.source.code 0 (dropSession s3))))) ∧
    (∀ s : State, s.start.powerFail = true → Answers .pwrFailWithdrawn s (driveHealth ((s.onPins fun p => { p with pwrFailN := true }).onStart fun r => { r with powerFail := false }))) ∧
    (∀ s : State, s.start.powerFail = false → Answers .pwrFailWithdrawn s (s.onPins fun p => { p with pwrFailN := true })) ∧
    (∀ (w : Bool) (s : State), s.start.restart = some w → s.journal.writing = [] → s.dev.ready = true → Answers .restartStart s (beginStart w 1 s)) ∧
    (∀ s : State, (s.start.restart = none ∨ s.journal.writing ≠ [] ∨ s.dev.ready = false) → Answers .restartStart s s)) ∧
  (
    (∀ (ms : Nat) (f : StepFound) (s : State), s.start.running = false → Answers (.startStepComplete ms f) s s ∧ Answers (.startStepTimeout ms) s s) ∧
    (∀ (ms : Nat) (f : StepFound) (s : State), s.start.running = true → stepBound s < ms → Answers (.startStepComplete ms f) s
      (if s.start.stepNo = 9 ∨ s.start.stepNo = 11 then nextStep (clockStep (stepBound s) s) else failAttempt (clockStep (stepBound s) s))) ∧
    (∀ (ms : Nat) (f : StepFound) (s : State), s.start.running = true → ms ≤ stepBound s → f.ok = false → Answers (.startStepComplete ms f) s (failAttempt (clockStep ms s))) ∧
    (∀ (ms : Nat) (f : StepFound) (s : State), s.start.running = true → ms ≤ stepBound s → f.ok = true →
      let s1 := clockStep ms s
      (s.start.stepNo ∈ [1, 5, 9, 10, 11] → Answers (.startStepComplete ms f) s (nextStep s1)) ∧
      (s.start.stepNo = 2 → Answers (.startStepComplete ms f) s (if s.clocks.rooted = true then nextStep (releaseDividers s1) else failAttempt s1)) ∧
      (s.start.stepNo = 3 → ((stepVault s1).keys.retired = true ∨ s.start.postScuttle = true) →
        Answers (.startStepComplete ms f) s (enterDock 3 ((stepVault s1).onStart fun r => { r with postScuttle := false }))) ∧
      (s.start.stepNo = 3 → (stepVault s1).keys.retired = false → s.start.postScuttle = false → Answers (.startStepComplete ms f) s (nextStep (stepVault s1))) ∧
      (s.start.stepNo = 4 → s.start.warm = true →
        Answers (.startStepComplete ms f) s (if warmHolds f (shipImage s1) = true then nextStep (runSlot (bootSlot (shipImage s1)) (shipImage s1)) else becomeCold (shipImage s1))) ∧
      (s.start.stepNo = 4 → s.start.warm = false →
        let s2 := shipImage s1
        let k := bit s.start.slotB
        Answers (.startStepComplete ms f) s
          (if bootable s2 k = false ∨ (s2.fwSlot k).security < s2.keys.secCounter ∨ f.imageCause ≠ 0 then abandonSlot s2 else nextStep (runSlot k s2))) ∧
      (s.start.stepNo = 6 → Answers (.startStepComplete ms f) s (nextStep (s1.onStart fun r => { r with hbmParams := true }))) ∧
      (s.start.stepNo = 7 → Answers (.startStepComplete ms f) s (nextStep (stepHbm s1))) ∧
      (s.start.stepNo = 8 → Answers (.startStepComplete ms f) s (nextStep (stepJournal f s1))) ∧
      (s.start.stepNo = 12 → Answers (.startStepComplete ms f) s (if dieHasPound f 0 = true ∧ dieHasPound f 1 = true then nextStep (stepSelfTest f s1) else failAttempt s1)) ∧
      (s.start.stepNo = 13 → Answers (.startStepComplete ms f) s (nextStep (stepState f s1))) ∧
      (s.start.stepNo = 14 → Answers (.startStepComplete ms f) s (stepReady s1))) ∧
    (∀ (ms : Nat) (s : State), s.start.running = true → (s.start.stepNo = 9 ∨ s.start.stepNo = 11) → Answers (.startStepTimeout ms) s (nextStep (clockStep ms s))) ∧
    (∀ (ms : Nat) (s : State), s.start.running = true → s.start.stepNo ≠ 9 → s.start.stepNo ≠ 11 → Answers (.startStepTimeout ms) s (failAttempt (clockStep ms s))) ∧
    (∀ s : State, s.start.warm = false → s.start.stepNo < 14 → (nextStep s).start.stepNo = s.start.stepNo + 1) ∧
    (∀ s : State, s.start.warm = true → (nextStep s).start.stepNo = (if s.start.stepNo = 5 then 8 else if s.start.stepNo = 8 then 10 else s.start.stepNo + 1)) ∧
    (∀ s : State, (stepReady s).dev = (if s.twin.helm then .readyHelm else .readyStandby) ∧ (stepReady s).start.running = false) ∧
    (∀ s : State, s.start.waiting = false → Answers .startRetry s s) ∧
    (∀ s : State, s.start.waiting = true →
      let k := bit s.start.slotB
      let s1 := coldReset (s.onStart fun r => { r with tried := if s.start.attempt < 3 then r.tried else setAdd r.tried k, startMs := satAdd 32 r.startMs 100, hbmParams := false })
      let s2 := if s.start.warm then { s1 with dev := .coldStart, start := { s1.start with warm := false, becameCold := true, kind := .cold, cause := 4 } } else s1
      (s.start.attempt < 3 → s.start.tried.contains k = false → Answers .startRetry s (beginAttempt (s2.onStart fun r => { r with attempt := r.attempt + 1 }))) ∧
      ((3 ≤ s.start.attempt ∨ s.start.tried.contains k = true) → s2.start.tried.contains (1 - k) = false →
        Answers .startRetry s (beginAttempt (s2.onStart fun r => { r with attempt := 1, slotB := !r.slotB, fellBack := true }))) ∧
      ((3 ≤ s.start.attempt ∨ s.start.tried.contains k = true) → s2.start.tried.contains (1 - k) = true → Answers .startRetry s (enterDock 1 s2))))

/-- R327, R329, R331: decoding undoes precoding, scrambling undoes itself, and a comma tail is accepted for every sequence number and kind, showing the
sequence number's low 16 bits and the kind. -/
def Obligations.LineCodingRoundTrips : Prop :=
  (∀ (p : Nat) (gs : List Nat), p < 4 → (∀ g ∈ gs, g < 4) → unprecode p (precode p gs) = gs) ∧
  (∀ (r : Nat) (bs : List Bool), scramble r (scramble r bs) = bs) ∧
  (∀ (seq : Nat) (k : KindSt), commaOf (commaTail seq k.code) 0 = some (seq % 65536, k)) ∧
  (∀ seq kind : Nat, kind < 3 → tailCheck (commaTail seq kind) = true)

/-- R338 to R340, R346 to R349, R354, R356, R357: what a barge does by the state of its receiver: a comma that is not accepted is counted, and the third
in a row of an ACTIVE lane is a comma loss; a data barge is read in LOCK, CAPS and ACTIVE, and its good header ends a wake; a calibration barge is
measured in ACTIVE alone; three training commas end DETECT, and TRAIN follows the control words; a window of levels beyond its bound freezes
adaptation, told once a second, and 16 good ones thaw it.  R49, R53, R340, R344 to R346, R350, R351, R353: the records of a tender and the timeouts of
bring-up: a state that has lasted its time is TRAIN_FAILED and returns to DETECT, idle for 100 ms after the third; a lane that does not relock in 1 ms
trains anew; a manifest with no announcement in its time is discarded.  Each of these rows answers a next state under conditions on state and operands
alone (conclusion exec i s = next t): dataBargeReceived, calibrationBarge, trainingBarge, levelHistogramWindow, commaLoss, relockTimeout,
laneBringupTimeout, detectIdleEnd, capsRecord, statusRecord, moorRecord, epochRecord, manifestEpoch, manifestTimeout. -/
def Obligations.LaneBargesComplete : Prop :=
  (
    (∀ (lane : Nat) (b : RxBarge) (s : State), commaOf b.tail b.commaErrors = none → Answers (.dataBargeReceived lane b) s (badComma lane s)) ∧
    (∀ (lane n : Nat) (b : RxBarge) (s : State), commaOf b.tail b.commaErrors = some (n, .data) →
      ((s.lane lane).rx = .active → Answers (.dataBargeReceived lane b) s (activeBarge lane b s)) ∧
      ((s.lane lane).rx = .lock → Answers (.dataBargeReceived lane b) s (lockBarge lane b s)) ∧
      ((s.lane lane).rx = .caps → Answers (.dataBargeReceived lane b) s (capsBarge lane b s)) ∧
      ((s.lane lane).rx ∈ [.off, .detect, .train, .test] → Answers (.dataBargeReceived lane b) s s) ∧
      ((s.lane lane).rx = .moored → (s.lane lane).waking = false → Answers (.dataBargeReceived lane b) s s) ∧
      ((s.lane lane).rx = .moored → (s.lane lane).waking = true → Answers (.dataBargeReceived lane b) s
        (if hcrcOf b.payload = hdr b.payload 0x8E 2 ∧ b.codewords.getD 0 none ≠ none then
          relocked lane (hdr b.payload 4 1) (s.onLane lane fun l => { l with lastSeq := hdr b.payload 0 4, expSeq := wrapAdd 32 (hdr b.payload 0 4) 1, adopt := false })
        else s))) ∧
    (∀ (lane n : Nat) (k : KindSt) (b : RxBarge) (s : State), commaOf b.tail b.commaErrors = some (n, k) → k ≠ .data → Answers (.dataBargeReceived lane b) s s) ∧
    (∀ (lane tail e snr n : Nat) (k : KindSt) (s : State), commaOf tail e = some (n, k) → k ≠ .calibration → Answers (.calibrationBarge lane tail e snr) s s) ∧
    (∀ (lane tail e : Nat) (c : List Byte) (a : RxAdapt) (s : State), ((s.lane lane).rx = .detect ∨ (s.lane lane).rx = .train) → commaOf tail e = none →
      Answers (.trainingBarge lane tail e c a) s (badComma lane s)) ∧
    (∀ (lane tail e n : Nat) (k : KindSt) (c : List Byte) (a : RxAdapt) (s : State), ((s.lane lane).rx = .detect ∨ (s.lane lane).rx = .train) → commaOf tail e = some (n, k) →
      k ≠ .training → Answers (.trainingBarge lane tail e c a) s (s.onLane lane fun l => { l with goodTrain := 0 })) ∧
    (∀ (lane tail e snr : Nat) (s : State), commaOf tail e = none → Answers (.calibrationBarge lane tail e snr) s (badComma lane s)) ∧
    (∀ (lane tail e snr n : Nat) (s : State), commaOf tail e = some (n, .calibration) → (s.lane lane).rx = .active →
      let s1 := (epochBegins lane (s.lane lane).expSeq s).onLane lane fun l =>
        { l with lastSeq := l.expSeq, expSeq := wrapAdd 32 l.expSeq 1, badCommas := 0, seals := [], rxHolds := [] }
      Answers (.calibrationBarge lane tail e snr) s (measureSnr lane snr s1)) ∧
    (∀ (lane tail e snr n : Nat) (s : State), commaOf tail e = some (n, .calibration) → (s.lane lane).rx ≠ .active → Answers (.calibrationBarge lane tail e snr) s s) ∧
    (∀ (lane tail e : Nat) (c : List Byte) (a : RxAdapt) (s : State), (s.lane lane).rx = .test →
      Answers (.trainingBarge lane tail e c a) s (s.onLane lane fun l => { l with testErr := satAdd 32 l.testErr a.bitErrors })) ∧
    (∀ (lane tail e : Nat) (c : List Byte) (a : RxAdapt) (s : State), (s.lane lane).rx ∈ [.off, .lock, .caps, .active, .moored] → Answers (.trainingBarge lane tail e c a) s s) ∧
    (∀ (lane tail e n : Nat) (c : List Byte) (a : RxAdapt) (s : State), (s.lane lane).rx = .train → commaOf tail e = some (n, .training) →
      Answers (.trainingBarge lane tail e c a) s ((s.onLane lane fun l => { l with lastSeq := l.lastSeq / 65536 * 65536 + n }).onLane lane fun l =>
        adaptTrain (s.lanePol lane) a (if controlOk c then applyControl (s.lanePol lane) c l else l))) ∧
    (∀ (lane tail e n : Nat) (c : List Byte) (a : RxAdapt) (s : State), (s.lane lane).rx = .detect → commaOf tail e = some (n, .training) →
      let x := s.lane lane
      let s1 := s.onLane lane fun l => { l with lastSeq := l.lastSeq / 65536 * 65536 + n }
      let s2 := s1.onLane lane fun l =>
        { l with goodTrain := l.goodTrain + 1, heard := l.heard || !l.idleHold, since := if l.heard ∨ l.idleHold then l.since else s.elapsed }
      (2 ≤ x.goodTrain → x.idleHold = false →
        Answers (.trainingBarge lane tail e c a) s ((setLane lane .train .train s2).onLane lane fun l => { l with goodTrain := 0 })) ∧
      ((x.goodTrain < 2 ∨ x.idleHold = true) → Answers (.trainingBarge lane tail e c a) s s2)) ∧
    (∀ (lane : Nat) (xs : List Nat) (s : State), (s.lane lane).rx ≠ .active → Answers (.levelHistogramWindow lane xs) s s) ∧
    (∀ (lane : Nat) (xs : List Nat) (s : State), (s.lane lane).rx = .active → shareOff (worstShare xs) ≤ (s.lanePol lane).histBound →
      Answers (.levelHistogramWindow lane xs) s (s.onLane lane fun l => { l with goodWin := min 16 (l.goodWin + 1), frozen := l.frozen && (l.farMoor.isSome || decide (l.goodWin + 1 < 16)) })) ∧
    (∀ (lane : Nat) (xs : List Nat) (s : State), (s.lane lane).rx = .active → (s.lanePol lane).histBound < shareOff (worstShare xs) →
      ((s.lane lane).frozenAt = none ∨ ∃ t, (s.lane lane).frozenAt = some t ∧ t + 48000 ≤ s.elapsed) →
      Answers (.levelHistogramWindow lane xs) s (raise 0x0B85 1 lane (worstShare xs) (s.onLane lane fun l =>
        { l with frozen := true, goodWin := 0, frozenWins := inc l.frozenWins, frozenAt := some s.elapsed }))) ∧
    (∀ (lane t : Nat) (xs : List Nat) (s : State), (s.lane lane).rx = .active → (s.lanePol lane).histBound < shareOff (worstShare xs) →
      (s.lane lane).frozenAt = some t → s.elapsed < t + 48000 →
      Answers (.levelHistogramWindow lane xs) s (s.onLane lane fun l => { l with frozen := true, goodWin := 0, frozenWins := inc l.frozenWins })) ∧
    (∀ (lane : Nat) (s : State), (s.lane lane).rx ≠ .active → Answers (.commaLoss lane) s s) ∧
    (∀ (lane : Nat) (s : State), (s.lane lane).rx = .active →
      let missed := (List.range (3 - (s.lane lane).badCommas)).foldl (fun s _ => missBarge lane s) s
      Answers (.commaLoss lane) s ((setLane lane .lock (s.lane lane).tx missed).onLane lane fun l =>
        { l with relocks := inc l.relocks, relocking := true, badCommas := 0, goodData := 0, adopt := true, since := s.elapsed, seals := [] }))) ∧
  (
    (∀ (lane : Nat) (s : State), (((s.lane lane).rx = .lock ∧ (s.lane lane).relocking = true) ∨ ((s.lane lane).rx = .moored ∧ (s.lane lane).waking = true)) →
      (s.lane lane).since + 48 ≤ s.elapsed → Answers (.relockTimeout lane) s (toDetect lane 0 s)) ∧
    (∀ (lane : Nat) (s : State), (s.elapsed < (s.lane lane).since + 48 ∨ (¬((s.lane lane).rx = .lock ∧ (s.lane lane).relocking = true) ∧
      ¬((s.lane lane).rx = .moored ∧ (s.lane lane).waking = true))) → Answers (.relockTimeout lane) s s) ∧
    (∀ (lane n : Nat) (s : State), stateLimit (s.lane lane) = some n → s.elapsed < (s.lane lane).since + n → Answers (.laneBringupTimeout lane) s s) ∧
    (∀ (lane n : Nat) (s : State), stateLimit (s.lane lane) = some n → (s.lane lane).since + n ≤ s.elapsed →
      let idle := decide (3 ≤ (s.lane lane).timeouts + 1)
      Answers (.laneBringupTimeout lane) s (toDetect lane 0 (raise 0x0B82 2 lane (s.lane lane).rx.code (s.onLane lane fun l =>
        { l with trainFail := inc l.trainFail, timeouts := if idle then 0 else l.timeouts + 1, coldNext := l.coldNext || l.warm, idleHold := idle })))) ∧
    (∀ (lane : Nat) (s : State), stateLimit (s.lane lane) = none → Answers (.laneBringupTimeout lane) s s) ∧
    (∀ (lane : Nat) (s : State), (s.lane lane).idleHold = true → (s.lane lane).since + 4320 ≤ s.elapsed →
      Answers (.detectIdleEnd lane) s (s.onLane lane fun l => { l with idleHold := false, txIdle := false, since := s.elapsed })) ∧
    (∀ (lane : Nat) (s : State), ((s.lane lane).idleHold = false ∨ s.elapsed < (s.lane lane).since + 4320) → Answers (.detectIdleEnd lane) s s) ∧
    (∀ (lane : Nat) (r : List Byte) (s : State), (((s.lane lane).rx ≠ .caps ∧ (s.lane lane).rx ≠ .active) ∨ r.length < 48) → Answers (.capsRecord lane r) s s) ∧
    (∀ (lane : Nat) (r : List Byte) (s : State), r.length < 16 → Answers (.statusRecord lane r) s s) ∧
    (∀ (lane : Nat) (r : List Byte) (s : State), ((s.lane lane).rx ≠ .active ∨ 128 ≤ lane ∨ r.length < 4) → Answers (.moorRecord lane r) s s) ∧
    (∀ (lane : Nat) (r : List Byte) (s : State), (s.lane lane).rx = .caps → lane < 128 → 48 ≤ r.length → (s.lane lane).activeId = none →
      let x := s.lane lane
      let w := (digestsWrong s lane r).1 || (digestsWrong s lane r).2
      let good := capsGood s lane r
      let s3 := s.onLane lane fun l =>
        { l with farCaps := r, farSender := recField r 1 1, farId := recField r 8 8, farPort := recField r 4 2, farTxEpoch := recField r 0x10 1 }
      let s4 := s3.onLane lane fun l =>
        { l with disagree := w, accepted := good, since := if x.disagree && !w then s.elapsed else l.since,
                 farAccepted := if good && bitOf (recField r 3 1) 2 then min 2 (l.farAccepted + 1) else 0 }
      let s5 := if w && !x.disagree then raise 0x0B87 2 lane (bit (digestsWrong s lane r).1 + 2 * bit (digestsWrong s lane r).2) s4 else s4
      let s6 := if good then s5.onManifest (manKey 0 lane) fun m => { m with epoch := recField r 0x10 1 } else s5
      Answers (.capsRecord lane r) s (if 2 ≤ (s6.lane lane).farAccepted then enterActive lane s6 else s6)) ∧
    (∀ (lane : Nat) (r : List Byte) (s : State), (s.lane lane).rx = .active → lane < 128 → 48 ≤ r.length → (s.lane lane).activeId = none →
      Answers (.capsRecord lane r) s (s.onLane lane fun l =>
        { l with farCaps := r, farSender := recField r 1 1, farId := recField r 8 8, farPort := recField r 4 2, farTxEpoch := recField r 0x10 1 })) ∧
    (∀ (lane : Nat) (r : List Byte) (s : State), 16 ≤ r.length → Answers (.statusRecord lane r) s (s.onLane lane fun l => { l with farUnc := recField r 2 2, farCorr := recField r 4 4 })) ∧
    (∀ (lane : Nat) (r : List Byte) (s : State), (s.lane lane).rx = .active → lane < 128 → 4 ≤ r.length →
      Answers (.moorRecord lane r) s (s.onLane lane fun l =>
        { l with farMoor := some (recField r 0 4), frozen := l.frozen || l.farMoor.isNone, goodWin := if l.farMoor.isNone then 0 else l.goodWin })) ∧
    (∀ (lane : Nat) (r : List Byte) (s : State),
      let a : Announce := { epoch := leNat (r.take 1), seq := leNat ((r.drop 4).take 4), digest := leNat ((r.drop 8).take 4) }
      let lead := seqAhead a.seq (s.lane lane).lastSeq
      ((lead ≤ 0 ∨ (s.manifestRt (manKey 0 lane)).announce = some a) → Answers (.epochRecord lane r) s s) ∧
      (0 < lead → (s.manifestRt (manKey 0 lane)).announce ≠ some a →
        let s1 := s.onManifestRt (manKey 0 lane) fun m => { m with announce := some a, pending := m.pending.map fun p => { p with late := p.late || decide (lead < 64) } }
        Answers (.epochRecord lane r) s (if lead < 64 then raise 0x0283 1 lane a.seq s1 else s1))) ∧
    (∀ (dir lane : Nat) (s : State), (s.manifestRt (manKey dir lane)).announce = none → Answers (.manifestEpoch dir lane) s s) ∧
    (∀ (lane : Nat) (a : Announce) (s : State), (s.manifestRt (manKey 0 lane)).announce = some a → (s.manifestRt (manKey 0 lane)).pending = none →
      Answers (.manifestEpoch 0 lane) s (raise 0x0282 2 lane a.seq ((s.onManifestRt (manKey 0 lane) fun m => { m with announce := none, pending := none }).onManifest (manKey 0 lane) fun m =>
        { m with epoch := a.epoch }))) ∧
    (∀ (lane : Nat) (a : Announce) (p : PendManifest) (s : State), (s.manifestRt (manKey 0 lane)).announce = some a → (s.manifestRt (manKey 0 lane)).pending = some p →
      a.digest = manifestDigest (listed s 0 p.handles) →
      let s2 := switchManifest 0 lane p.handles true a.epoch (s.onManifestRt (manKey 0 lane) fun m => { m with announce := none, pending := none })
      Answers (.manifestEpoch 0 lane) s (finishNow p.job .done (s2.manifest (manKey 0 lane)).gen 0 s2)) ∧
    (∀ (lane : Nat) (a : Announce) (p : PendManifest) (s : State), (s.manifestRt (manKey 0 lane)).announce = some a → (s.manifestRt (manKey 0 lane)).pending = some p →
      a.digest ≠ manifestDigest (listed s 0 p.handles) →
      let s2 := switchManifest 0 lane p.handles false a.epoch (s.onManifestRt (manKey 0 lane) fun m => { m with announce := none, pending := none })
      Answers (.manifestEpoch 0 lane) s (finishNow p.job .format (s2.manifest (manKey 0 lane)).gen 0xFFFF (raise 0x0281 2 lane a.digest s2))) ∧
    (∀ (lane : Nat) (a : Announce) (s : State), (s.manifestRt (manKey 1 lane)).announce = some a → (s.manifestRt (manKey 1 lane)).pending = none →
      Answers (.manifestEpoch 1 lane) s (s.onManifestRt (manKey 1 lane) fun m => { m with announce := none, pending := none, carried := false })) ∧
    (∀ (lane : Nat) (a : Announce) (p : PendManifest) (s : State), (s.manifestRt (manKey 1 lane)).announce = some a → (s.manifestRt (manKey 1 lane)).pending = some p →
      let s2 := switchManifest 1 lane p.handles true a.epoch (s.onManifestRt (manKey 1 lane) fun m => { m with announce := none, pending := none, carried := false })
      Answers (.manifestEpoch 1 lane) s (finishNow p.job .done (s2.manifest (manKey 1 lane)).gen 0 s2)) ∧
    (∀ (lane : Nat) (p : PendManifest) (s : State), (s.manifestRt (manKey 0 lane)).pending = some p → p.age < p.timeoutTicks → Answers (.manifestTimeout lane) s s) ∧
    (∀ (lane : Nat) (p : PendManifest) (s : State), (s.manifestRt (manKey 0 lane)).pending = some p → (s.manifestRt (manKey 0 lane)).announce = none → p.timeoutTicks ≤ p.age →
      Answers (.manifestTimeout lane) s ((finish p.job .timedOut 0 s).onManifestRt (manKey 0 lane) fun m => { m with pending := none })) ∧
    (∀ (lane : Nat) (s : State), ((s.manifestRt (manKey 0 lane)).pending = none ∨ (s.manifestRt (manKey 0 lane)).announce ≠ none) → Answers (.manifestTimeout lane) s s))

/-- R326, R332, R337, R353 to R355, R361: a lane sends the running barge, a lane that has sent it begins the next; an idle or moored transmitter sends
nothing; a moor announced takes effect at its barge and a wake ends it; the ECO rule announces a moor of its own.  Each of these rows answers a next
state under conditions on state and operands alone (conclusion exec i s = next t): bargeTransmit, moorBarge, signalDetectWake, wakeComplete, ecoMoor. -/
def Obligations.LaneSendingComplete : Prop :=
  (∀ (lane : Nat) (d : List Byte) (s : State), 130 ≤ lane → Answers (.bargeTransmit lane d) s s) ∧
  (∀ (lane : Nat) (d : List Byte) (s : State), lane < 130 → s.tow.sent.contains lane = false →
    Answers (.bargeTransmit lane d) s (sendBarge lane s.tow.bargeSeq d (bargeStarts lane s.tow.bargeSeq (s.onTow fun t => { t with sent := setAdd t.sent lane })))) ∧
  (∀ (lane : Nat) (d : List Byte) (s : State), lane < 130 → s.tow.sent.contains lane = true →
    let s1 := nextBarge s
    Answers (.bargeTransmit lane d) s (sendBarge lane s1.tow.bargeSeq d (bargeStarts lane s1.tow.bargeSeq (s1.onTow fun t => { t with sent := setAdd t.sent lane })))) ∧
  (∀ s : State, (nextBarge s).tow.bargeSeq = wrapAdd 32 s.tow.bargeSeq 1 ∧ (nextBarge s).tow.sent = [] ∧ (nextBarge s).tow.lanes = s.tow.lanes) ∧
  (∀ (lane seq : Nat) (d : List Byte) (s : State), ((s.lane lane).tx = .off ∨ (s.lane lane).tx = .moored ∨ (s.lane lane).idleHold = true) →
    sendBarge lane seq d s = s.onLane lane fun l => { l with txIdle := true, txBytes := [] }) ∧
  (∀ (lane id q : Nat) (s : State), (s.lane lane).txMoor = some (q, id) → Answers (.moorBarge 1 lane) s (settleLaneJob id
    ((setLane lane (s.lane lane).rx .moored s).onLane lane fun l => { l with txMoor := none, moors := inc l.moors, txIdle := true, idleFor := 0 }))) ∧
  (∀ (lane q : Nat) (s : State), (s.lane lane).rx = .active → (s.lane lane).farMoor = some q → Answers (.moorBarge 0 lane) s
    ((setLane lane .moored (s.lane lane).tx s).onLane lane fun l => { l with farMoor := none, moors := inc l.moors, waking := false, seals := [], adopt := true })) ∧
  (∀ (lane : Nat) (s : State), (s.lane lane).txMoor = none → Answers (.moorBarge 1 lane) s s) ∧
  (∀ (lane : Nat) (s : State), ((s.lane lane).rx ≠ .active ∨ (s.lane lane).farMoor = none) → Answers (.moorBarge 0 lane) s s) ∧
  (∀ (lane : Nat) (e : Option Nat) (s : State), (s.lane lane).rx ≠ .moored → Answers (.signalDetectWake lane e) s s) ∧
  (∀ (lane : Nat) (s : State), (s.lane lane).rx = .moored → Answers (.signalDetectWake lane none) s (s.onLane lane fun l => { l with waking := true, since := s.elapsed })) ∧
  (∀ (lane e : Nat) (s : State), (s.lane lane).rx = .moored → Answers (.signalDetectWake lane (some e)) s (relocked lane (e % 256) s)) ∧
  (∀ (lane : Nat) (s : State), (s.lane lane).txWake = none → Answers (.wakeComplete lane) s s) ∧
  (∀ (lane : Nat) (jobs : List Nat) (s : State), (s.lane lane).txWake = some jobs → ((s.lane lane).tx = .moored ∨ (s.lane lane).tx = .active) →
    Answers (.wakeComplete lane) s (jobs.foldl (fun s id => settleLaneJob id s)
      ((setLane lane (s.lane lane).rx .active s).onLane lane fun l => { l with txWake := none, holdOff := 0, txIdle := false, byTrim := false, idleFor := 0 }))) ∧
  (∀ (lane : Nat) (jobs : List Nat) (s : State), (s.lane lane).txWake = some jobs → (s.lane lane).tx ≠ .moored → (s.lane lane).tx ≠ .active →
    Answers (.wakeComplete lane) s s) ∧
  (∀ (lane : Nat) (s : State), ecoDue s lane = true →
    Answers (.ecoMoor lane) s (s.onLane lane fun l => { l with txMoor := some (wrapAdd 32 s.tow.bargeSeq 65, 0), byTrim := true })) ∧
  (∀ (lane : Nat) (s : State), ecoDue s lane = false → Answers (.ecoMoor lane) s s) ∧
  (∀ (lane : Nat) (s : State), s.obj.trims.eco = false → s.clocks.throttle < 3 → ecoDue s lane = false)

/-- R364, R372, R385, R389, R394: the grant makes a standby helm and takes the helm from a chip, and is only noted where the chip does not serve or the
role stands; an idle helm sends a record every 240 ticks; a yield that the grant does not follow times out.  Each of these rows answers a next state
under conditions on state and operands alone (conclusion exec i s = next t): helmGrantAsserted, helmGrantDeasserted, idleRecord, yieldTimeout. -/
def Obligations.HelmRowsComplete : Prop :=
  (∀ s : State, (s.twin.helm = true ∨ s.serving = false) →
    Answers .helmGrantAsserted s ((s.onPins fun p => { p with grantN := false }).onTwin fun t => { t with grant := true })) ∧
  (∀ s : State, s.twin.helm = false → s.serving = true →
    Answers .helmGrantAsserted s (becomeHelm ((s.onPins fun p => { p with grantN := false }).onTwin fun t => { t with grant := true }))) ∧
  (∀ s : State, (s.twin.helm = false ∨ s.serving = false) →
    Answers .helmGrantDeasserted s ((s.onPins fun p => { p with grantN := true }).onTwin fun t => { t with grant := false })) ∧
  (∀ s : State, s.twin.helm = true → s.serving = true →
    Answers .helmGrantDeasserted s (loseHelm ((s.onPins fun p => { p with grantN := true }).onTwin fun t => { t with grant := false }))) ∧
  (∀ s : State, s.twin.helm = true → 240 ≤ s.twin.sinceRec → Answers .idleRecord s (sendRecord true (s.now + 7) s)) ∧
  (∀ s : State, (s.twin.helm = false ∨ s.twin.sinceRec < 240) → Answers .idleRecord s s) ∧
  (∀ (idle : Bool) (n : Nat) (s : State), s.twin.helm = true → s.serving = true → s.keys.lock = false → s.dev ≠ .handover → ∃ r : TandemRec,
    (sendRecord idle n s).twin.sent = some (r.half false) ∧ (sendRecord idle n s).twin.sentWest = some (r.half true) ∧
    r.rseq = wrapAdd 32 s.twin.lastRseq 1 ∧ r.limit = n ∧ r.tick = s.now ∧ r.idle = idle ∧ r.claim = s.twin.grant ∧ r.handover = false ∧
    (sendRecord idle n s).twin.lastRseq = wrapAdd 32 s.twin.lastRseq 1 ∧ (sendRecord idle n s).twin.sinceRec = 0 ∧
    (sendRecord idle n s).twin.unacked = s.twin.unacked ++ [(r.rseq, n, 0, 0)] ∧ (sendRecord idle n s).twin.cmds = []) ∧
  (∀ (idle : Bool) (n : Nat) (s : State), (s.twin.helm = false ∨ s.serving = false ∨ s.keys.lock = true) → sendRecord idle n s = s) ∧
  (∀ (id ms : Nat) (s : State), s.twin.yield = some (id, ms) → s.twin.helm = true → msTicks ms ≤ s.twin.yieldAge →
    Answers .yieldTimeout s (driveHealth (finish id .timedOut 0 (s.onTwin fun t => { t with yield := none })))) ∧
  (∀ s : State, s.twin.yield = none → Answers .yieldTimeout s s) ∧
  (∀ (id ms : Nat) (s : State), s.twin.yield = some (id, ms) → (s.twin.helm = false ∨ s.twin.yieldAge < msTicks ms) → Answers .yieldTimeout s s)

/-- R376 to R378, R384, R387: a record half is kept by a standby and told as missing when its tag is wrong; a helm hears only a claim beside its own;
records are applied in RSEQ order within their limit; three missing and 480 ticks make a standby ADRIFT; three late and 480 ticks leave the helm
ALONE; an acknowledgement pairs it again.  Each of these rows answers a next state under conditions on state and operands alone (conclusion exec i s =
next t): tandemRecordReceived, tandemRecordApply, recordMissing, tandemAckReceived, partnerAdrift, adrift. -/
def Obligations.TandemRecordRowsComplete : Prop :=
  (∀ (w ok : Bool) (r : TandemRec) (s : State), (s.serving = false ∨ s.twin.session = false ∨ tandemDown s = true) → Answers (.tandemRecordReceived w ok r) s s) ∧
  (∀ (w ok : Bool) (r : TandemRec) (s : State), s.serving = true → s.twin.session = true → tandemDown s = false →
    let s1 := useSession 1 (renewKey r.rseq s)
    (s.twin.helm = true → ok = true → r.claim = true → Answers (.tandemRecordReceived w ok r) s (dispute s1)) ∧
    (s.twin.helm = true → (ok = false ∨ r.claim = false) → Answers (.tandemRecordReceived w ok r) s s1) ∧
    (s.twin.helm = false → keepsRecords s = false → Answers (.tandemRecordReceived w ok r) s s1) ∧
    (s.twin.helm = false → keepsRecords s = true → ok = false → Answers (.tandemRecordReceived w ok r) s (missRecord r.rseq s1)) ∧
    (s.twin.helm = false → keepsRecords s = true → ok = true → Answers (.tandemRecordReceived w ok r) s (s1.onTwin fun t =>
      { t with west := if w = true ∧ (∀ q ∈ s.twin.west, q.rseq ≠ r.rseq) then s.twin.west ++ [r] else s.twin.west,
               east := if w = false ∧ (∀ q ∈ s.twin.east, q.rseq ≠ r.rseq) then s.twin.east ++ [r] else s.twin.east }))) ∧
  (∀ s : State, (appliesRecords s = false ∨ dueRecord s = none) → Answers .tandemRecordApply s s) ∧
  (∀ (k : Nat) (r : TandemRec) (s : State), appliesRecords s = true → s.twin.east.length = k + 1 → dueRecord s = some r → Answers .tandemRecordApply s (applyRecords k (applyRecord r s))) ∧
  (∀ (n : Nat) (s : State), (∀ r ∈ s.twin.east, r.rseq = n → wholeRecord s r = true → r.limit < s.now) → appliesRecords s = true → 0 ≤ seqAhead n (nextRseq s) →
    Answers (.recordMissing n) s (s.onTwin fun t =>
      { t with missing := inc t.missing, missRun := min 3 (t.missRun + 1), lastMissed := some n,
               east := t.east.filter (fun r => r.rseq ≠ n), west := t.west.filter fun r => r.rseq ≠ n })) ∧
  (∀ (n : Nat) (s : State), (appliesRecords s = false ∨ seqAhead n (nextRseq s) < 0 ∨ ∃ r ∈ s.twin.east, r.rseq = n ∧ wholeRecord s r = true ∧ s.now ≤ r.limit) →
    Answers (.recordMissing n) s s) ∧
  (∀ (a : TandemAck) (s : State), (s.twin.helm = false ∨ s.serving = false ∨ s.twin.session = false ∨ tandemDown s = true) → Answers (.tandemAckReceived a) s s) ∧
  (∀ (a : TandemAck) (s : State), s.twin.helm = true → s.serving = true → s.twin.session = true → tandemDown s = false →
    let s1 := s.onTwin fun t => { t with sinceAck := 0, st := if t.st = .alone then .paired else t.st }
    (a.page = none → Answers (.tandemAckReceived a) s (s1.onTwin fun t =>
      { t with lastAck := a.rseq,
               unacked := t.unacked.map fun u => if u.1 = a.rseq then (u.1, u.2.1, if a.west then u.2.2.1 else 1, if a.west then 1 else u.2.2.2) else u })) ∧
    (∀ b p, a.page = some (b, p) → let s2 := s1.onTwin fun t => { t with backlog := tmod [] t.backlog b fun ps => setDel ps p }
      Answers (.tandemAckReceived a) s (if s2.twin.backlog.any (fun e => e.1 / 8 = b / 8) then s2 else graphicsDone (b / 8) s2))) ∧
  (∀ s : State, s.twin.helm = true → s.twin.st = .paired → 3 ≤ s.twin.lateRun → 480 ≤ s.twin.sinceAck →
    Answers .partnerAdrift s ((waitingHeads s).foldl (fun s h => graphicsDone h s) (raise 0x0C82 2 0 s.twin.lastAck (s.onTwin fun t => { t with st := .alone })))) ∧
  (∀ s : State, (s.twin.helm = false ∨ s.twin.st ≠ .paired ∨ s.twin.lateRun < 3 ∨ s.twin.sinceAck < 480) → Answers .partnerAdrift s s) ∧
  (∀ s : State, appliesRecords s = true → 3 ≤ s.twin.missRun → 480 ≤ s.twin.sinceRec → Answers .adrift s
    (raise 0x0C83 2 0 s.twin.lastRseq (driveHealth (coast ((endResync s).onTwin fun t => { t with st := .adrift, retryAge := some 0, east := [], west := [] }))))) ∧
  (∀ s : State, (appliesRecords s = false ∨ s.twin.missRun < 3 ∨ s.twin.sinceRec < 480) → Answers .adrift s s)

/-- R378: a standby enters ADRIFT and raises ADRIFT once its third consecutive record is missing and 480 ticks have passed since the last record it
applied, and not before both; an ADRIFT standby applies no record.  Each of these rows answers a next state under conditions on state and operands
alone (conclusion exec i s = next t): adrift, tandemRecordApply. -/
def Obligations.AdriftAtTheLaterOfTwo : Prop :=
  (∀ s : State, appliesRecords s = true → 3 ≤ s.twin.missRun → 480 ≤ s.twin.sinceRec → ∃ t : State, Answers .adrift s (raise 0x0C83 2 0 s.twin.lastRseq t) ∧
    t.twin.st = .adrift ∧ t.twin.helm = s.twin.helm ∧ appliesRecords (raise 0x0C83 2 0 s.twin.lastRseq t) = false) ∧
  (∀ s : State, (s.twin.missRun < 3 ∨ s.twin.sinceRec < 480) → Answers .adrift s s) ∧
  (∀ (n : Nat) (s : State), appliesRecords s = true → 0 ≤ seqAhead n (nextRseq s) → (missRecord n s).twin.missRun = min 3 (s.twin.missRun + 1)) ∧
  (∀ (r : TandemRec) (s : State), r.sections = [] → (∀ q ∈ s.twin.west, q.rseq = r.rseq → q.sections = []) → (applyRecord r s).twin.missRun = 0 ∧ (applyRecord r s).twin.sinceRec = 0) ∧
  (∀ s : State, s.twin.st = .adrift → Answers .tandemRecordApply s s)

/-- R107, R371, R388, R483: a proof that does not hold leaves no session; one that holds, with versions that agree, makes one; a key is renewed only after
an hour; a resynchronisation goes through its phases in order, each ending on its own condition, and fails when a phase outlasts its bound; a chip
ADRIFT tries again after RETRY_S.  Each of these rows answers a next state under conditions on state and operands alone (conclusion exec i s = next
t): tandemKeyExchange, tandemRekey, resyncPhaseComplete, resyncPhaseOverrun, resyncRetry, graphicsTransferComplete. -/
def Obligations.ResyncRowsComplete : Prop :=
  (∀ (o : TandemOffer) (s : State), (s.serving = false ∨ tandemDown s = true) → Answers (.tandemKeyExchange o) s s) ∧
  (∀ (o : TandemOffer) (s : State), s.serving = true → tandemDown s = false →
    let ended := raise 0x1086 3 0x00FF 3 (s.onTwin fun t => { t with session := false, sessionKey := 0, rekeyAt := none, orphaned := false })
    let made := s.onTwin fun t =>
      { t with session := true, sessionKey := tandemKey o.own o.publicKey, sessionAge := 0, rekeyAt := none,
               orphaned := false, partnerSerial := o.serial % 2 ^ 64, partnerFw := o.fw % 2 ^ 32, partnerMin := o.fwMin % 2 ^ 32 }
    let apart := raise 0x0C8A 3 0 (o.fw % 2 ^ 32) made
    (proofHolds o s = false → Answers (.tandemKeyExchange o) s ended) ∧
    (proofHolds o s = true → versionsAgree o s = true → (s.twin.st ≠ .blocked ∨ s.twin.helm = true) → Answers (.tandemKeyExchange o) s made) ∧
    (proofHolds o s = true → versionsAgree o s = true → s.twin.st = .blocked → s.twin.helm = false → Answers (.tandemKeyExchange o) s (beginResync made)) ∧
    (proofHolds o s = true → versionsAgree o s = false → s.twin.helm = true → Answers (.tandemKeyExchange o) s (apart.onTwin fun t => { t with st := .alone })) ∧
    (proofHolds o s = true → versionsAgree o s = false → s.twin.helm = false →
      Answers (.tandemKeyExchange o) s (driveHealth (coast ((endResync apart).onTwin fun t => { t with st := .blocked, east := [], west := [] }))))) ∧
  (∀ (n : Nat) (o : TandemOffer) (s : State), (s.serving = false ∨ s.twin.session = false ∨ tandemDown s = true ∨ s.twin.sessionAge < 172800000) → Answers (.tandemRekey n o) s s) ∧
  (∀ (n : Nat) (o : TandemOffer) (s : State), s.serving = true → s.twin.session = true → tandemDown s = false → 172800000 ≤ s.twin.sessionAge →
    Answers (.tandemRekey n o) s (if proofHolds o s = true then s.onTwin fun t =>
        { t with rekeyAt := some (if t.helm then wrapAdd 32 t.lastRseq 64 else n % 2 ^ 32, tandemKey o.own o.publicKey), sessionAge := 0 }
      else raise 0x1086 3 0x00FF 3 (s.onTwin fun t => { t with session := false, sessionKey := 0, rekeyAt := none, orphaned := false }))) ∧
  (∀ (x : Option Snapshot) (s : State), (s.twin.helm = true ∨ s.twin.st ≠ .resyncing ∨ s.twin.phase = .none) → Answers (.resyncPhaseComplete x) s s) ∧
  (∀ (x : Option Snapshot) (s : State), s.twin.helm = false → s.twin.st = .resyncing →
    (s.twin.phase = .session → partnerRefused s = true → Answers (.resyncPhaseComplete x) s
      (driveHealth (coast ((endResync s).onTwin fun t => { t with st := .blocked, east := [], west := [] })))) ∧
    (s.twin.phase = .session → partnerRefused s = false → s.twin.session = true → Answers (.resyncPhaseComplete x) s (s.onTwin fun t => { t with phase := .snapshot, phaseAge := 0 })) ∧
    (s.twin.phase = .session → s.twin.session = false → Answers (.resyncPhaseComplete x) s s) ∧
    (∀ y, s.twin.phase = .snapshot → x = some y → Answers (.resyncPhaseComplete x) s (applyKept y.time.tick (adoptSnapshot y s))) ∧
    (s.twin.phase = .snapshot → x = none → Answers (.resyncPhaseComplete x) s s) ∧
    (∀ y, s.twin.phase = .graphics → x = some y → Answers (.resyncPhaseComplete x) s ((y.pages.foldl (fun s p =>
      s.hdmWrite (graphicsBase (p.1 / 8) (p.1 % 8 / 2) (p.1 % 2) + p.2.1 * 4096) p.2.2) s).onTwin fun t => { t with phase := .fill, phaseAge := 0 })) ∧
    (s.twin.phase = .graphics → x = none → Answers (.resyncPhaseComplete x) s (s.onTwin fun t => { t with phase := .fill, phaseAge := 0 })) ∧
    (s.twin.phase = .fill → ringsFull s = true → allPrimed s = true →
      Answers (.resyncPhaseComplete x) s (s.onTwin fun t => { t with phase := .check, phaseAge := 0, fillChecks := 0, checkSeq := s.tow.bargeSeq })) ∧
    (s.twin.phase = .fill → (ringsFull s = false ∨ allPrimed s = false) → Answers (.resyncPhaseComplete x) s s) ∧
    (s.twin.phase = .check → 1 ≤ s.twin.fillChecks → Answers (.resyncPhaseComplete x) s (resyncDone s)) ∧
    (s.twin.phase = .check → s.twin.fillChecks = 0 → Answers (.resyncPhaseComplete x) s s)) ∧
  (∀ s : State, s.twin.helm = false → s.twin.st = .resyncing → s.twin.phase ≠ .none → phaseBound s < s.twin.phaseAge → Answers .resyncPhaseOverrun s
    (raise 0x0C85 2 0 s.twin.phase.code (driveHealth (coast ((endResync s).onTwin fun t =>
      { t with st := .adrift, retryAge := some 0, resyncFails := inc t.resyncFails, east := [], west := [] }))))) ∧
  (∀ s : State, (s.twin.helm = true ∨ s.twin.st ≠ .resyncing ∨ s.twin.phase = .none ∨ s.twin.phaseAge ≤ phaseBound s) → Answers .resyncPhaseOverrun s s) ∧
  (∀ (a : Nat) (s : State), s.twin.retryAge = some a → s.serving = true → s.twin.helm = false → s.twin.st = .adrift → s.obj.twinPol.autoResync = true →
    s.obj.twinPol.retryS * 48000 ≤ a → Answers .resyncRetry s (beginResync s)) ∧
  (∀ s : State, (s.twin.retryAge = none ∨ s.serving = false ∨ s.twin.helm = true ∨ s.twin.st ≠ .adrift ∨ s.obj.twinPol.autoResync = false) → Answers .resyncRetry s s) ∧
  (∀ (a : Nat) (s : State), s.twin.retryAge = some a → a < s.obj.twinPol.retryS * 48000 → Answers .resyncRetry s s) ∧
  (∀ (h p : Nat) (k : HeadCommit) (s : State), (s.head h).commit = some k → k.waiting = true → k.cfg.plane = some p →
    Answers (.graphicsTransferComplete h) s ((s.onTwin fun t => { t with backlog := t.backlog.filter fun e => e.1 / 8 ≠ h }).onHead h fun r =>
      { r with commit := some { k with waiting := false, frame := armFrameAt s p (s.now + 1) } })) ∧
  (∀ (h : Nat) (s : State), (∀ k, (s.head h).commit = some k → k.waiting = false) → Answers (.graphicsTransferComplete h) s s)
end

