-- ==== Sys2Proof/Laws/Memory.lean ====
section
/-! SUPPORT.  What the tables and HDM do: reading back what was written, the canonical form kept by every
operation, and the canonical form that every command leaves HDM in (log entry 4). -/

namespace Sys2Proof.Machine
open Sys2Proof

variable {α : Type} [DecidableEq α]

/-- Keys of a canonical table are above `n`. -/
def keysAbove (n : Nat) (t : List (Nat × α)) : Prop := ∀ e ∈ t, n < e.1

theorem tableOk_tail {d : α} {e : Nat × α} {t : List (Nat × α)} (h : tableOk d (e :: t) = true) : tableOk d t = true := by
  cases t with
  | nil => rfl
  | cons f r => obtain ⟨j, v⟩ := e; obtain ⟨k, w⟩ := f; simp only [tableOk, Bool.and_eq_true] at h; exact h.2

theorem tableOk_value {d : α} {k : Nat} {v : α} {t : List (Nat × α)} (h : tableOk d ((k, v) :: t) = true) : v ≠ d := by
  cases t with
  | nil => simpa [tableOk] using h
  | cons f r => obtain ⟨j, w⟩ := f; simp only [tableOk, Bool.and_eq_true, decide_eq_true_eq] at h; exact h.1.2

theorem tableOk_above {d : α} {k : Nat} {v : α} {t : List (Nat × α)} (h : tableOk d ((k, v) :: t) = true) : keysAbove k t := by
  induction t generalizing k v with
  | nil => intro e he; cases he
  | cons f r ih =>
    obtain ⟨j, w⟩ := f
    have h1 : k < j := by simp only [tableOk, Bool.and_eq_true, decide_eq_true_eq] at h; exact h.1.1
    have h2 := ih (tableOk_tail h)
    intro e he
    rcases List.mem_cons.mp he with rfl | hm
    · exact h1
    · exact lt_trans h1 (h2 e hm)

theorem tableOk_cons {d : α} {k : Nat} {v : α} {t : List (Nat × α)} (ht : tableOk d t = true) (hv : v ≠ d) (hk : keysAbove k t) :
    tableOk d ((k, v) :: t) = true := by
  cases t with
  | nil => simpa [tableOk] using hv
  | cons f r =>
    obtain ⟨j, w⟩ := f
    have hj : k < j := hk (j, w) List.mem_cons_self
    simp [tableOk, hv, hj, ht]

theorem keysAbove_tset {d : α} {n k : Nat} {v : α} {t : List (Nat × α)} (ht : keysAbove n t) (hk : n < k) : keysAbove n (tset d t k v) := by
  induction t with
  | nil => unfold tset; split <;> intro e he <;> simp_all
  | cons f r ih =>
    obtain ⟨j, w⟩ := f
    have hj : n < j := ht (j, w) List.mem_cons_self
    have hr : keysAbove n r := fun e he => ht e (List.mem_cons_of_mem _ he)
    unfold tset
    split
    · split
      · exact ht
      · intro e he; rcases List.mem_cons.mp he with rfl | hm
        · exact hk
        · exact ht e hm
    · split
      · split
        · exact hr
        · intro e he; rcases List.mem_cons.mp he with rfl | hm
          · exact hk
          · exact hr e hm
      · intro e he; rcases List.mem_cons.mp he with rfl | hm
        · exact hj
        · exact ih hr e hm

/-- Writing a key keeps a table's canonical form. -/
theorem tableOk_tset {d : α} {k : Nat} {v : α} {t : List (Nat × α)} (h : tableOk d t = true) : tableOk d (tset d t k v) = true := by
  induction t with
  | nil => unfold tset; split <;> simp_all [tableOk]
  | cons f r ih =>
    obtain ⟨j, w⟩ := f
    unfold tset
    split
    · rename_i hkj
      split
      · exact h
      · rename_i hv
        refine tableOk_cons h hv ?_
        intro e he; rcases List.mem_cons.mp he with rfl | hm
        · exact hkj
        · exact lt_trans hkj (tableOk_above h e hm)
    · split
      · rename_i heq
        split
        · exact tableOk_tail h
        · rename_i hv; subst heq; exact tableOk_cons (tableOk_tail h) hv (tableOk_above h)
      · rename_i h1 h2
        exact tableOk_cons (ih (tableOk_tail h)) (tableOk_value h) (keysAbove_tset (tableOk_above h) (by omega))

omit [DecidableEq α] in
theorem tget_above {d : α} {k : Nat} {t : List (Nat × α)} (h : keysAbove k t) : tget d t k = d := by
  induction t with
  | nil => rfl
  | cons f r ih =>
    obtain ⟨j, w⟩ := f
    have hj : k < j := h (j, w) List.mem_cons_self
    simp only [tget]
    rw [if_neg (by omega)]
    exact ih fun e he => h e (List.mem_cons_of_mem _ he)

/-- What a table reads after a key is written. -/
theorem tget_tset {d : α} {k j : Nat} {v : α} {t : List (Nat × α)} (h : tableOk d t = true) :
    tget d (tset d t k v) j = if j = k then v else tget d t j := by
  induction t with
  | nil =>
    unfold tset
    by_cases hv : v = d
    · subst hv; simp [tget]
    · rw [if_neg hv]; simp only [tget]; by_cases hj : k = j
      · simp [hj]
      · rw [if_neg hj, if_neg (fun e => hj e.symm)]
  | cons f r ih =>
    obtain ⟨i, w⟩ := f
    have hi := tableOk_above h
    unfold tset
    split
    · rename_i hki
      split
      · rename_i hv
        by_cases hj : j = k
        · subst hj; rw [if_pos rfl, hv]
          apply tget_above
          intro e he; rcases List.mem_cons.mp he with rfl | hm
          · exact hki
          · exact lt_trans hki (hi e hm)
        · rw [if_neg hj]
      · by_cases hj : j = k
        · subst hj; simp [tget]
        · rw [if_neg hj]; conv_lhs => rw [tget]
          rw [if_neg (fun e => hj e.symm)]
    · split
      · rename_i heq
        have heq' := heq.symm
        subst heq'
        split
        · rename_i hv
          by_cases hj : j = i
          · subst hj; rw [if_pos rfl, hv]; exact tget_above hi
          · rw [if_neg hj]; conv_rhs => rw [tget]
            rw [if_neg (fun e => hj e.symm)]
        · by_cases hj : j = i
          · subst hj; simp [tget]
          · rw [if_neg hj]; simp only [tget]; rw [if_neg (fun e => hj e.symm), if_neg (fun e => hj e.symm)]
      · rename_i h1 h2
        simp only [tget]
        by_cases hij : i = j
        · subst hij; rw [if_pos rfl, if_neg (by omega), if_pos rfl]
        · rw [if_neg hij, ih (tableOk_tail h), if_neg hij]

/-! ### HDM -/

/-- Writing a byte keeps the canonical form. -/
theorem memSet_wf {m : List Host.Cell} {a : Nat} {b : Byte} (h : Memory.wf m = true) : Memory.wf (memSet m a b) = true := tableOk_tset h

/-- What HDM reads after a byte is written. -/
theorem memGet_memSet {m : List Host.Cell} {a c : Nat} {b : Byte} (h : Memory.wf m = true) : memGet (memSet m a b) c = if c = a then b else memGet m c :=
  tget_tset h

/-- Writing bytes keeps the canonical form. -/
theorem memWrite_wf {m : List Host.Cell} {bs : List Byte} {a : Nat} (h : Memory.wf m = true) : Memory.wf (memWrite m a bs) = true := by
  induction bs generalizing m a with
  | nil => exact h
  | cons b r ih => exact ih (memSet_wf h)

/-- What HDM reads at a byte after bytes are written: theirs where it lies among them, else what it read before. -/
theorem memGet_memWrite {m : List Host.Cell} {bs : List Byte} {a c : Nat} (h : Memory.wf m = true) :
    memGet (memWrite m a bs) c = if h : a ≤ c ∧ c < a + bs.length then bs[c - a]'(by omega) else memGet m c := by
  induction bs generalizing m a with
  | nil => simp [memWrite]
  | cons b r ih =>
    rw [memWrite, ih (memSet_wf h), memGet_memSet h]
    simp only [List.length_cons]
    by_cases h1 : a + 1 ≤ c ∧ c < a + 1 + r.length
    · rw [dif_pos h1, dif_pos (by omega)]
      have : c - a = (c - (a + 1)) + 1 := by omega
      simp [this]
    · rw [dif_neg h1]
      by_cases h2 : c = a
      · subst h2; simp
      · rw [if_neg h2, dif_neg (by omega)]

/-- Bytes outside those written stand. -/
theorem memGet_memWrite_outside {m : List Host.Cell} {bs : List Byte} {a c : Nat} (h : Memory.wf m = true) (hc : c < a ∨ a + bs.length ≤ c) :
    memGet (memWrite m a bs) c = memGet m c := by
  rw [memGet_memWrite h, dif_neg (by omega)]

/-- Any list of cells is brought into the canonical form. -/
theorem memSettle_wf (m : List Host.Cell) : Memory.wf (memSettle m) = true := by
  induction m with
  | nil => rfl
  | cons c r ih => exact memSet_wf ih

/-- Settling changes no byte that HDM reads. -/
@[simp] theorem memGet_memSettle (m : List Host.Cell) (a : Nat) : memGet (memSettle m) a = memGet m a := by
  induction m with
  | nil => rfl
  | cons c r ih =>
    obtain ⟨k, v⟩ := c
    simp only [memSettle, memGet_memSet (memSettle_wf r), ih]
    simp only [memGet, tget]
    by_cases h : k = a
    · subst h; simp
    · rw [if_neg h, if_neg (fun e => h e.symm)]

/-- A canonical list stands. -/
theorem memSettle_of_wf {m : List Host.Cell} (h : Memory.wf m = true) : memSettle m = m := by
  induction m with
  | nil => rfl
  | cons c r ih =>
    obtain ⟨k, v⟩ := c
    have hr : Memory.wf r = true := tableOk_tail h
    have hv := tableOk_value h
    have hk := tableOk_above h
    simp only [memSettle, ih hr]
    cases r with
    | nil => simp [memSet, tset, hv]
    | cons f r =>
      obtain ⟨j, w⟩ := f
      have : k < j := hk (j, w) List.mem_cons_self
      simp [memSet, tset, this, hv]

/-- Reading bytes one by one. -/
theorem memRead_getElem {m : List Host.Cell} {a n i : Nat} (hi : i < n) : (memRead m a n)[i]? = some (memGet m (a + i)) := by
  induction n generalizing a i with
  | zero => omega
  | succ k ih =>
    cases i with
    | zero => simp [memRead]
    | succ j => simp only [memRead, List.getElem?_cons_succ]; rw [ih (by omega)]; congr 2; omega

@[simp] theorem memRead_length (m : List Host.Cell) (a n : Nat) : (memRead m a n).length = n := by
  induction n generalizing a with
  | zero => rfl
  | succ k ih => simp [memRead, ih]

@[simp] theorem memRead_memSettle (m : List Host.Cell) (a n : Nat) : memRead (memSettle m) a n = memRead m a n := by
  induction n generalizing a with
  | zero => rfl
  | succ k ih => simp [memRead, ih]

/-- Bytes just written read back. -/
theorem memRead_memWrite {m : List Host.Cell} {bs : List Byte} {a : Nat} (h : Memory.wf m = true) : memRead (memWrite m a bs) a bs.length = bs := by
  apply List.ext_getElem?
  intro i
  by_cases hi : i < bs.length
  · rw [memRead_getElem hi, memGet_memWrite h, dif_pos (by omega), List.getElem?_eq_getElem hi]; simp
  · rw [List.getElem?_eq_none (by simp; omega), List.getElem?_eq_none (by omega)]

/-- Bytes apart from those written read as before. -/
theorem memRead_memWrite_apart {m : List Host.Cell} {bs : List Byte} {a c n : Nat} (h : Memory.wf m = true) (hc : c + n ≤ a ∨ a + bs.length ≤ c) :
    memRead (memWrite m a bs) c n = memRead m c n := by
  induction n generalizing c with
  | zero => rfl
  | succ k ih => rw [memRead, memRead, ih (by omega), memGet_memWrite_outside h (by omega)]

/-! ### What every command leaves -/

/-- Whatever a command answers, its HDM is canonical. -/
theorem settled_wf (s : State) : Memory.wf s.settled.hdm = true := memSettle_wf s.hdm

/-- A command that answers a next state leaves HDM canonical. -/
theorem answer_next {s t : State} (h : answer s = .next t) : t = s.settled := by
  simp only [answer, Host.Outcome.next.injEq] at h; exact h.symm

end Sys2Proof.Machine
end

