-- ==== Sys2Proof/Laws/State.lean ====
section
/-! SUPPORT.  One lemma per field per update of the state, so that no proof unfolds a record update. -/

namespace Sys2Proof.Machine
open Sys2Proof

@[simp] theorem State.onDev_dev (s : State) (f : DevState → DevState) : (s.onDev f).dev = f s.dev := rfl
@[simp] theorem State.onDev_obj (s : State) (f : DevState → DevState) : (s.onDev f).obj = s.obj := rfl
@[simp] theorem State.onDev_mbox (s : State) (f : DevState → DevState) : (s.onDev f).mbox = s.mbox := rfl
@[simp] theorem State.onDev_host (s : State) (f : DevState → DevState) : (s.onDev f).host = s.host := rfl
@[simp] theorem State.onDev_time (s : State) (f : DevState → DevState) : (s.onDev f).time = s.time := rfl
@[simp] theorem State.onDev_refs (s : State) (f : DevState → DevState) : (s.onDev f).refs = s.refs := rfl
@[simp] theorem State.onDev_streams (s : State) (f : DevState → DevState) : (s.onDev f).streams = s.streams := rfl
@[simp] theorem State.onDev_manifests (s : State) (f : DevState → DevState) : (s.onDev f).manifests = s.manifests := rfl
@[simp] theorem State.onDev_basin (s : State) (f : DevState → DevState) : (s.onDev f).basin = s.basin := rfl
@[simp] theorem State.onDev_wharf (s : State) (f : DevState → DevState) : (s.onDev f).wharf = s.wharf := rfl
@[simp] theorem State.onDev_meas (s : State) (f : DevState → DevState) : (s.onDev f).meas = s.meas := rfl
@[simp] theorem State.onDev_audio (s : State) (f : DevState → DevState) : (s.onDev f).audio = s.audio := rfl
@[simp] theorem State.onDev_heads (s : State) (f : DevState → DevState) : (s.onDev f).heads = s.heads := rfl
@[simp] theorem State.onDev_tow (s : State) (f : DevState → DevState) : (s.onDev f).tow = s.tow := rfl
@[simp] theorem State.onDev_twin (s : State) (f : DevState → DevState) : (s.onDev f).twin = s.twin := rfl
@[simp] theorem State.onDev_clocks (s : State) (f : DevState → DevState) : (s.onDev f).clocks = s.clocks := rfl
@[simp] theorem State.onDev_start (s : State) (f : DevState → DevState) : (s.onDev f).start = s.start := rfl
@[simp] theorem State.onDev_journal (s : State) (f : DevState → DevState) : (s.onDev f).journal = s.journal := rfl
@[simp] theorem State.onDev_log (s : State) (f : DevState → DevState) : (s.onDev f).log = s.log := rfl
@[simp] theorem State.onDev_faults (s : State) (f : DevState → DevState) : (s.onDev f).faults = s.faults := rfl
@[simp] theorem State.onDev_keys (s : State) (f : DevState → DevState) : (s.onDev f).keys = s.keys := rfl
@[simp] theorem State.onDev_fw (s : State) (f : DevState → DevState) : (s.onDev f).fw = s.fw := rfl
@[simp] theorem State.onDev_pins (s : State) (f : DevState → DevState) : (s.onDev f).pins = s.pins := rfl
@[simp] theorem State.onDev_hdm (s : State) (f : DevState → DevState) : (s.onDev f).hdm = s.hdm := rfl
@[simp] theorem State.onDev_freeCtr (s : State) (f : DevState → DevState) : (s.onDev f).freeCtr = s.freeCtr := rfl
@[simp] theorem State.onDev_pending (s : State) (f : DevState → DevState) : (s.onDev f).pending = s.pending := rfl

@[simp] theorem State.onObj_dev (s : State) (f : Objects → Objects) : (s.onObj f).dev = s.dev := rfl
@[simp] theorem State.onObj_obj (s : State) (f : Objects → Objects) : (s.onObj f).obj = f s.obj := rfl
@[simp] theorem State.onObj_mbox (s : State) (f : Objects → Objects) : (s.onObj f).mbox = s.mbox := rfl
@[simp] theorem State.onObj_host (s : State) (f : Objects → Objects) : (s.onObj f).host = s.host := rfl
@[simp] theorem State.onObj_time (s : State) (f : Objects → Objects) : (s.onObj f).time = s.time := rfl
@[simp] theorem State.onObj_refs (s : State) (f : Objects → Objects) : (s.onObj f).refs = s.refs := rfl
@[simp] theorem State.onObj_streams (s : State) (f : Objects → Objects) : (s.onObj f).streams = s.streams := rfl
@[simp] theorem State.onObj_manifests (s : State) (f : Objects → Objects) : (s.onObj f).manifests = s.manifests := rfl
@[simp] theorem State.onObj_basin (s : State) (f : Objects → Objects) : (s.onObj f).basin = s.basin := rfl
@[simp] theorem State.onObj_wharf (s : State) (f : Objects → Objects) : (s.onObj f).wharf = s.wharf := rfl
@[simp] theorem State.onObj_meas (s : State) (f : Objects → Objects) : (s.onObj f).meas = s.meas := rfl
@[simp] theorem State.onObj_audio (s : State) (f : Objects → Objects) : (s.onObj f).audio = s.audio := rfl
@[simp] theorem State.onObj_heads (s : State) (f : Objects → Objects) : (s.onObj f).heads = s.heads := rfl
@[simp] theorem State.onObj_tow (s : State) (f : Objects → Objects) : (s.onObj f).tow = s.tow := rfl
@[simp] theorem State.onObj_twin (s : State) (f : Objects → Objects) : (s.onObj f).twin = s.twin := rfl
@[simp] theorem State.onObj_clocks (s : State) (f : Objects → Objects) : (s.onObj f).clocks = s.clocks := rfl
@[simp] theorem State.onObj_start (s : State) (f : Objects → Objects) : (s.onObj f).start = s.start := rfl
@[simp] theorem State.onObj_journal (s : State) (f : Objects → Objects) : (s.onObj f).journal = s.journal := rfl
@[simp] theorem State.onObj_log (s : State) (f : Objects → Objects) : (s.onObj f).log = s.log := rfl
@[simp] theorem State.onObj_faults (s : State) (f : Objects → Objects) : (s.onObj f).faults = s.faults := rfl
@[simp] theorem State.onObj_keys (s : State) (f : Objects → Objects) : (s.onObj f).keys = s.keys := rfl
@[simp] theorem State.onObj_fw (s : State) (f : Objects → Objects) : (s.onObj f).fw = s.fw := rfl
@[simp] theorem State.onObj_pins (s : State) (f : Objects → Objects) : (s.onObj f).pins = s.pins := rfl
@[simp] theorem State.onObj_hdm (s : State) (f : Objects → Objects) : (s.onObj f).hdm = s.hdm := rfl
@[simp] theorem State.onObj_freeCtr (s : State) (f : Objects → Objects) : (s.onObj f).freeCtr = s.freeCtr := rfl
@[simp] theorem State.onObj_pending (s : State) (f : Objects → Objects) : (s.onObj f).pending = s.pending := rfl

@[simp] theorem State.onMbox_dev (s : State) (f : Mbox → Mbox) : (s.onMbox f).dev = s.dev := rfl
@[simp] theorem State.onMbox_obj (s : State) (f : Mbox → Mbox) : (s.onMbox f).obj = s.obj := rfl
@[simp] theorem State.onMbox_mbox (s : State) (f : Mbox → Mbox) : (s.onMbox f).mbox = f s.mbox := rfl
@[simp] theorem State.onMbox_host (s : State) (f : Mbox → Mbox) : (s.onMbox f).host = s.host := rfl
@[simp] theorem State.onMbox_time (s : State) (f : Mbox → Mbox) : (s.onMbox f).time = s.time := rfl
@[simp] theorem State.onMbox_refs (s : State) (f : Mbox → Mbox) : (s.onMbox f).refs = s.refs := rfl
@[simp] theorem State.onMbox_streams (s : State) (f : Mbox → Mbox) : (s.onMbox f).streams = s.streams := rfl
@[simp] theorem State.onMbox_manifests (s : State) (f : Mbox → Mbox) : (s.onMbox f).manifests = s.manifests := rfl
@[simp] theorem State.onMbox_basin (s : State) (f : Mbox → Mbox) : (s.onMbox f).basin = s.basin := rfl
@[simp] theorem State.onMbox_wharf (s : State) (f : Mbox → Mbox) : (s.onMbox f).wharf = s.wharf := rfl
@[simp] theorem State.onMbox_meas (s : State) (f : Mbox → Mbox) : (s.onMbox f).meas = s.meas := rfl
@[simp] theorem State.onMbox_audio (s : State) (f : Mbox → Mbox) : (s.onMbox f).audio = s.audio := rfl
@[simp] theorem State.onMbox_heads (s : State) (f : Mbox → Mbox) : (s.onMbox f).heads = s.heads := rfl
@[simp] theorem State.onMbox_tow (s : State) (f : Mbox → Mbox) : (s.onMbox f).tow = s.tow := rfl
@[simp] theorem State.onMbox_twin (s : State) (f : Mbox → Mbox) : (s.onMbox f).twin = s.twin := rfl
@[simp] theorem State.onMbox_clocks (s : State) (f : Mbox → Mbox) : (s.onMbox f).clocks = s.clocks := rfl
@[simp] theorem State.onMbox_start (s : State) (f : Mbox → Mbox) : (s.onMbox f).start = s.start := rfl
@[simp] theorem State.onMbox_journal (s : State) (f : Mbox → Mbox) : (s.onMbox f).journal = s.journal := rfl
@[simp] theorem State.onMbox_log (s : State) (f : Mbox → Mbox) : (s.onMbox f).log = s.log := rfl
@[simp] theorem State.onMbox_faults (s : State) (f : Mbox → Mbox) : (s.onMbox f).faults = s.faults := rfl
@[simp] theorem State.onMbox_keys (s : State) (f : Mbox → Mbox) : (s.onMbox f).keys = s.keys := rfl
@[simp] theorem State.onMbox_fw (s : State) (f : Mbox → Mbox) : (s.onMbox f).fw = s.fw := rfl
@[simp] theorem State.onMbox_pins (s : State) (f : Mbox → Mbox) : (s.onMbox f).pins = s.pins := rfl
@[simp] theorem State.onMbox_hdm (s : State) (f : Mbox → Mbox) : (s.onMbox f).hdm = s.hdm := rfl
@[simp] theorem State.onMbox_freeCtr (s : State) (f : Mbox → Mbox) : (s.onMbox f).freeCtr = s.freeCtr := rfl
@[simp] theorem State.onMbox_pending (s : State) (f : Mbox → Mbox) : (s.onMbox f).pending = s.pending := rfl

@[simp] theorem State.onHost_dev (s : State) (f : HostPort → HostPort) : (s.onHost f).dev = s.dev := rfl
@[simp] theorem State.onHost_obj (s : State) (f : HostPort → HostPort) : (s.onHost f).obj = s.obj := rfl
@[simp] theorem State.onHost_mbox (s : State) (f : HostPort → HostPort) : (s.onHost f).mbox = s.mbox := rfl
@[simp] theorem State.onHost_host (s : State) (f : HostPort → HostPort) : (s.onHost f).host = f s.host := rfl
@[simp] theorem State.onHost_time (s : State) (f : HostPort → HostPort) : (s.onHost f).time = s.time := rfl
@[simp] theorem State.onHost_refs (s : State) (f : HostPort → HostPort) : (s.onHost f).refs = s.refs := rfl
@[simp] theorem State.onHost_streams (s : State) (f : HostPort → HostPort) : (s.onHost f).streams = s.streams := rfl
@[simp] theorem State.onHost_manifests (s : State) (f : HostPort → HostPort) : (s.onHost f).manifests = s.manifests := rfl
@[simp] theorem State.onHost_basin (s : State) (f : HostPort → HostPort) : (s.onHost f).basin = s.basin := rfl
@[simp] theorem State.onHost_wharf (s : State) (f : HostPort → HostPort) : (s.onHost f).wharf = s.wharf := rfl
@[simp] theorem State.onHost_meas (s : State) (f : HostPort → HostPort) : (s.onHost f).meas = s.meas := rfl
@[simp] theorem State.onHost_audio (s : State) (f : HostPort → HostPort) : (s.onHost f).audio = s.audio := rfl
@[simp] theorem State.onHost_heads (s : State) (f : HostPort → HostPort) : (s.onHost f).heads = s.heads := rfl
@[simp] theorem State.onHost_tow (s : State) (f : HostPort → HostPort) : (s.onHost f).tow = s.tow := rfl
@[simp] theorem State.onHost_twin (s : State) (f : HostPort → HostPort) : (s.onHost f).twin = s.twin := rfl
@[simp] theorem State.onHost_clocks (s : State) (f : HostPort → HostPort) : (s.onHost f).clocks = s.clocks := rfl
@[simp] theorem State.onHost_start (s : State) (f : HostPort → HostPort) : (s.onHost f).start = s.start := rfl
@[simp] theorem State.onHost_journal (s : State) (f : HostPort → HostPort) : (s.onHost f).journal = s.journal := rfl
@[simp] theorem State.onHost_log (s : State) (f : HostPort → HostPort) : (s.onHost f).log = s.log := rfl
@[simp] theorem State.onHost_faults (s : State) (f : HostPort → HostPort) : (s.onHost f).faults = s.faults := rfl
@[simp] theorem State.onHost_keys (s : State) (f : HostPort → HostPort) : (s.onHost f).keys = s.keys := rfl
@[simp] theorem State.onHost_fw (s : State) (f : HostPort → HostPort) : (s.onHost f).fw = s.fw := rfl
@[simp] theorem State.onHost_pins (s : State) (f : HostPort → HostPort) : (s.onHost f).pins = s.pins := rfl
@[simp] theorem State.onHost_hdm (s : State) (f : HostPort → HostPort) : (s.onHost f).hdm = s.hdm := rfl
@[simp] theorem State.onHost_freeCtr (s : State) (f : HostPort → HostPort) : (s.onHost f).freeCtr = s.freeCtr := rfl
@[simp] theorem State.onHost_pending (s : State) (f : HostPort → HostPort) : (s.onHost f).pending = s.pending := rfl

@[simp] theorem State.onTime_dev (s : State) (f : TimeRt → TimeRt) : (s.onTime f).dev = s.dev := rfl
@[simp] theorem State.onTime_obj (s : State) (f : TimeRt → TimeRt) : (s.onTime f).obj = s.obj := rfl
@[simp] theorem State.onTime_mbox (s : State) (f : TimeRt → TimeRt) : (s.onTime f).mbox = s.mbox := rfl
@[simp] theorem State.onTime_host (s : State) (f : TimeRt → TimeRt) : (s.onTime f).host = s.host := rfl
@[simp] theorem State.onTime_time (s : State) (f : TimeRt → TimeRt) : (s.onTime f).time = f s.time := rfl
@[simp] theorem State.onTime_refs (s : State) (f : TimeRt → TimeRt) : (s.onTime f).refs = s.refs := rfl
@[simp] theorem State.onTime_streams (s : State) (f : TimeRt → TimeRt) : (s.onTime f).streams = s.streams := rfl
@[simp] theorem State.onTime_manifests (s : State) (f : TimeRt → TimeRt) : (s.onTime f).manifests = s.manifests := rfl
@[simp] theorem State.onTime_basin (s : State) (f : TimeRt → TimeRt) : (s.onTime f).basin = s.basin := rfl
@[simp] theorem State.onTime_wharf (s : State) (f : TimeRt → TimeRt) : (s.onTime f).wharf = s.wharf := rfl
@[simp] theorem State.onTime_meas (s : State) (f : TimeRt → TimeRt) : (s.onTime f).meas = s.meas := rfl
@[simp] theorem State.onTime_audio (s : State) (f : TimeRt → TimeRt) : (s.onTime f).audio = s.audio := rfl
@[simp] theorem State.onTime_heads (s : State) (f : TimeRt → TimeRt) : (s.onTime f).heads = s.heads := rfl
@[simp] theorem State.onTime_tow (s : State) (f : TimeRt → TimeRt) : (s.onTime f).tow = s.tow := rfl
@[simp] theorem State.onTime_twin (s : State) (f : TimeRt → TimeRt) : (s.onTime f).twin = s.twin := rfl
@[simp] theorem State.onTime_clocks (s : State) (f : TimeRt → TimeRt) : (s.onTime f).clocks = s.clocks := rfl
@[simp] theorem State.onTime_start (s : State) (f : TimeRt → TimeRt) : (s.onTime f).start = s.start := rfl
@[simp] theorem State.onTime_journal (s : State) (f : TimeRt → TimeRt) : (s.onTime f).journal = s.journal := rfl
@[simp] theorem State.onTime_log (s : State) (f : TimeRt → TimeRt) : (s.onTime f).log = s.log := rfl
@[simp] theorem State.onTime_faults (s : State) (f : TimeRt → TimeRt) : (s.onTime f).faults = s.faults := rfl
@[simp] theorem State.onTime_keys (s : State) (f : TimeRt → TimeRt) : (s.onTime f).keys = s.keys := rfl
@[simp] theorem State.onTime_fw (s : State) (f : TimeRt → TimeRt) : (s.onTime f).fw = s.fw := rfl
@[simp] theorem State.onTime_pins (s : State) (f : TimeRt → TimeRt) : (s.onTime f).pins = s.pins := rfl
@[simp] theorem State.onTime_hdm (s : State) (f : TimeRt → TimeRt) : (s.onTime f).hdm = s.hdm := rfl
@[simp] theorem State.onTime_freeCtr (s : State) (f : TimeRt → TimeRt) : (s.onTime f).freeCtr = s.freeCtr := rfl
@[simp] theorem State.onTime_pending (s : State) (f : TimeRt → TimeRt) : (s.onTime f).pending = s.pending := rfl

@[simp] theorem State.onRefs_dev (s : State) (f : RefsRt → RefsRt) : (s.onRefs f).dev = s.dev := rfl
@[simp] theorem State.onRefs_obj (s : State) (f : RefsRt → RefsRt) : (s.onRefs f).obj = s.obj := rfl
@[simp] theorem State.onRefs_mbox (s : State) (f : RefsRt → RefsRt) : (s.onRefs f).mbox = s.mbox := rfl
@[simp] theorem State.onRefs_host (s : State) (f : RefsRt → RefsRt) : (s.onRefs f).host = s.host := rfl
@[simp] theorem State.onRefs_time (s : State) (f : RefsRt → RefsRt) : (s.onRefs f).time = s.time := rfl
@[simp] theorem State.onRefs_refs (s : State) (f : RefsRt → RefsRt) : (s.onRefs f).refs = f s.refs := rfl
@[simp] theorem State.onRefs_streams (s : State) (f : RefsRt → RefsRt) : (s.onRefs f).streams = s.streams := rfl
@[simp] theorem State.onRefs_manifests (s : State) (f : RefsRt → RefsRt) : (s.onRefs f).manifests = s.manifests := rfl
@[simp] theorem State.onRefs_basin (s : State) (f : RefsRt → RefsRt) : (s.onRefs f).basin = s.basin := rfl
@[simp] theorem State.onRefs_wharf (s : State) (f : RefsRt → RefsRt) : (s.onRefs f).wharf = s.wharf := rfl
@[simp] theorem State.onRefs_meas (s : State) (f : RefsRt → RefsRt) : (s.onRefs f).meas = s.meas := rfl
@[simp] theorem State.onRefs_audio (s : State) (f : RefsRt → RefsRt) : (s.onRefs f).audio = s.audio := rfl
@[simp] theorem State.onRefs_heads (s : State) (f : RefsRt → RefsRt) : (s.onRefs f).heads = s.heads := rfl
@[simp] theorem State.onRefs_tow (s : State) (f : RefsRt → RefsRt) : (s.onRefs f).tow = s.tow := rfl
@[simp] theorem State.onRefs_twin (s : State) (f : RefsRt → RefsRt) : (s.onRefs f).twin = s.twin := rfl
@[simp] theorem State.onRefs_clocks (s : State) (f : RefsRt → RefsRt) : (s.onRefs f).clocks = s.clocks := rfl
@[simp] theorem State.onRefs_start (s : State) (f : RefsRt → RefsRt) : (s.onRefs f).start = s.start := rfl
@[simp] theorem State.onRefs_journal (s : State) (f : RefsRt → RefsRt) : (s.onRefs f).journal = s.journal := rfl
@[simp] theorem State.onRefs_log (s : State) (f : RefsRt → RefsRt) : (s.onRefs f).log = s.log := rfl
@[simp] theorem State.onRefs_faults (s : State) (f : RefsRt → RefsRt) : (s.onRefs f).faults = s.faults := rfl
@[simp] theorem State.onRefs_keys (s : State) (f : RefsRt → RefsRt) : (s.onRefs f).keys = s.keys := rfl
@[simp] theorem State.onRefs_fw (s : State) (f : RefsRt → RefsRt) : (s.onRefs f).fw = s.fw := rfl
@[simp] theorem State.onRefs_pins (s : State) (f : RefsRt → RefsRt) : (s.onRefs f).pins = s.pins := rfl
@[simp] theorem State.onRefs_hdm (s : State) (f : RefsRt → RefsRt) : (s.onRefs f).hdm = s.hdm := rfl
@[simp] theorem State.onRefs_freeCtr (s : State) (f : RefsRt → RefsRt) : (s.onRefs f).freeCtr = s.freeCtr := rfl
@[simp] theorem State.onRefs_pending (s : State) (f : RefsRt → RefsRt) : (s.onRefs f).pending = s.pending := rfl

@[simp] theorem State.onStreams_dev (s : State) (f : List (Nat × StreamRt) → List (Nat × StreamRt)) : (s.onStreams f).dev = s.dev := rfl
@[simp] theorem State.onStreams_obj (s : State) (f : List (Nat × StreamRt) → List (Nat × StreamRt)) : (s.onStreams f).obj = s.obj := rfl
@[simp] theorem State.onStreams_mbox (s : State) (f : List (Nat × StreamRt) → List (Nat × StreamRt)) : (s.onStreams f).mbox = s.mbox := rfl
@[simp] theorem State.onStreams_host (s : State) (f : List (Nat × StreamRt) → List (Nat × StreamRt)) : (s.onStreams f).host = s.host := rfl
@[simp] theorem State.onStreams_time (s : State) (f : List (Nat × StreamRt) → List (Nat × StreamRt)) : (s.onStreams f).time = s.time := rfl
@[simp] theorem State.onStreams_refs (s : State) (f : List (Nat × StreamRt) → List (Nat × StreamRt)) : (s.onStreams f).refs = s.refs := rfl
@[simp] theorem State.onStreams_streams (s : State) (f : List (Nat × StreamRt) → List (Nat × StreamRt)) : (s.onStreams f).streams = f s.streams := rfl
@[simp] theorem State.onStreams_manifests (s : State) (f : List (Nat × StreamRt) → List (Nat × StreamRt)) : (s.onStreams f).manifests = s.manifests := rfl
@[simp] theorem State.onStreams_basin (s : State) (f : List (Nat × StreamRt) → List (Nat × StreamRt)) : (s.onStreams f).basin = s.basin := rfl
@[simp] theorem State.onStreams_wharf (s : State) (f : List (Nat × StreamRt) → List (Nat × StreamRt)) : (s.onStreams f).wharf = s.wharf := rfl
@[simp] theorem State.onStreams_meas (s : State) (f : List (Nat × StreamRt) → List (Nat × StreamRt)) : (s.onStreams f).meas = s.meas := rfl
@[simp] theorem State.onStreams_audio (s : State) (f : List (Nat × StreamRt) → List (Nat × StreamRt)) : (s.onStreams f).audio = s.audio := rfl
@[simp] theorem State.onStreams_heads (s : State) (f : List (Nat × StreamRt) → List (Nat × StreamRt)) : (s.onStreams f).heads = s.heads := rfl
@[simp] theorem State.onStreams_tow (s : State) (f : List (Nat × StreamRt) → List (Nat × StreamRt)) : (s.onStreams f).tow = s.tow := rfl
@[simp] theorem State.onStreams_twin (s : State) (f : List (Nat × StreamRt) → List (Nat × StreamRt)) : (s.onStreams f).twin = s.twin := rfl
@[simp] theorem State.onStreams_clocks (s : State) (f : List (Nat × StreamRt) → List (Nat × StreamRt)) : (s.onStreams f).clocks = s.clocks := rfl
@[simp] theorem State.onStreams_start (s : State) (f : List (Nat × StreamRt) → List (Nat × StreamRt)) : (s.onStreams f).start = s.start := rfl
@[simp] theorem State.onStreams_journal (s : State) (f : List (Nat × StreamRt) → List (Nat × StreamRt)) : (s.onStreams f).journal = s.journal := rfl
@[simp] theorem State.onStreams_log (s : State) (f : List (Nat × StreamRt) → List (Nat × StreamRt)) : (s.onStreams f).log = s.log := rfl
@[simp] theorem State.onStreams_faults (s : State) (f : List (Nat × StreamRt) → List (Nat × StreamRt)) : (s.onStreams f).faults = s.faults := rfl
@[simp] theorem State.onStreams_keys (s : State) (f : List (Nat × StreamRt) → List (Nat × StreamRt)) : (s.onStreams f).keys = s.keys := rfl
@[simp] theorem State.onStreams_fw (s : State) (f : List (Nat × StreamRt) → List (Nat × StreamRt)) : (s.onStreams f).fw = s.fw := rfl
@[simp] theorem State.onStreams_pins (s : State) (f : List (Nat × StreamRt) → List (Nat × StreamRt)) : (s.onStreams f).pins = s.pins := rfl
@[simp] theorem State.onStreams_hdm (s : State) (f : List (Nat × StreamRt) → List (Nat × StreamRt)) : (s.onStreams f).hdm = s.hdm := rfl
@[simp] theorem State.onStreams_freeCtr (s : State) (f : List (Nat × StreamRt) → List (Nat × StreamRt)) : (s.onStreams f).freeCtr = s.freeCtr := rfl
@[simp] theorem State.onStreams_pending (s : State) (f : List (Nat × StreamRt) → List (Nat × StreamRt)) : (s.onStreams f).pending = s.pending := rfl

@[simp] theorem State.onManifests_dev (s : State) (f : List (Nat × ManifestRt) → List (Nat × ManifestRt)) : (s.onManifests f).dev = s.dev := rfl
@[simp] theorem State.onManifests_obj (s : State) (f : List (Nat × ManifestRt) → List (Nat × ManifestRt)) : (s.onManifests f).obj = s.obj := rfl
@[simp] theorem State.onManifests_mbox (s : State) (f : List (Nat × ManifestRt) → List (Nat × ManifestRt)) : (s.onManifests f).mbox = s.mbox := rfl
@[simp] theorem State.onManifests_host (s : State) (f : List (Nat × ManifestRt) → List (Nat × ManifestRt)) : (s.onManifests f).host = s.host := rfl
@[simp] theorem State.onManifests_time (s : State) (f : List (Nat × ManifestRt) → List (Nat × ManifestRt)) : (s.onManifests f).time = s.time := rfl
@[simp] theorem State.onManifests_refs (s : State) (f : List (Nat × ManifestRt) → List (Nat × ManifestRt)) : (s.onManifests f).refs = s.refs := rfl
@[simp] theorem State.onManifests_streams (s : State) (f : List (Nat × ManifestRt) → List (Nat × ManifestRt)) : (s.onManifests f).streams = s.streams := rfl
@[simp] theorem State.onManifests_manifests (s : State) (f : List (Nat × ManifestRt) → List (Nat × ManifestRt)) : (s.onManifests f).manifests = f s.manifests := rfl
@[simp] theorem State.onManifests_basin (s : State) (f : List (Nat × ManifestRt) → List (Nat × ManifestRt)) : (s.onManifests f).basin = s.basin := rfl
@[simp] theorem State.onManifests_wharf (s : State) (f : List (Nat × ManifestRt) → List (Nat × ManifestRt)) : (s.onManifests f).wharf = s.wharf := rfl
@[simp] theorem State.onManifests_meas (s : State) (f : List (Nat × ManifestRt) → List (Nat × ManifestRt)) : (s.onManifests f).meas = s.meas := rfl
@[simp] theorem State.onManifests_audio (s : State) (f : List (Nat × ManifestRt) → List (Nat × ManifestRt)) : (s.onManifests f).audio = s.audio := rfl
@[simp] theorem State.onManifests_heads (s : State) (f : List (Nat × ManifestRt) → List (Nat × ManifestRt)) : (s.onManifests f).heads = s.heads := rfl
@[simp] theorem State.onManifests_tow (s : State) (f : List (Nat × ManifestRt) → List (Nat × ManifestRt)) : (s.onManifests f).tow = s.tow := rfl
@[simp] theorem State.onManifests_twin (s : State) (f : List (Nat × ManifestRt) → List (Nat × ManifestRt)) : (s.onManifests f).twin = s.twin := rfl
@[simp] theorem State.onManifests_clocks (s : State) (f : List (Nat × ManifestRt) → List (Nat × ManifestRt)) : (s.onManifests f).clocks = s.clocks := rfl
@[simp] theorem State.onManifests_start (s : State) (f : List (Nat × ManifestRt) → List (Nat × ManifestRt)) : (s.onManifests f).start = s.start := rfl
@[simp] theorem State.onManifests_journal (s : State) (f : List (Nat × ManifestRt) → List (Nat × ManifestRt)) : (s.onManifests f).journal = s.journal := rfl
@[simp] theorem State.onManifests_log (s : State) (f : List (Nat × ManifestRt) → List (Nat × ManifestRt)) : (s.onManifests f).log = s.log := rfl
@[simp] theorem State.onManifests_faults (s : State) (f : List (Nat × ManifestRt) → List (Nat × ManifestRt)) : (s.onManifests f).faults = s.faults := rfl
@[simp] theorem State.onManifests_keys (s : State) (f : List (Nat × ManifestRt) → List (Nat × ManifestRt)) : (s.onManifests f).keys = s.keys := rfl
@[simp] theorem State.onManifests_fw (s : State) (f : List (Nat × ManifestRt) → List (Nat × ManifestRt)) : (s.onManifests f).fw = s.fw := rfl
@[simp] theorem State.onManifests_pins (s : State) (f : List (Nat × ManifestRt) → List (Nat × ManifestRt)) : (s.onManifests f).pins = s.pins := rfl
@[simp] theorem State.onManifests_hdm (s : State) (f : List (Nat × ManifestRt) → List (Nat × ManifestRt)) : (s.onManifests f).hdm = s.hdm := rfl
@[simp] theorem State.onManifests_freeCtr (s : State) (f : List (Nat × ManifestRt) → List (Nat × ManifestRt)) : (s.onManifests f).freeCtr = s.freeCtr := rfl
@[simp] theorem State.onManifests_pending (s : State) (f : List (Nat × ManifestRt) → List (Nat × ManifestRt)) : (s.onManifests f).pending = s.pending := rfl

@[simp] theorem State.onBasin_dev (s : State) (f : BasinRt → BasinRt) : (s.onBasin f).dev = s.dev := rfl
@[simp] theorem State.onBasin_obj (s : State) (f : BasinRt → BasinRt) : (s.onBasin f).obj = s.obj := rfl
@[simp] theorem State.onBasin_mbox (s : State) (f : BasinRt → BasinRt) : (s.onBasin f).mbox = s.mbox := rfl
@[simp] theorem State.onBasin_host (s : State) (f : BasinRt → BasinRt) : (s.onBasin f).host = s.host := rfl
@[simp] theorem State.onBasin_time (s : State) (f : BasinRt → BasinRt) : (s.onBasin f).time = s.time := rfl
@[simp] theorem State.onBasin_refs (s : State) (f : BasinRt → BasinRt) : (s.onBasin f).refs = s.refs := rfl
@[simp] theorem State.onBasin_streams (s : State) (f : BasinRt → BasinRt) : (s.onBasin f).streams = s.streams := rfl
@[simp] theorem State.onBasin_manifests (s : State) (f : BasinRt → BasinRt) : (s.onBasin f).manifests = s.manifests := rfl
@[simp] theorem State.onBasin_basin (s : State) (f : BasinRt → BasinRt) : (s.onBasin f).basin = f s.basin := rfl
@[simp] theorem State.onBasin_wharf (s : State) (f : BasinRt → BasinRt) : (s.onBasin f).wharf = s.wharf := rfl
@[simp] theorem State.onBasin_meas (s : State) (f : BasinRt → BasinRt) : (s.onBasin f).meas = s.meas := rfl
@[simp] theorem State.onBasin_audio (s : State) (f : BasinRt → BasinRt) : (s.onBasin f).audio = s.audio := rfl
@[simp] theorem State.onBasin_heads (s : State) (f : BasinRt → BasinRt) : (s.onBasin f).heads = s.heads := rfl
@[simp] theorem State.onBasin_tow (s : State) (f : BasinRt → BasinRt) : (s.onBasin f).tow = s.tow := rfl
@[simp] theorem State.onBasin_twin (s : State) (f : BasinRt → BasinRt) : (s.onBasin f).twin = s.twin := rfl
@[simp] theorem State.onBasin_clocks (s : State) (f : BasinRt → BasinRt) : (s.onBasin f).clocks = s.clocks := rfl
@[simp] theorem State.onBasin_start (s : State) (f : BasinRt → BasinRt) : (s.onBasin f).start = s.start := rfl
@[simp] theorem State.onBasin_journal (s : State) (f : BasinRt → BasinRt) : (s.onBasin f).journal = s.journal := rfl
@[simp] theorem State.onBasin_log (s : State) (f : BasinRt → BasinRt) : (s.onBasin f).log = s.log := rfl
@[simp] theorem State.onBasin_faults (s : State) (f : BasinRt → BasinRt) : (s.onBasin f).faults = s.faults := rfl
@[simp] theorem State.onBasin_keys (s : State) (f : BasinRt → BasinRt) : (s.onBasin f).keys = s.keys := rfl
@[simp] theorem State.onBasin_fw (s : State) (f : BasinRt → BasinRt) : (s.onBasin f).fw = s.fw := rfl
@[simp] theorem State.onBasin_pins (s : State) (f : BasinRt → BasinRt) : (s.onBasin f).pins = s.pins := rfl
@[simp] theorem State.onBasin_hdm (s : State) (f : BasinRt → BasinRt) : (s.onBasin f).hdm = s.hdm := rfl
@[simp] theorem State.onBasin_freeCtr (s : State) (f : BasinRt → BasinRt) : (s.onBasin f).freeCtr = s.freeCtr := rfl
@[simp] theorem State.onBasin_pending (s : State) (f : BasinRt → BasinRt) : (s.onBasin f).pending = s.pending := rfl

@[simp] theorem State.onWharf_dev (s : State) (f : WharfRt → WharfRt) : (s.onWharf f).dev = s.dev := rfl
@[simp] theorem State.onWharf_obj (s : State) (f : WharfRt → WharfRt) : (s.onWharf f).obj = s.obj := rfl
@[simp] theorem State.onWharf_mbox (s : State) (f : WharfRt → WharfRt) : (s.onWharf f).mbox = s.mbox := rfl
@[simp] theorem State.onWharf_host (s : State) (f : WharfRt → WharfRt) : (s.onWharf f).host = s.host := rfl
@[simp] theorem State.onWharf_time (s : State) (f : WharfRt → WharfRt) : (s.onWharf f).time = s.time := rfl
@[simp] theorem State.onWharf_refs (s : State) (f : WharfRt → WharfRt) : (s.onWharf f).refs = s.refs := rfl
@[simp] theorem State.onWharf_streams (s : State) (f : WharfRt → WharfRt) : (s.onWharf f).streams = s.streams := rfl
@[simp] theorem State.onWharf_manifests (s : State) (f : WharfRt → WharfRt) : (s.onWharf f).manifests = s.manifests := rfl
@[simp] theorem State.onWharf_basin (s : State) (f : WharfRt → WharfRt) : (s.onWharf f).basin = s.basin := rfl
@[simp] theorem State.onWharf_wharf (s : State) (f : WharfRt → WharfRt) : (s.onWharf f).wharf = f s.wharf := rfl
@[simp] theorem State.onWharf_meas (s : State) (f : WharfRt → WharfRt) : (s.onWharf f).meas = s.meas := rfl
@[simp] theorem State.onWharf_audio (s : State) (f : WharfRt → WharfRt) : (s.onWharf f).audio = s.audio := rfl
@[simp] theorem State.onWharf_heads (s : State) (f : WharfRt → WharfRt) : (s.onWharf f).heads = s.heads := rfl
@[simp] theorem State.onWharf_tow (s : State) (f : WharfRt → WharfRt) : (s.onWharf f).tow = s.tow := rfl
@[simp] theorem State.onWharf_twin (s : State) (f : WharfRt → WharfRt) : (s.onWharf f).twin = s.twin := rfl
@[simp] theorem State.onWharf_clocks (s : State) (f : WharfRt → WharfRt) : (s.onWharf f).clocks = s.clocks := rfl
@[simp] theorem State.onWharf_start (s : State) (f : WharfRt → WharfRt) : (s.onWharf f).start = s.start := rfl
@[simp] theorem State.onWharf_journal (s : State) (f : WharfRt → WharfRt) : (s.onWharf f).journal = s.journal := rfl
@[simp] theorem State.onWharf_log (s : State) (f : WharfRt → WharfRt) : (s.onWharf f).log = s.log := rfl
@[simp] theorem State.onWharf_faults (s : State) (f : WharfRt → WharfRt) : (s.onWharf f).faults = s.faults := rfl
@[simp] theorem State.onWharf_keys (s : State) (f : WharfRt → WharfRt) : (s.onWharf f).keys = s.keys := rfl
@[simp] theorem State.onWharf_fw (s : State) (f : WharfRt → WharfRt) : (s.onWharf f).fw = s.fw := rfl
@[simp] theorem State.onWharf_pins (s : State) (f : WharfRt → WharfRt) : (s.onWharf f).pins = s.pins := rfl
@[simp] theorem State.onWharf_hdm (s : State) (f : WharfRt → WharfRt) : (s.onWharf f).hdm = s.hdm := rfl
@[simp] theorem State.onWharf_freeCtr (s : State) (f : WharfRt → WharfRt) : (s.onWharf f).freeCtr = s.freeCtr := rfl
@[simp] theorem State.onWharf_pending (s : State) (f : WharfRt → WharfRt) : (s.onWharf f).pending = s.pending := rfl

@[simp] theorem State.onMeas_dev (s : State) (f : MeasRt → MeasRt) : (s.onMeas f).dev = s.dev := rfl
@[simp] theorem State.onMeas_obj (s : State) (f : MeasRt → MeasRt) : (s.onMeas f).obj = s.obj := rfl
@[simp] theorem State.onMeas_mbox (s : State) (f : MeasRt → MeasRt) : (s.onMeas f).mbox = s.mbox := rfl
@[simp] theorem State.onMeas_host (s : State) (f : MeasRt → MeasRt) : (s.onMeas f).host = s.host := rfl
@[simp] theorem State.onMeas_time (s : State) (f : MeasRt → MeasRt) : (s.onMeas f).time = s.time := rfl
@[simp] theorem State.onMeas_refs (s : State) (f : MeasRt → MeasRt) : (s.onMeas f).refs = s.refs := rfl
@[simp] theorem State.onMeas_streams (s : State) (f : MeasRt → MeasRt) : (s.onMeas f).streams = s.streams := rfl
@[simp] theorem State.onMeas_manifests (s : State) (f : MeasRt → MeasRt) : (s.onMeas f).manifests = s.manifests := rfl
@[simp] theorem State.onMeas_basin (s : State) (f : MeasRt → MeasRt) : (s.onMeas f).basin = s.basin := rfl
@[simp] theorem State.onMeas_wharf (s : State) (f : MeasRt → MeasRt) : (s.onMeas f).wharf = s.wharf := rfl
@[simp] theorem State.onMeas_meas (s : State) (f : MeasRt → MeasRt) : (s.onMeas f).meas = f s.meas := rfl
@[simp] theorem State.onMeas_audio (s : State) (f : MeasRt → MeasRt) : (s.onMeas f).audio = s.audio := rfl
@[simp] theorem State.onMeas_heads (s : State) (f : MeasRt → MeasRt) : (s.onMeas f).heads = s.heads := rfl
@[simp] theorem State.onMeas_tow (s : State) (f : MeasRt → MeasRt) : (s.onMeas f).tow = s.tow := rfl
@[simp] theorem State.onMeas_twin (s : State) (f : MeasRt → MeasRt) : (s.onMeas f).twin = s.twin := rfl
@[simp] theorem State.onMeas_clocks (s : State) (f : MeasRt → MeasRt) : (s.onMeas f).clocks = s.clocks := rfl
@[simp] theorem State.onMeas_start (s : State) (f : MeasRt → MeasRt) : (s.onMeas f).start = s.start := rfl
@[simp] theorem State.onMeas_journal (s : State) (f : MeasRt → MeasRt) : (s.onMeas f).journal = s.journal := rfl
@[simp] theorem State.onMeas_log (s : State) (f : MeasRt → MeasRt) : (s.onMeas f).log = s.log := rfl
@[simp] theorem State.onMeas_faults (s : State) (f : MeasRt → MeasRt) : (s.onMeas f).faults = s.faults := rfl
@[simp] theorem State.onMeas_keys (s : State) (f : MeasRt → MeasRt) : (s.onMeas f).keys = s.keys := rfl
@[simp] theorem State.onMeas_fw (s : State) (f : MeasRt → MeasRt) : (s.onMeas f).fw = s.fw := rfl
@[simp] theorem State.onMeas_pins (s : State) (f : MeasRt → MeasRt) : (s.onMeas f).pins = s.pins := rfl
@[simp] theorem State.onMeas_hdm (s : State) (f : MeasRt → MeasRt) : (s.onMeas f).hdm = s.hdm := rfl
@[simp] theorem State.onMeas_freeCtr (s : State) (f : MeasRt → MeasRt) : (s.onMeas f).freeCtr = s.freeCtr := rfl
@[simp] theorem State.onMeas_pending (s : State) (f : MeasRt → MeasRt) : (s.onMeas f).pending = s.pending := rfl

@[simp] theorem State.onAudio_dev (s : State) (f : AudioRt → AudioRt) : (s.onAudio f).dev = s.dev := rfl
@[simp] theorem State.onAudio_obj (s : State) (f : AudioRt → AudioRt) : (s.onAudio f).obj = s.obj := rfl
@[simp] theorem State.onAudio_mbox (s : State) (f : AudioRt → AudioRt) : (s.onAudio f).mbox = s.mbox := rfl
@[simp] theorem State.onAudio_host (s : State) (f : AudioRt → AudioRt) : (s.onAudio f).host = s.host := rfl
@[simp] theorem State.onAudio_time (s : State) (f : AudioRt → AudioRt) : (s.onAudio f).time = s.time := rfl
@[simp] theorem State.onAudio_refs (s : State) (f : AudioRt → AudioRt) : (s.onAudio f).refs = s.refs := rfl
@[simp] theorem State.onAudio_streams (s : State) (f : AudioRt → AudioRt) : (s.onAudio f).streams = s.streams := rfl
@[simp] theorem State.onAudio_manifests (s : State) (f : AudioRt → AudioRt) : (s.onAudio f).manifests = s.manifests := rfl
@[simp] theorem State.onAudio_basin (s : State) (f : AudioRt → AudioRt) : (s.onAudio f).basin = s.basin := rfl
@[simp] theorem State.onAudio_wharf (s : State) (f : AudioRt → AudioRt) : (s.onAudio f).wharf = s.wharf := rfl
@[simp] theorem State.onAudio_meas (s : State) (f : AudioRt → AudioRt) : (s.onAudio f).meas = s.meas := rfl
@[simp] theorem State.onAudio_audio (s : State) (f : AudioRt → AudioRt) : (s.onAudio f).audio = f s.audio := rfl
@[simp] theorem State.onAudio_heads (s : State) (f : AudioRt → AudioRt) : (s.onAudio f).heads = s.heads := rfl
@[simp] theorem State.onAudio_tow (s : State) (f : AudioRt → AudioRt) : (s.onAudio f).tow = s.tow := rfl
@[simp] theorem State.onAudio_twin (s : State) (f : AudioRt → AudioRt) : (s.onAudio f).twin = s.twin := rfl
@[simp] theorem State.onAudio_clocks (s : State) (f : AudioRt → AudioRt) : (s.onAudio f).clocks = s.clocks := rfl
@[simp] theorem State.onAudio_start (s : State) (f : AudioRt → AudioRt) : (s.onAudio f).start = s.start := rfl
@[simp] theorem State.onAudio_journal (s : State) (f : AudioRt → AudioRt) : (s.onAudio f).journal = s.journal := rfl
@[simp] theorem State.onAudio_log (s : State) (f : AudioRt → AudioRt) : (s.onAudio f).log = s.log := rfl
@[simp] theorem State.onAudio_faults (s : State) (f : AudioRt → AudioRt) : (s.onAudio f).faults = s.faults := rfl
@[simp] theorem State.onAudio_keys (s : State) (f : AudioRt → AudioRt) : (s.onAudio f).keys = s.keys := rfl
@[simp] theorem State.onAudio_fw (s : State) (f : AudioRt → AudioRt) : (s.onAudio f).fw = s.fw := rfl
@[simp] theorem State.onAudio_pins (s : State) (f : AudioRt → AudioRt) : (s.onAudio f).pins = s.pins := rfl
@[simp] theorem State.onAudio_hdm (s : State) (f : AudioRt → AudioRt) : (s.onAudio f).hdm = s.hdm := rfl
@[simp] theorem State.onAudio_freeCtr (s : State) (f : AudioRt → AudioRt) : (s.onAudio f).freeCtr = s.freeCtr := rfl
@[simp] theorem State.onAudio_pending (s : State) (f : AudioRt → AudioRt) : (s.onAudio f).pending = s.pending := rfl

@[simp] theorem State.onHeads_dev (s : State) (f : List (Nat × HeadRt) → List (Nat × HeadRt)) : (s.onHeads f).dev = s.dev := rfl
@[simp] theorem State.onHeads_obj (s : State) (f : List (Nat × HeadRt) → List (Nat × HeadRt)) : (s.onHeads f).obj = s.obj := rfl
@[simp] theorem State.onHeads_mbox (s : State) (f : List (Nat × HeadRt) → List (Nat × HeadRt)) : (s.onHeads f).mbox = s.mbox := rfl
@[simp] theorem State.onHeads_host (s : State) (f : List (Nat × HeadRt) → List (Nat × HeadRt)) : (s.onHeads f).host = s.host := rfl
@[simp] theorem State.onHeads_time (s : State) (f : List (Nat × HeadRt) → List (Nat × HeadRt)) : (s.onHeads f).time = s.time := rfl
@[simp] theorem State.onHeads_refs (s : State) (f : List (Nat × HeadRt) → List (Nat × HeadRt)) : (s.onHeads f).refs = s.refs := rfl
@[simp] theorem State.onHeads_streams (s : State) (f : List (Nat × HeadRt) → List (Nat × HeadRt)) : (s.onHeads f).streams = s.streams := rfl
@[simp] theorem State.onHeads_manifests (s : State) (f : List (Nat × HeadRt) → List (Nat × HeadRt)) : (s.onHeads f).manifests = s.manifests := rfl
@[simp] theorem State.onHeads_basin (s : State) (f : List (Nat × HeadRt) → List (Nat × HeadRt)) : (s.onHeads f).basin = s.basin := rfl
@[simp] theorem State.onHeads_wharf (s : State) (f : List (Nat × HeadRt) → List (Nat × HeadRt)) : (s.onHeads f).wharf = s.wharf := rfl
@[simp] theorem State.onHeads_meas (s : State) (f : List (Nat × HeadRt) → List (Nat × HeadRt)) : (s.onHeads f).meas = s.meas := rfl
@[simp] theorem State.onHeads_audio (s : State) (f : List (Nat × HeadRt) → List (Nat × HeadRt)) : (s.onHeads f).audio = s.audio := rfl
@[simp] theorem State.onHeads_heads (s : State) (f : List (Nat × HeadRt) → List (Nat × HeadRt)) : (s.onHeads f).heads = f s.heads := rfl
@[simp] theorem State.onHeads_tow (s : State) (f : List (Nat × HeadRt) → List (Nat × HeadRt)) : (s.onHeads f).tow = s.tow := rfl
@[simp] theorem State.onHeads_twin (s : State) (f : List (Nat × HeadRt) → List (Nat × HeadRt)) : (s.onHeads f).twin = s.twin := rfl
@[simp] theorem State.onHeads_clocks (s : State) (f : List (Nat × HeadRt) → List (Nat × HeadRt)) : (s.onHeads f).clocks = s.clocks := rfl
@[simp] theorem State.onHeads_start (s : State) (f : List (Nat × HeadRt) → List (Nat × HeadRt)) : (s.onHeads f).start = s.start := rfl
@[simp] theorem State.onHeads_journal (s : State) (f : List (Nat × HeadRt) → List (Nat × HeadRt)) : (s.onHeads f).journal = s.journal := rfl
@[simp] theorem State.onHeads_log (s : State) (f : List (Nat × HeadRt) → List (Nat × HeadRt)) : (s.onHeads f).log = s.log := rfl
@[simp] theorem State.onHeads_faults (s : State) (f : List (Nat × HeadRt) → List (Nat × HeadRt)) : (s.onHeads f).faults = s.faults := rfl
@[simp] theorem State.onHeads_keys (s : State) (f : List (Nat × HeadRt) → List (Nat × HeadRt)) : (s.onHeads f).keys = s.keys := rfl
@[simp] theorem State.onHeads_fw (s : State) (f : List (Nat × HeadRt) → List (Nat × HeadRt)) : (s.onHeads f).fw = s.fw := rfl
@[simp] theorem State.onHeads_pins (s : State) (f : List (Nat × HeadRt) → List (Nat × HeadRt)) : (s.onHeads f).pins = s.pins := rfl
@[simp] theorem State.onHeads_hdm (s : State) (f : List (Nat × HeadRt) → List (Nat × HeadRt)) : (s.onHeads f).hdm = s.hdm := rfl
@[simp] theorem State.onHeads_freeCtr (s : State) (f : List (Nat × HeadRt) → List (Nat × HeadRt)) : (s.onHeads f).freeCtr = s.freeCtr := rfl
@[simp] theorem State.onHeads_pending (s : State) (f : List (Nat × HeadRt) → List (Nat × HeadRt)) : (s.onHeads f).pending = s.pending := rfl

@[simp] theorem State.onTow_dev (s : State) (f : TowRt → TowRt) : (s.onTow f).dev = s.dev := rfl
@[simp] theorem State.onTow_obj (s : State) (f : TowRt → TowRt) : (s.onTow f).obj = s.obj := rfl
@[simp] theorem State.onTow_mbox (s : State) (f : TowRt → TowRt) : (s.onTow f).mbox = s.mbox := rfl
@[simp] theorem State.onTow_host (s : State) (f : TowRt → TowRt) : (s.onTow f).host = s.host := rfl
@[simp] theorem State.onTow_time (s : State) (f : TowRt → TowRt) : (s.onTow f).time = s.time := rfl
@[simp] theorem State.onTow_refs (s : State) (f : TowRt → TowRt) : (s.onTow f).refs = s.refs := rfl
@[simp] theorem State.onTow_streams (s : State) (f : TowRt → TowRt) : (s.onTow f).streams = s.streams := rfl
@[simp] theorem State.onTow_manifests (s : State) (f : TowRt → TowRt) : (s.onTow f).manifests = s.manifests := rfl
@[simp] theorem State.onTow_basin (s : State) (f : TowRt → TowRt) : (s.onTow f).basin = s.basin := rfl
@[simp] theorem State.onTow_wharf (s : State) (f : TowRt → TowRt) : (s.onTow f).wharf = s.wharf := rfl
@[simp] theorem State.onTow_meas (s : State) (f : TowRt → TowRt) : (s.onTow f).meas = s.meas := rfl
@[simp] theorem State.onTow_audio (s : State) (f : TowRt → TowRt) : (s.onTow f).audio = s.audio := rfl
@[simp] theorem State.onTow_heads (s : State) (f : TowRt → TowRt) : (s.onTow f).heads = s.heads := rfl
@[simp] theorem State.onTow_tow (s : State) (f : TowRt → TowRt) : (s.onTow f).tow = f s.tow := rfl
@[simp] theorem State.onTow_twin (s : State) (f : TowRt → TowRt) : (s.onTow f).twin = s.twin := rfl
@[simp] theorem State.onTow_clocks (s : State) (f : TowRt → TowRt) : (s.onTow f).clocks = s.clocks := rfl
@[simp] theorem State.onTow_start (s : State) (f : TowRt → TowRt) : (s.onTow f).start = s.start := rfl
@[simp] theorem State.onTow_journal (s : State) (f : TowRt → TowRt) : (s.onTow f).journal = s.journal := rfl
@[simp] theorem State.onTow_log (s : State) (f : TowRt → TowRt) : (s.onTow f).log = s.log := rfl
@[simp] theorem State.onTow_faults (s : State) (f : TowRt → TowRt) : (s.onTow f).faults = s.faults := rfl
@[simp] theorem State.onTow_keys (s : State) (f : TowRt → TowRt) : (s.onTow f).keys = s.keys := rfl
@[simp] theorem State.onTow_fw (s : State) (f : TowRt → TowRt) : (s.onTow f).fw = s.fw := rfl
@[simp] theorem State.onTow_pins (s : State) (f : TowRt → TowRt) : (s.onTow f).pins = s.pins := rfl
@[simp] theorem State.onTow_hdm (s : State) (f : TowRt → TowRt) : (s.onTow f).hdm = s.hdm := rfl
@[simp] theorem State.onTow_freeCtr (s : State) (f : TowRt → TowRt) : (s.onTow f).freeCtr = s.freeCtr := rfl
@[simp] theorem State.onTow_pending (s : State) (f : TowRt → TowRt) : (s.onTow f).pending = s.pending := rfl

@[simp] theorem State.onTwin_dev (s : State) (f : TwinRt → TwinRt) : (s.onTwin f).dev = s.dev := rfl
@[simp] theorem State.onTwin_obj (s : State) (f : TwinRt → TwinRt) : (s.onTwin f).obj = s.obj := rfl
@[simp] theorem State.onTwin_mbox (s : State) (f : TwinRt → TwinRt) : (s.onTwin f).mbox = s.mbox := rfl
@[simp] theorem State.onTwin_host (s : State) (f : TwinRt → TwinRt) : (s.onTwin f).host = s.host := rfl
@[simp] theorem State.onTwin_time (s : State) (f : TwinRt → TwinRt) : (s.onTwin f).time = s.time := rfl
@[simp] theorem State.onTwin_refs (s : State) (f : TwinRt → TwinRt) : (s.onTwin f).refs = s.refs := rfl
@[simp] theorem State.onTwin_streams (s : State) (f : TwinRt → TwinRt) : (s.onTwin f).streams = s.streams := rfl
@[simp] theorem State.onTwin_manifests (s : State) (f : TwinRt → TwinRt) : (s.onTwin f).manifests = s.manifests := rfl
@[simp] theorem State.onTwin_basin (s : State) (f : TwinRt → TwinRt) : (s.onTwin f).basin = s.basin := rfl
@[simp] theorem State.onTwin_wharf (s : State) (f : TwinRt → TwinRt) : (s.onTwin f).wharf = s.wharf := rfl
@[simp] theorem State.onTwin_meas (s : State) (f : TwinRt → TwinRt) : (s.onTwin f).meas = s.meas := rfl
@[simp] theorem State.onTwin_audio (s : State) (f : TwinRt → TwinRt) : (s.onTwin f).audio = s.audio := rfl
@[simp] theorem State.onTwin_heads (s : State) (f : TwinRt → TwinRt) : (s.onTwin f).heads = s.heads := rfl
@[simp] theorem State.onTwin_tow (s : State) (f : TwinRt → TwinRt) : (s.onTwin f).tow = s.tow := rfl
@[simp] theorem State.onTwin_twin (s : State) (f : TwinRt → TwinRt) : (s.onTwin f).twin = f s.twin := rfl
@[simp] theorem State.onTwin_clocks (s : State) (f : TwinRt → TwinRt) : (s.onTwin f).clocks = s.clocks := rfl
@[simp] theorem State.onTwin_start (s : State) (f : TwinRt → TwinRt) : (s.onTwin f).start = s.start := rfl
@[simp] theorem State.onTwin_journal (s : State) (f : TwinRt → TwinRt) : (s.onTwin f).journal = s.journal := rfl
@[simp] theorem State.onTwin_log (s : State) (f : TwinRt → TwinRt) : (s.onTwin f).log = s.log := rfl
@[simp] theorem State.onTwin_faults (s : State) (f : TwinRt → TwinRt) : (s.onTwin f).faults = s.faults := rfl
@[simp] theorem State.onTwin_keys (s : State) (f : TwinRt → TwinRt) : (s.onTwin f).keys = s.keys := rfl
@[simp] theorem State.onTwin_fw (s : State) (f : TwinRt → TwinRt) : (s.onTwin f).fw = s.fw := rfl
@[simp] theorem State.onTwin_pins (s : State) (f : TwinRt → TwinRt) : (s.onTwin f).pins = s.pins := rfl
@[simp] theorem State.onTwin_hdm (s : State) (f : TwinRt → TwinRt) : (s.onTwin f).hdm = s.hdm := rfl
@[simp] theorem State.onTwin_freeCtr (s : State) (f : TwinRt → TwinRt) : (s.onTwin f).freeCtr = s.freeCtr := rfl
@[simp] theorem State.onTwin_pending (s : State) (f : TwinRt → TwinRt) : (s.onTwin f).pending = s.pending := rfl

@[simp] theorem State.onClocks_dev (s : State) (f : ClocksRt → ClocksRt) : (s.onClocks f).dev = s.dev := rfl
@[simp] theorem State.onClocks_obj (s : State) (f : ClocksRt → ClocksRt) : (s.onClocks f).obj = s.obj := rfl
@[simp] theorem State.onClocks_mbox (s : State) (f : ClocksRt → ClocksRt) : (s.onClocks f).mbox = s.mbox := rfl
@[simp] theorem State.onClocks_host (s : State) (f : ClocksRt → ClocksRt) : (s.onClocks f).host = s.host := rfl
@[simp] theorem State.onClocks_time (s : State) (f : ClocksRt → ClocksRt) : (s.onClocks f).time = s.time := rfl
@[simp] theorem State.onClocks_refs (s : State) (f : ClocksRt → ClocksRt) : (s.onClocks f).refs = s.refs := rfl
@[simp] theorem State.onClocks_streams (s : State) (f : ClocksRt → ClocksRt) : (s.onClocks f).streams = s.streams := rfl
@[simp] theorem State.onClocks_manifests (s : State) (f : ClocksRt → ClocksRt) : (s.onClocks f).manifests = s.manifests := rfl
@[simp] theorem State.onClocks_basin (s : State) (f : ClocksRt → ClocksRt) : (s.onClocks f).basin = s.basin := rfl
@[simp] theorem State.onClocks_wharf (s : State) (f : ClocksRt → ClocksRt) : (s.onClocks f).wharf = s.wharf := rfl
@[simp] theorem State.onClocks_meas (s : State) (f : ClocksRt → ClocksRt) : (s.onClocks f).meas = s.meas := rfl
@[simp] theorem State.onClocks_audio (s : State) (f : ClocksRt → ClocksRt) : (s.onClocks f).audio = s.audio := rfl
@[simp] theorem State.onClocks_heads (s : State) (f : ClocksRt → ClocksRt) : (s.onClocks f).heads = s.heads := rfl
@[simp] theorem State.onClocks_tow (s : State) (f : ClocksRt → ClocksRt) : (s.onClocks f).tow = s.tow := rfl
@[simp] theorem State.onClocks_twin (s : State) (f : ClocksRt → ClocksRt) : (s.onClocks f).twin = s.twin := rfl
@[simp] theorem State.onClocks_clocks (s : State) (f : ClocksRt → ClocksRt) : (s.onClocks f).clocks = f s.clocks := rfl
@[simp] theorem State.onClocks_start (s : State) (f : ClocksRt → ClocksRt) : (s.onClocks f).start = s.start := rfl
@[simp] theorem State.onClocks_journal (s : State) (f : ClocksRt → ClocksRt) : (s.onClocks f).journal = s.journal := rfl
@[simp] theorem State.onClocks_log (s : State) (f : ClocksRt → ClocksRt) : (s.onClocks f).log = s.log := rfl
@[simp] theorem State.onClocks_faults (s : State) (f : ClocksRt → ClocksRt) : (s.onClocks f).faults = s.faults := rfl
@[simp] theorem State.onClocks_keys (s : State) (f : ClocksRt → ClocksRt) : (s.onClocks f).keys = s.keys := rfl
@[simp] theorem State.onClocks_fw (s : State) (f : ClocksRt → ClocksRt) : (s.onClocks f).fw = s.fw := rfl
@[simp] theorem State.onClocks_pins (s : State) (f : ClocksRt → ClocksRt) : (s.onClocks f).pins = s.pins := rfl
@[simp] theorem State.onClocks_hdm (s : State) (f : ClocksRt → ClocksRt) : (s.onClocks f).hdm = s.hdm := rfl
@[simp] theorem State.onClocks_freeCtr (s : State) (f : ClocksRt → ClocksRt) : (s.onClocks f).freeCtr = s.freeCtr := rfl
@[simp] theorem State.onClocks_pending (s : State) (f : ClocksRt → ClocksRt) : (s.onClocks f).pending = s.pending := rfl

@[simp] theorem State.onStart_dev (s : State) (f : StartRt → StartRt) : (s.onStart f).dev = s.dev := rfl
@[simp] theorem State.onStart_obj (s : State) (f : StartRt → StartRt) : (s.onStart f).obj = s.obj := rfl
@[simp] theorem State.onStart_mbox (s : State) (f : StartRt → StartRt) : (s.onStart f).mbox = s.mbox := rfl
@[simp] theorem State.onStart_host (s : State) (f : StartRt → StartRt) : (s.onStart f).host = s.host := rfl
@[simp] theorem State.onStart_time (s : State) (f : StartRt → StartRt) : (s.onStart f).time = s.time := rfl
@[simp] theorem State.onStart_refs (s : State) (f : StartRt → StartRt) : (s.onStart f).refs = s.refs := rfl
@[simp] theorem State.onStart_streams (s : State) (f : StartRt → StartRt) : (s.onStart f).streams = s.streams := rfl
@[simp] theorem State.onStart_manifests (s : State) (f : StartRt → StartRt) : (s.onStart f).manifests = s.manifests := rfl
@[simp] theorem State.onStart_basin (s : State) (f : StartRt → StartRt) : (s.onStart f).basin = s.basin := rfl
@[simp] theorem State.onStart_wharf (s : State) (f : StartRt → StartRt) : (s.onStart f).wharf = s.wharf := rfl
@[simp] theorem State.onStart_meas (s : State) (f : StartRt → StartRt) : (s.onStart f).meas = s.meas := rfl
@[simp] theorem State.onStart_audio (s : State) (f : StartRt → StartRt) : (s.onStart f).audio = s.audio := rfl
@[simp] theorem State.onStart_heads (s : State) (f : StartRt → StartRt) : (s.onStart f).heads = s.heads := rfl
@[simp] theorem State.onStart_tow (s : State) (f : StartRt → StartRt) : (s.onStart f).tow = s.tow := rfl
@[simp] theorem State.onStart_twin (s : State) (f : StartRt → StartRt) : (s.onStart f).twin = s.twin := rfl
@[simp] theorem State.onStart_clocks (s : State) (f : StartRt → StartRt) : (s.onStart f).clocks = s.clocks := rfl
@[simp] theorem State.onStart_start (s : State) (f : StartRt → StartRt) : (s.onStart f).start = f s.start := rfl
@[simp] theorem State.onStart_journal (s : State) (f : StartRt → StartRt) : (s.onStart f).journal = s.journal := rfl
@[simp] theorem State.onStart_log (s : State) (f : StartRt → StartRt) : (s.onStart f).log = s.log := rfl
@[simp] theorem State.onStart_faults (s : State) (f : StartRt → StartRt) : (s.onStart f).faults = s.faults := rfl
@[simp] theorem State.onStart_keys (s : State) (f : StartRt → StartRt) : (s.onStart f).keys = s.keys := rfl
@[simp] theorem State.onStart_fw (s : State) (f : StartRt → StartRt) : (s.onStart f).fw = s.fw := rfl
@[simp] theorem State.onStart_pins (s : State) (f : StartRt → StartRt) : (s.onStart f).pins = s.pins := rfl
@[simp] theorem State.onStart_hdm (s : State) (f : StartRt → StartRt) : (s.onStart f).hdm = s.hdm := rfl
@[simp] theorem State.onStart_freeCtr (s : State) (f : StartRt → StartRt) : (s.onStart f).freeCtr = s.freeCtr := rfl
@[simp] theorem State.onStart_pending (s : State) (f : StartRt → StartRt) : (s.onStart f).pending = s.pending := rfl

@[simp] theorem State.onJournal_dev (s : State) (f : JournalRt → JournalRt) : (s.onJournal f).dev = s.dev := rfl
@[simp] theorem State.onJournal_obj (s : State) (f : JournalRt → JournalRt) : (s.onJournal f).obj = s.obj := rfl
@[simp] theorem State.onJournal_mbox (s : State) (f : JournalRt → JournalRt) : (s.onJournal f).mbox = s.mbox := rfl
@[simp] theorem State.onJournal_host (s : State) (f : JournalRt → JournalRt) : (s.onJournal f).host = s.host := rfl
@[simp] theorem State.onJournal_time (s : State) (f : JournalRt → JournalRt) : (s.onJournal f).time = s.time := rfl
@[simp] theorem State.onJournal_refs (s : State) (f : JournalRt → JournalRt) : (s.onJournal f).refs = s.refs := rfl
@[simp] theorem State.onJournal_streams (s : State) (f : JournalRt → JournalRt) : (s.onJournal f).streams = s.streams := rfl
@[simp] theorem State.onJournal_manifests (s : State) (f : JournalRt → JournalRt) : (s.onJournal f).manifests = s.manifests := rfl
@[simp] theorem State.onJournal_basin (s : State) (f : JournalRt → JournalRt) : (s.onJournal f).basin = s.basin := rfl
@[simp] theorem State.onJournal_wharf (s : State) (f : JournalRt → JournalRt) : (s.onJournal f).wharf = s.wharf := rfl
@[simp] theorem State.onJournal_meas (s : State) (f : JournalRt → JournalRt) : (s.onJournal f).meas = s.meas := rfl
@[simp] theorem State.onJournal_audio (s : State) (f : JournalRt → JournalRt) : (s.onJournal f).audio = s.audio := rfl
@[simp] theorem State.onJournal_heads (s : State) (f : JournalRt → JournalRt) : (s.onJournal f).heads = s.heads := rfl
@[simp] theorem State.onJournal_tow (s : State) (f : JournalRt → JournalRt) : (s.onJournal f).tow = s.tow := rfl
@[simp] theorem State.onJournal_twin (s : State) (f : JournalRt → JournalRt) : (s.onJournal f).twin = s.twin := rfl
@[simp] theorem State.onJournal_clocks (s : State) (f : JournalRt → JournalRt) : (s.onJournal f).clocks = s.clocks := rfl
@[simp] theorem State.onJournal_start (s : State) (f : JournalRt → JournalRt) : (s.onJournal f).start = s.start := rfl
@[simp] theorem State.onJournal_journal (s : State) (f : JournalRt → JournalRt) : (s.onJournal f).journal = f s.journal := rfl
@[simp] theorem State.onJournal_log (s : State) (f : JournalRt → JournalRt) : (s.onJournal f).log = s.log := rfl
@[simp] theorem State.onJournal_faults (s : State) (f : JournalRt → JournalRt) : (s.onJournal f).faults = s.faults := rfl
@[simp] theorem State.onJournal_keys (s : State) (f : JournalRt → JournalRt) : (s.onJournal f).keys = s.keys := rfl
@[simp] theorem State.onJournal_fw (s : State) (f : JournalRt → JournalRt) : (s.onJournal f).fw = s.fw := rfl
@[simp] theorem State.onJournal_pins (s : State) (f : JournalRt → JournalRt) : (s.onJournal f).pins = s.pins := rfl
@[simp] theorem State.onJournal_hdm (s : State) (f : JournalRt → JournalRt) : (s.onJournal f).hdm = s.hdm := rfl
@[simp] theorem State.onJournal_freeCtr (s : State) (f : JournalRt → JournalRt) : (s.onJournal f).freeCtr = s.freeCtr := rfl
@[simp] theorem State.onJournal_pending (s : State) (f : JournalRt → JournalRt) : (s.onJournal f).pending = s.pending := rfl

@[simp] theorem State.onLog_dev (s : State) (f : LogRt → LogRt) : (s.onLog f).dev = s.dev := rfl
@[simp] theorem State.onLog_obj (s : State) (f : LogRt → LogRt) : (s.onLog f).obj = s.obj := rfl
@[simp] theorem State.onLog_mbox (s : State) (f : LogRt → LogRt) : (s.onLog f).mbox = s.mbox := rfl
@[simp] theorem State.onLog_host (s : State) (f : LogRt → LogRt) : (s.onLog f).host = s.host := rfl
@[simp] theorem State.onLog_time (s : State) (f : LogRt → LogRt) : (s.onLog f).time = s.time := rfl
@[simp] theorem State.onLog_refs (s : State) (f : LogRt → LogRt) : (s.onLog f).refs = s.refs := rfl
@[simp] theorem State.onLog_streams (s : State) (f : LogRt → LogRt) : (s.onLog f).streams = s.streams := rfl
@[simp] theorem State.onLog_manifests (s : State) (f : LogRt → LogRt) : (s.onLog f).manifests = s.manifests := rfl
@[simp] theorem State.onLog_basin (s : State) (f : LogRt → LogRt) : (s.onLog f).basin = s.basin := rfl
@[simp] theorem State.onLog_wharf (s : State) (f : LogRt → LogRt) : (s.onLog f).wharf = s.wharf := rfl
@[simp] theorem State.onLog_meas (s : State) (f : LogRt → LogRt) : (s.onLog f).meas = s.meas := rfl
@[simp] theorem State.onLog_audio (s : State) (f : LogRt → LogRt) : (s.onLog f).audio = s.audio := rfl
@[simp] theorem State.onLog_heads (s : State) (f : LogRt → LogRt) : (s.onLog f).heads = s.heads := rfl
@[simp] theorem State.onLog_tow (s : State) (f : LogRt → LogRt) : (s.onLog f).tow = s.tow := rfl
@[simp] theorem State.onLog_twin (s : State) (f : LogRt → LogRt) : (s.onLog f).twin = s.twin := rfl
@[simp] theorem State.onLog_clocks (s : State) (f : LogRt → LogRt) : (s.onLog f).clocks = s.clocks := rfl
@[simp] theorem State.onLog_start (s : State) (f : LogRt → LogRt) : (s.onLog f).start = s.start := rfl
@[simp] theorem State.onLog_journal (s : State) (f : LogRt → LogRt) : (s.onLog f).journal = s.journal := rfl
@[simp] theorem State.onLog_log (s : State) (f : LogRt → LogRt) : (s.onLog f).log = f s.log := rfl
@[simp] theorem State.onLog_faults (s : State) (f : LogRt → LogRt) : (s.onLog f).faults = s.faults := rfl
@[simp] theorem State.onLog_keys (s : State) (f : LogRt → LogRt) : (s.onLog f).keys = s.keys := rfl
@[simp] theorem State.onLog_fw (s : State) (f : LogRt → LogRt) : (s.onLog f).fw = s.fw := rfl
@[simp] theorem State.onLog_pins (s : State) (f : LogRt → LogRt) : (s.onLog f).pins = s.pins := rfl
@[simp] theorem State.onLog_hdm (s : State) (f : LogRt → LogRt) : (s.onLog f).hdm = s.hdm := rfl
@[simp] theorem State.onLog_freeCtr (s : State) (f : LogRt → LogRt) : (s.onLog f).freeCtr = s.freeCtr := rfl
@[simp] theorem State.onLog_pending (s : State) (f : LogRt → LogRt) : (s.onLog f).pending = s.pending := rfl

@[simp] theorem State.onFaults_dev (s : State) (f : FaultsRt → FaultsRt) : (s.onFaults f).dev = s.dev := rfl
@[simp] theorem State.onFaults_obj (s : State) (f : FaultsRt → FaultsRt) : (s.onFaults f).obj = s.obj := rfl
@[simp] theorem State.onFaults_mbox (s : State) (f : FaultsRt → FaultsRt) : (s.onFaults f).mbox = s.mbox := rfl
@[simp] theorem State.onFaults_host (s : State) (f : FaultsRt → FaultsRt) : (s.onFaults f).host = s.host := rfl
@[simp] theorem State.onFaults_time (s : State) (f : FaultsRt → FaultsRt) : (s.onFaults f).time = s.time := rfl
@[simp] theorem State.onFaults_refs (s : State) (f : FaultsRt → FaultsRt) : (s.onFaults f).refs = s.refs := rfl
@[simp] theorem State.onFaults_streams (s : State) (f : FaultsRt → FaultsRt) : (s.onFaults f).streams = s.streams := rfl
@[simp] theorem State.onFaults_manifests (s : State) (f : FaultsRt → FaultsRt) : (s.onFaults f).manifests = s.manifests := rfl
@[simp] theorem State.onFaults_basin (s : State) (f : FaultsRt → FaultsRt) : (s.onFaults f).basin = s.basin := rfl
@[simp] theorem State.onFaults_wharf (s : State) (f : FaultsRt → FaultsRt) : (s.onFaults f).wharf = s.wharf := rfl
@[simp] theorem State.onFaults_meas (s : State) (f : FaultsRt → FaultsRt) : (s.onFaults f).meas = s.meas := rfl
@[simp] theorem State.onFaults_audio (s : State) (f : FaultsRt → FaultsRt) : (s.onFaults f).audio = s.audio := rfl
@[simp] theorem State.onFaults_heads (s : State) (f : FaultsRt → FaultsRt) : (s.onFaults f).heads = s.heads := rfl
@[simp] theorem State.onFaults_tow (s : State) (f : FaultsRt → FaultsRt) : (s.onFaults f).tow = s.tow := rfl
@[simp] theorem State.onFaults_twin (s : State) (f : FaultsRt → FaultsRt) : (s.onFaults f).twin = s.twin := rfl
@[simp] theorem State.onFaults_clocks (s : State) (f : FaultsRt → FaultsRt) : (s.onFaults f).clocks = s.clocks := rfl
@[simp] theorem State.onFaults_start (s : State) (f : FaultsRt → FaultsRt) : (s.onFaults f).start = s.start := rfl
@[simp] theorem State.onFaults_journal (s : State) (f : FaultsRt → FaultsRt) : (s.onFaults f).journal = s.journal := rfl
@[simp] theorem State.onFaults_log (s : State) (f : FaultsRt → FaultsRt) : (s.onFaults f).log = s.log := rfl
@[simp] theorem State.onFaults_faults (s : State) (f : FaultsRt → FaultsRt) : (s.onFaults f).faults = f s.faults := rfl
@[simp] theorem State.onFaults_keys (s : State) (f : FaultsRt → FaultsRt) : (s.onFaults f).keys = s.keys := rfl
@[simp] theorem State.onFaults_fw (s : State) (f : FaultsRt → FaultsRt) : (s.onFaults f).fw = s.fw := rfl
@[simp] theorem State.onFaults_pins (s : State) (f : FaultsRt → FaultsRt) : (s.onFaults f).pins = s.pins := rfl
@[simp] theorem State.onFaults_hdm (s : State) (f : FaultsRt → FaultsRt) : (s.onFaults f).hdm = s.hdm := rfl
@[simp] theorem State.onFaults_freeCtr (s : State) (f : FaultsRt → FaultsRt) : (s.onFaults f).freeCtr = s.freeCtr := rfl
@[simp] theorem State.onFaults_pending (s : State) (f : FaultsRt → FaultsRt) : (s.onFaults f).pending = s.pending := rfl

@[simp] theorem State.onKeys_dev (s : State) (f : KeysRt → KeysRt) : (s.onKeys f).dev = s.dev := rfl
@[simp] theorem State.onKeys_obj (s : State) (f : KeysRt → KeysRt) : (s.onKeys f).obj = s.obj := rfl
@[simp] theorem State.onKeys_mbox (s : State) (f : KeysRt → KeysRt) : (s.onKeys f).mbox = s.mbox := rfl
@[simp] theorem State.onKeys_host (s : State) (f : KeysRt → KeysRt) : (s.onKeys f).host = s.host := rfl
@[simp] theorem State.onKeys_time (s : State) (f : KeysRt → KeysRt) : (s.onKeys f).time = s.time := rfl
@[simp] theorem State.onKeys_refs (s : State) (f : KeysRt → KeysRt) : (s.onKeys f).refs = s.refs := rfl
@[simp] theorem State.onKeys_streams (s : State) (f : KeysRt → KeysRt) : (s.onKeys f).streams = s.streams := rfl
@[simp] theorem State.onKeys_manifests (s : State) (f : KeysRt → KeysRt) : (s.onKeys f).manifests = s.manifests := rfl
@[simp] theorem State.onKeys_basin (s : State) (f : KeysRt → KeysRt) : (s.onKeys f).basin = s.basin := rfl
@[simp] theorem State.onKeys_wharf (s : State) (f : KeysRt → KeysRt) : (s.onKeys f).wharf = s.wharf := rfl
@[simp] theorem State.onKeys_meas (s : State) (f : KeysRt → KeysRt) : (s.onKeys f).meas = s.meas := rfl
@[simp] theorem State.onKeys_audio (s : State) (f : KeysRt → KeysRt) : (s.onKeys f).audio = s.audio := rfl
@[simp] theorem State.onKeys_heads (s : State) (f : KeysRt → KeysRt) : (s.onKeys f).heads = s.heads := rfl
@[simp] theorem State.onKeys_tow (s : State) (f : KeysRt → KeysRt) : (s.onKeys f).tow = s.tow := rfl
@[simp] theorem State.onKeys_twin (s : State) (f : KeysRt → KeysRt) : (s.onKeys f).twin = s.twin := rfl
@[simp] theorem State.onKeys_clocks (s : State) (f : KeysRt → KeysRt) : (s.onKeys f).clocks = s.clocks := rfl
@[simp] theorem State.onKeys_start (s : State) (f : KeysRt → KeysRt) : (s.onKeys f).start = s.start := rfl
@[simp] theorem State.onKeys_journal (s : State) (f : KeysRt → KeysRt) : (s.onKeys f).journal = s.journal := rfl
@[simp] theorem State.onKeys_log (s : State) (f : KeysRt → KeysRt) : (s.onKeys f).log = s.log := rfl
@[simp] theorem State.onKeys_faults (s : State) (f : KeysRt → KeysRt) : (s.onKeys f).faults = s.faults := rfl
@[simp] theorem State.onKeys_keys (s : State) (f : KeysRt → KeysRt) : (s.onKeys f).keys = f s.keys := rfl
@[simp] theorem State.onKeys_fw (s : State) (f : KeysRt → KeysRt) : (s.onKeys f).fw = s.fw := rfl
@[simp] theorem State.onKeys_pins (s : State) (f : KeysRt → KeysRt) : (s.onKeys f).pins = s.pins := rfl
@[simp] theorem State.onKeys_hdm (s : State) (f : KeysRt → KeysRt) : (s.onKeys f).hdm = s.hdm := rfl
@[simp] theorem State.onKeys_freeCtr (s : State) (f : KeysRt → KeysRt) : (s.onKeys f).freeCtr = s.freeCtr := rfl
@[simp] theorem State.onKeys_pending (s : State) (f : KeysRt → KeysRt) : (s.onKeys f).pending = s.pending := rfl

@[simp] theorem State.onFw_dev (s : State) (f : FwRt → FwRt) : (s.onFw f).dev = s.dev := rfl
@[simp] theorem State.onFw_obj (s : State) (f : FwRt → FwRt) : (s.onFw f).obj = s.obj := rfl
@[simp] theorem State.onFw_mbox (s : State) (f : FwRt → FwRt) : (s.onFw f).mbox = s.mbox := rfl
@[simp] theorem State.onFw_host (s : State) (f : FwRt → FwRt) : (s.onFw f).host = s.host := rfl
@[simp] theorem State.onFw_time (s : State) (f : FwRt → FwRt) : (s.onFw f).time = s.time := rfl
@[simp] theorem State.onFw_refs (s : State) (f : FwRt → FwRt) : (s.onFw f).refs = s.refs := rfl
@[simp] theorem State.onFw_streams (s : State) (f : FwRt → FwRt) : (s.onFw f).streams = s.streams := rfl
@[simp] theorem State.onFw_manifests (s : State) (f : FwRt → FwRt) : (s.onFw f).manifests = s.manifests := rfl
@[simp] theorem State.onFw_basin (s : State) (f : FwRt → FwRt) : (s.onFw f).basin = s.basin := rfl
@[simp] theorem State.onFw_wharf (s : State) (f : FwRt → FwRt) : (s.onFw f).wharf = s.wharf := rfl
@[simp] theorem State.onFw_meas (s : State) (f : FwRt → FwRt) : (s.onFw f).meas = s.meas := rfl
@[simp] theorem State.onFw_audio (s : State) (f : FwRt → FwRt) : (s.onFw f).audio = s.audio := rfl
@[simp] theorem State.onFw_heads (s : State) (f : FwRt → FwRt) : (s.onFw f).heads = s.heads := rfl
@[simp] theorem State.onFw_tow (s : State) (f : FwRt → FwRt) : (s.onFw f).tow = s.tow := rfl
@[simp] theorem State.onFw_twin (s : State) (f : FwRt → FwRt) : (s.onFw f).twin = s.twin := rfl
@[simp] theorem State.onFw_clocks (s : State) (f : FwRt → FwRt) : (s.onFw f).clocks = s.clocks := rfl
@[simp] theorem State.onFw_start (s : State) (f : FwRt → FwRt) : (s.onFw f).start = s.start := rfl
@[simp] theorem State.onFw_journal (s : State) (f : FwRt → FwRt) : (s.onFw f).journal = s.journal := rfl
@[simp] theorem State.onFw_log (s : State) (f : FwRt → FwRt) : (s.onFw f).log = s.log := rfl
@[simp] theorem State.onFw_faults (s : State) (f : FwRt → FwRt) : (s.onFw f).faults = s.faults := rfl
@[simp] theorem State.onFw_keys (s : State) (f : FwRt → FwRt) : (s.onFw f).keys = s.keys := rfl
@[simp] theorem State.onFw_fw (s : State) (f : FwRt → FwRt) : (s.onFw f).fw = f s.fw := rfl
@[simp] theorem State.onFw_pins (s : State) (f : FwRt → FwRt) : (s.onFw f).pins = s.pins := rfl
@[simp] theorem State.onFw_hdm (s : State) (f : FwRt → FwRt) : (s.onFw f).hdm = s.hdm := rfl
@[simp] theorem State.onFw_freeCtr (s : State) (f : FwRt → FwRt) : (s.onFw f).freeCtr = s.freeCtr := rfl
@[simp] theorem State.onFw_pending (s : State) (f : FwRt → FwRt) : (s.onFw f).pending = s.pending := rfl

@[simp] theorem State.onPins_dev (s : State) (f : Pins → Pins) : (s.onPins f).dev = s.dev := rfl
@[simp] theorem State.onPins_obj (s : State) (f : Pins → Pins) : (s.onPins f).obj = s.obj := rfl
@[simp] theorem State.onPins_mbox (s : State) (f : Pins → Pins) : (s.onPins f).mbox = s.mbox := rfl
@[simp] theorem State.onPins_host (s : State) (f : Pins → Pins) : (s.onPins f).host = s.host := rfl
@[simp] theorem State.onPins_time (s : State) (f : Pins → Pins) : (s.onPins f).time = s.time := rfl
@[simp] theorem State.onPins_refs (s : State) (f : Pins → Pins) : (s.onPins f).refs = s.refs := rfl
@[simp] theorem State.onPins_streams (s : State) (f : Pins → Pins) : (s.onPins f).streams = s.streams := rfl
@[simp] theorem State.onPins_manifests (s : State) (f : Pins → Pins) : (s.onPins f).manifests = s.manifests := rfl
@[simp] theorem State.onPins_basin (s : State) (f : Pins → Pins) : (s.onPins f).basin = s.basin := rfl
@[simp] theorem State.onPins_wharf (s : State) (f : Pins → Pins) : (s.onPins f).wharf = s.wharf := rfl
@[simp] theorem State.onPins_meas (s : State) (f : Pins → Pins) : (s.onPins f).meas = s.meas := rfl
@[simp] theorem State.onPins_audio (s : State) (f : Pins → Pins) : (s.onPins f).audio = s.audio := rfl
@[simp] theorem State.onPins_heads (s : State) (f : Pins → Pins) : (s.onPins f).heads = s.heads := rfl
@[simp] theorem State.onPins_tow (s : State) (f : Pins → Pins) : (s.onPins f).tow = s.tow := rfl
@[simp] theorem State.onPins_twin (s : State) (f : Pins → Pins) : (s.onPins f).twin = s.twin := rfl
@[simp] theorem State.onPins_clocks (s : State) (f : Pins → Pins) : (s.onPins f).clocks = s.clocks := rfl
@[simp] theorem State.onPins_start (s : State) (f : Pins → Pins) : (s.onPins f).start = s.start := rfl
@[simp] theorem State.onPins_journal (s : State) (f : Pins → Pins) : (s.onPins f).journal = s.journal := rfl
@[simp] theorem State.onPins_log (s : State) (f : Pins → Pins) : (s.onPins f).log = s.log := rfl
@[simp] theorem State.onPins_faults (s : State) (f : Pins → Pins) : (s.onPins f).faults = s.faults := rfl
@[simp] theorem State.onPins_keys (s : State) (f : Pins → Pins) : (s.onPins f).keys = s.keys := rfl
@[simp] theorem State.onPins_fw (s : State) (f : Pins → Pins) : (s.onPins f).fw = s.fw := rfl
@[simp] theorem State.onPins_pins (s : State) (f : Pins → Pins) : (s.onPins f).pins = f s.pins := rfl
@[simp] theorem State.onPins_hdm (s : State) (f : Pins → Pins) : (s.onPins f).hdm = s.hdm := rfl
@[simp] theorem State.onPins_freeCtr (s : State) (f : Pins → Pins) : (s.onPins f).freeCtr = s.freeCtr := rfl
@[simp] theorem State.onPins_pending (s : State) (f : Pins → Pins) : (s.onPins f).pending = s.pending := rfl

@[simp] theorem State.onHdm_dev (s : State) (f : List Host.Cell → List Host.Cell) : (s.onHdm f).dev = s.dev := rfl
@[simp] theorem State.onHdm_obj (s : State) (f : List Host.Cell → List Host.Cell) : (s.onHdm f).obj = s.obj := rfl
@[simp] theorem State.onHdm_mbox (s : State) (f : List Host.Cell → List Host.Cell) : (s.onHdm f).mbox = s.mbox := rfl
@[simp] theorem State.onHdm_host (s : State) (f : List Host.Cell → List Host.Cell) : (s.onHdm f).host = s.host := rfl
@[simp] theorem State.onHdm_time (s : State) (f : List Host.Cell → List Host.Cell) : (s.onHdm f).time = s.time := rfl
@[simp] theorem State.onHdm_refs (s : State) (f : List Host.Cell → List Host.Cell) : (s.onHdm f).refs = s.refs := rfl
@[simp] theorem State.onHdm_streams (s : State) (f : List Host.Cell → List Host.Cell) : (s.onHdm f).streams = s.streams := rfl
@[simp] theorem State.onHdm_manifests (s : State) (f : List Host.Cell → List Host.Cell) : (s.onHdm f).manifests = s.manifests := rfl
@[simp] theorem State.onHdm_basin (s : State) (f : List Host.Cell → List Host.Cell) : (s.onHdm f).basin = s.basin := rfl
@[simp] theorem State.onHdm_wharf (s : State) (f : List Host.Cell → List Host.Cell) : (s.onHdm f).wharf = s.wharf := rfl
@[simp] theorem State.onHdm_meas (s : State) (f : List Host.Cell → List Host.Cell) : (s.onHdm f).meas = s.meas := rfl
@[simp] theorem State.onHdm_audio (s : State) (f : List Host.Cell → List Host.Cell) : (s.onHdm f).audio = s.audio := rfl
@[simp] theorem State.onHdm_heads (s : State) (f : List Host.Cell → List Host.Cell) : (s.onHdm f).heads = s.heads := rfl
@[simp] theorem State.onHdm_tow (s : State) (f : List Host.Cell → List Host.Cell) : (s.onHdm f).tow = s.tow := rfl
@[simp] theorem State.onHdm_twin (s : State) (f : List Host.Cell → List Host.Cell) : (s.onHdm f).twin = s.twin := rfl
@[simp] theorem State.onHdm_clocks (s : State) (f : List Host.Cell → List Host.Cell) : (s.onHdm f).clocks = s.clocks := rfl
@[simp] theorem State.onHdm_start (s : State) (f : List Host.Cell → List Host.Cell) : (s.onHdm f).start = s.start := rfl
@[simp] theorem State.onHdm_journal (s : State) (f : List Host.Cell → List Host.Cell) : (s.onHdm f).journal = s.journal := rfl
@[simp] theorem State.onHdm_log (s : State) (f : List Host.Cell → List Host.Cell) : (s.onHdm f).log = s.log := rfl
@[simp] theorem State.onHdm_faults (s : State) (f : List Host.Cell → List Host.Cell) : (s.onHdm f).faults = s.faults := rfl
@[simp] theorem State.onHdm_keys (s : State) (f : List Host.Cell → List Host.Cell) : (s.onHdm f).keys = s.keys := rfl
@[simp] theorem State.onHdm_fw (s : State) (f : List Host.Cell → List Host.Cell) : (s.onHdm f).fw = s.fw := rfl
@[simp] theorem State.onHdm_pins (s : State) (f : List Host.Cell → List Host.Cell) : (s.onHdm f).pins = s.pins := rfl
@[simp] theorem State.onHdm_hdm (s : State) (f : List Host.Cell → List Host.Cell) : (s.onHdm f).hdm = f s.hdm := rfl
@[simp] theorem State.onHdm_freeCtr (s : State) (f : List Host.Cell → List Host.Cell) : (s.onHdm f).freeCtr = s.freeCtr := rfl
@[simp] theorem State.onHdm_pending (s : State) (f : List Host.Cell → List Host.Cell) : (s.onHdm f).pending = s.pending := rfl

@[simp] theorem State.onFreeCtr_dev (s : State) (f : Nat → Nat) : (s.onFreeCtr f).dev = s.dev := rfl
@[simp] theorem State.onFreeCtr_obj (s : State) (f : Nat → Nat) : (s.onFreeCtr f).obj = s.obj := rfl
@[simp] theorem State.onFreeCtr_mbox (s : State) (f : Nat → Nat) : (s.onFreeCtr f).mbox = s.mbox := rfl
@[simp] theorem State.onFreeCtr_host (s : State) (f : Nat → Nat) : (s.onFreeCtr f).host = s.host := rfl
@[simp] theorem State.onFreeCtr_time (s : State) (f : Nat → Nat) : (s.onFreeCtr f).time = s.time := rfl
@[simp] theorem State.onFreeCtr_refs (s : State) (f : Nat → Nat) : (s.onFreeCtr f).refs = s.refs := rfl
@[simp] theorem State.onFreeCtr_streams (s : State) (f : Nat → Nat) : (s.onFreeCtr f).streams = s.streams := rfl
@[simp] theorem State.onFreeCtr_manifests (s : State) (f : Nat → Nat) : (s.onFreeCtr f).manifests = s.manifests := rfl
@[simp] theorem State.onFreeCtr_basin (s : State) (f : Nat → Nat) : (s.onFreeCtr f).basin = s.basin := rfl
@[simp] theorem State.onFreeCtr_wharf (s : State) (f : Nat → Nat) : (s.onFreeCtr f).wharf = s.wharf := rfl
@[simp] theorem State.onFreeCtr_meas (s : State) (f : Nat → Nat) : (s.onFreeCtr f).meas = s.meas := rfl
@[simp] theorem State.onFreeCtr_audio (s : State) (f : Nat → Nat) : (s.onFreeCtr f).audio = s.audio := rfl
@[simp] theorem State.onFreeCtr_heads (s : State) (f : Nat → Nat) : (s.onFreeCtr f).heads = s.heads := rfl
@[simp] theorem State.onFreeCtr_tow (s : State) (f : Nat → Nat) : (s.onFreeCtr f).tow = s.tow := rfl
@[simp] theorem State.onFreeCtr_twin (s : State) (f : Nat → Nat) : (s.onFreeCtr f).twin = s.twin := rfl
@[simp] theorem State.onFreeCtr_clocks (s : State) (f : Nat → Nat) : (s.onFreeCtr f).clocks = s.clocks := rfl
@[simp] theorem State.onFreeCtr_start (s : State) (f : Nat → Nat) : (s.onFreeCtr f).start = s.start := rfl
@[simp] theorem State.onFreeCtr_journal (s : State) (f : Nat → Nat) : (s.onFreeCtr f).journal = s.journal := rfl
@[simp] theorem State.onFreeCtr_log (s : State) (f : Nat → Nat) : (s.onFreeCtr f).log = s.log := rfl
@[simp] theorem State.onFreeCtr_faults (s : State) (f : Nat → Nat) : (s.onFreeCtr f).faults = s.faults := rfl
@[simp] theorem State.onFreeCtr_keys (s : State) (f : Nat → Nat) : (s.onFreeCtr f).keys = s.keys := rfl
@[simp] theorem State.onFreeCtr_fw (s : State) (f : Nat → Nat) : (s.onFreeCtr f).fw = s.fw := rfl
@[simp] theorem State.onFreeCtr_pins (s : State) (f : Nat → Nat) : (s.onFreeCtr f).pins = s.pins := rfl
@[simp] theorem State.onFreeCtr_hdm (s : State) (f : Nat → Nat) : (s.onFreeCtr f).hdm = s.hdm := rfl
@[simp] theorem State.onFreeCtr_freeCtr (s : State) (f : Nat → Nat) : (s.onFreeCtr f).freeCtr = f s.freeCtr := rfl
@[simp] theorem State.onFreeCtr_pending (s : State) (f : Nat → Nat) : (s.onFreeCtr f).pending = s.pending := rfl

@[simp] theorem State.onPending_dev (s : State) (f : List Instr → List Instr) : (s.onPending f).dev = s.dev := rfl
@[simp] theorem State.onPending_obj (s : State) (f : List Instr → List Instr) : (s.onPending f).obj = s.obj := rfl
@[simp] theorem State.onPending_mbox (s : State) (f : List Instr → List Instr) : (s.onPending f).mbox = s.mbox := rfl
@[simp] theorem State.onPending_host (s : State) (f : List Instr → List Instr) : (s.onPending f).host = s.host := rfl
@[simp] theorem State.onPending_time (s : State) (f : List Instr → List Instr) : (s.onPending f).time = s.time := rfl
@[simp] theorem State.onPending_refs (s : State) (f : List Instr → List Instr) : (s.onPending f).refs = s.refs := rfl
@[simp] theorem State.onPending_streams (s : State) (f : List Instr → List Instr) : (s.onPending f).streams = s.streams := rfl
@[simp] theorem State.onPending_manifests (s : State) (f : List Instr → List Instr) : (s.onPending f).manifests = s.manifests := rfl
@[simp] theorem State.onPending_basin (s : State) (f : List Instr → List Instr) : (s.onPending f).basin = s.basin := rfl
@[simp] theorem State.onPending_wharf (s : State) (f : List Instr → List Instr) : (s.onPending f).wharf = s.wharf := rfl
@[simp] theorem State.onPending_meas (s : State) (f : List Instr → List Instr) : (s.onPending f).meas = s.meas := rfl
@[simp] theorem State.onPending_audio (s : State) (f : List Instr → List Instr) : (s.onPending f).audio = s.audio := rfl
@[simp] theorem State.onPending_heads (s : State) (f : List Instr → List Instr) : (s.onPending f).heads = s.heads := rfl
@[simp] theorem State.onPending_tow (s : State) (f : List Instr → List Instr) : (s.onPending f).tow = s.tow := rfl
@[simp] theorem State.onPending_twin (s : State) (f : List Instr → List Instr) : (s.onPending f).twin = s.twin := rfl
@[simp] theorem State.onPending_clocks (s : State) (f : List Instr → List Instr) : (s.onPending f).clocks = s.clocks := rfl
@[simp] theorem State.onPending_start (s : State) (f : List Instr → List Instr) : (s.onPending f).start = s.start := rfl
@[simp] theorem State.onPending_journal (s : State) (f : List Instr → List Instr) : (s.onPending f).journal = s.journal := rfl
@[simp] theorem State.onPending_log (s : State) (f : List Instr → List Instr) : (s.onPending f).log = s.log := rfl
@[simp] theorem State.onPending_faults (s : State) (f : List Instr → List Instr) : (s.onPending f).faults = s.faults := rfl
@[simp] theorem State.onPending_keys (s : State) (f : List Instr → List Instr) : (s.onPending f).keys = s.keys := rfl
@[simp] theorem State.onPending_fw (s : State) (f : List Instr → List Instr) : (s.onPending f).fw = s.fw := rfl
@[simp] theorem State.onPending_pins (s : State) (f : List Instr → List Instr) : (s.onPending f).pins = s.pins := rfl
@[simp] theorem State.onPending_hdm (s : State) (f : List Instr → List Instr) : (s.onPending f).hdm = s.hdm := rfl
@[simp] theorem State.onPending_freeCtr (s : State) (f : List Instr → List Instr) : (s.onPending f).freeCtr = s.freeCtr := rfl
@[simp] theorem State.onPending_pending (s : State) (f : List Instr → List Instr) : (s.onPending f).pending = f s.pending := rfl

end Sys2Proof.Machine
end

