-- ==== Sys2Proof/Laws/Mailbox.lean ====
section
/-! SUPPORT.  What the mailbox's shared operations do: an accepted record is carried out, a completion is written. -/

namespace Sys2Proof.Machine
open Sys2Proof

/-- An accepted record is carried out in the state that its admission leaves, and concluded. -/
theorem runCmd_accepts {i : CmdInfo} {body : Cmd → State → Res} {c : Cmd} {s : State} (h : accepts i c s) :
    runCmd i body c s = conclude i c (body c (admittedAt c s)) := by
  obtain ⟨hg, ht, hk⟩ := h
  have h2 : waitsTick c (eligTick s c.ch c.units) s.now = false := by
    unfold waitsTick
    by_cases ha : c.atTick = true
    · have hb : ¬ s.now < c.targetTick := fun e => ht ⟨ha, e⟩
      simp [hb]
    · simp [ha]
  have h1 : c.ch ≠ 0 := by
    intro e
    simp [gate, e] at hg
  unfold runCmd
  rw [if_neg h1, hg, if_neg (by simp), h2, if_neg (by simp)]
  unfold admitRecord judge
  change conclude i c (match checkCmd i c (admittedAt c s) with
    | some (st, d) => rej st d (admittedAt c s)
    | none => body c (admittedAt c s)) = _
  rw [hk]

/-- The answer to an accepted record. -/
theorem answer_accepts {i : CmdInfo} {body : Cmd → State → Res} {c : Cmd} {s : State} (h : accepts i c s) :
    answer (runCmd i body c s) = concluded i c (body c (admittedAt c s)) := by
  rw [runCmd_accepts h]; rfl

end Sys2Proof.Machine
end

