-- ==== Sys2Proof/WellFormed.lean ====
section
/-! DEFINITION.  Which commands can arrive: every index within what it numbers, every record of the length
its layout gives.  The meanings are total all the same. -/

namespace Sys2Proof
open Sys2Proof.Machine

/-- A command record: each header field within its width, as many payload bytes as PAYLOAD_LENGTH says (R78). -/
def cmdOk (c : Cmd) : Bool :=
  decide (c.ch < 64) && decide (c.tag < 65536) && decide (c.session < 65536) && decide (c.flags < 65536) &&
    decide (c.expectedGen < 2 ^ 32) && decide (c.targetTick < 2 ^ 64) && decide (c.length ≤ 4096) &&
    decide (c.payload.length = c.length)

/-- A received barge: 16 codeword outcomes and 10,280 payload bytes (R328). -/
def bargeOk (b : RxBarge) : Bool :=
  decide (b.tail < 2 ^ 32) && decide (b.codewords.length = 16) && decide (b.payload.length = 10280)

/-- Graphics pages between the twins (R307, R374): each of one of the 256 buffers, 4 KiB long. -/
def pagesOk (ps : List (Nat × Nat × List Byte)) : Bool := ps.all fun p => decide (p.1 < 256) && decide (p.2.2.length = 4096)

/-- A Tandem record: its RSEQ within 32 bits, its pages whole (R374). -/
def recordOk (r : TandemRec) : Bool :=
  decide (r.rseq < 2 ^ 32) && r.sections.all fun x => match x with
    | .pages ps => pagesOk ps
    | _ => true

/-- A command is well formed. -/
def wellFormed : Instr → Bool
  | .ddStatus c => cmdOk c
  | .ddBegin c => cmdOk c
  | .ddChunk c => cmdOk c
  | .ddFinish c => cmdOk c
  | .ddRestart c => cmdOk c
  | .ddCommitWhileBusy => true
  | .identify c => cmdOk c
  | .openSession c => cmdOk c
  | .closeSession c => cmdOk c
  | .keepalive c => cmdOk c
  | .setInterrupts c => cmdOk c
  | .setChannelCeiling c => cmdOk c
  | .setNotify c => cmdOk c
  | .setTrim c => cmdOk c
  | .commandUnknownOpcode opcode c => decide (opcode < 65536) && cmdOk c
  | .defineStream c => cmdOk c
  | .releaseStream c => cmdOk c
  | .setManifest c => cmdOk c
  | .setPlane c => cmdOk c
  | .readTiming c => cmdOk c
  | .setReference c => cmdOk c
  | .setSelectionPolicy c => cmdOk c
  | .readReferences c => cmdOk c
  | .take c => cmdOk c
  | .salvo c => cmdOk c
  | .cancel c => cmdOk c
  | .lockDestination c => cmdOk c
  | .setGenerator c => cmdOk c
  | .readRoutes c => cmdOk c
  | .setFrameSync c => cmdOk c
  | .readBerths c => cmdOk c
  | .readWharf c => cmdOk c
  | .setWharfPolicy c => cmdOk c
  | .setDestinationForm c => cmdOk c
  | .setAncDestination c => cmdOk c
  | .setDetectors c => cmdOk c
  | .setLoudnessGroup c => cmdOk c
  | .setChannelGain c => cmdOk c
  | .setChannelDelay c => cmdOk c
  | .setMix c => cmdOk c
  | .setChannelOptions c => cmdOk c
  | .readAudioSources c => cmdOk c
  | .setHead c => cmdOk c
  | .setLayer c => cmdOk c
  | .setCoefficients c => cmdOk c
  | .setLut c => cmdOk c
  | .setAssay c => cmdOk c
  | .writeHallmark c => cmdOk c
  | .setHallmarkRegion c => cmdOk c
  | .readHead c => cmdOk c
  | .commitHead c => cmdOk c
  | .laneControl c => cmdOk c
  | .setLanePolicy c => cmdOk c
  | .readTwin c => cmdOk c
  | .setTwinPolicy c => cmdOk c
  | .resync c => cmdOk c
  | .yieldHelm c => cmdOk c
  | .readClocks c => cmdOk c
  | .setPowerPolicy c => cmdOk c
  | .restart c => cmdOk c
  | .readStarts c => cmdOk c
  | .readLogbook c => cmdOk c
  | .setJournalPolicy c => cmdOk c
  | .readFaults c => cmdOk c
  | .setFaultPolicy c => cmdOk c
  | .injectFault c => cmdOk c
  | .clearFirstFault c => cmdOk c
  | .attest c => cmdOk c
  | .installKey c => cmdOk c
  | .swapKey c => cmdOk c
  | .invalidateKey c => cmdOk c
  | .readKeys c => cmdOk c
  | .scuttle c => cmdOk c
  | .stageImage c => cmdOk c
  | .setFollowList c => cmdOk c
  | .handover c => cmdOk c
  | .commitImage c => cmdOk c
  | .revert c => cmdOk c
  | .abortUpdate c => cmdOk c
  | .readFirmware c => cmdOk c
  | .doorbellWrite ch _ => decide (ch < 64)
  | .registerWrite _ _ _ => true
  | .hdmDecoderCommit decoder _ => decide (decoder < 2)
  | .hostHdmWrite _ _ => true
  | .hostHdmRead _ _ => true
  | .eventRingSpaceReturns ring eqHead => decide (ring < 4) && decide (eqHead < 2 ^ 32)
  | .channelDrained ch => decide (ch < 64)
  | .cxlLinkUp width rate => decide (width ∈ [1, 2, 4, 8]) && decide (1 ≤ rate ∧ rate ≤ 3)
  | .plainPcieLink width rate => decide (width ∈ [1, 2, 4, 8]) && decide (1 ≤ rate ∧ rate ≤ 3)
  | .linkLoss _ => true
  | .perstDeasserted => true
  | .doeDiscovery _ => true
  | .getVersion => true
  | .getCapabilities _ => true
  | .negotiateAlgorithms _ => true
  | .getDigests => true
  | .getCertificate _ _ _ => true
  | .challenge _ nonce => decide (nonce.length = 32)
  | .getMeasurements _ nonce => decide (nonce.length = 32)
  | .keyExchange _ _ => true
  | .finish _ _ => true
  | .keyUpdate _ => true
  | .heartbeat _ => true
  | .endSession _ => true
  | .spdmHeartbeatLapse _ => true
  | .query _ stream => decide (stream < 2)
  | .keyProg _ stream direction keySet key => decide (stream < 2) && decide (direction < 2) && decide (keySet < 2) && decide (key.length = 32)
  | .kSetGo _ stream direction keySet => decide (stream < 2) && decide (direction < 2) && decide (keySet < 2)
  | .kSetStop _ stream direction keySet => decide (stream < 2) && decide (direction < 2) && decide (keySet < 2)
  | .sampleTick _ _ _ _ => true
  | .moderationTimeout _ _ => true
  | .atTickRelease ch => decide (ch < 64)
  | .sessionLeaseExpiry ch => decide (ch < 64)
  | .commitDeadline plane => decide (plane < 8)
  | .switchPoint dest => decide (dest < 65536)
  | .adoptionTick plane => decide (plane < 8)
  | .frameTick plane => decide (plane < 8)
  | .aliveToggle => true
  | .backgroundWindow => true
  | .chartPeriodicPublish => true
  | .frameRefPulse pin _ => decide (pin < 2)
  | .beaconRecord slot record _ => decide (slot < 8) && decide (record.length = 32)
  | .referenceMissing slot => decide (slot < 10)
  | .qualificationComplete slot => decide (slot < 10)
  | .referenceFrequencyWindow withinNs => decide (withinNs < 20834)
  | .holdoverBudgetCrossing => true
  | .slipDecision => true
  | .slipEffect bay => decide (bay < 8192)
  | .primingComplete bay => decide (bay < 8192)
  | .lossHoldExpiry bay => decide (bay < 8192)
  | .journalCut => true
  | .journalCommitDurable _ _ => true
  | .commitIntervalReview => true
  | .logbookCheckpoint => true
  | .norPatrol _ _ _ _ => true
  | .poundRotation die => decide (die < 2)
  | .poundTrafficMove outputs => decide (outputs.die < 2)
  | .poundSelfTestComplete die _ => decide (die < 2)
  | .patrolScrubRead stack _ => decide (stack < 4)
  | .scrubPassComplete stack => decide (stack < 4)
  | .softRepairComplete stack => decide (stack < 4)
  | .spareCopyComplete stack => decide (stack < 4)
  | .bargeTransmit lane payload => decide (lane < 130) && decide (payload.length = 10280)
  | .dataBargeReceived lane barge => decide (lane < 130) && bargeOk barge
  | .calibrationBarge lane tail _ _ => decide (lane < 130) && decide (tail < 2 ^ 32)
  | .levelHistogramWindow lane shares => decide (lane < 130) && decide (shares.length = 4)
  | .trainingBarge lane tail _ control _ => decide (lane < 130) && decide (tail < 2 ^ 32) && decide (control.length = 32)
  | .commaLoss lane => decide (lane < 130)
  | .relockTimeout lane => decide (lane < 130)
  | .laneBringupTimeout lane => decide (lane < 130)
  | .detectIdleEnd lane => decide (lane < 130)
  | .capsRecord lane record => decide (lane < 130) && decide (record.length = 48)
  | .epochRecord lane record => decide (lane < 128) && decide (record.length = 12)
  | .statusRecord lane record => decide (lane < 130) && decide (record.length = 16)
  | .moorRecord lane record => decide (lane < 128) && decide (record.length = 8)
  | .manifestEpoch direction lane => decide (direction < 2) && decide (lane < 128)
  | .manifestTimeout lane => decide (lane < 128)
  | .moorBarge direction lane => decide (direction < 2) && decide (lane < 128)
  | .signalDetectWake lane _ => decide (lane < 130)
  | .wakeComplete lane => decide (lane < 130)
  | .ecoMoor lane => decide (lane < 128)
  | .helmGrantAsserted => true
  | .helmGrantDeasserted => true
  | .idleRecord => true
  | .tandemRecordReceived _ _ record => recordOk record
  | .tandemRecordApply => true
  | .recordMissing rseq => decide (rseq < 2 ^ 32)
  | .tandemAckReceived _ => true
  | .partnerAdrift => true
  | .adrift => true
  | .tandemKeyExchange _ => true
  | .tandemRekey rseq _ => decide (rseq < 2 ^ 32)
  | .resyncPhaseComplete snapshot => (snapshot.all fun x => pagesOk x.pages)
  | .resyncPhaseOverrun => true
  | .resyncRetry => true
  | .yieldTimeout => true
  | .graphicsTransferComplete head => decide (head < 32)
  | .refclkFault _ cause => decide (1 ≤ cause ∧ cause ≤ 3)
  | .anvilUnlock => true
  | .refclkClean _ => true
  | .anvilLocked anvil _ => decide (anvil < 4)
  | .anvilHoldoverTimeout => true
  | .rootFrequencyTrip _ => true
  | .preferredAnvilReturn => true
  | .slewDebtCleared => true
  | .powerOn => true
  | .powerLoss => true
  | .supplyReset monitor _ => decide (monitor < 8)
  | .supplyLow monitor _ => decide (monitor < 8)
  | .pwrFailAsserted => true
  | .pwrFailWithdrawn => true
  | .thermalSample temps _ => decide (temps.length = 48)
  | .thermalTrip sensor _ => decide (sensor < 48)
  | .tamperAlarm trip => decide (trip.source < 4)
  | .scuttleComplete _ => true
  | .faultReport _ => true
  | .injectionTimeout _ _ inst => decide (inst < 65536)
  | .wheelhouseWatchdog _ => true
  | .autoReset => true
  | .fabricRequest _ => true
  | .targetTimeout die master stream => decide (die < 2) && decide (master < 8) && decide (stream < 64)
  | .masterReset die master => decide (die < 2) && decide (master < 8)
  | .quiesce domain _ => decide (domain < 60)
  | .quiesceAbandoned domain => decide (domain < 60)
  | .forcedGate domain => decide (domain < 60)
  | .domainRampComplete domain => decide (domain < 60)
  | .startStepComplete _ _ => true
  | .startStepTimeout _ => true
  | .startRetry => true
  | .restartStart => true
  | .slotWriteComplete _ => true
  | .partnerImageOffer digest => decide (digest.length = 48)
  | .handoverStepComplete _ => true
  | .trialEnd => true
  | .mgmtWrite _ => true
  | .mgmtRead _ => true
  | .jtagTapReset => true
  | .jtagExtest => true
  | .jtagInject _ _ inst _ _ _ => decide (inst < 65536)
  | .h2dSnoop _ => true
  | .imageCheckComplete header _ => decide (header.length = 512)

end Sys2Proof
end

