-- ==== Sys2Proof/Laws/PerInstr.lean ====
section
/-! SUPPORT.  One lemma per command: a well-formed row that carries a command record carries one whose payload is as long as its
header says (R78). -/

namespace Sys2Proof.Laws
open Sys2Proof Sys2Proof.Machine

/-- The command record that a row carries, if it carries one. -/
def recordOf : Instr → Option Cmd
  | .ddStatus c => some c
  | .ddBegin c => some c
  | .ddChunk c => some c
  | .ddFinish c => some c
  | .ddRestart c => some c
  | .ddCommitWhileBusy => none
  | .identify c => some c
  | .openSession c => some c
  | .closeSession c => some c
  | .keepalive c => some c
  | .setInterrupts c => some c
  | .setChannelCeiling c => some c
  | .setNotify c => some c
  | .setTrim c => some c
  | .commandUnknownOpcode _ c => some c
  | .defineStream c => some c
  | .releaseStream c => some c
  | .setManifest c => some c
  | .setPlane c => some c
  | .readTiming c => some c
  | .setReference c => some c
  | .setSelectionPolicy c => some c
  | .readReferences c => some c
  | .take c => some c
  | .salvo c => some c
  | .cancel c => some c
  | .lockDestination c => some c
  | .setGenerator c => some c
  | .readRoutes c => some c
  | .setFrameSync c => some c
  | .readBerths c => some c
  | .readWharf c => some c
  | .setWharfPolicy c => some c
  | .setDestinationForm c => some c
  | .setAncDestination c => some c
  | .setDetectors c => some c
  | .setLoudnessGroup c => some c
  | .setChannelGain c => some c
  | .setChannelDelay c => some c
  | .setMix c => some c
  | .setChannelOptions c => some c
  | .readAudioSources c => some c
  | .setHead c => some c
  | .setLayer c => some c
  | .setCoefficients c => some c
  | .setLut c => some c
  | .setAssay c => some c
  | .writeHallmark c => some c
  | .setHallmarkRegion c => some c
  | .readHead c => some c
  | .commitHead c => some c
  | .laneControl c => some c
  | .setLanePolicy c => some c
  | .readTwin c => some c
  | .setTwinPolicy c => some c
  | .resync c => some c
  | .yieldHelm c => some c
  | .readClocks c => some c
  | .setPowerPolicy c => some c
  | .restart c => some c
  | .readStarts c => some c
  | .readLogbook c => some c
  | .setJournalPolicy c => some c
  | .readFaults c => some c
  | .setFaultPolicy c => some c
  | .injectFault c => some c
  | .clearFirstFault c => some c
  | .attest c => some c
  | .installKey c => some c
  | .swapKey c => some c
  | .invalidateKey c => some c
  | .readKeys c => some c
  | .scuttle c => some c
  | .stageImage c => some c
  | .setFollowList c => some c
  | .handover c => some c
  | .commitImage c => some c
  | .revert c => some c
  | .abortUpdate c => some c
  | .readFirmware c => some c
  | .doorbellWrite _ _ => none
  | .registerWrite _ _ _ => none
  | .hdmDecoderCommit _ _ => none
  | .hostHdmWrite _ _ => none
  | .hostHdmRead _ _ => none
  | .eventRingSpaceReturns _ _ => none
  | .channelDrained _ => none
  | .cxlLinkUp _ _ => none
  | .plainPcieLink _ _ => none
  | .linkLoss _ => none
  | .perstDeasserted => none
  | .doeDiscovery _ => none
  | .getVersion => none
  | .getCapabilities _ => none
  | .negotiateAlgorithms _ => none
  | .getDigests => none
  | .getCertificate _ _ _ => none
  | .challenge _ _ => none
  | .getMeasurements _ _ => none
  | .keyExchange _ _ => none
  | .finish _ _ => none
  | .keyUpdate _ => none
  | .heartbeat _ => none
  | .endSession _ => none
  | .spdmHeartbeatLapse _ => none
  | .query _ _ => none
  | .keyProg _ _ _ _ _ => none
  | .kSetGo _ _ _ _ => none
  | .kSetStop _ _ _ _ => none
  | .sampleTick _ _ _ _ => none
  | .moderationTimeout _ _ => none
  | .atTickRelease _ => none
  | .sessionLeaseExpiry _ => none
  | .commitDeadline _ => none
  | .switchPoint _ => none
  | .adoptionTick _ => none
  | .frameTick _ => none
  | .aliveToggle => none
  | .backgroundWindow => none
  | .chartPeriodicPublish => none
  | .frameRefPulse _ _ => none
  | .beaconRecord _ _ _ => none
  | .referenceMissing _ => none
  | .qualificationComplete _ => none
  | .referenceFrequencyWindow _ => none
  | .holdoverBudgetCrossing => none
  | .slipDecision => none
  | .slipEffect _ => none
  | .primingComplete _ => none
  | .lossHoldExpiry _ => none
  | .journalCut => none
  | .journalCommitDurable _ _ => none
  | .commitIntervalReview => none
  | .logbookCheckpoint => none
  | .norPatrol _ _ _ _ => none
  | .poundRotation _ => none
  | .poundTrafficMove _ => none
  | .poundSelfTestComplete _ _ => none
  | .patrolScrubRead _ _ => none
  | .scrubPassComplete _ => none
  | .softRepairComplete _ => none
  | .spareCopyComplete _ => none
  | .bargeTransmit _ _ => none
  | .dataBargeReceived _ _ => none
  | .calibrationBarge _ _ _ _ => none
  | .levelHistogramWindow _ _ => none
  | .trainingBarge _ _ _ _ _ => none
  | .commaLoss _ => none
  | .relockTimeout _ => none
  | .laneBringupTimeout _ => none
  | .detectIdleEnd _ => none
  | .capsRecord _ _ => none
  | .epochRecord _ _ => none
  | .statusRecord _ _ => none
  | .moorRecord _ _ => none
  | .manifestEpoch _ _ => none
  | .manifestTimeout _ => none
  | .moorBarge _ _ => none
  | .signalDetectWake _ _ => none
  | .wakeComplete _ => none
  | .ecoMoor _ => none
  | .helmGrantAsserted => none
  | .helmGrantDeasserted => none
  | .idleRecord => none
  | .tandemRecordReceived _ _ _ => none
  | .tandemRecordApply => none
  | .recordMissing _ => none
  | .tandemAckReceived _ => none
  | .partnerAdrift => none
  | .adrift => none
  | .tandemKeyExchange _ => none
  | .tandemRekey _ _ => none
  | .resyncPhaseComplete _ => none
  | .resyncPhaseOverrun => none
  | .resyncRetry => none
  | .yieldTimeout => none
  | .graphicsTransferComplete _ => none
  | .refclkFault _ _ => none
  | .anvilUnlock => none
  | .refclkClean _ => none
  | .anvilLocked _ _ => none
  | .anvilHoldoverTimeout => none
  | .rootFrequencyTrip _ => none
  | .preferredAnvilReturn => none
  | .slewDebtCleared => none
  | .powerOn => none
  | .powerLoss => none
  | .supplyReset _ _ => none
  | .supplyLow _ _ => none
  | .pwrFailAsserted => none
  | .pwrFailWithdrawn => none
  | .thermalSample _ _ => none
  | .thermalTrip _ _ => none
  | .tamperAlarm _ => none
  | .scuttleComplete _ => none
  | .faultReport _ => none
  | .injectionTimeout _ _ _ => none
  | .wheelhouseWatchdog _ => none
  | .autoReset => none
  | .fabricRequest _ => none
  | .targetTimeout _ _ _ => none
  | .masterReset _ _ => none
  | .quiesce _ _ => none
  | .quiesceAbandoned _ => none
  | .forcedGate _ => none
  | .domainRampComplete _ => none
  | .startStepComplete _ _ => none
  | .startStepTimeout _ => none
  | .startRetry => none
  | .restartStart => none
  | .slotWriteComplete _ => none
  | .partnerImageOffer _ => none
  | .handoverStepComplete _ => none
  | .trialEnd => none
  | .mgmtWrite _ => none
  | .mgmtRead _ => none
  | .jtagTapReset => none
  | .jtagExtest => none
  | .jtagInject _ _ _ _ _ _ => none
  | .h2dSnoop _ => none
  | .imageCheckComplete _ _ => none

/-- A well-formed row carries only records whose channel exists and whose payload has PAYLOAD_LENGTH bytes, at most 4,096. -/
def Carried.Statement (i : Instr) : Prop :=
  wellFormed i = true → ∀ c, recordOf i = some c → c.ch < 64 ∧ c.payload.length = c.length ∧ c.length ≤ 4096

/-- A record that is well formed has what the statement asks. -/
theorem cmdOk_carried {c : Cmd} (h : cmdOk c = true) : c.ch < 64 ∧ c.payload.length = c.length ∧ c.length ≤ 4096 := by
  simp only [cmdOk, Bool.and_eq_true, decide_eq_true_eq] at h
  exact ⟨h.1.1.1.1.1.1.1, h.2, h.1.2⟩

theorem Carried.ddStatus (c : Cmd) : Carried.Statement (.ddStatus c) := fun h _ e => Option.some.inj e ▸ cmdOk_carried h
theorem Carried.ddBegin (c : Cmd) : Carried.Statement (.ddBegin c) := fun h _ e => Option.some.inj e ▸ cmdOk_carried h
theorem Carried.ddChunk (c : Cmd) : Carried.Statement (.ddChunk c) := fun h _ e => Option.some.inj e ▸ cmdOk_carried h
theorem Carried.ddFinish (c : Cmd) : Carried.Statement (.ddFinish c) := fun h _ e => Option.some.inj e ▸ cmdOk_carried h
theorem Carried.ddRestart (c : Cmd) : Carried.Statement (.ddRestart c) := fun h _ e => Option.some.inj e ▸ cmdOk_carried h
theorem Carried.ddCommitWhileBusy : Carried.Statement (.ddCommitWhileBusy) := fun _ _ e => nomatch e
theorem Carried.identify (c : Cmd) : Carried.Statement (.identify c) := fun h _ e => Option.some.inj e ▸ cmdOk_carried h
theorem Carried.openSession (c : Cmd) : Carried.Statement (.openSession c) := fun h _ e => Option.some.inj e ▸ cmdOk_carried h
theorem Carried.closeSession (c : Cmd) : Carried.Statement (.closeSession c) := fun h _ e => Option.some.inj e ▸ cmdOk_carried h
theorem Carried.keepalive (c : Cmd) : Carried.Statement (.keepalive c) := fun h _ e => Option.some.inj e ▸ cmdOk_carried h
theorem Carried.setInterrupts (c : Cmd) : Carried.Statement (.setInterrupts c) := fun h _ e => Option.some.inj e ▸ cmdOk_carried h
theorem Carried.setChannelCeiling (c : Cmd) : Carried.Statement (.setChannelCeiling c) := fun h _ e => Option.some.inj e ▸ cmdOk_carried h
theorem Carried.setNotify (c : Cmd) : Carried.Statement (.setNotify c) := fun h _ e => Option.some.inj e ▸ cmdOk_carried h
theorem Carried.setTrim (c : Cmd) : Carried.Statement (.setTrim c) := fun h _ e => Option.some.inj e ▸ cmdOk_carried h
theorem Carried.commandUnknownOpcode (opcode : Nat) (c : Cmd) : Carried.Statement (.commandUnknownOpcode opcode c) := fun h _ e => Option.some.inj e ▸ cmdOk_carried (((Bool.and_eq_true _ _).mp h).2)
theorem Carried.defineStream (c : Cmd) : Carried.Statement (.defineStream c) := fun h _ e => Option.some.inj e ▸ cmdOk_carried h
theorem Carried.releaseStream (c : Cmd) : Carried.Statement (.releaseStream c) := fun h _ e => Option.some.inj e ▸ cmdOk_carried h
theorem Carried.setManifest (c : Cmd) : Carried.Statement (.setManifest c) := fun h _ e => Option.some.inj e ▸ cmdOk_carried h
theorem Carried.setPlane (c : Cmd) : Carried.Statement (.setPlane c) := fun h _ e => Option.some.inj e ▸ cmdOk_carried h
theorem Carried.readTiming (c : Cmd) : Carried.Statement (.readTiming c) := fun h _ e => Option.some.inj e ▸ cmdOk_carried h
theorem Carried.setReference (c : Cmd) : Carried.Statement (.setReference c) := fun h _ e => Option.some.inj e ▸ cmdOk_carried h
theorem Carried.setSelectionPolicy (c : Cmd) : Carried.Statement (.setSelectionPolicy c) := fun h _ e => Option.some.inj e ▸ cmdOk_carried h
theorem Carried.readReferences (c : Cmd) : Carried.Statement (.readReferences c) := fun h _ e => Option.some.inj e ▸ cmdOk_carried h
theorem Carried.take (c : Cmd) : Carried.Statement (.take c) := fun h _ e => Option.some.inj e ▸ cmdOk_carried h
theorem Carried.salvo (c : Cmd) : Carried.Statement (.salvo c) := fun h _ e => Option.some.inj e ▸ cmdOk_carried h
theorem Carried.cancel (c : Cmd) : Carried.Statement (.cancel c) := fun h _ e => Option.some.inj e ▸ cmdOk_carried h
theorem Carried.lockDestination (c : Cmd) : Carried.Statement (.lockDestination c) := fun h _ e => Option.some.inj e ▸ cmdOk_carried h
theorem Carried.setGenerator (c : Cmd) : Carried.Statement (.setGenerator c) := fun h _ e => Option.some.inj e ▸ cmdOk_carried h
theorem Carried.readRoutes (c : Cmd) : Carried.Statement (.readRoutes c) := fun h _ e => Option.some.inj e ▸ cmdOk_carried h
theorem Carried.setFrameSync (c : Cmd) : Carried.Statement (.setFrameSync c) := fun h _ e => Option.some.inj e ▸ cmdOk_carried h
theorem Carried.readBerths (c : Cmd) : Carried.Statement (.readBerths c) := fun h _ e => Option.some.inj e ▸ cmdOk_carried h
theorem Carried.readWharf (c : Cmd) : Carried.Statement (.readWharf c) := fun h _ e => Option.some.inj e ▸ cmdOk_carried h
theorem Carried.setWharfPolicy (c : Cmd) : Carried.Statement (.setWharfPolicy c) := fun h _ e => Option.some.inj e ▸ cmdOk_carried h
theorem Carried.setDestinationForm (c : Cmd) : Carried.Statement (.setDestinationForm c) := fun h _ e => Option.some.inj e ▸ cmdOk_carried h
theorem Carried.setAncDestination (c : Cmd) : Carried.Statement (.setAncDestination c) := fun h _ e => Option.some.inj e ▸ cmdOk_carried h
theorem Carried.setDetectors (c : Cmd) : Carried.Statement (.setDetectors c) := fun h _ e => Option.some.inj e ▸ cmdOk_carried h
theorem Carried.setLoudnessGroup (c : Cmd) : Carried.Statement (.setLoudnessGroup c) := fun h _ e => Option.some.inj e ▸ cmdOk_carried h
theorem Carried.setChannelGain (c : Cmd) : Carried.Statement (.setChannelGain c) := fun h _ e => Option.some.inj e ▸ cmdOk_carried h
theorem Carried.setChannelDelay (c : Cmd) : Carried.Statement (.setChannelDelay c) := fun h _ e => Option.some.inj e ▸ cmdOk_carried h
theorem Carried.setMix (c : Cmd) : Carried.Statement (.setMix c) := fun h _ e => Option.some.inj e ▸ cmdOk_carried h
theorem Carried.setChannelOptions (c : Cmd) : Carried.Statement (.setChannelOptions c) := fun h _ e => Option.some.inj e ▸ cmdOk_carried h
theorem Carried.readAudioSources (c : Cmd) : Carried.Statement (.readAudioSources c) := fun h _ e => Option.some.inj e ▸ cmdOk_carried h
theorem Carried.setHead (c : Cmd) : Carried.Statement (.setHead c) := fun h _ e => Option.some.inj e ▸ cmdOk_carried h
theorem Carried.setLayer (c : Cmd) : Carried.Statement (.setLayer c) := fun h _ e => Option.some.inj e ▸ cmdOk_carried h
theorem Carried.setCoefficients (c : Cmd) : Carried.Statement (.setCoefficients c) := fun h _ e => Option.some.inj e ▸ cmdOk_carried h
theorem Carried.setLut (c : Cmd) : Carried.Statement (.setLut c) := fun h _ e => Option.some.inj e ▸ cmdOk_carried h
theorem Carried.setAssay (c : Cmd) : Carried.Statement (.setAssay c) := fun h _ e => Option.some.inj e ▸ cmdOk_carried h
theorem Carried.writeHallmark (c : Cmd) : Carried.Statement (.writeHallmark c) := fun h _ e => Option.some.inj e ▸ cmdOk_carried h
theorem Carried.setHallmarkRegion (c : Cmd) : Carried.Statement (.setHallmarkRegion c) := fun h _ e => Option.some.inj e ▸ cmdOk_carried h
theorem Carried.readHead (c : Cmd) : Carried.Statement (.readHead c) := fun h _ e => Option.some.inj e ▸ cmdOk_carried h
theorem Carried.commitHead (c : Cmd) : Carried.Statement (.commitHead c) := fun h _ e => Option.some.inj e ▸ cmdOk_carried h
theorem Carried.laneControl (c : Cmd) : Carried.Statement (.laneControl c) := fun h _ e => Option.some.inj e ▸ cmdOk_carried h
theorem Carried.setLanePolicy (c : Cmd) : Carried.Statement (.setLanePolicy c) := fun h _ e => Option.some.inj e ▸ cmdOk_carried h
theorem Carried.readTwin (c : Cmd) : Carried.Statement (.readTwin c) := fun h _ e => Option.some.inj e ▸ cmdOk_carried h
theorem Carried.setTwinPolicy (c : Cmd) : Carried.Statement (.setTwinPolicy c) := fun h _ e => Option.some.inj e ▸ cmdOk_carried h
theorem Carried.resync (c : Cmd) : Carried.Statement (.resync c) := fun h _ e => Option.some.inj e ▸ cmdOk_carried h
theorem Carried.yieldHelm (c : Cmd) : Carried.Statement (.yieldHelm c) := fun h _ e => Option.some.inj e ▸ cmdOk_carried h
theorem Carried.readClocks (c : Cmd) : Carried.Statement (.readClocks c) := fun h _ e => Option.some.inj e ▸ cmdOk_carried h
theorem Carried.setPowerPolicy (c : Cmd) : Carried.Statement (.setPowerPolicy c) := fun h _ e => Option.some.inj e ▸ cmdOk_carried h
theorem Carried.restart (c : Cmd) : Carried.Statement (.restart c) := fun h _ e => Option.some.inj e ▸ cmdOk_carried h
theorem Carried.readStarts (c : Cmd) : Carried.Statement (.readStarts c) := fun h _ e => Option.some.inj e ▸ cmdOk_carried h
theorem Carried.readLogbook (c : Cmd) : Carried.Statement (.readLogbook c) := fun h _ e => Option.some.inj e ▸ cmdOk_carried h
theorem Carried.setJournalPolicy (c : Cmd) : Carried.Statement (.setJournalPolicy c) := fun h _ e => Option.some.inj e ▸ cmdOk_carried h
theorem Carried.readFaults (c : Cmd) : Carried.Statement (.readFaults c) := fun h _ e => Option.some.inj e ▸ cmdOk_carried h
theorem Carried.setFaultPolicy (c : Cmd) : Carried.Statement (.setFaultPolicy c) := fun h _ e => Option.some.inj e ▸ cmdOk_carried h
theorem Carried.injectFault (c : Cmd) : Carried.Statement (.injectFault c) := fun h _ e => Option.some.inj e ▸ cmdOk_carried h
theorem Carried.clearFirstFault (c : Cmd) : Carried.Statement (.clearFirstFault c) := fun h _ e => Option.some.inj e ▸ cmdOk_carried h
theorem Carried.attest (c : Cmd) : Carried.Statement (.attest c) := fun h _ e => Option.some.inj e ▸ cmdOk_carried h
theorem Carried.installKey (c : Cmd) : Carried.Statement (.installKey c) := fun h _ e => Option.some.inj e ▸ cmdOk_carried h
theorem Carried.swapKey (c : Cmd) : Carried.Statement (.swapKey c) := fun h _ e => Option.some.inj e ▸ cmdOk_carried h
theorem Carried.invalidateKey (c : Cmd) : Carried.Statement (.invalidateKey c) := fun h _ e => Option.some.inj e ▸ cmdOk_carried h
theorem Carried.readKeys (c : Cmd) : Carried.Statement (.readKeys c) := fun h _ e => Option.some.inj e ▸ cmdOk_carried h
theorem Carried.scuttle (c : Cmd) : Carried.Statement (.scuttle c) := fun h _ e => Option.some.inj e ▸ cmdOk_carried h
theorem Carried.stageImage (c : Cmd) : Carried.Statement (.stageImage c) := fun h _ e => Option.some.inj e ▸ cmdOk_carried h
theorem Carried.setFollowList (c : Cmd) : Carried.Statement (.setFollowList c) := fun h _ e => Option.some.inj e ▸ cmdOk_carried h
theorem Carried.handover (c : Cmd) : Carried.Statement (.handover c) := fun h _ e => Option.some.inj e ▸ cmdOk_carried h
theorem Carried.commitImage (c : Cmd) : Carried.Statement (.commitImage c) := fun h _ e => Option.some.inj e ▸ cmdOk_carried h
theorem Carried.revert (c : Cmd) : Carried.Statement (.revert c) := fun h _ e => Option.some.inj e ▸ cmdOk_carried h
theorem Carried.abortUpdate (c : Cmd) : Carried.Statement (.abortUpdate c) := fun h _ e => Option.some.inj e ▸ cmdOk_carried h
theorem Carried.readFirmware (c : Cmd) : Carried.Statement (.readFirmware c) := fun h _ e => Option.some.inj e ▸ cmdOk_carried h
theorem Carried.doorbellWrite (ch : Nat) (value : Nat) : Carried.Statement (.doorbellWrite ch value) := fun _ _ e => nomatch e
theorem Carried.registerWrite (space : RegSpace) (offset : Nat) (data : List Byte) : Carried.Statement (.registerWrite space offset data) := fun _ _ e => nomatch e
theorem Carried.hdmDecoderCommit (decoder : Nat) (base : Nat) : Carried.Statement (.hdmDecoderCommit decoder base) := fun _ _ e => nomatch e
theorem Carried.hostHdmWrite (addr : Nat) (data : List Byte) : Carried.Statement (.hostHdmWrite addr data) := fun _ _ e => nomatch e
theorem Carried.hostHdmRead (addr : Nat) (length : Nat) : Carried.Statement (.hostHdmRead addr length) := fun _ _ e => nomatch e
theorem Carried.eventRingSpaceReturns (ring : Nat) (eqHead : Nat) : Carried.Statement (.eventRingSpaceReturns ring eqHead) := fun _ _ e => nomatch e
theorem Carried.channelDrained (ch : Nat) : Carried.Statement (.channelDrained ch) := fun _ _ e => nomatch e
theorem Carried.cxlLinkUp (width : Nat) (rate : Nat) : Carried.Statement (.cxlLinkUp width rate) := fun _ _ e => nomatch e
theorem Carried.plainPcieLink (width : Nat) (rate : Nat) : Carried.Statement (.plainPcieLink width rate) := fun _ _ e => nomatch e
theorem Carried.linkLoss (cause : LossCause) : Carried.Statement (.linkLoss cause) := fun _ _ e => nomatch e
theorem Carried.perstDeasserted : Carried.Statement (.perstDeasserted) := fun _ _ e => nomatch e
theorem Carried.doeDiscovery (index : Nat) : Carried.Statement (.doeDiscovery index) := fun _ _ e => nomatch e
theorem Carried.getVersion : Carried.Statement (.getVersion) := fun _ _ e => nomatch e
theorem Carried.getCapabilities (version : Nat) : Carried.Statement (.getCapabilities version) := fun _ _ e => nomatch e
theorem Carried.negotiateAlgorithms (offered : Bool) : Carried.Statement (.negotiateAlgorithms offered) := fun _ _ e => nomatch e
theorem Carried.getDigests : Carried.Statement (.getDigests) := fun _ _ e => nomatch e
theorem Carried.getCertificate (slot : Nat) (offset : Nat) (length : Nat) : Carried.Statement (.getCertificate slot offset length) := fun _ _ e => nomatch e
theorem Carried.challenge (slot : Nat) (nonce : List Byte) : Carried.Statement (.challenge slot nonce) := fun _ _ e => nomatch e
theorem Carried.getMeasurements (block : Nat) (nonce : List Byte) : Carried.Statement (.getMeasurements block nonce) := fun _ _ e => nomatch e
theorem Carried.keyExchange (heartbeat : Nat) (exchange : List Byte) : Carried.Statement (.keyExchange heartbeat exchange) := fun _ _ e => nomatch e
theorem Carried.finish (session : Nat) (verified : Bool) : Carried.Statement (.finish session verified) := fun _ _ e => nomatch e
theorem Carried.keyUpdate (session : Nat) : Carried.Statement (.keyUpdate session) := fun _ _ e => nomatch e
theorem Carried.heartbeat (session : Nat) : Carried.Statement (.heartbeat session) := fun _ _ e => nomatch e
theorem Carried.endSession (session : Nat) : Carried.Statement (.endSession session) := fun _ _ e => nomatch e
theorem Carried.spdmHeartbeatLapse (session : Nat) : Carried.Statement (.spdmHeartbeatLapse session) := fun _ _ e => nomatch e
theorem Carried.query (session : Nat) (stream : Nat) : Carried.Statement (.query session stream) := fun _ _ e => nomatch e
theorem Carried.keyProg (session : Nat) (stream : Nat) (direction : Nat) (keySet : Nat) (key : List Byte) : Carried.Statement (.keyProg session stream direction keySet key) := fun _ _ e => nomatch e
theorem Carried.kSetGo (session : Nat) (stream : Nat) (direction : Nat) (keySet : Nat) : Carried.Statement (.kSetGo session stream direction keySet) := fun _ _ e => nomatch e
theorem Carried.kSetStop (session : Nat) (stream : Nat) (direction : Nat) (keySet : Nat) : Carried.Statement (.kSetStop session stream direction keySet) := fun _ _ e => nomatch e
theorem Carried.sampleTick (fgNs : Nat) (bgNs : Nat) (beatEast : Bool) (beatWest : Bool) : Carried.Statement (.sampleTick fgNs bgNs beatEast beatWest) := fun _ _ e => nomatch e
theorem Carried.moderationTimeout (event : Bool) (index : Nat) : Carried.Statement (.moderationTimeout event index) := fun _ _ e => nomatch e
theorem Carried.atTickRelease (ch : Nat) : Carried.Statement (.atTickRelease ch) := fun _ _ e => nomatch e
theorem Carried.sessionLeaseExpiry (ch : Nat) : Carried.Statement (.sessionLeaseExpiry ch) := fun _ _ e => nomatch e
theorem Carried.commitDeadline (plane : Nat) : Carried.Statement (.commitDeadline plane) := fun _ _ e => nomatch e
theorem Carried.switchPoint (dest : Nat) : Carried.Statement (.switchPoint dest) := fun _ _ e => nomatch e
theorem Carried.adoptionTick (plane : Nat) : Carried.Statement (.adoptionTick plane) := fun _ _ e => nomatch e
theorem Carried.frameTick (plane : Nat) : Carried.Statement (.frameTick plane) := fun _ _ e => nomatch e
theorem Carried.aliveToggle : Carried.Statement (.aliveToggle) := fun _ _ e => nomatch e
theorem Carried.backgroundWindow : Carried.Statement (.backgroundWindow) := fun _ _ e => nomatch e
theorem Carried.chartPeriodicPublish : Carried.Statement (.chartPeriodicPublish) := fun _ _ e => nomatch e
theorem Carried.frameRefPulse (pin : Nat) (pulse : PinPulse) : Carried.Statement (.frameRefPulse pin pulse) := fun _ _ e => nomatch e
theorem Carried.beaconRecord (slot : Nat) (record : List Byte) (arrival : BeaconArrival) : Carried.Statement (.beaconRecord slot record arrival) := fun _ _ e => nomatch e
theorem Carried.referenceMissing (slot : Nat) : Carried.Statement (.referenceMissing slot) := fun _ _ e => nomatch e
theorem Carried.qualificationComplete (slot : Nat) : Carried.Statement (.qualificationComplete slot) := fun _ _ e => nomatch e
theorem Carried.referenceFrequencyWindow (withinNs : Nat) : Carried.Statement (.referenceFrequencyWindow withinNs) := fun _ _ e => nomatch e
theorem Carried.holdoverBudgetCrossing : Carried.Statement (.holdoverBudgetCrossing) := fun _ _ e => nomatch e
theorem Carried.slipDecision : Carried.Statement (.slipDecision) := fun _ _ e => nomatch e
theorem Carried.slipEffect (bay : Nat) : Carried.Statement (.slipEffect bay) := fun _ _ e => nomatch e
theorem Carried.primingComplete (bay : Nat) : Carried.Statement (.primingComplete bay) := fun _ _ e => nomatch e
theorem Carried.lossHoldExpiry (bay : Nat) : Carried.Statement (.lossHoldExpiry bay) := fun _ _ e => nomatch e
theorem Carried.journalCut : Carried.Statement (.journalCut) := fun _ _ e => nomatch e
theorem Carried.journalCommitDurable (ok0 : Bool) (ok1 : Bool) : Carried.Statement (.journalCommitDurable ok0 ok1) := fun _ _ e => nomatch e
theorem Carried.commitIntervalReview : Carried.Statement (.commitIntervalReview) := fun _ _ e => nomatch e
theorem Carried.logbookCheckpoint : Carried.Statement (.logbookCheckpoint) := fun _ _ e => nomatch e
theorem Carried.norPatrol (found0 : PatrolFound) (found1 : PatrolFound) (causeA : Nat) (causeB : Nat) : Carried.Statement (.norPatrol found0 found1 causeA causeB) := fun _ _ e => nomatch e
theorem Carried.poundRotation (die : Nat) : Carried.Statement (.poundRotation die) := fun _ _ e => nomatch e
theorem Carried.poundTrafficMove (outputs : PoundOutputs) : Carried.Statement (.poundTrafficMove outputs) := fun _ _ e => nomatch e
theorem Carried.poundSelfTestComplete (die : Nat) (pass : Bool) : Carried.Statement (.poundSelfTestComplete die pass) := fun _ _ e => nomatch e
theorem Carried.patrolScrubRead (stack : Nat) (found : ScrubFound) : Carried.Statement (.patrolScrubRead stack found) := fun _ _ e => nomatch e
theorem Carried.scrubPassComplete (stack : Nat) : Carried.Statement (.scrubPassComplete stack) := fun _ _ e => nomatch e
theorem Carried.softRepairComplete (stack : Nat) : Carried.Statement (.softRepairComplete stack) := fun _ _ e => nomatch e
theorem Carried.spareCopyComplete (stack : Nat) : Carried.Statement (.spareCopyComplete stack) := fun _ _ e => nomatch e
theorem Carried.bargeTransmit (lane : Nat) (payload : List Byte) : Carried.Statement (.bargeTransmit lane payload) := fun _ _ e => nomatch e
theorem Carried.dataBargeReceived (lane : Nat) (barge : RxBarge) : Carried.Statement (.dataBargeReceived lane barge) := fun _ _ e => nomatch e
theorem Carried.calibrationBarge (lane : Nat) (tail : Nat) (commaErrors : Nat) (snr : Nat) : Carried.Statement (.calibrationBarge lane tail commaErrors snr) := fun _ _ e => nomatch e
theorem Carried.levelHistogramWindow (lane : Nat) (shares : List Nat) : Carried.Statement (.levelHistogramWindow lane shares) := fun _ _ e => nomatch e
theorem Carried.trainingBarge (lane : Nat) (tail : Nat) (commaErrors : Nat) (control : List Byte) (adapt : RxAdapt) : Carried.Statement (.trainingBarge lane tail commaErrors control adapt) := fun _ _ e => nomatch e
theorem Carried.commaLoss (lane : Nat) : Carried.Statement (.commaLoss lane) := fun _ _ e => nomatch e
theorem Carried.relockTimeout (lane : Nat) : Carried.Statement (.relockTimeout lane) := fun _ _ e => nomatch e
theorem Carried.laneBringupTimeout (lane : Nat) : Carried.Statement (.laneBringupTimeout lane) := fun _ _ e => nomatch e
theorem Carried.detectIdleEnd (lane : Nat) : Carried.Statement (.detectIdleEnd lane) := fun _ _ e => nomatch e
theorem Carried.capsRecord (lane : Nat) (record : List Byte) : Carried.Statement (.capsRecord lane record) := fun _ _ e => nomatch e
theorem Carried.epochRecord (lane : Nat) (record : List Byte) : Carried.Statement (.epochRecord lane record) := fun _ _ e => nomatch e
theorem Carried.statusRecord (lane : Nat) (record : List Byte) : Carried.Statement (.statusRecord lane record) := fun _ _ e => nomatch e
theorem Carried.moorRecord (lane : Nat) (record : List Byte) : Carried.Statement (.moorRecord lane record) := fun _ _ e => nomatch e
theorem Carried.manifestEpoch (direction : Nat) (lane : Nat) : Carried.Statement (.manifestEpoch direction lane) := fun _ _ e => nomatch e
theorem Carried.manifestTimeout (lane : Nat) : Carried.Statement (.manifestTimeout lane) := fun _ _ e => nomatch e
theorem Carried.moorBarge (direction : Nat) (lane : Nat) : Carried.Statement (.moorBarge direction lane) := fun _ _ e => nomatch e
theorem Carried.signalDetectWake (lane : Nat) (epoch : Option Nat) : Carried.Statement (.signalDetectWake lane epoch) := fun _ _ e => nomatch e
theorem Carried.wakeComplete (lane : Nat) : Carried.Statement (.wakeComplete lane) := fun _ _ e => nomatch e
theorem Carried.ecoMoor (lane : Nat) : Carried.Statement (.ecoMoor lane) := fun _ _ e => nomatch e
theorem Carried.helmGrantAsserted : Carried.Statement (.helmGrantAsserted) := fun _ _ e => nomatch e
theorem Carried.helmGrantDeasserted : Carried.Statement (.helmGrantDeasserted) := fun _ _ e => nomatch e
theorem Carried.idleRecord : Carried.Statement (.idleRecord) := fun _ _ e => nomatch e
theorem Carried.tandemRecordReceived (west : Bool) (tagOk : Bool) (record : TandemRec) : Carried.Statement (.tandemRecordReceived west tagOk record) := fun _ _ e => nomatch e
theorem Carried.tandemRecordApply : Carried.Statement (.tandemRecordApply) := fun _ _ e => nomatch e
theorem Carried.recordMissing (rseq : Nat) : Carried.Statement (.recordMissing rseq) := fun _ _ e => nomatch e
theorem Carried.tandemAckReceived (ack : TandemAck) : Carried.Statement (.tandemAckReceived ack) := fun _ _ e => nomatch e
theorem Carried.partnerAdrift : Carried.Statement (.partnerAdrift) := fun _ _ e => nomatch e
theorem Carried.adrift : Carried.Statement (.adrift) := fun _ _ e => nomatch e
theorem Carried.tandemKeyExchange (offer : TandemOffer) : Carried.Statement (.tandemKeyExchange offer) := fun _ _ e => nomatch e
theorem Carried.tandemRekey (rseq : Nat) (offer : TandemOffer) : Carried.Statement (.tandemRekey rseq offer) := fun _ _ e => nomatch e
theorem Carried.resyncPhaseComplete (snapshot : Option Snapshot) : Carried.Statement (.resyncPhaseComplete snapshot) := fun _ _ e => nomatch e
theorem Carried.resyncPhaseOverrun : Carried.Statement (.resyncPhaseOverrun) := fun _ _ e => nomatch e
theorem Carried.resyncRetry : Carried.Statement (.resyncRetry) := fun _ _ e => nomatch e
theorem Carried.yieldTimeout : Carried.Statement (.yieldTimeout) := fun _ _ e => nomatch e
theorem Carried.graphicsTransferComplete (head : Nat) : Carried.Statement (.graphicsTransferComplete head) := fun _ _ e => nomatch e
theorem Carried.refclkFault (clockB : Bool) (cause : Nat) : Carried.Statement (.refclkFault clockB cause) := fun _ _ e => nomatch e
theorem Carried.anvilUnlock : Carried.Statement (.anvilUnlock) := fun _ _ e => nomatch e
theorem Carried.refclkClean (clockB : Bool) : Carried.Statement (.refclkClean clockB) := fun _ _ e => nomatch e
theorem Carried.anvilLocked (anvil : Nat) (debt : Int) : Carried.Statement (.anvilLocked anvil debt) := fun _ _ e => nomatch e
theorem Carried.anvilHoldoverTimeout : Carried.Statement (.anvilHoldoverTimeout) := fun _ _ e => nomatch e
theorem Carried.rootFrequencyTrip (west : Bool) : Carried.Statement (.rootFrequencyTrip west) := fun _ _ e => nomatch e
theorem Carried.preferredAnvilReturn : Carried.Statement (.preferredAnvilReturn) := fun _ _ e => nomatch e
theorem Carried.slewDebtCleared : Carried.Statement (.slewDebtCleared) := fun _ _ e => nomatch e
theorem Carried.powerOn : Carried.Statement (.powerOn) := fun _ _ e => nomatch e
theorem Carried.powerLoss : Carried.Statement (.powerLoss) := fun _ _ e => nomatch e
theorem Carried.supplyReset (monitor : Nat) (millivolts : Nat) : Carried.Statement (.supplyReset monitor millivolts) := fun _ _ e => nomatch e
theorem Carried.supplyLow (monitor : Nat) (millivolts : Nat) : Carried.Statement (.supplyLow monitor millivolts) := fun _ _ e => nomatch e
theorem Carried.pwrFailAsserted : Carried.Statement (.pwrFailAsserted) := fun _ _ e => nomatch e
theorem Carried.pwrFailWithdrawn : Carried.Statement (.pwrFailWithdrawn) := fun _ _ e => nomatch e
theorem Carried.thermalSample (temps : List Int) (powerMw : Nat) : Carried.Statement (.thermalSample temps powerMw) := fun _ _ e => nomatch e
theorem Carried.thermalTrip (sensor : Nat) (temp : Int) : Carried.Statement (.thermalTrip sensor temp) := fun _ _ e => nomatch e
theorem Carried.tamperAlarm (trip : TamperTrip) : Carried.Statement (.tamperAlarm trip) := fun _ _ e => nomatch e
theorem Carried.scuttleComplete (ok : Bool) : Carried.Statement (.scuttleComplete ok) := fun _ _ e => nomatch e
theorem Carried.faultReport (report : FaultRep) : Carried.Statement (.faultReport report) := fun _ _ e => nomatch e
theorem Carried.injectionTimeout (kind : Nat) (west : Bool) (inst : Nat) : Carried.Statement (.injectionTimeout kind west inst) := fun _ _ e => nomatch e
theorem Carried.wheelhouseWatchdog (west : Bool) : Carried.Statement (.wheelhouseWatchdog west) := fun _ _ e => nomatch e
theorem Carried.autoReset : Carried.Statement (.autoReset) := fun _ _ e => nomatch e
theorem Carried.fabricRequest (request : FabricReq) : Carried.Statement (.fabricRequest request) := fun _ _ e => nomatch e
theorem Carried.targetTimeout (die : Nat) (master : Nat) (stream : Nat) : Carried.Statement (.targetTimeout die master stream) := fun _ _ e => nomatch e
theorem Carried.masterReset (die : Nat) (master : Nat) : Carried.Statement (.masterReset die master) := fun _ _ e => nomatch e
theorem Carried.quiesce (domain : Nat) (close : Bool) : Carried.Statement (.quiesce domain close) := fun _ _ e => nomatch e
theorem Carried.quiesceAbandoned (domain : Nat) : Carried.Statement (.quiesceAbandoned domain) := fun _ _ e => nomatch e
theorem Carried.forcedGate (domain : Nat) : Carried.Statement (.forcedGate domain) := fun _ _ e => nomatch e
theorem Carried.domainRampComplete (domain : Nat) : Carried.Statement (.domainRampComplete domain) := fun _ _ e => nomatch e
theorem Carried.startStepComplete (ms : Nat) (found : StepFound) : Carried.Statement (.startStepComplete ms found) := fun _ _ e => nomatch e
theorem Carried.startStepTimeout (ms : Nat) : Carried.Statement (.startStepTimeout ms) := fun _ _ e => nomatch e
theorem Carried.startRetry : Carried.Statement (.startRetry) := fun _ _ e => nomatch e
theorem Carried.restartStart : Carried.Statement (.restartStart) := fun _ _ e => nomatch e
theorem Carried.slotWriteComplete (ok : Bool) : Carried.Statement (.slotWriteComplete ok) := fun _ _ e => nomatch e
theorem Carried.partnerImageOffer (digest : List Byte) : Carried.Statement (.partnerImageOffer digest) := fun _ _ e => nomatch e
theorem Carried.handoverStepComplete (ok : Bool) : Carried.Statement (.handoverStepComplete ok) := fun _ _ e => nomatch e
theorem Carried.trialEnd : Carried.Statement (.trialEnd) := fun _ _ e => nomatch e
theorem Carried.mgmtWrite (data : List Byte) : Carried.Statement (.mgmtWrite data) := fun _ _ e => nomatch e
theorem Carried.mgmtRead (count : Nat) : Carried.Statement (.mgmtRead count) := fun _ _ e => nomatch e
theorem Carried.jtagTapReset : Carried.Statement (.jtagTapReset) := fun _ _ e => nomatch e
theorem Carried.jtagExtest : Carried.Statement (.jtagExtest) := fun _ _ e => nomatch e
theorem Carried.jtagInject (kind : Nat) (west : Bool) (inst : Nat) (bits : Nat) (count : Nat) (timeoutMs : Nat) : Carried.Statement (.jtagInject kind west inst bits count timeoutMs) := fun _ _ e => nomatch e
theorem Carried.h2dSnoop (addr : Nat) : Carried.Statement (.h2dSnoop addr) := fun _ _ e => nomatch e
theorem Carried.imageCheckComplete (header : List Byte) (results : ImageChecks) : Carried.Statement (.imageCheckComplete header results) := fun _ _ e => nomatch e

end Sys2Proof.Laws
end

