-- ==== Sys2Proof/Tests/Small.lean ====
section
/-! SUPPORT. Small states and records that the tests and the witnesses run on. -/

namespace Sys2Proof.Tests
open Sys2Proof Sys2Proof.Machine

/-- A record on a channel as the host would write it: of the length its layout asks for, its fields given by offset, width and
value. -/
def sent (i : CmdInfo) (ch n : Nat) (fs : List (Nat × Nat × Nat)) : Cmd :=
  let c : Cmd := { ch := ch, session := if ch < 3 then 0 else 7, payload := recordBytes n fs }
  { c with length := i.length c, payload := c.payload.take (i.length c) }

/-- The chip at READY as helm, its link and HDM up, with a session of every privilege on channel 3. -/
def up : State :=
  { State.reset with
    dev := .readyHelm
    host := { State.reset.host with link := .cxl, dec0 := some 0, dec1 := some 0 }
    twin := { State.reset.twin with helm := true }
    mbox := { State.reset.mbox with channels := [(3, { isOpen := true, session := 7, priv := 0xFFFE })] } }

/-- The hypotheses of `Carries` hold of a record and a state together. -/
abbrev Meets (i : CmdInfo) (pre : Cmd → State → Prop) (c : Cmd) (s : State) : Prop := accepts i c s ∧ pre c (admittedAt c s)

/-- `up` with plane 0 at 47.95 frames a second, a 1080p47.95 input at bay 0 and output at bay 0 LIVE, each with four audio channels, the
output with one ANC destination; an input DEFINED at bay 2; the lane ACTIVE both ways. -/
def sail : State :=
  { up with
    obj := { up.obj with
      planes := [(0, { rate := some 5 })]
      streams := [(0, { st := .live, width := 2, form := 1, format := 0x1500, audioFirst := 0x4000, audioCount := 4, ancAllow := 10000 }),
        (2, { st := .defined, width := 2, form := 1, format := 0x1500, ancAllow := 10000 }),
        (8192, { st := .live, width := 2, form := 1, format := 0x1500, audioFirst := 0x2000, audioCount := 4, ancFirst := 0xF000, ancCount := 1, ancAllow := 10000 })] }
    tow := { up.tow with lanes := [(0, { rx := .active, tx := .active })] } }

/-- The record of SET_HEAD on head 0 as plane 0 asks: 2160p47.95 in eight bays. -/
def headCfg : HeadCfg := { headSet := List.replicate 64 0#8, plane := some 0, format := 0x3500 }

/-- A take of the input at bay 0 to the output at bay 0. -/
def takeRec : Cmd := sent takeInfo 3 16 []

/-- A key under which a record can be authenticated. -/
def someKey : List Byte := List.replicate 48 1#8

/-- A record followed by its MAC under `someKey`. -/
def signedRec (i : CmdInfo) (n : Nat) (fs : List (Nat × Nat × Nat)) : Cmd :=
  { ch := 1, length := n + 48, payload := recordBytes n fs ++ macOf someKey (recordBytes n fs) }

/-- A MAC is as long as its field. -/
theorem macOf_length (key m : List Byte) : (macOf key m).length = 48 := by simp [macOf, fitBytes]

/-- A signed record carries the MAC of what stands before it. -/
theorem signedRec_mac (i : CmdInfo) (n : Nat) (fs : List (Nat × Nat × Nat)) :
    macOf someKey ((signedRec i n fs).bytes 0 n) = (signedRec i n fs).bytes n 48 := by
  have h : (recordBytes n fs).length = n := by simp [recordBytes, memRead]
  have h2 := macOf_length someKey (recordBytes n fs)
  simp [signedRec, Cmd.bytes, h, h2]

/-- Some record does not carry the MAC that a key gives. -/
theorem mac_differs (c : Cmd) (key : List Byte) :
    ∃ p : List Byte, macOf key (({ c with payload := p } : Cmd).bytes 0 0) ≠ ({ c with payload := p } : Cmd).bytes 0 48 := by
  by_cases h : macOf key [] = List.replicate 48 0#8
  · refine ⟨List.replicate 48 1#8, fun e => ?_⟩
    rw [show (({ c with payload := List.replicate 48 1#8 } : Cmd).bytes 0 0) = [] from rfl, h] at e
    have e2 : List.replicate 48 0#8 = List.replicate 48 1#8 := e
    exact absurd e2 (by decide +kernel)
  · exact ⟨[], fun e => h e⟩

/-- A record as authenticated commands send it: payload bytes followed by their MAC. -/
def signedWith (pre : List Byte) : Cmd := { ch := 1, length := pre.length + 48, payload := pre ++ macOf someKey pre }

/-- It carries the MAC of what stands before it. -/
theorem signedWith_mac (pre : List Byte) (n : Nat) (h : pre.length = n) :
    macOf someKey ((signedWith pre).bytes 0 n) = (signedWith pre).bytes n 48 := by
  have h2 := macOf_length someKey pre
  subst h
  simp [signedWith, Cmd.bytes, h2]

/-- The record of SWAP_KEY for KIND 2 with a KCV. -/
def swapRec (v : Nat) : Cmd := signedWith ([2#8, 0#8, 0#8, 0#8] ++ toLe 4 v ++ [1#8, 0#8, 0#8, 0#8, 0#8, 0#8, 0#8, 0#8])

/-- The record of SCUTTLE with the low half of SERIAL. -/
def scuttleRec : Cmd := signedWith (toLe 4 (Config.serial % 2 ^ 32) ++ [0#8, 0#8, 0#8, 0#8, 1#8, 0#8, 0#8, 0#8, 0#8, 0#8, 0#8, 0#8])

/-- Four bytes read back as the number they were made of. -/
theorem leNat_toLe4 (v : Nat) (h : v < 2 ^ 32) : leNat (toLe 4 v) = v := by
  simp only [toLe, leNat, BitVec.toNat_ofNat]
  omega

/-- The chip with the attestation secret `someKey`. -/
def keyed : State := up.onObj fun o => { o with keys := [(1, { current := some someKey })] }

/-- A well-shaped image header, everything else in it zero. -/
def goodHeader : List Byte := recordBytes 512 [(0, 4, 0x4D495846), (4, 2, 1), (0x17, 1, 0xB0), (0x20, 4, 4096)]

/-- It passes the checks of R493: its ROM minimum is 0. -/
theorem goodHeader_passes : imageCause goodHeader none {} up = 0 := by
  have h1 : shapeOk goodHeader none = true := by decide +kernel
  have h2 : (headerOf goodHeader).romMin = 0 := by decide +kernel
  have h3 : vendorKeyOk up (headerOf goodHeader).keyIndex = true := by decide +kernel
  have h4 : (headerOf goodHeader).security = 0 := by decide +kernel
  have h5 : up.keys.secCounter = 0 := rfl
  simp [imageCause, h1, h2, h3, h4, h5]

/-- A KCV is three bytes. -/
theorem kcv_fits : kcvOf someKey < 2 ^ 32 := by
  have h := macOf_length someKey [0x46#8, 0x58#8, 0x4B#8, 0x43#8]
  unfold kcvOf
  match hm : macOf someKey [0x46#8, 0x58#8, 0x4B#8, 0x43#8], h with
  | a :: b :: c :: r, _ =>
    simp only [List.take, leNat]
    have := a.isLt
    have := b.isLt
    have := c.isLt
    omega

/-- A barge tail for each kind. -/
def tailOf (k : KindSt) : Nat := commaTail 0x3405 k.code

/-- A standby in step with its partner over the East Tandem lane. -/
def mate : State :=
  { up with
    dev := .readyStandby
    twin := { up.twin with helm := false, st := .inStep, session := true }
    tow := { up.tow with lanes := [(128, { rx := .active })] }
    obj := { up.obj with keys := [(1, { current := some someKey })] } }

/-- An offer whose proof is the MAC of its own message. -/
def offer : TandemOffer := { proof := macOf someKey (proofMessage {}) }

/-- Its proof holds where `someKey` is the attestation secret. -/
theorem offer_holds (s : State) (h : (tget ({} : KeySlot) s.obj.keys 1).current = some someKey) : proofHolds offer s = true := by
  unfold proofHolds
  rw [h]
  exact decide_eq_true rfl

end Sys2Proof.Tests
end

