-- ==== Sys2Proof/Tests/Slice0.lean ====
section
/-! SUPPORT. Tests: what WellFormed refuses, the worked examples of the spec, and single steps on small states.  Every expected value is the spec's own or
is worked out by hand from its rules. -/

namespace Sys2Proof.Tests

set_option Elab.async false
open Sys2Proof Sys2Proof.Machine

/-! ### WellFormed -/

/-- A received barge of the right shape. -/
def rx (tail words bytes : Nat) : RxBarge := { tail := tail, codewords := List.replicate words (some 0), payload := List.replicate bytes 0#8 }

/-- Well-formed rows of several families. -/
theorem test_wellFormed_accepts :
    [Instr.keepalive { ch := 63 }, .take { ch := 3, length := 2, payload := [0#8, 1#8] }, .doorbellWrite 63 4096, .hdmDecoderCommit 1 7, .cxlLinkUp 8 3,
      .challenge 0 (List.replicate 32 0#8), .kSetGo 1 1 1 1, .commitDeadline 7, .beaconRecord 7 (List.replicate 32 0#8) {}, .dataBargeReceived 129 (rx 0 16 10280),
      .thermalSample (List.replicate 48 0) 1, .refclkFault true 3, .sampleTick 0 0 true true].all wellFormed = true := by decide +kernel

/-- Each field of a record past its width, and a payload of another length than PAYLOAD_LENGTH says. -/
theorem test_wellFormed_refuses_records :
    ([{ ch := 64 }, { tag := 65536 }, { session := 65536 }, { flags := 65536 }, { expectedGen := 2 ^ 32 }, { targetTick := 2 ^ 64 },
      { length := 4097, payload := List.replicate 4097 0#8 }, { length := 1 }, { payload := [0#8] }] : List Cmd).all
      (fun c => !wellFormed (.keepalive c) && !wellFormed (.ddBegin c) && !wellFormed (.commandUnknownOpcode 0 c)) = true := by decide +kernel

/-- An index past what it numbers, row by row. -/
theorem test_wellFormed_refuses_indices :
    [Instr.commandUnknownOpcode 65536 {}, .doorbellWrite 64 0, .hdmDecoderCommit 2 0, .eventRingSpaceReturns 4 0, .eventRingSpaceReturns 0 (2 ^ 32), .channelDrained 64,
      .cxlLinkUp 3 1, .cxlLinkUp 8 4, .plainPcieLink 0 1, .plainPcieLink 1 0, .query 0 2, .keyProg 0 2 0 0 (List.replicate 32 0#8), .keyProg 0 0 2 0 (List.replicate 32 0#8),
      .keyProg 0 0 0 2 (List.replicate 32 0#8), .kSetGo 0 2 0 0, .kSetGo 0 0 2 0, .kSetGo 0 0 0 2, .kSetStop 0 2 0 0, .kSetStop 0 0 2 0, .kSetStop 0 0 0 2,
      .atTickRelease 64, .sessionLeaseExpiry 64, .commitDeadline 8, .switchPoint 65536, .adoptionTick 8, .frameTick 8, .frameRefPulse 2 ⟨0, 1000⟩, .referenceFrequencyWindow 20834, .referenceMissing 10,
      .qualificationComplete 10, .slipEffect 8192, .primingComplete 8192, .lossHoldExpiry 8192, .poundRotation 2, .poundTrafficMove ⟨2, [], []⟩, .poundSelfTestComplete 2 true,
      .patrolScrubRead 4 .clean, .scrubPassComplete 4, .softRepairComplete 4, .spareCopyComplete 4].any wellFormed = false := by decide +kernel

/-- The same of the lanes, the twin, the clocks and the faults. -/
theorem test_wellFormed_refuses_more_indices :
    [Instr.calibrationBarge 130 0 0 0, .calibrationBarge 0 (2 ^ 32) 0 0, .levelHistogramWindow 130 [0, 0, 0, 0], .commaLoss 130, .relockTimeout 130,
      .laneBringupTimeout 130, .detectIdleEnd 130, .manifestEpoch 2 0, .manifestEpoch 0 128, .manifestTimeout 128, .moorBarge 2 0, .moorBarge 0 128,
      .signalDetectWake 130 none, .wakeComplete 130, .ecoMoor 128, .recordMissing (2 ^ 32), .tandemRekey (2 ^ 32) {}, .graphicsTransferComplete 32, .refclkFault true 0,
      .refclkFault true 4, .anvilLocked 4 0, .supplyReset 8 0, .supplyLow 8 0, .thermalTrip 48 0, .tamperAlarm ⟨4, 1000⟩, .injectionTimeout 0 true 65536, .targetTimeout 2 0 0,
      .targetTimeout 0 8 0, .targetTimeout 0 0 64, .masterReset 2 0, .masterReset 0 8, .quiesce 60 true, .quiesceAbandoned 60, .forcedGate 60, .domainRampComplete 60,
      .jtagInject 0 true 65536 0 0 0].any wellFormed = false := by decide +kernel

/-- A record, a digest, a nonce or a barge of another length than its own. -/
theorem test_wellFormed_refuses_lengths :
    [Instr.challenge 0 [], .getMeasurements 0 [], .keyProg 0 0 0 0 [], .beaconRecord 8 (List.replicate 32 0#8) {}, .beaconRecord 0 [] {}, .bargeTransmit 0 [],
      .bargeTransmit 130 (List.replicate 10280 0#8), .dataBargeReceived 130 (rx 0 16 10280), .dataBargeReceived 0 (rx (2 ^ 32) 16 10280),
      .dataBargeReceived 0 (rx 0 15 10280), .dataBargeReceived 0 (rx 0 16 10279), .levelHistogramWindow 0 [], .trainingBarge 0 0 0 [] {},
      .trainingBarge 130 0 0 (List.replicate 32 0#8) {}, .trainingBarge 0 (2 ^ 32) 0 (List.replicate 32 0#8) {}, .capsRecord 0 [], .capsRecord 130 (List.replicate 48 0#8),
      .epochRecord 0 [], .epochRecord 128 (List.replicate 12 0#8), .statusRecord 0 [], .statusRecord 130 (List.replicate 16 0#8), .moorRecord 0 [],
      .moorRecord 128 (List.replicate 8 0#8), .thermalSample [] 0, .partnerImageOffer [], .imageCheckComplete [] {},
      .tandemRecordReceived false true { sections := [.pages [(0, 0, [])]] }, .resyncPhaseComplete (some { pages := [(256, 0, List.replicate 4096 0#8)] })].any wellFormed = false := by decide +kernel

/-! ### The table gives no bits -/

/-- No word spells a command, and none is put in front. -/
theorem test_no_row_has_bits : decodeTableWord 32 0x0102 = none ∧ State.reset.withFetchWord 32 0x0102 = State.reset := by decide +kernel

/-- From reset, an empty queue leaves the state alone. -/
theorem test_idle : core.step core.reset = .next State.reset := rfl

/-! ### Worked examples of the spec -/

/-- 00: frame 1,000 at 50 frames a second begins at tick 960,000. -/
theorem test_grid_50 : gridTick 7 0 0 1000 = 960000 ∧ frameLen32 7 = 960 * 2 ^ 32 := by decide +kernel

/-- 01: frames 5,000 and 5,001 at 59.94. -/
theorem test_grid_5994 : gridTick 8 0 0 5000 = 4004000 ∧ gridTick 8 0 0 5001 = 4004800 ∧ frameAtTick 8 0 0 4004001 = 5001 := by decide +kernel

/-- 04: a plane at 29.97 with half a tick of phase: F(n), F(n + 1) and the two switch ticks. -/
theorem test_grid_half_tick :
    gridTick 3 0x80000000 0 53000000000 = 84884800000000 ∧ gridTick 3 0x80000000 0 53000000001 = 84884800001602 ∧
    switchTickNum 3 (frameNum 3 0x80000000 0 53000000000) 1125 = 84884800000009 ∧
    switchTickNum 3 (frameNum 3 0x80000000 0 53000000000) 750 = 84884800000013 := by decide +kernel

/-- 04: E raised by 2.5 ticks: the frame that follows the adoption tick, and its start. -/
theorem test_grid_step :
    frameAtNum 8 0 (5 * 2 ^ 31) (frameNum 8 0 0 5000 + 24024000 * 2 ^ 32) = 5001 ∧ gridTick 8 0 (5 * 2 ^ 31) 5001 = 4004798 ∧
    gridTick 8 0 (5 * 2 ^ 31) 5002 = 4005599 := by decide +kernel

/-- 03: the last two units of channel 5's ring, and its last completion. -/
theorem test_ring_addresses : sqAddr 5 4094 = 0x16FFC0 ∧ sqAddr 5 4095 = 0x16FFE0 ∧ cqAddr 5 1023 = 0x148FE0 := by decide +kernel

/-- 02: 3840×2160p at 59.94, 4:2:2 10-bit, 16 channels: eight bays, not four. -/
theorem test_essence_width : essenceFits 8 0x3800 16 10000 = true ∧ essenceFits 4 0x3800 16 10000 = false := by decide +kernel

/-- 02: 1080p 59.94 R'G'B' 12-bit is no serial row, but an essence shape; 720p at 100 is neither. -/
theorem test_formats : serialSome 0x1824 = false ∧ essenceShape 0x1824 = true ∧ serialSome 0x0A00 = false ∧ essenceShape 0x0A00 = false := by decide +kernel

/-- 06: Δ = −7.5 µs is 1,114 sample periods, −2.0 µs is 297, and a fill of 3.778 µs is 561. -/
theorem test_sample_periods : samplePeriods 2 7 (-7500) = -1114 ∧ samplePeriods 2 7 (-2000) = -297 ∧ samplePeriods 2 7 3778 = 561 := by decide +kernel

/-- 07: slots of the full-load case at 59.94 and 60, and of an HD 1080i stream at 25. -/
theorem test_slot_sizes :
    slotPages 0x3800 64 * 4096 = 21213184 ∧ slotPages 0x3900 64 * 4096 = 21209088 ∧ slotPages 0x1240 16 * 4096 = 5574656 := by decide +kernel

/-- 08: what the allowance carries of a 2160p 59.94 frame with 16 channels, its 48-byte timecode packet apart. -/
theorem test_essence_overhead : essenceOverhead { format := 0x3800, audioCount := 16 } 801 + 48 = 8800 := by decide +kernel

/-- 09: the coefficients of −6 dB and 0 dB. -/
theorem test_gain : gainCoeff (-393216) = 8408526 ∧ gainCoeff 0 = 16777216 := by decide +kernel

/-- 09: the crossfade with gain, at k = 64 of 256 and after its end. -/
theorem test_crossfade :
    contrValue 1000000 8408526 = 8018995 ∧ contrValue (-200000) 16777216 = -3200000 ∧ crossfade 8018995 (-3200000) 64 256 = 5214246 ∧ round24 5214246 = 325890 ∧
    round24 (crossfade 8018995 (-3200000) 256 256) = -200000 := by decide +kernel

/-- 10: column 100 of a layer 720 wide on a level 960 wide. -/
theorem test_position : planePos 100 960 720 = 8749056 ∧ posIndex 8749056 = 133 ∧ posPhase 8749056 = 32 := by decide +kernel

/-- 10: the layer matrix on layer A's pixel. -/
theorem test_layer_matrix : matApply layerMatrix0 (600, 450, 560) = (676, 589, 485) := by decide +kernel

/-- 10: layer B over layer A in linear light and in the code domain. -/
theorem test_blend :
    argbAlpha 0xAFF0 = 682 ∧ argbRgb 0xAFF0 = (1023, 1023, 0) ∧ layerAlpha 682 1023 = 682 ∧
    (blendFine 65535 24118 683, blendFine 65535 16902 683, blendFine 0 10311 683) = (51743, 49340, 3434) ∧
    (blendLegacy 1023 (blendLegacy 676 0 255) 170, blendLegacy 1023 (blendLegacy 589 0 255) 170, blendLegacy 0 (blendLegacy 485 0 255) 170) = (902, 873, 160) := by
  decide +kernel

/-- 10: the post-blend LUT's interpolation, the Assay words and the output matrix. -/
theorem test_assay_word :
    (let cfg : HeadCfg := { luts := [(4, [(214, 251), (215, 253), (3083, 851), (3084, 852), (3233, 868), (3234, 869)])] }
     packRgb (postLut cfg 51743, postLut cfg 49340, postLut cfg 3434) = 0x365D50FC) ∧
    packRgb (902, 873, 160) = 0x386DA4A0 ∧ matApply outMatrix0 (869, 852, 252) = (812, 210, 548) := by decide +kernel

/-- 11, R330: the coefficients of the RS(544,514) generator polynomial as IEEE 802.3 tabulates them, from x^29 down. -/
theorem test_rs_generator : rsGenerator = [575, 552, 187, 230, 552, 1, 108, 565, 282, 249, 593, 132, 94, 720, 495, 385, 942, 503, 883, 361, 788, 610, 193,
    392, 127, 185, 158, 128, 834, 523] := by decide +kernel

/-- 11: the comma tail of data barge 0x00123405 and the scrambler's register. -/
theorem test_comma : commaTail 0x123405 0 = 0xCE003405 ∧ commaOf 0xCE003405 0 = some (0x3405, .data) ∧ scrambleSeed 0x123405 = 0x1A02CBFA := by decide +kernel

/-- A tail whose check byte is wrong, and one with three sync errors, are not accepted. -/
theorem test_comma_refused : commaOf 0xCF003405 0 = none ∧ commaOf 0xCE003405 3 = none ∧ (commaOf 0xCE003405 2).isSome = true := by decide +kernel

/-- 14: a commit of 250 entries is 13 pages; the largest, of 298, is 16. -/
theorem test_commit_size : commitSize 250 = 3328 ∧ commitSize 298 = 16 * 256 := by decide +kernel

/-- 05: under the default policy the estimate reaches its budget 957,788 ticks ± 1 tick into holdover: at 957,788.007 ticks by
R143's formula, so in tick 957,788. -/
theorem test_holdover_crossing : overBudget {} 957788 = true ∧ overBudget {} 957787 = false ∧ crossSearch {} 64 0 = 957788 := by decide +kernel

/-- IEEE 802.3's check value of the nine digits (R46, R312, R342). -/
theorem test_crc32 : crc32 [0x31#8, 0x32#8, 0x33#8, 0x34#8, 0x35#8, 0x36#8, 0x37#8, 0x38#8, 0x39#8] = 0xCBF43926 := by decide +kernel

/-! ### Single steps -/

/-- The state after a row, or the state itself. -/
def after (i : Instr) (s : State) : State := match exec i s with
  | .next t => t
  | _ => s

/-- Status byte of the completion last written on channel 3. -/
def lastStatus (s : State) : Nat := s.hdmNat (cqAddr 3 0 + 2) 1

/-- 02: DEFINE_STREAM of a 3G input at 0x0A12. -/
theorem test_defineStream :
    let t := after (.defineStream (sent defineStreamInfo 3 24 [(0, 2, 0x0A12), (3, 1, 2), (4, 1, 1), (6, 2, 0x1500)])) sail
    (t.stream 0x0A12).st = .defined ∧ (t.stream 0x0A12).width = 2 ∧ (t.chan 3).cqTail = 1 := by decide +kernel

/-- A 3G stream at an odd bay is refused, and nothing is defined. -/
theorem test_defineStream_misplaced :
    let t := after (.defineStream (sent defineStreamInfo 3 24 [(0, 2, 0x0A11), (3, 1, 2), (4, 1, 1), (6, 2, 0x1500)])) sail
    t.obj.streams = sail.obj.streams ∧ (t.chan 3).cqTail = 1 := by decide +kernel

/-- R77: a record waits for its session's completion: KEEPALIVE advances the completion tail. -/
theorem test_keepalive : ((after (.keepalive { ch := 3, session := 7 }) up).chan 3).cqTail = 1 := by decide +kernel

/-- A host write stands in HDM as written and leaves its neighbours. -/
theorem test_hostHdmWrite :
    let t := after (.hostHdmWrite 0x100000 [0xAB#8, 0xCD#8]) up
    t.hdmNat 0x100000 2 = 0xCDAB ∧ t.hdmNat 0x100002 2 = 0 := by decide +kernel

/-- An address past the window stops the access. -/
theorem test_hostHdmWrite_outside : ∃ f, exec (.hostHdmWrite 17179869184 [0#8]) up = .fault f := ⟨_, rfl⟩

/-- A tick advances T by one. -/
theorem test_sampleTick : (after (.sampleTick 0 0 true true) up).now = up.now + 1 := by decide +kernel

/-- R399: slewing pays 30 units of its debt a tick, and never past zero. -/
theorem test_slew : slewTick 100 = 70 ∧ slewTick (-100) = -70 ∧ slewTick 29 = 0 := by decide +kernel

end Sys2Proof.Tests
end

