-- ==== Sys2Proof/Tests/Witness.lean ====
section
/-! SUPPORT. For every statement with hypotheses, one theorem: concrete states and operands meet them, clause by clause, with values
at the ends of a clause's range where it has one. -/

namespace Sys2Proof.Tests

set_option Elab.async false
open Sys2Proof Sys2Proof.Machine

/-- The hypotheses of StepRunsTheFrontCommand are met, clause by clause. -/
theorem witness_StepRunsTheFrontCommand :
    ((fun (s : State) => s.pending = []) State.reset) := by
  first | decide +kernel | (dsimp only [Meets, accepts, dockTakes, hdmCanonical, replyFits]; decide +kernel) | rfl

/-- The hypotheses of StepKeepsHdmCanonical are met, clause by clause. -/
theorem witness_StepKeepsHdmCanonical :
    ((fun (s : State) (t : State) => hdmCanonical s ∧ step s = .next t) State.reset State.reset) := by
  exact ⟨by unfold hdmCanonical; decide +kernel, rfl⟩

/-- The hypotheses of EveryCommandAnswers are met, clause by clause. -/
theorem witness_EveryCommandAnswers :
    ((fun (i : Instr) (_s : State) => (∀ a d, i ≠ .hostHdmWrite a d) ∧ (∀ a n, i ≠ .hostHdmRead a n)) .trialEnd State.reset) ∧
    ((fun (a : Nat) (d : List Byte) (s : State) => (s.hdmUp = false ∨ (hdmOffset s a d.length).isSome = true)) 0 [] State.reset) ∧
    ((fun (a : Nat) (n : Nat) (s : State) => (s.hdmUp = false ∨ (hdmOffset s a n).isSome = true)) 0 0 State.reset) ∧
    ((fun (a : Nat) (_n : Nat) (d : List Byte) (s : State) => s.hdmUp = true ∧ hdmOffset s a d.length = none) 16106127360 1 [0#8] up) ∧
    ((fun (a : Nat) (n : Nat) (_d : List Byte) (s : State) => s.hdmUp = true ∧ hdmOffset s a n = none) 16106127359 2 [] up) := by
  refine ⟨?_, ?_, ?_, ?_, ?_⟩
  · refine ⟨?_, ?_⟩ <;> intro _ _ h <;> cases h
  · first | decide +kernel | (dsimp only [Meets, accepts, dockTakes, hdmCanonical, replyFits]; decide +kernel) | rfl
  · first | decide +kernel | (dsimp only [Meets, accepts, dockTakes, hdmCanonical, replyFits]; decide +kernel) | rfl
  · first | decide +kernel | (dsimp only [Meets, accepts, dockTakes, hdmCanonical, replyFits]; decide +kernel) | rfl
  · first | decide +kernel | (dsimp only [Meets, accepts, dockTakes, hdmCanonical, replyFits]; decide +kernel) | rfl

/-- The hypotheses of MailboxRowsRunTheirCommand are met, clause by clause. -/
theorem witness_MailboxRowsRunTheirCommand :
    ((fun (i : Instr) (e : CmdInfo × (Cmd → State → Res)) (c : Cmd) (s : State) => mailboxRow i = some (e, c) ∧ (runCmd e.1 e.2 c s).mbox.armed ≤ 8192) (.keepalive { ch := 3, session := 7 }) ((keepaliveInfo, keepalive)) { ch := 3, session := 7 } up) := by
  exact ⟨rfl, by decide +kernel⟩

/-- The hypotheses of RecordsWaitForTheirTurn are met, clause by clause. -/
theorem witness_RecordsWaitForTheirTurn :
    ((fun (_i : CmdInfo) (_body : Cmd → State → Res) (c : Cmd) (s : State) => 1 ≤ c.ch ∧ gate c s = false) keepaliveInfo keepalive { ch := 3, session := 7 } State.reset) ∧
    ((fun (_i : CmdInfo) (_body : Cmd → State → Res) (c : Cmd) (s : State) => gate c s = true ∧ c.atTick = true ∧ s.now < c.targetTick ∧ c.targetTick ≤ eligTick s c.ch c.units + 2880000) keepaliveInfo keepalive { ch := 3, session := 7, flags := 2, targetTick := 2880000 } up) := by
  refine ⟨?_, ?_⟩ <;>
    (first | decide +kernel | (dsimp only [Meets, accepts, dockTakes, hdmCanonical, replyFits]; decide +kernel) | rfl)

/-- The hypotheses of FirstFailingCheckAnswers are met, clause by clause. -/
theorem witness_FirstFailingCheckAnswers :
    ((fun (i : CmdInfo) (_body : Cmd → State → Res) (c : Cmd) (s : State) (st : Status) (d : Nat) => gate c s = true ∧ (¬(c.atTick = true ∧ s.now < c.targetTick ∧ c.targetTick ≤ eligTick s c.ch c.units + 2880000)) ∧ checkCmd i c (admittedAt c s) = some (st, d)) keepaliveInfo keepalive { ch := 3, session := 7, length := 4 } up .range 0x0018) ∧
    ((fun (i : CmdInfo) (c : Cmd) (_s : State) => c.length ≠ i.length c) keepaliveInfo { ch := 3, session := 7, length := 4 } up) ∧
    ((fun (i : CmdInfo) (c : Cmd) (_s : State) => c.length = i.length c ∧ acceptedOn i c.ch = false) keepaliveInfo { ch := 1 } State.reset) ∧
    ((fun (i : CmdInfo) (c : Cmd) (s : State) => c.length = i.length c ∧ acceptedOn i c.ch = true ∧ sessionOk i c s = false) keepaliveInfo { ch := 3, session := 7 } State.reset) ∧
    ((fun (i : CmdInfo) (c : Cmd) (s : State) => c.length = i.length c ∧ acceptedOn i c.ch = true ∧ sessionOk i c s = true ∧ privOk i c s = false) setTrimInfo (sent setTrimInfo 3 8 []) (up.onChan 3 fun k => { k with priv := 0 })) ∧
    ((fun (i : CmdInfo) (c : Cmd) (s : State) => c.length = i.length c ∧ acceptedOn i c.ch = true ∧ sessionOk i c s = true ∧ privOk i c s = true ∧ s.keys.lock = true ∧ i.readOnly = false ∧ i.opcode / 256 ≠ 0x01 ∧ i.opcode / 256 ≠ 0x0F) setPlaneInfo (sent setPlaneInfo 3 32 []) (up.onKeys fun k => { k with lock := true })) ∧
    ((fun (i : CmdInfo) (c : Cmd) (s : State) => c.length = i.length c ∧ acceptedOn i c.ch = true ∧ sessionOk i c s = true ∧ privOk i c s = true ∧ s.keys.lock = false ∧ ((i.content = true ∧ s.isHelm = false) ∨ (i.dock = true ∧ s.dev ≠ .dryDock))) setPlaneInfo (sent setPlaneInfo 3 32 []) (up.onTwin fun t => { t with helm := false })) ∧
    ((fun (i : CmdInfo) (c : Cmd) (s : State) => c.length = i.length c ∧ acceptedOn i c.ch = true ∧ sessionOk i c s = true ∧ privOk i c s = true ∧ s.keys.lock = false ∧ ((i.content = true ∧ s.isHelm = false) ∨ (i.dock = true ∧ s.dev ≠ .dryDock))) ddBeginInfo (sent ddBeginInfo 0 16 []) up) ∧
    ((fun (i : CmdInfo) (c : Cmd) (s : State) => let limit (c : Cmd) (s : State) : Nat := (if c.ch = 0 then s.now else (s.chan c.ch).readAt) + 2880000; c.length = i.length c ∧ acceptedOn i c.ch = true ∧ sessionOk i c s = true ∧ privOk i c s = true ∧ s.keys.lock = false ∧ (i.content = true → s.isHelm = true) ∧ (i.dock = true → s.dev = .dryDock) ∧ c.atTick = true ∧ limit c s < c.targetTick) keepaliveInfo { ch := 3, session := 7, flags := 2, targetTick := 2880001 } up) ∧
    ((fun (i : CmdInfo) (c : Cmd) (s : State) g => let limit (c : Cmd) (s : State) : Nat := (if c.ch = 0 then s.now else (s.chan c.ch).readAt) + 2880000; c.length = i.length c ∧ acceptedOn i c.ch = true ∧ sessionOk i c s = true ∧ privOk i c s = true ∧ s.keys.lock = false ∧ (i.content = true → s.isHelm = true) ∧ (i.dock = true → s.dev = .dryDock) ∧ (c.atTick = true → c.targetTick ≤ limit c s) ∧ i.gen c s = some g ∧ c.checkGen = true ∧ g ≠ c.expectedGen) setPlaneInfo { sent setPlaneInfo 3 32 [] with flags := 1, expectedGen := 2 } up 1) ∧
    ((fun (i : CmdInfo) (c : Cmd) (s : State) => let limit (c : Cmd) (s : State) : Nat := (if c.ch = 0 then s.now else (s.chan c.ch).readAt) + 2880000; c.length = i.length c ∧ acceptedOn i c.ch = true ∧ sessionOk i c s = true ∧ privOk i c s = true ∧ s.keys.lock = false ∧ (i.content = true → s.isHelm = true) ∧ (i.dock = true → s.dev = .dryDock) ∧ (c.atTick = true → c.targetTick ≤ limit c s) ∧ c.checkGen = false) keepaliveInfo { ch := 3, session := 7 } up) := by
  refine ⟨?_, ?_, ?_, ?_, ?_, ?_, ?_, ?_, ?_, ?_, ?_⟩ <;>
    (first | decide +kernel | (dsimp only [Meets, accepts, dockTakes, hdmCanonical, replyFits]; decide +kernel) | rfl)

/-- The hypotheses of CompletionIsWritten are met, clause by clause. -/
theorem witness_CompletionIsWritten :
    ((fun (ch : Nat) (_tag : Nat) (_op : Nat) (_session : Nat) (_silent : Bool) (_st : Status) (_tick : Nat) (_gen : Nat) (_head : Nat) (_detail : Nat) (s : State) => hdmCanonical s ∧ 1 ≤ ch ∧ ch < 64 ∧ tableOk ({} : Channel) s.mbox.channels = true ∧ (s.chan ch).cqTail < 1024) 1 0 0 0 false .done 0 0 0 0 up) ∧
    ((fun (ch : Nat) (_tag : Nat) (_op : Nat) (_session : Nat) (_silent : Bool) (_st : Status) (_tick : Nat) (_gen : Nat) (_head : Nat) (_detail : Nat) (s : State) => hdmCanonical s ∧ 1 ≤ ch ∧ ch < 64 ∧ tableOk ({} : Channel) s.mbox.channels = true ∧ (s.chan ch).cqTail < 1024) 63 0 0 0 false .done 0 0 0 0 (up.onChan 63 fun k => { k with cqTail := 1023 })) ∧
    ((fun (ch : Nat) (_tag : Nat) (_op : Nat) (_session : Nat) (_silent : Bool) (_st : Status) (_tick : Nat) (_gen : Nat) (_head : Nat) (_detail : Nat) (s : State) a => hdmCanonical s ∧ 1 ≤ ch ∧ ch < 64 ∧ tableOk ({} : Channel) s.mbox.channels = true ∧ (s.chan ch).cqTail < 1024 ∧ (¬(cqAddr ch (s.chan ch).cqTail ≤ a ∧ a < cqAddr ch (s.chan ch).cqTail + 32)) ∧ (¬(chBase ch ≤ a ∧ a < chBase ch + 4)) ∧ (¬(chBase ch + 0x80 ≤ a ∧ a < chBase ch + 0x84)) ∧ (¬(chBase ch + 0xC0 ≤ a ∧ a < chBase ch + 0xC4))) 1 0 0 0 false .done 0 0 0 0 up 0) ∧
    ((fun (ch : Nat) (_tag : Nat) (_op : Nat) (_session : Nat) (_silent : Bool) (_st : Status) (_tick : Nat) (_gen : Nat) (_head : Nat) (_detail : Nat) (s : State) c => hdmCanonical s ∧ 1 ≤ ch ∧ ch < 64 ∧ tableOk ({} : Channel) s.mbox.channels = true ∧ (s.chan ch).cqTail < 1024 ∧ c ≠ ch) 1 0 0 0 false .done 0 0 0 0 up 0) := by
  refine ⟨?_, ?_, ?_, ?_⟩ <;>
    (first | decide +kernel | (dsimp only [Meets, accepts, dockTakes, hdmCanonical, replyFits]; decide +kernel) | rfl)

/-- The hypotheses of NewSessionIsFresh are met, clause by clause. -/
theorem witness_NewSessionIsFresh :
    ((fun (s : State) => (openSessions s).length ≤ 61 ∧ s.mbox.usedSessions.Nodup ∧ (∀ n ∈ s.mbox.usedSessions, 1 ≤ n ∧ n ≤ 65535)) up) ∧
    ((fun (s : State) => (openSessions s).length ≤ 61 ∧ s.mbox.usedSessions.Nodup ∧ (∀ n ∈ s.mbox.usedSessions, 1 ≤ n ∧ n ≤ 65535)) (up.onMbox fun m => { m with usedSessions := [1, 65535] })) ∧
    ((fun (s : State) => (openSessions s).length ≤ 61 ∧ s.mbox.usedSessions.Nodup ∧ (∀ n ∈ s.mbox.usedSessions, 1 ≤ n ∧ n ≤ 65535) ∧ s.mbox.usedSessions.length < 65535) State.reset) ∧
    ((fun (s : State) => (openSessions s).length ≤ 61 ∧ s.mbox.usedSessions.Nodup ∧ (∀ n ∈ s.mbox.usedSessions, 1 ≤ n ∧ n ≤ 65535) ∧ 65535 ≤ s.mbox.usedSessions.length) (up.onMbox fun m => { m with usedSessions := List.range' 1 65535 })) := by
  refine ⟨?_, ?_, ?_, ?_⟩
  · first | decide +kernel | (dsimp only [Meets, accepts, dockTakes, hdmCanonical, replyFits]; decide +kernel) | rfl
  · first | decide +kernel | (dsimp only [Meets, accepts, dockTakes, hdmCanonical, replyFits]; decide +kernel) | rfl
  · first | decide +kernel | (dsimp only [Meets, accepts, dockTakes, hdmCanonical, replyFits]; decide +kernel) | rfl
  · refine ⟨by decide +kernel, List.nodup_range' .., fun n hn => ?_, by simp [State.onMbox]⟩
    simp [State.onMbox, List.mem_range'] at hn; omega

/-- The hypotheses of SessionCommandsComplete are met, clause by clause. -/
theorem witness_SessionCommandsComplete :
    (Meets identifyInfo (fun c _ => c.u32 0 % 32 = 0 ∧ c.u32 0 + 64 ≤ 65536) (sent identifyInfo 3 128 []) up) ∧
    (Meets identifyInfo (fun c _ => c.u32 0 % 32 = 0 ∧ c.u32 0 + 64 ≤ 65536) (sent identifyInfo 3 128 [(0, 4, 65472)]) up) ∧
    (Meets openSessionInfo (fun c s => (s.chan c.ch).draining = false ∧ (c.u32 4 = 0 ∨ (100 ≤ c.u32 4 ∧ c.u32 4 ≤ 600000))) { sent openSessionInfo 4 64 [] with session := 0 } up) ∧
    (Meets openSessionInfo (fun c s => (s.chan c.ch).draining = false ∧ (c.u32 4 = 0 ∨ (100 ≤ c.u32 4 ∧ c.u32 4 ≤ 600000))) { sent openSessionInfo 4 64 [(4, 4, 600000)] with session := 0 } up) ∧
    (Meets openSessionInfo (fun c s => (s.chan c.ch).draining = true) { sent openSessionInfo 4 64 [] with session := 0 } (up.onChan 4 fun k => { k with draining := true })) ∧
    (Meets setInterruptsInfo (fun c _ => c.u8 0 = 0 ∧ c.u8 1 < 64 ∧ c.u8 2 < 64 ∧ c.u16 4 ≤ 1024 ∧ c.u16 6 ≤ 4800) (sent setInterruptsInfo 3 128 []) up) ∧
    (Meets setInterruptsInfo (fun c _ => c.u8 0 = 0 ∧ c.u8 1 < 64 ∧ c.u8 2 < 64 ∧ c.u16 4 ≤ 1024 ∧ c.u16 6 ≤ 4800) (sent setInterruptsInfo 3 128 [(1, 1, 63), (2, 1, 63), (4, 2, 1024), (6, 2, 4800)]) up) ∧
    (Meets setInterruptsInfo (fun c _ => c.u8 0 = 1 ∧ c.u8 1 < 4 ∧ c.u8 2 < 64 ∧ c.u16 4 ≤ 1024 ∧ c.u16 6 ≤ 4800) (sent setInterruptsInfo 3 128 [(0, 1, 1), (1, 1, 3)]) up) ∧
    (Meets setNotifyInfo (fun c _ => c.u64 0 % 64 = 0 ∧ c.u8 8 ≤ 1) (sent setNotifyInfo 3 128 [(0, 8, 64), (8, 1, 1)]) up) ∧
    (Meets setChannelCeilingInfo (fun c s => 3 ≤ c.u8 0 ∧ c.u8 0 ≤ 63 ∧ (s.chan (c.u8 0)).isOpen = true) (sent setChannelCeilingInfo 1 128 [(0, 1, 3)]) up) ∧
    (Meets setChannelCeilingInfo (fun c s => 3 ≤ c.u8 0 ∧ c.u8 0 ≤ 63 ∧ (s.chan (c.u8 0)).isOpen = false) (sent setChannelCeilingInfo 1 128 [(0, 1, 63)]) up) := by
  refine ⟨?_, ?_, ?_, ?_, ?_, ?_, ?_, ?_, ?_, ?_, ?_⟩ <;>
    (first | decide +kernel | (dsimp only [Meets, accepts, dockTakes, hdmCanonical, replyFits]; decide +kernel) | rfl)

/-- The hypotheses of CloseAndKeepalive are met, clause by clause. -/
theorem witness_CloseAndKeepalive :
    (Meets closeSessionInfo (fun _ _ => True) (sent closeSessionInfo 3 128 []) up) ∧
    ((fun (c : Cmd) (r : Res) => r.close = some c.ch) { ch := 3, session := 7 } { s := up, close := some 3 }) ∧
    (Meets keepaliveInfo (fun _ _ => True) (sent keepaliveInfo 3 128 []) up) ∧
    ((fun (c : Cmd) (s : State) => tableOk ({} : Channel) s.mbox.channels = true ∧ (s.chan c.ch).isOpen = true ∧ (s.chan c.ch).session = c.session) { ch := 3, session := 7 } up) ∧
    ((fun (c : Cmd) (s : State) => accepts closeSessionInfo c s ∧ tableOk ({} : Channel) s.mbox.channels = true) { ch := 3, session := 7 } up) ∧
    ((fun (c : Cmd) (s : State) => accepts keepaliveInfo c s ∧ tableOk ({} : Channel) s.mbox.channels = true) { ch := 3, session := 7 } up) := by
  refine ⟨?_, ?_, ?_, ?_, ?_, ?_⟩ <;>
    (first | decide +kernel | (dsimp only [Meets, accepts, dockTakes, hdmCanonical, replyFits]; decide +kernel) | rfl)

/-- The hypotheses of DryDockAndPinRowsComplete are met, clause by clause (part 1). -/
theorem witness_DryDockAndPinRowsComplete_1 :
    ((fun (c : Cmd) (s : State) => dockTakes ddBeginInfo c s ∧ c.u8 4 ≤ 2) (sent ddBeginInfo 0 16 [(4, 1, 2)]) ({ up with dev := .dryDock })) ∧
    ((fun (c : Cmd) (s : State) => dockTakes ddChunkInfo c s ∧ 1 ≤ c.u32 4 ∧ c.u32 4 ≤ 4088 ∧ c.u32 0 + c.u32 4 ≤ s.fw.ddLength) (sent ddChunkInfo 0 16 [(4, 4, 1)]) (State.onFw { up with dev := .dryDock } fun f => { f with ddLength := 1 })) ∧
    ((fun (c : Cmd) (s : State) => dockTakes ddFinishInfo c s ∧ s.keys.retired = false ∧ s.keys.bank.isSome = true ∧ ddComplete s = true) (sent ddFinishInfo 0 16 []) ({ up with dev := .dryDock, keys := { up.keys with bank := some 0 }, fw := { up.fw with ddLength := 1, ddHave := [(0, 1)] } })) ∧
    ((fun (c : Cmd) (s : State) => dockTakes ddRestartInfo c s) (sent ddRestartInfo 0 16 []) ({ up with dev := .dryDock })) ∧
    ((fun (_op : Nat) (_c : Cmd) (_run : Cmd → State → State) (s : State) => dockReached s = true ∧ s.host.ddBusy = true) 0x6301 {} (fun _ s => s) (up.onHost fun h => { h with ddBusy := true })) ∧
    ((fun (c : Cmd) (s : State) => dockUp s = true ∧ (c.atTick = true → c.targetTick ≤ s.now) ∧ checkCmd ddStatusInfo { c with ch := 0 } (dockTaken s) = none) { ch := 1 } up) ∧
    ((fun (i : CmdInfo) (body : Cmd → State → Res) (c : Cmd) (s : State) => (i, body) ∈ [(ddBeginInfo, ddBegin), (ddChunkInfo, ddChunk), (ddFinishInfo, ddFinish), (ddRestartInfo, ddRestart)] ∧ dockUp s = true ∧ s.dev ≠ .dryDock ∧ c.length = i.length c ∧ c.session = 0 ∧ s.keys.lock = false ∧ (¬(c.atTick = true ∧ s.now < c.targetTick))) ddBeginInfo ddBegin (sent ddBeginInfo 0 16 []) up) ∧
    ((fun (_b : Byte) (s : State) => mgmtUp s = true) 0xFF up) ∧
    ((fun (d : List Byte) (s : State) => (d.length ≠ 1 ∨ mgmtUp s = false)) [] up) ∧
    ((fun (d : List Byte) (s : State) => (d.length ≠ 1 ∨ mgmtUp s = false)) [1] State.reset) ∧
    ((fun (_n : Nat) (s : State) => mgmtUp s = true) 16 up) ∧
    ((fun (_n : Nat) (s : State) => mgmtUp s = false) 1 State.reset) := by
  refine ⟨?_, ?_, ?_, ?_, ?_, ?_, ?_, ?_, ?_, ?_, ?_, ?_⟩
  · first | decide +kernel | (dsimp only [Meets, accepts, dockTakes, hdmCanonical, replyFits]; decide +kernel) | rfl
  · first | decide +kernel | (dsimp only [Meets, accepts, dockTakes, hdmCanonical, replyFits]; decide +kernel) | rfl
  · first | decide +kernel | (dsimp only [Meets, accepts, dockTakes, hdmCanonical, replyFits]; decide +kernel) | rfl
  · first | decide +kernel | (dsimp only [Meets, accepts, dockTakes, hdmCanonical, replyFits]; decide +kernel) | rfl
  · first | decide +kernel | (dsimp only [Meets, accepts, dockTakes, hdmCanonical, replyFits]; decide +kernel) | rfl
  · first | decide +kernel | (dsimp only [Meets, accepts, dockTakes, hdmCanonical, replyFits]; decide +kernel) | rfl
  · exact ⟨by simp, by decide +kernel⟩
  · first | decide +kernel | (dsimp only [Meets, accepts, dockTakes, hdmCanonical, replyFits]; decide +kernel) | rfl
  · first | decide +kernel | (dsimp only [Meets, accepts, dockTakes, hdmCanonical, replyFits]; decide +kernel) | rfl
  · first | decide +kernel | (dsimp only [Meets, accepts, dockTakes, hdmCanonical, replyFits]; decide +kernel) | rfl
  · first | decide +kernel | (dsimp only [Meets, accepts, dockTakes, hdmCanonical, replyFits]; decide +kernel) | rfl
  · first | decide +kernel | (dsimp only [Meets, accepts, dockTakes, hdmCanonical, replyFits]; decide +kernel) | rfl

/-- The hypotheses of DryDockAndPinRowsComplete are met, clause by clause (part 2). -/
theorem witness_DryDockAndPinRowsComplete_2 :
    ((fun (s : State) => (s.dev = .off ∨ s.dev = .dryDock ∨ s.dev = .fatalD ∨ s.pins.perstN = false)) State.reset) ∧
    ((fun (s : State) => (s.dev = .off ∨ s.dev = .dryDock ∨ s.dev = .fatalD ∨ s.pins.perstN = false)) up) ∧
    ((fun (s : State) => s.dev ≠ .off ∧ s.dev ≠ .dryDock ∧ s.dev ≠ .fatalD ∧ s.pins.perstN = true) (up.onPins fun p => { p with perstN := true })) ∧
    ((fun (k : Nat) (i : Nat) (b : Nat) (n : Nat) (ms : Nat) (w : Bool) (s : State) => s.dev ≠ .off ∧ s.keys.debug = true ∧ injectable k = true ∧ i < instanceLimit k ∧ (b = 1 ∨ b = 2) ∧ 1 ≤ n ∧ n ≤ 255 ∧ 1 ≤ ms ∧ ms ≤ 60000 ∧ injectionArmed k i w s = false) 0x1 0 1 1 1 false (up.onKeys fun k => { k with debug := true })) ∧
    ((fun (k : Nat) (i : Nat) (b : Nat) (n : Nat) (ms : Nat) (w : Bool) (s : State) => s.dev ≠ .off ∧ s.keys.debug = true ∧ injectable k = true ∧ i < instanceLimit k ∧ (b = 1 ∨ b = 2) ∧ 1 ≤ n ∧ n ≤ 255 ∧ 1 ≤ ms ∧ ms ≤ 60000 ∧ injectionArmed k i w s = false) 0x1 0 2 255 60000 false (up.onKeys fun k => { k with debug := true })) ∧
    ((fun (k : Nat) (i : Nat) (b : Nat) (n : Nat) (ms : Nat) (w : Bool) (s : State) => (s.dev = .off ∨ s.keys.debug = false ∨ injectable k = false ∨ instanceLimit k ≤ i ∨ (b ≠ 1 ∧ b ≠ 2) ∨ n = 0 ∨ 255 < n ∨ ms = 0 ∨ 60000 < ms ∨ injectionArmed k i w s = true)) 0 0 0 0 0 true State.reset) := by
  refine ⟨?_, ?_, ?_, ?_, ?_, ?_⟩ <;>
    (first | decide +kernel | (dsimp only [Meets, accepts, dockTakes, hdmCanonical, replyFits]; decide +kernel) | rfl)

/-- The hypotheses of DoorbellsAndRegistersAndTimers are met, clause by clause (part 1). -/
theorem witness_DoorbellsAndRegistersAndTimers_1 :
    ((fun (ch : Nat) (value : Nat) (s : State) => 1 ≤ ch ∧ ch < 64 ∧ s.serving = true ∧ s.hdmUp = true ∧ (s.chan ch).ringFault = false ∧ value ≤ 4095 ∧ (ch < 3 ∨ (s.chan ch).isOpen = true)) 3 4095 up) ∧
    ((fun (ch : Nat) (value : Nat) (s : State) => 1 ≤ ch ∧ ch < 64 ∧ s.serving = true ∧ s.hdmUp = true ∧ (s.chan ch).ringFault = false ∧ value ≤ 4095 ∧ (ch < 3 ∨ (s.chan ch).isOpen = true)) 1 0 up) ∧
    ((fun (ch : Nat) (value : Nat) (s : State) => 3 ≤ ch ∧ ch < 64 ∧ s.serving = true ∧ s.hdmUp = true ∧ (s.chan ch).ringFault = false ∧ value ≤ 4095 ∧ (s.chan ch).isOpen = false ∧ (s.chan ch).sqTail ≠ value) 4 1 (up.onChan 4 fun k => { k with draining := true })) ∧
    ((fun (ch : Nat) (value : Nat) (s : State) => 1 ≤ ch ∧ ch < 64 ∧ s.serving = true ∧ s.hdmUp = true ∧ (s.chan ch).ringFault = false ∧ 4095 < value) 63 4096 up) ∧
    ((fun (ch : Nat) (_value : Nat) (s : State) => (ch = 0 ∨ 64 ≤ ch ∨ s.serving = false ∨ s.hdmUp = false ∨ (s.chan ch).ringFault = true)) 0 0 up) ∧
    ((fun (ch : Nat) (_value : Nat) (s : State) => (ch = 0 ∨ 64 ≤ ch ∨ s.serving = false ∨ s.hdmUp = false ∨ (s.chan ch).ringFault = true)) 64 0 up) ∧
    ((fun (ch : Nat) (_value : Nat) (s : State) => (ch = 0 ∨ 64 ≤ ch ∨ s.serving = false ∨ s.hdmUp = false ∨ (s.chan ch).ringFault = true)) 3 0 State.reset) ∧
    ((fun (ch : Nat) (_value : Nat) (s : State) => (ch = 0 ∨ 64 ≤ ch ∨ s.serving = false ∨ s.hdmUp = false ∨ (s.chan ch).ringFault = true)) 3 0 (up.onHost fun h => { h with dec1 := none })) ∧
    ((fun (ch : Nat) (_value : Nat) (s : State) => (ch = 0 ∨ 64 ≤ ch ∨ s.serving = false ∨ s.hdmUp = false ∨ (s.chan ch).ringFault = true)) 3 0 (up.onChan 3 fun k => { k with ringFault := true })) ∧
    ((fun (d : List Byte) (s : State) => s.host.link ≠ .down ∧ s.dev ≠ .off ∧ d.length = 8) (List.replicate 8 1) up) ∧
    ((fun (off : Nat) (d : List Byte) (s : State) => s.host.link ≠ .down ∧ s.dev ≠ .off ∧ (d.length = 4 ∨ d.length = 8) ∧ off % d.length = 0 ∧ 0x0800 ≤ off ∧ off < 0x0820) 0x081C [1#8, 2#8, 3#8, 4#8] up) ∧
    ((fun (off : Nat) (d : List Byte) (s : State) => s.host.link ≠ .down ∧ s.dev ≠ .off ∧ (d.length = 4 ∨ d.length = 8) ∧ off % d.length = 0 ∧ 0x0800 ≤ off ∧ off < 0x0820) 0x0818 [1#8, 2#8, 3#8, 4#8, 5#8, 6#8, 7#8, 8#8] up) := by
  refine ⟨?_, ?_, ?_, ?_, ?_, ?_, ?_, ?_, ?_, ?_, ?_, ?_⟩ <;>
    (first | decide +kernel | (dsimp only [Meets, accepts, dockTakes, hdmCanonical, replyFits]; decide +kernel) | rfl)

/-- The hypotheses of DoorbellsAndRegistersAndTimers are met, clause by clause (part 2). -/
theorem witness_DoorbellsAndRegistersAndTimers_2 :
    ((fun (off : Nat) (d : List Byte) (s : State) => s.host.link ≠ .down ∧ s.dev ≠ .off ∧ (d.length = 4 ∨ d.length = 8) ∧ off % d.length = 0 ∧ 0x1000 ≤ off ∧ off < 0x2000) 0x1000 (List.replicate 8 1) up) ∧
    ((fun (off : Nat) (d : List Byte) (s : State) => s.host.link ≠ .down ∧ s.dev ≠ .off ∧ (d.length = 4 ∨ d.length = 8) ∧ off % d.length = 0 ∧ 0x1000 ≤ off ∧ off < 0x2000) 0x1FFC (List.replicate 4 1) up) ∧
    ((fun (off : Nat) (d : List Byte) (s : State) => s.host.link ≠ .down ∧ s.dev ≠ .off ∧ (d.length = 4 ∨ d.length = 8) ∧ off % d.length = 0 ∧ off = 0x0840 ∧ leNat d % 2 = 1) 0x0840 [1#8, 0#8, 0#8, 0#8] up) ∧
    ((fun (off : Nat) (d : List Byte) (s : State) => s.host.link ≠ .down ∧ s.dev ≠ .off ∧ (d.length = 4 ∨ d.length = 8) ∧ off % d.length = 0 ∧ off = 0x0840 ∧ leNat d % 2 = 0) 0x0840 [2#8, 0#8, 0#8, 0#8] up) ∧
    ((fun (off : Nat) (d : List Byte) (s : State) => s.host.link ≠ .down ∧ s.dev ≠ .off ∧ (d.length = 4 ∨ d.length = 8) ∧ off % d.length = 0 ∧ 0x0100 ≤ off ∧ off < 0x0300 ∧ off % 8 = 0) 0x02F8 [1#8, 0#8, 0#8, 0#8] up) ∧
    ((fun (off : Nat) (d : List Byte) (s : State) => s.host.link ≠ .down ∧ s.dev ≠ .off ∧ (d.length = 4 ∨ d.length = 8) ∧ off % d.length = 0 ∧ 0x2000 ≤ off ∧ off < 0x2400) 0x23FC [1#8, 0#8, 0#8, 0#8] up) ∧
    ((fun (off : Nat) (d : List Byte) (s : State) => s.host.link ≠ .down ∧ s.dev ≠ .off ∧ ((d.length ≠ 4 ∧ d.length ≠ 8) ∨ off % d.length ≠ 0 ∨ off < 0x0080 ∨ (0x0088 ≤ off ∧ off < 0x0100) ∨ (0x0300 ≤ off ∧ off < 0x0800) ∨ (0x0820 ≤ off ∧ off < 0x0840) ∨ (0x0848 ≤ off ∧ off < 0x1000) ∨ 0x2400 ≤ off)) 0 [] up) ∧
    ((fun (_off : Nat) (_d : List Byte) (s : State) => s.host.link ≠ .down ∧ s.dev ≠ .off) 0 [1] up) ∧
    ((fun (_sp : RegSpace) (_off : Nat) (_d : List Byte) (s : State) => (s.host.link = .down ∨ s.dev = .off)) .bar0 0 [] State.reset) ∧
    ((fun (ch : Nat) (s : State) => (s.chan ch).isOpen = true ∧ (s.chan ch).leaseMs ≠ 0 ∧ msTicks (s.chan ch).leaseMs ≤ (s.chan ch).leaseAge) 3 (up.onChan 3 fun k => { k with leaseMs := 100, leaseAge := 4800 })) ∧
    ((fun (ch : Nat) (s : State) => (s.chan ch).isOpen = true ∧ (s.chan ch).leaseAge < msTicks (s.chan ch).leaseMs) 3 (up.onChan 3 fun k => { k with leaseMs := 100, leaseAge := 4799 })) ∧
    ((fun (_r : Nat) (_head : Nat) (s : State) => s.hdmUp = true) 0 31 up) := by
  refine ⟨?_, ?_, ?_, ?_, ?_, ?_, ?_, ?_, ?_, ?_, ?_, ?_⟩ <;>
    (first | decide +kernel | (dsimp only [Meets, accepts, dockTakes, hdmCanonical, replyFits]; decide +kernel) | rfl)

/-- The hypotheses of DoorbellsAndRegistersAndTimers are met, clause by clause (part 3). -/
theorem witness_DoorbellsAndRegistersAndTimers_3 :
    ((fun (i : Nat) (s : State) => ((s.chIrq i).prune (cqUnread s i)).timedOut s.elapsed = true) 3 ((up.onChan 3 fun k => { k with cqTail := 1, irq := { k.irq with known := true, n := 2, m := 1, marks := [{ idx := 0 }] } }).onTime fun t => { t with elapsed := 1 })) ∧
    ((fun (i : Nat) (s : State) => ((s.ringIrq i).prune (eqUnread s i)).timedOut s.elapsed = true) 0 ((up.onRing 0 fun k => { k with tail := 1, irq := { k.irq with known := true, n := 2, m := 1, marks := [{ idx := 0 }] } }).onTime fun t => { t with elapsed := 1 })) ∧
    ((fun (ch : Nat) (s : State) => (s.chan ch).draining = true ∧ openCommands s ch = 0) 4 (up.onChan 4 fun k => { k with draining := true })) ∧
    ((fun (ch : Nat) (s : State) => ((s.chan ch).draining = false ∨ openCommands s ch ≠ 0)) 3 up) ∧
    ((fun (ch : Nat) (s : State) => ((s.chan ch).draining = false ∨ openCommands s ch ≠ 0)) 4 ((up.onChan 4 fun k => { k with draining := true }).onMbox fun m => { m with jobs := [{ id := 1, cmd := { ch := 4 } }] })) := by
  refine ⟨?_, ?_, ?_, ?_, ?_⟩ <;>
    (first | decide +kernel | (dsimp only [Meets, accepts, dockTakes, hdmCanonical, replyFits]; decide +kernel) | rfl)

/-- The hypotheses of HostLinkRowsComplete are met, clause by clause. -/
theorem witness_HostLinkRowsComplete :
    ((fun (_d : Nat) (_base : Nat) (s : State) => s.host.link = .cxl) 0 0 up) ∧
    ((fun (_d : Nat) (_base : Nat) (s : State) => s.host.link = .cxl) 1 0 up) ∧
    ((fun (_w : Nat) (_r : Nat) (s : State) => mayTrain s = true) 8 3 (up.onPins fun p => { p with perstN := true })) := by
  refine ⟨?_, ?_, ?_⟩ <;>
    (first | decide +kernel | (dsimp only [Meets, accepts, dockTakes, hdmCanonical, replyFits]; decide +kernel) | rfl)

/-- The hypotheses of PlainLinkOffersOnlyChannelZero are met, clause by clause. -/
theorem witness_PlainLinkOffersOnlyChannelZero :
    ((fun (s : State) (_a : Nat) (_d : List Byte) => s.host.link = .pcie) (up.onHost fun h => { h with link := .pcie }) 0 []) ∧
    ((fun (s : State) (_a : Nat) (_n : Nat) => s.host.link = .pcie) (up.onHost fun h => { h with link := .pcie }) 1 0) ∧
    ((fun (s : State) => s.host.link = .pcie) (up.onHost fun h => { h with link := .pcie })) ∧
    ((fun (s : State) (_i : CmdInfo) (_body : Cmd → State → Res) (c : Cmd) => s.host.link = .pcie ∧ 1 ≤ c.ch) (up.onHost fun h => { h with link := .pcie }) keepaliveInfo keepalive { ch := 3, session := 7 }) ∧
    ((fun (s : State) => s.host.link = .pcie ∧ s.dev ≠ .off ∧ s.host.ddBusy = false) (up.onHost fun h => { h with link := .pcie })) ∧
    ((fun (s : State) (_ch : Nat) (_v : Nat) => s.host.link = .pcie) (up.onHost fun h => { h with link := .pcie }) 0 1) ∧
    ((fun (s : State) (_ch : Nat) => s.host.link = .pcie) (up.onHost fun h => { h with link := .pcie }) 1) := by
  refine ⟨?_, ?_, ?_, ?_, ?_, ?_, ?_⟩ <;>
    (first | decide +kernel | (dsimp only [Meets, accepts, dockTakes, hdmCanonical, replyFits]; decide +kernel) | rfl)

/-- The hypotheses of ReadCommandsReply are met, clause by clause (part 1). -/
theorem witness_ReadCommandsReply_1 :
    (Meets readTimingInfo (fun c _ => replyFits c 0 320) (sent readTimingInfo 3 128 []) up) ∧
    (Meets readTimingInfo (fun c _ => replyFits c 0 320) (sent readTimingInfo 3 128 [(0, 4, 65216)]) up) ∧
    (Meets readReferencesInfo (fun c _ => replyFits c 0 384) (sent readReferencesInfo 3 128 []) up) ∧
    (Meets readReferencesInfo (fun c _ => replyFits c 0 384) (sent readReferencesInfo 3 128 [(0, 4, 65152)]) up) ∧
    (Meets readWharfInfo (fun c _ => replyFits c 0 192) (sent readWharfInfo 3 128 []) up) ∧
    (Meets readWharfInfo (fun c _ => replyFits c 0 192) (sent readWharfInfo 3 128 [(0, 4, 65344)]) up) ∧
    (Meets readTwinInfo (fun c _ => replyFits c 0 512) (sent readTwinInfo 3 128 []) up) ∧
    (Meets readTwinInfo (fun c _ => replyFits c 0 512) (sent readTwinInfo 3 128 [(0, 4, 65024)]) up) ∧
    (Meets readClocksInfo (fun c _ => replyFits c 0 512) (sent readClocksInfo 3 128 []) up) ∧
    (Meets readClocksInfo (fun c _ => replyFits c 0 512) (sent readClocksInfo 3 128 [(0, 4, 65024)]) up) ∧
    (Meets readStartsInfo (fun c _ => replyFits c 0 256) (sent readStartsInfo 3 128 []) up) ∧
    (Meets readStartsInfo (fun c _ => replyFits c 0 256) (sent readStartsInfo 3 128 [(0, 4, 65280)]) up) := by
  refine ⟨?_, ?_, ?_, ?_, ?_, ?_, ?_, ?_, ?_, ?_, ?_, ?_⟩ <;>
    (first | decide +kernel | (dsimp only [Meets, accepts, dockTakes, hdmCanonical, replyFits]; decide +kernel) | rfl)

/-- The hypotheses of ReadCommandsReply are met, clause by clause (part 2). -/
theorem witness_ReadCommandsReply_2 :
    (Meets readLogbookInfo (fun c _ => replyFits c 0 4096) (sent readLogbookInfo 3 128 []) up) ∧
    (Meets readLogbookInfo (fun c _ => replyFits c 0 4096) (sent readLogbookInfo 3 128 [(0, 4, 61440)]) up) ∧
    (Meets readFaultsInfo (fun c _ => replyFits c 0 1280) (sent readFaultsInfo 3 128 []) up) ∧
    (Meets readFaultsInfo (fun c _ => replyFits c 0 1280) (sent readFaultsInfo 3 128 [(0, 4, 64256)]) up) ∧
    (Meets readKeysInfo (fun c _ => replyFits c 0 256) (sent readKeysInfo 3 128 []) up) ∧
    (Meets readKeysInfo (fun c _ => replyFits c 0 256) (sent readKeysInfo 3 128 [(0, 4, 65280)]) up) ∧
    (Meets readFirmwareInfo (fun c _ => replyFits c 0 144) (sent readFirmwareInfo 3 128 []) up) ∧
    (Meets readFirmwareInfo (fun c _ => replyFits c 0 144) (sent readFirmwareInfo 3 128 [(0, 4, 65376)]) up) ∧
    (Meets readRoutesInfo (fun c _ => 1 ≤ c.u16 2 ∧ c.u16 2 ≤ 2048 ∧ c.u16 0 + c.u16 2 ≤ 65536 ∧ destRange (c.u16 0) = destRange (c.u16 0 + c.u16 2 - 1) ∧ replyFits c 4 (32 * c.u16 2)) (sent readRoutesInfo 3 128 [(2, 2, 2048)]) up) ∧
    (Meets readRoutesInfo (fun c _ => 1 ≤ c.u16 2 ∧ c.u16 2 ≤ 2048 ∧ c.u16 0 + c.u16 2 ≤ 65536 ∧ destRange (c.u16 0) = destRange (c.u16 0 + c.u16 2 - 1) ∧ replyFits c 4 (32 * c.u16 2)) (sent readRoutesInfo 3 128 [(0, 2, 65535), (2, 2, 1)]) up) ∧
    (Meets readBerthsInfo (fun c _ => 1 ≤ c.u16 2 ∧ c.u16 2 ≤ 512 ∧ replyFits c 4 (32 * c.u16 2)) (sent readBerthsInfo 3 128 [(2, 2, 512)]) up) ∧
    (Meets readAudioSourcesInfo (fun c _ => 1 ≤ c.u16 2 ∧ c.u16 2 ≤ 512 ∧ replyFits c 4 (32 * c.u16 2)) (sent readAudioSourcesInfo 3 128 [(2, 2, 512)]) up) := by
  refine ⟨?_, ?_, ?_, ?_, ?_, ?_, ?_, ?_, ?_, ?_, ?_, ?_⟩ <;>
    (first | decide +kernel | (dsimp only [Meets, accepts, dockTakes, hdmCanonical, replyFits]; decide +kernel) | rfl)

/-- The hypotheses of ReadCommandsReply are met, clause by clause (part 3). -/
theorem witness_ReadCommandsReply_3 :
    (Meets readHeadInfo (fun c _ => c.u8 0 < 32 ∧ c.u8 1 ≤ 1 ∧ replyFits c 4 8256) (sent readHeadInfo 3 128 [(0, 1, 31), (1, 1, 1)]) up) ∧
    (Meets readHeadInfo (fun c _ => c.u8 0 < 32 ∧ c.u8 1 ≤ 1 ∧ replyFits c 4 8256) (sent readHeadInfo 3 128 []) up) ∧
    ((fun key => Meets attestInfo (fun c s => (s.keySlot 1).current = some key ∧ replyFits c 0x20 208) (sent attestInfo 3 128 []) (up.onObj fun o => { o with keys := [(1, { current := some [] })] })) []) ∧
    (Meets attestInfo (fun _ s => (s.keySlot 1).current = none) (sent attestInfo 3 128 []) up) := by
  refine ⟨?_, ?_, ?_, ?_⟩ <;>
    (first | decide +kernel | (dsimp only [Meets, accepts, dockTakes, hdmCanonical, replyFits]; decide +kernel) | rfl)

/-- The hypotheses of ReplyStandsInItsArea are met, clause by clause. -/
theorem witness_ReplyStandsInItsArea :
    ((fun (_i : CmdInfo) (c : Cmd) (at_ : Nat) (_detail : Nat) (bytes : List Byte) (s : State) => hdmCanonical s ∧ 1 ≤ c.ch ∧ c.ch < 64 ∧ (s.chan c.ch).cqTail < 1024 ∧ c.u32 at_ + bytes.length ≤ 65536) identifyInfo (sent identifyInfo 3 64 []) 0 0 [1, 2] up) ∧
    ((fun (_i : CmdInfo) (c : Cmd) (at_ : Nat) (_detail : Nat) (bytes : List Byte) (s : State) => hdmCanonical s ∧ 1 ≤ c.ch ∧ c.ch < 64 ∧ (s.chan c.ch).cqTail < 1024 ∧ c.u32 at_ + bytes.length ≤ 65536) identifyInfo (sent identifyInfo 3 64 [(0, 4, 65535)]) 0 0 [1] up) ∧
    ((fun (c : Cmd) (at_ : Nat) (len : Nat) (_detail : Nat) (_bytes : List Byte) (_s : State) => (¬(c.u32 at_ % 32 = 0 ∧ c.u32 at_ + len ≤ 65536))) (sent identifyInfo 3 64 [(0, 4, 1)]) 0 64 0 [] up) ∧
    ((fun (c : Cmd) (at_ : Nat) (len : Nat) (_detail : Nat) (_bytes : List Byte) (_s : State) => (¬(c.u32 at_ % 32 = 0 ∧ c.u32 at_ + len ≤ 65536))) (sent identifyInfo 3 64 [(0, 4, 65504)]) 0 64 0 [] up) := by
  refine ⟨?_, ?_, ?_, ?_⟩ <;>
    (first | decide +kernel | (dsimp only [Meets, accepts, dockTakes, hdmCanonical, replyFits]; decide +kernel) | rfl)

/-- The hypotheses of RecordFieldsReadBack are met, clause by clause. -/
theorem witness_RecordFieldsReadBack :
    ((fun (n : Nat) (off : Nat) (w : Nat) (_v : Nat) (fs : List (Nat × Nat × Nat)) => off + w ≤ n ∧ (∀ f ∈ fs, f.1 + f.2.1 ≤ off ∨ off + w ≤ f.1)) 4 2 2 0x1234 [(0, 2, 5)]) ∧
    ((fun (n : Nat) (a : Nat) (fs : List (Nat × Nat × Nat)) => a < n ∧ (∀ f ∈ fs, a < f.1 ∨ f.1 + f.2.1 ≤ a)) 4 3 [(0, 2, 5)]) := by
  refine ⟨?_, ?_⟩ <;>
    (first | decide +kernel | (dsimp only [Meets, accepts, dockTakes, hdmCanonical, replyFits]; decide +kernel) | rfl)

/-- The hypotheses of HostMemoryAccess are met, clause by clause. -/
theorem witness_HostMemoryAccess :
    ((fun (b0 : Nat) (b1 : Nat) (addr : Nat) (n : Nat) (s : State) => s.host.dec0 = some b0 ∧ s.host.dec1 = some b1 ∧ b0 ≤ addr ∧ addr + n ≤ b0 + 0x40000000) 0 0 0 0 up) ∧
    ((fun (b0 : Nat) (b1 : Nat) (addr : Nat) (n : Nat) (s : State) => s.host.dec0 = some b0 ∧ s.host.dec1 = some b1 ∧ (¬(b0 ≤ addr ∧ addr + n ≤ b0 + 0x40000000)) ∧ b1 ≤ addr ∧ addr + n ≤ b1 + 0x3C0000000) 0 0x40000000 0x3FFFFFFFF 1 (up.onHost fun h => { h with dec1 := some 0x40000000 })) ∧
    ((fun (b0 : Nat) (b1 : Nat) (addr : Nat) (n : Nat) (s : State) => s.host.dec0 = some b0 ∧ s.host.dec1 = some b1 ∧ (¬(b0 ≤ addr ∧ addr + n ≤ b0 + 0x40000000)) ∧ (¬(b1 ≤ addr ∧ addr + n ≤ b1 + 0x3C0000000))) 0 0x40000000 0x3FFFFFFFF 2 (up.onHost fun h => { h with dec1 := some 0x40000000 })) ∧
    ((fun (addr : Nat) (a : Nat) (d : List Byte) (s : State) => hdmCanonical s ∧ s.hdmUp = true ∧ hdmOffset s addr d.length = some a) 0 0 [] up) ∧
    ((fun (addr : Nat) (a : Nat) (n : Nat) (s : State) => s.hdmUp = true ∧ hdmOffset s addr n = some a) 0 0 0 up) ∧
    ((fun (_a : Nat) (_d : List Byte) (s : State) => s.hdmUp = false) 0 [] State.reset) ∧
    ((fun (_a : Nat) (_n : Nat) (s : State) => s.hdmUp = false) 0 0 State.reset) ∧
    ((fun (a : Nat) (_n : Nat) (d : List Byte) (s : State) => s.hdmUp = true ∧ hdmOffset s a d.length = none) (hdmSize - 1) 1 [1] up) ∧
    ((fun (a : Nat) (n : Nat) (_d : List Byte) (s : State) => s.hdmUp = true ∧ hdmOffset s a n = none) hdmSize 0 [] up) := by
  refine ⟨?_, ?_, ?_, ?_, ?_, ?_, ?_, ?_, ?_⟩ <;>
    (first | decide +kernel | (dsimp only [Meets, accepts, dockTakes, hdmCanonical, replyFits]; decide +kernel) | rfl)

/-- The hypotheses of UnknownOpcodeAnswered are met, clause by clause. -/
theorem witness_UnknownOpcodeAnswered :
    ((fun (_op : Nat) (c : Cmd) (s : State) => 1 ≤ c.ch ∧ gate c s = true ∧ waitsTick c (eligTick s c.ch c.units) s.now = false) 0 { ch := 3, session := 7 } up) ∧
    ((fun (_op : Nat) (c : Cmd) (s : State) => c.ch = 0 ∧ dockUp s = true ∧ waitsTick c s.now s.now = false) 0 {} up) := by
  refine ⟨?_, ?_⟩ <;>
    (first | decide +kernel | (dsimp only [Meets, accepts, dockTakes, hdmCanonical, replyFits]; decide +kernel) | rfl)

/-- The hypotheses of BaysAreNumbered are met, clause by clause. -/
theorem witness_BaysAreNumbered :
    ((fun (dir : Nat) (lane : Nat) (hold : Nat) (b : Nat) => dir < 2 ∧ lane < 128 ∧ hold < 8 ∧ b < 8) 1 127 7 7) ∧
    ((fun (dir : Nat) (lane : Nat) (hold : Nat) (b : Nat) => dir < 2 ∧ lane < 128 ∧ hold < 8 ∧ b < 8) 0 0 0 0) ∧
    ((fun (bay : Nat) => bay < 8192) 0) ∧
    ((fun (bay : Nat) => bay < 8192) 8191) := by
  refine ⟨?_, ?_, ?_, ?_⟩ <;>
    (first | decide +kernel | (dsimp only [Meets, accepts, dockTakes, hdmCanonical, replyFits]; decide +kernel) | rfl)

/-- The hypotheses of StreamCommandsComplete are met, clause by clause (part 1). -/
theorem witness_StreamCommandsComplete_1 :
    (let passes (c : Cmd) (s : State) : Prop := firstBad (defineRange c) = none ∧ firstBad (defineState c s) = none ∧ firstBad (defineFormat c s) = none; let key (c : Cmd) : Nat := streamKey (c.u8 2) (c.u16 0); Meets defineStreamInfo (fun c s => passes c s ∧ c.u8 5 = 0 ∧ definition c .defined (s.stream (key c)).gen ≠ s.stream (key c)) (sent defineStreamInfo 3 24 [(0, 2, 4), (3, 1, 2), (4, 1, 1), (6, 2, 0x1500)]) sail) ∧
    (let passes (c : Cmd) (s : State) : Prop := firstBad (defineRange c) = none ∧ firstBad (defineState c s) = none ∧ firstBad (defineFormat c s) = none; let key (c : Cmd) : Nat := streamKey (c.u8 2) (c.u16 0); Meets defineStreamInfo (fun c s => passes c s ∧ c.u8 5 = 0 ∧ definition c .defined (s.stream (key c)).gen ≠ s.stream (key c)) (sent defineStreamInfo 3 24 [(0, 2, 2), (2, 1, 0), (3, 1, 2), (4, 1, 1), (6, 2, 0x1500), (9, 1, 2), (10, 2, 0x4010)]) sail) ∧
    (let passes (c : Cmd) (s : State) : Prop := firstBad (defineRange c) = none ∧ firstBad (defineState c s) = none ∧ firstBad (defineFormat c s) = none; let key (c : Cmd) : Nat := streamKey (c.u8 2) (c.u16 0); Meets defineStreamInfo (fun c s => passes c s ∧ c.u8 5 = 1 ∧ definition c .live (s.stream (key c)).gen ≠ s.stream (key c) ∧ (amendStream (key c) (definition c .live (genNext (s.stream (key c)).gen)) s).isSome = true) (sent defineStreamInfo 3 24 [(0, 2, 0), (3, 1, 2), (4, 1, 1), (5, 1, 1), (6, 2, 0x1500), (9, 1, 2), (10, 2, 0x4000)]) sail) ∧
    (let passes (c : Cmd) (s : State) : Prop := firstBad (defineRange c) = none ∧ firstBad (defineState c s) = none ∧ firstBad (defineFormat c s) = none; let key (c : Cmd) : Nat := streamKey (c.u8 2) (c.u16 0); Meets defineStreamInfo (fun c s => passes c s ∧ c.u8 5 = 0 ∧ definition c .defined (s.stream (key c)).gen = s.stream (key c)) (sent defineStreamInfo 3 24 [(0, 2, 2), (3, 1, 2), (4, 1, 1), (6, 2, 0x1500)]) sail) ∧
    (let passes (c : Cmd) (s : State) : Prop := firstBad (defineRange c) = none ∧ firstBad (defineState c s) = none ∧ firstBad (defineFormat c s) = none; let key (c : Cmd) : Nat := streamKey (c.u8 2) (c.u16 0); Meets defineStreamInfo (fun c s => passes c s ∧ c.u8 5 = 1 ∧ definition c .live (s.stream (key c)).gen = s.stream (key c)) (sent defineStreamInfo 3 128 [(3, 1, 2), (4, 1, 1), (5, 1, 1), (6, 2, 0x1500), (9, 1, 4), (10, 2, 0x4000)]) sail) ∧
    ((fun off => Meets defineStreamInfo (fun c _ => firstBad (defineRange c) = some off) (sent defineStreamInfo 3 128 [(0, 2, 8192)]) sail) 0x20) ∧
    ((fun off => Meets defineStreamInfo (fun c s => firstBad (defineRange c) = none ∧ firstBad (defineState c s) = some off) (sent defineStreamInfo 3 24 [(0, 2, 0), (3, 1, 2), (4, 1, 1), (6, 2, 0x1500)]) sail) 0x20) ∧
    ((fun off => Meets defineStreamInfo (fun c s => firstBad (defineRange c) = none ∧ firstBad (defineState c s) = none ∧ firstBad (defineFormat c s) = some off) (sent defineStreamInfo 3 24 [(0, 2, 4), (3, 1, 2), (4, 1, 1), (6, 2, 0x1600)]) sail) 0x26) ∧
    ((fun (c : Cmd) (s : State) => tableOk ({} : StreamObj) s.obj.streams = true ∧ c.u8 5 = 0) { ch := 3, session := 7 } State.reset) ∧
    ((fun (c : Cmd) (s : State) k => let key (c : Cmd) : Nat := streamKey (c.u8 2) (c.u16 0); tableOk ({} : StreamObj) s.obj.streams = true ∧ c.u8 5 = 0 ∧ k ≠ key c) (sent setManifestInfo 3 16 [(0, 1, 127)]) sail 0) ∧
    (let key (c : Cmd) : Nat := streamKey (c.u8 2) (c.u16 0); let good (c : Cmd) : Prop := c.u16 0 < 8192 ∧ c.u8 2 ≤ 1; Meets releaseStreamInfo (fun c s => good c ∧ (s.stream (key c)).st = .defined ∧ inPending s (key c) = false) (sent releaseStreamInfo 3 128 [(0, 2, 2)]) sail) ∧
    (let key (c : Cmd) : Nat := streamKey (c.u8 2) (c.u16 0); let good (c : Cmd) : Prop := c.u16 0 < 8192 ∧ c.u8 2 ≤ 1; Meets releaseStreamInfo (fun c s => good c ∧ (s.stream (key c)).st = .live ∧ (streamBusy s (key c) (s.stream (key c)) = false ∨ bitOf (c.u8 3) 0 = true)) (sent releaseStreamInfo 3 128 [(0, 2, 0)]) sail) := by
  refine ⟨?_, ?_, ?_, ?_, ?_, ?_, ?_, ?_, ?_, ?_, ?_, ?_⟩ <;>
    (first | decide +kernel | (dsimp only [Meets, accepts, dockTakes, hdmCanonical, replyFits]; decide +kernel) | rfl)

/-- The hypotheses of StreamCommandsComplete are met, clause by clause (part 2). -/
theorem witness_StreamCommandsComplete_2 :
    (let key (c : Cmd) : Nat := streamKey (c.u8 2) (c.u16 0); let good (c : Cmd) : Prop := c.u16 0 < 8192 ∧ c.u8 2 ≤ 1; Meets releaseStreamInfo (fun c s => good c ∧ (s.stream (key c)).st = .live ∧ (streamBusy s (key c) (s.stream (key c)) = false ∨ bitOf (c.u8 3) 0 = true)) (sent releaseStreamInfo 3 128 [(0, 2, 0), (3, 1, 1)]) (sail.onObj fun o => { o with routes := [(0, { source := some 0 })] })) ∧
    (let key (c : Cmd) : Nat := streamKey (c.u8 2) (c.u16 0); let good (c : Cmd) : Prop := c.u16 0 < 8192 ∧ c.u8 2 ≤ 1; Meets releaseStreamInfo (fun c s => good c ∧ ((s.stream (key c)).st = .undef ∨ (s.stream (key c)).st = .releasing)) (sent releaseStreamInfo 3 128 [(0, 2, 8191), (2, 1, 1)]) sail) ∧
    (let key (c : Cmd) : Nat := streamKey (c.u8 2) (c.u16 0); let good (c : Cmd) : Prop := c.u16 0 < 8192 ∧ c.u8 2 ≤ 1; Meets releaseStreamInfo (fun c s => good c ∧ ((s.stream (key c)).st = .undef ∨ (s.stream (key c)).st = .releasing)) (sent releaseStreamInfo 3 128 [(0, 2, 0), (2, 1, 1)]) (sail.onStream 8192 fun x => { x with st := .releasing })) ∧
    (let key (c : Cmd) : Nat := streamKey (c.u8 2) (c.u16 0); let good (c : Cmd) : Prop := c.u16 0 < 8192 ∧ c.u8 2 ≤ 1; Meets releaseStreamInfo (fun c s => good c ∧ (s.stream (key c)).st = .live ∧ streamBusy s (key c) (s.stream (key c)) = true ∧ bitOf (c.u8 3) 0 = false) (sent releaseStreamInfo 3 128 [(0, 2, 0)]) (sail.onObj fun o => { o with routes := [(0, { source := some 0 })] })) ∧
    ((fun (k : Nat) (s : State) => tableOk ({} : StreamObj) (clearStream k (s.stream k) s).obj.streams = true) 0 sail) ∧
    (let good (c : Cmd) (s : State) : Prop := c.u8 0 < 128 ∧ c.u8 1 ≤ 1 ∧ c.u8 2 ≤ 64 ∧ (c.u8 1 = 1 ∨ c.u16 4 ≤ 60000) ∧ manifestFault s (c.u8 1) (c.u8 0) (manifestList c) = none; Meets setManifestInfo (fun c s => good c s ∧ (c.u8 1 = 1 ∨ s.obj.trims.syncAll = false)) (sent setManifestInfo 3 128 [(2, 1, 2), (4, 2, 60000), (8, 2, 0), (10, 2, 2)]) sail) ∧
    (let good (c : Cmd) (s : State) : Prop := c.u8 0 < 128 ∧ c.u8 1 ≤ 1 ∧ c.u8 2 ≤ 64 ∧ (c.u8 1 = 1 ∨ c.u16 4 ≤ 60000) ∧ manifestFault s (c.u8 1) (c.u8 0) (manifestList c) = none; Meets setManifestInfo (fun c s => good c s ∧ (c.u8 1 = 1 ∨ s.obj.trims.syncAll = false)) (sent setManifestInfo 3 128 [(1, 1, 1), (2, 1, 1)]) sail) ∧
    ((fun st d => Meets setManifestInfo (fun c s => c.u8 0 < 128 ∧ c.u8 1 ≤ 1 ∧ c.u8 2 ≤ 64 ∧ (c.u8 1 = 1 ∨ c.u16 4 ≤ 60000) ∧ manifestFault s (c.u8 1) (c.u8 0) (manifestList c) = some (st, d)) (sent setManifestInfo 3 128 [(2, 1, 1), (8, 2, 2)]) sail) .state 0xFFFF) ∧
    ((fun (c : Cmd) (s : State) => atEpoch s (c.u8 1) (c.u8 0) = true) (sent setManifestInfo 3 16 []) sail) ∧
    ((fun (c : Cmd) (s : State) => atEpoch s (c.u8 1) (c.u8 0) = true) (sent setManifestInfo 3 16 [(1, 1, 1)]) sail) ∧
    ((fun (c : Cmd) (s : State) => atEpoch s (c.u8 1) (c.u8 0) = false) (sent setManifestInfo 3 16 [(0, 1, 127)]) sail) := by
  refine ⟨?_, ?_, ?_, ?_, ?_, ?_, ?_, ?_, ?_, ?_, ?_⟩ <;>
    (first | decide +kernel | (dsimp only [Meets, accepts, dockTakes, hdmCanonical, replyFits]; decide +kernel) | rfl)

/-- The hypotheses of PlanesAndReferencesAreSet are met, clause by clause (part 1). -/
theorem witness_PlanesAndReferencesAreSet_1 :
    (let good (c : Cmd) : Prop := c.u8 0 < 8 ∧ c.u8 1 ≤ 12 ∧ phaseOk (c.u8 1) (c.u64 8) = true; let free (c : Cmd) (s : State) : Prop := (s.plane (c.u8 0)).rate = none ∨ planeNamed s (c.u8 0) = false; Meets setPlaneInfo (fun c s => good c ∧ (s.plane (c.u8 0)).rate ≠ some (c.u8 1) ∧ free c s) (sent setPlaneInfo 3 128 [(1, 1, 12)]) up) ∧
    (let good (c : Cmd) : Prop := c.u8 0 < 8 ∧ c.u8 1 ≤ 12 ∧ phaseOk (c.u8 1) (c.u64 8) = true; let free (c : Cmd) (s : State) : Prop := (s.plane (c.u8 0)).rate = none ∨ planeNamed s (c.u8 0) = false; Meets setPlaneInfo (fun c s => good c ∧ (s.plane (c.u8 0)).rate ≠ some (c.u8 1) ∧ free c s) (sent setPlaneInfo 3 128 [(0, 1, 7), (1, 1, 0)]) up) ∧
    (Meets setPlaneInfo (fun c s => c.u8 0 < 8 ∧ c.u8 1 = 255 ∧ (s.plane (c.u8 0)).rate.isSome = true ∧ planeNamed s (c.u8 0) = false) (sent setPlaneInfo 3 128 [(0, 1, 1), (1, 1, 255)]) (sail.onObj fun o => { o with planes := tset {} o.planes 1 { rate := some 5 } })) ∧
    (let good (c : Cmd) : Prop := c.u8 0 < 8 ∧ c.u8 1 ≤ 12 ∧ phaseOk (c.u8 1) (c.u64 8) = true; Meets setPlaneInfo (fun c s => good c ∧ (s.plane (c.u8 0)).rate = some (c.u8 1) ∧ (s.plane (c.u8 0)).phase ≠ c.u64 8) (sent setPlaneInfo 3 128 [(1, 1, 5), (8, 8, 1)]) sail) ∧
    (let good (c : Cmd) : Prop := c.u8 0 < 8 ∧ c.u8 1 ≤ 12 ∧ phaseOk (c.u8 1) (c.u64 8) = true; Meets setPlaneInfo (fun c s => good c ∧ (s.plane (c.u8 0)).rate = some (c.u8 1) ∧ (s.plane (c.u8 0)).phase = c.u64 8) (sent setPlaneInfo 3 128 [(1, 1, 5)]) sail) ∧
    (let good (c : Cmd) : Prop := c.u8 0 < 8 ∧ c.u8 1 ≤ 12 ∧ phaseOk (c.u8 1) (c.u64 8) = true; Meets setPlaneInfo (fun c s => (good c ∨ (c.u8 0 < 8 ∧ c.u8 1 = 255)) ∧ (s.plane (c.u8 0)).rate ≠ (if c.u8 1 = 255 then none else some (c.u8 1)) ∧ (s.plane (c.u8 0)).rate.isSome = true ∧ planeNamed s (c.u8 0) = true) (sent setPlaneInfo 3 128 [(1, 1, 6)]) sail) ∧
    (let good (c : Cmd) : Prop := c.u8 0 < 8 ∧ c.u8 1 ≤ 12 ∧ phaseOk (c.u8 1) (c.u64 8) = true; Meets setPlaneInfo (fun c s => (good c ∨ (c.u8 0 < 8 ∧ c.u8 1 = 255)) ∧ (s.plane (c.u8 0)).rate ≠ (if c.u8 1 = 255 then none else some (c.u8 1)) ∧ (s.plane (c.u8 0)).rate.isSome = true ∧ planeNamed s (c.u8 0) = true) (sent setPlaneInfo 3 128 [(1, 1, 255)]) sail) ∧
    (let next (c : Cmd) (s : State) : RefObj := refSetting c (s.refObj (c.u8 0)).gen; let free (c : Cmd) (s : State) : Prop := if 8 ≤ c.u8 0 then (s.rate (next c s).plane).isSome = true else laneNamed s (c.u8 0) (next c s).lane = false; Meets setReferenceInfo (fun c s => firstBad (refRange c) = none ∧ free c s ∧ next c s ≠ s.refObj (c.u8 0)) (sent setReferenceInfo 3 128 [(1, 1, 1), (2, 1, 1)]) up) ∧
    (let next (c : Cmd) (s : State) : RefObj := refSetting c (s.refObj (c.u8 0)).gen; let free (c : Cmd) (s : State) : Prop := if 8 ≤ c.u8 0 then (s.rate (next c s).plane).isSome = true else laneNamed s (c.u8 0) (next c s).lane = false; Meets setReferenceInfo (fun c s => firstBad (refRange c) = none ∧ free c s ∧ next c s = s.refObj (c.u8 0)) (sent setReferenceInfo 3 128 [(1, 1, 1), (2, 1, 1)]) (up.onObj fun o => { o with refs := [(0, { enable := true })] })) ∧
    (let next (c : Cmd) (s : State) : RefObj := refSetting c (s.refObj (c.u8 0)).gen; let free (c : Cmd) (s : State) : Prop := if 8 ≤ c.u8 0 then (s.rate (next c s).plane).isSome = true else laneNamed s (c.u8 0) (next c s).lane = false; Meets setReferenceInfo (fun c s => firstBad (refRange c) = none ∧ ¬free c s) (sent setReferenceInfo 3 128 [(0, 1, 9), (1, 1, 1), (2, 1, 16), (3, 1, 254), (6, 2, 600), (8, 4, 100000)]) (up.onTime fun t => { t with tmState := .holdover })) ∧
    ((fun off => Meets setReferenceInfo (fun c _ => firstBad (refRange c) = some off) (sent setReferenceInfo 3 128 [(0, 1, 10)]) up) 0x20) ∧
    (let policyOk (c : Cmd) : Prop := c.u8 0 ≤ 2 ∧ c.u8 1 < 10 ∧ c.u32 4 ≤ 2500000 ∧ c.u32 8 ≤ 100000 ∧ c.u32 0x0C ≤ 10000 ∧ 1 ≤ c.u32 0x10 ∧ c.u32 0x10 ≤ 1000000000; let policy (c : Cmd) (gen : Nat) : PolicyObj := { mode := if c.u8 0 = 0 then .auto else if c.u8 0 = 1 then .forceSlot else .forceHoldover, forced := c.u8 1, spreadPpb := c.u32 4, driftPpb := c.u32 8, offsetPpb := c.u32 0x0C, budgetNs := c.u32 0x10, gen := gen }; let spreads (c : Cmd) (s : State) : Prop := c.u32 4 = s.obj.policy.spreadPpb ∨ (s.time.tmState ≠ .disciplined ∧ s.time.tmState ≠ .holdover); Meets setSelectionPolicyInfo (fun c s => policyOk c ∧ spreads c s ∧ policy c s.obj.policy.gen ≠ s.obj.policy) (sent setSelectionPolicyInfo 3 128 [(16, 4, 1)]) up) := by
  refine ⟨?_, ?_, ?_, ?_, ?_, ?_, ?_, ?_, ?_, ?_, ?_, ?_⟩ <;>
    (first | decide +kernel | (dsimp only [Meets, accepts, dockTakes, hdmCanonical, replyFits]; decide +kernel) | rfl)

/-- The hypotheses of PlanesAndReferencesAreSet are met, clause by clause (part 2). -/
theorem witness_PlanesAndReferencesAreSet_2 :
    (let policyOk (c : Cmd) : Prop := c.u8 0 ≤ 2 ∧ c.u8 1 < 10 ∧ c.u32 4 ≤ 2500000 ∧ c.u32 8 ≤ 100000 ∧ c.u32 0x0C ≤ 10000 ∧ 1 ≤ c.u32 0x10 ∧ c.u32 0x10 ≤ 1000000000; let policy (c : Cmd) (gen : Nat) : PolicyObj := { mode := if c.u8 0 = 0 then .auto else if c.u8 0 = 1 then .forceSlot else .forceHoldover, forced := c.u8 1, spreadPpb := c.u32 4, driftPpb := c.u32 8, offsetPpb := c.u32 0x0C, budgetNs := c.u32 0x10, gen := gen }; Meets setSelectionPolicyInfo (fun c s => policyOk c ∧ policy c s.obj.policy.gen = s.obj.policy) (sent setSelectionPolicyInfo 3 128 [(4, 4, 0), (8, 4, 1000), (12, 4, 50), (16, 4, 1000)]) up) ∧
    (let policyOk (c : Cmd) : Prop := c.u8 0 ≤ 2 ∧ c.u8 1 < 10 ∧ c.u32 4 ≤ 2500000 ∧ c.u32 8 ≤ 100000 ∧ c.u32 0x0C ≤ 10000 ∧ 1 ≤ c.u32 0x10 ∧ c.u32 0x10 ≤ 1000000000; let spreads (c : Cmd) (s : State) : Prop := c.u32 4 = s.obj.policy.spreadPpb ∨ (s.time.tmState ≠ .disciplined ∧ s.time.tmState ≠ .holdover); Meets setSelectionPolicyInfo (fun c s => policyOk c ∧ ¬spreads c s) (sent setSelectionPolicyInfo 3 128 [(4, 4, 2500000), (16, 4, 1)]) (up.onTime fun t => { t with tmState := .holdover })) := by
  refine ⟨?_, ?_⟩ <;>
    (first | decide +kernel | (dsimp only [Meets, accepts, dockTakes, hdmCanonical, replyFits]; decide +kernel) | rfl)

/-- The hypotheses of TrimsAndPoliciesAreSet are met, clause by clause (part 1). -/
theorem witness_TrimsAndPoliciesAreSet_1 :
    (let val (c : Cmd) : Bool := decide (c.u8 1 = 1); Meets setTrimInfo (fun c s => c.u8 0 ≤ 3 ∧ c.u8 1 ≤ 1 ∧ trimValue s (c.u8 0) = val c) (sent setTrimInfo 3 128 []) up) ∧
    (let val (c : Cmd) : Bool := decide (c.u8 1 = 1); Meets setTrimInfo (fun c s => c.u8 0 = 0 ∧ c.u8 1 ≤ 1 ∧ s.obj.trims.shallow ≠ val c ∧ (∀ e ∈ s.wharf.berths, e.2.pages = 0)) (sent setTrimInfo 3 128 [(1, 1, 1)]) up) ∧
    (let val (c : Cmd) : Bool := decide (c.u8 1 = 1); Meets setTrimInfo (fun c s => c.u8 0 = 0 ∧ c.u8 1 ≤ 1 ∧ s.obj.trims.shallow ≠ val c ∧ (∃ e ∈ s.wharf.berths, e.2.pages ≠ 0)) (sent setTrimInfo 3 128 [(1, 1, 1)]) (up.onWharf fun w => { w with berths := [(0, { pages := 1 })] })) ∧
    (Meets setTrimInfo (fun c s => c.u8 0 = 2 ∧ c.u8 1 = 1 ∧ s.obj.trims.eco = false) (sent setTrimInfo 3 128 [(0, 1, 2), (1, 1, 1)]) up) ∧
    (Meets setTrimInfo (fun c s => c.u8 0 = 2 ∧ c.u8 1 = 0 ∧ s.obj.trims.eco = true) (sent setTrimInfo 3 128 [(0, 1, 2)]) (up.onObj fun o => { o with trims := { eco := true } })) ∧
    (let val (c : Cmd) : Bool := decide (c.u8 1 = 1); Meets setTrimInfo (fun c s => c.u8 0 = 1 ∧ c.u8 1 ≤ 1 ∧ s.obj.trims.legacy ≠ val c) (sent setTrimInfo 3 128 [(0, 1, 1), (1, 1, 1)]) (up.onWharf fun w => { w with berths := [(0, { pages := 1 })] })) ∧
    (let val (c : Cmd) : Bool := decide (c.u8 1 = 1); Meets setTrimInfo (fun c s => c.u8 0 = 3 ∧ c.u8 1 ≤ 1 ∧ s.obj.trims.syncAll ≠ val c) (sent setTrimInfo 3 128 [(0, 1, 3), (1, 1, 1)]) up) ∧
    ((fun (c : Cmd) (s : State) => (syncBerths (byCommand c) (liveInputs s) s).isSome = true) { ch := 3, session := 7 } State.reset) ∧
    ((fun (c : Cmd) (s : State) => syncBerths (byCommand c) (liveInputs s) s = none) {} (sail.onWharf fun w => { w with berths := [(64, { die := 0, pages := 100000000, slots := 4 }), (65, { die := 1, pages := 100000000, slots := 4 })] })) ∧
    ((fun (c : Cmd) (off : Nat) (_s : State) => firstBad [(decide (c.u8 0 ≤ 3), 0x20), (decide (c.u8 1 ≤ 1), 0x21)] = some off) (sent setTrimInfo 3 8 [(1, 1, 2)]) 0x21 up) ∧
    (let dflt (d n : Nat) : Nat := if n = 0 then d else n; let twin (c : Cmd) (gen : Nat) : TwinPolObj := { autoResync := c.u8 0 = 1, sealCheck := c.u8 1 = 1, retryS := dflt 10 (c.u16 4), gen := gen }; let twinOk (c : Cmd) : Prop := c.u8 0 ≤ 1 ∧ c.u8 1 ≤ 1 ∧ c.u16 4 ≤ 600; Meets setTwinPolicyInfo (fun c s => twinOk c ∧ twin c s.obj.twinPol.gen ≠ s.obj.twinPol) (sent setTwinPolicyInfo 3 128 []) up) ∧
    (let dflt (d n : Nat) : Nat := if n = 0 then d else n; let twin (c : Cmd) (gen : Nat) : TwinPolObj := { autoResync := c.u8 0 = 1, sealCheck := c.u8 1 = 1, retryS := dflt 10 (c.u16 4), gen := gen }; let twinOk (c : Cmd) : Prop := c.u8 0 ≤ 1 ∧ c.u8 1 ≤ 1 ∧ c.u16 4 ≤ 600; Meets setTwinPolicyInfo (fun c s => twinOk c ∧ twin c s.obj.twinPol.gen = s.obj.twinPol) (sent setTwinPolicyInfo 3 128 [(0, 1, 1), (1, 1, 1), (4, 2, 10)]) up) := by
  refine ⟨?_, ?_, ?_, ?_, ?_, ?_, ?_, ?_, ?_, ?_, ?_, ?_⟩ <;>
    (first | decide +kernel | (dsimp only [Meets, accepts, dockTakes, hdmCanonical, replyFits]; decide +kernel) | rfl)

/-- The hypotheses of TrimsAndPoliciesAreSet are met, clause by clause (part 2). -/
theorem witness_TrimsAndPoliciesAreSet_2 :
    (let dflt (d n : Nat) : Nat := if n = 0 then d else n; let power (c : Cmd) (gen : Nat) : PowerPolObj := { throttleC := dflt 100 (c.u8 0), preferAnvil := c.u8 1, stepMs := dflt 100 (c.u16 2), gen := gen }; let powerOk (c : Cmd) : Prop := (c.u8 0 = 0 ∨ (85 ≤ c.u8 0 ∧ c.u8 0 ≤ 100)) ∧ c.u8 1 ≤ 2 ∧ (c.u16 2 = 0 ∨ (10 ≤ c.u16 2 ∧ c.u16 2 ≤ 10000)); Meets setPowerPolicyInfo (fun c s => powerOk c ∧ power c s.obj.powerPol.gen ≠ s.obj.powerPol) (sent setPowerPolicyInfo 3 128 [(1, 1, 2)]) up) ∧
    (let dflt (d n : Nat) : Nat := if n = 0 then d else n; let power (c : Cmd) (gen : Nat) : PowerPolObj := { throttleC := dflt 100 (c.u8 0), preferAnvil := c.u8 1, stepMs := dflt 100 (c.u16 2), gen := gen }; let powerOk (c : Cmd) : Prop := (c.u8 0 = 0 ∨ (85 ≤ c.u8 0 ∧ c.u8 0 ≤ 100)) ∧ c.u8 1 ≤ 2 ∧ (c.u16 2 = 0 ∨ (10 ≤ c.u16 2 ∧ c.u16 2 ≤ 10000)); Meets setPowerPolicyInfo (fun c s => powerOk c ∧ power c s.obj.powerPol.gen = s.obj.powerPol) (sent setPowerPolicyInfo 3 128 []) up) ∧
    (let dflt (d n : Nat) : Nat := if n = 0 then d else n; let base (c : Cmd) : Nat := dflt 100 (c.u16 0); let most (c : Cmd) : Nat := dflt 1000 (c.u16 2); let journalOk (c : Cmd) : Prop := base c ∈ [100, 200, 500, 1000] ∧ most c ∈ [100, 200, 500, 1000] ∧ base c ≤ most c; Meets setJournalPolicyInfo (fun c s => journalOk c ∧ ¬(s.obj.journalPol.baseMs = base c ∧ s.obj.journalPol.maxMs = most c)) (sent setJournalPolicyInfo 3 128 [(0, 2, 1000), (2, 2, 1000)]) up) ∧
    (let dflt (d n : Nat) : Nat := if n = 0 then d else n; let base (c : Cmd) : Nat := dflt 100 (c.u16 0); let most (c : Cmd) : Nat := dflt 1000 (c.u16 2); let journalOk (c : Cmd) : Prop := base c ∈ [100, 200, 500, 1000] ∧ most c ∈ [100, 200, 500, 1000] ∧ base c ≤ most c; Meets setJournalPolicyInfo (fun c s => journalOk c ∧ s.obj.journalPol.baseMs = base c ∧ s.obj.journalPol.maxMs = most c) (sent setJournalPolicyInfo 3 128 []) up) ∧
    (let dflt (d n : Nat) : Nat := if n = 0 then d else n; let fault (c : Cmd) (gen : Nat) : FaultPolObj := { autoResetMs := dflt 1000 (c.u32 0), rateLimit := dflt 100 (c.u16 4), gen := gen }; let faultOk (c : Cmd) : Prop := c.u32 0 = 0 ∨ (100 ≤ c.u32 0 ∧ c.u32 0 ≤ 60000); Meets setFaultPolicyInfo (fun c s => faultOk c ∧ fault c s.obj.faultPol.gen ≠ s.obj.faultPol) (sent setFaultPolicyInfo 3 128 [(0, 4, 100)]) up) ∧
    (let dflt (d n : Nat) : Nat := if n = 0 then d else n; let fault (c : Cmd) (gen : Nat) : FaultPolObj := { autoResetMs := dflt 1000 (c.u32 0), rateLimit := dflt 100 (c.u16 4), gen := gen }; let faultOk (c : Cmd) : Prop := c.u32 0 = 0 ∨ (100 ≤ c.u32 0 ∧ c.u32 0 ≤ 60000); Meets setFaultPolicyInfo (fun c s => faultOk c ∧ fault c s.obj.faultPol.gen = s.obj.faultPol) (sent setFaultPolicyInfo 3 128 []) up) ∧
    (Meets clearFirstFaultInfo (fun c s => c.u16 0 = s.faults.first.code) (sent clearFirstFaultInfo 3 128 []) up) ∧
    (Meets clearFirstFaultInfo (fun c s => c.u16 0 ≠ s.faults.first.code) (sent clearFirstFaultInfo 3 128 [(0, 2, 1)]) up) := by
  refine ⟨?_, ?_, ?_, ?_, ?_, ?_, ?_, ?_⟩ <;>
    (first | decide +kernel | (dsimp only [Meets, accepts, dockTakes, hdmCanonical, replyFits]; decide +kernel) | rfl)

/-- The hypotheses of TakeAndSalvoArm are met, clause by clause. -/
theorem witness_TakeAndSalvoArm :
    (let starts (c : Cmd) (s : State) : Int × Int := takeFrames s (planeOf s (c.u16 0)) (bitOf (c.u16 6) 0) (toInt 64 (c.u64 8)); let entry (c : Cmd) (s : State) : Entry := newEntry s c (c.u16 0) (c.u16 2) (c.u16 4) (starts c s).2; let good (c : Cmd) (s : State) : Prop := takeFault s (c.u16 0) (c.u16 2) (c.u16 4) c.session = none ∧ targetNear s (planeOf s (c.u16 0)) (bitOf (c.u16 6) 0) (toInt 64 (c.u64 8)) = true; let result (c : Cmd) (t : State) (n : Int) : Res := { queued (.take (c.u16 0)) (countArmed 1 t) with detail := ofInt 64 n }; accepts takeInfo takeRec sail ∧ good takeRec (admittedAt takeRec sail) ∧ ((placeTake (takeRec.u16 0) (entry takeRec (admittedAt takeRec sail)) (starts takeRec (admittedAt takeRec sail)).1 (byCommand takeRec) (takePrepares (admittedAt takeRec sail) (takeRec.u16 0, entry takeRec (admittedAt takeRec sail)))).any fun r => decide ((conclude takeInfo takeRec (result takeRec r.1 r.2)).mbox.armed ≤ 8192)) = true) ∧
    (let starts (c : Cmd) (s : State) : Int × Int := takeFrames s (planeOf s (c.u16 0)) (bitOf (c.u16 6) 0) (toInt 64 (c.u64 8)); let entry (c : Cmd) (s : State) : Entry := newEntry s c (c.u16 0) (c.u16 2) (c.u16 4) (starts c s).2; let good (c : Cmd) (s : State) : Prop := takeFault s (c.u16 0) (c.u16 2) (c.u16 4) c.session = none ∧ targetNear s (planeOf s (c.u16 0)) (bitOf (c.u16 6) 0) (toInt 64 (c.u64 8)) = true; let result (c : Cmd) (t : State) (n : Int) : Res := { queued (.take (c.u16 0)) (countArmed 1 t) with detail := ofInt 64 n }; accepts takeInfo takeRec (sail.onMbox fun m => { m with armed := 8192 }) ∧ good takeRec (admittedAt takeRec (sail.onMbox fun m => { m with armed := 8192 })) ∧ ((placeTake (takeRec.u16 0) (entry takeRec (admittedAt takeRec (sail.onMbox fun m => { m with armed := 8192 }))) (starts takeRec (admittedAt takeRec (sail.onMbox fun m => { m with armed := 8192 }))).1 (byCommand takeRec) (takePrepares (admittedAt takeRec (sail.onMbox fun m => { m with armed := 8192 })) (takeRec.u16 0, entry takeRec (admittedAt takeRec (sail.onMbox fun m => { m with armed := 8192 }))))).any fun r => decide (8192 < (conclude takeInfo takeRec (result takeRec r.1 r.2)).mbox.armed)) = true) ∧
    ((fun (c : Cmd) (s : State) (st : Status) (off : Nat) => takeFault s (c.u16 0) (c.u16 2) (c.u16 4) c.session = some (st, off)) (sent takeInfo 3 16 [(0, 2, 1)]) sail .state 0) ∧
    ((fun (c : Cmd) (s : State) => takeFault s (c.u16 0) (c.u16 2) (c.u16 4) c.session = none ∧ targetNear s (planeOf s (c.u16 0)) (bitOf (c.u16 6) 0) (toInt 64 (c.u64 8)) = false) (sent takeInfo 3 16 [(6, 2, 1), (8, 8, 1000000)]) sail) ∧
    ((fun (c : Cmd) (s : State) => let starts (c : Cmd) (s : State) : Int × Int := takeFrames s (planeOf s (c.u16 0)) (bitOf (c.u16 6) 0) (toInt 64 (c.u64 8)); let entry (c : Cmd) (s : State) : Entry := newEntry s c (c.u16 0) (c.u16 2) (c.u16 4) (starts c s).2; let good (c : Cmd) (s : State) : Prop := takeFault s (c.u16 0) (c.u16 2) (c.u16 4) c.session = none ∧ targetNear s (planeOf s (c.u16 0)) (bitOf (c.u16 6) 0) (toInt 64 (c.u64 8)) = true; good c s ∧ placeTake (c.u16 0) (entry c s) (starts c s).1 (byCommand c) (takePrepares s (c.u16 0, entry c s)) = none) { ch := 3, session := 7 } (sail.onRouteRt 0 fun r => { r with queue := [{ frame := 2, committed := true }, { frame := 3, committed := true }, { frame := 4, committed := true }, { frame := 5, committed := true }] })) ∧
    (let plane (c : Cmd) (s : State) : Nat := (destPlane s (salvoEntry c 0).1).getD 0; let starts (c : Cmd) (s : State) : Int × Int := takeFrames s (plane c s) (bitOf (c.u16 2) 1) (toInt 64 (c.u64 8)); let entries (c : Cmd) (s : State) : List (Nat × Entry) := (List.range (c.u16 0)).map (salvoTake s c (starts c s).2); let placed (c : Cmd) (s : State) : State × Int ⊕ Nat := if bitOf (c.u16 2) 0 then placeSplit (starts c s).1 (byCommand c) 0 (entries c s) none ((entries c s).foldl takePrepares s) else placeWhole (plane c s) (entries c s) (starts c s).1 (byCommand c) ((entries c s).foldl takePrepares s); let good (c : Cmd) (s : State) : Prop := c.checkGen = false ∧ 1 ≤ c.u16 0 ∧ c.u16 0 ≤ 512 ∧ salvoFault c (destPlane s (salvoEntry c 0).1) [] (List.range (c.u16 0)) s = none; accepts salvoInfo (sent salvoInfo 3 64 [(0, 2, 1)]) sail ∧ good (sent salvoInfo 3 64 [(0, 2, 1)]) (admittedAt (sent salvoInfo 3 64 [(0, 2, 1)]) sail) ∧ (match placed (sent salvoInfo 3 64 [(0, 2, 1)]) (admittedAt (sent salvoInfo 3 64 [(0, 2, 1)]) sail) with | .inl (t, g) => decide ((conclude salvoInfo (sent salvoInfo 3 64 [(0, 2, 1)]) { queued (.salvo 1 0 0 0 (starts (sent salvoInfo 3 64 [(0, 2, 1)]) (admittedAt (sent salvoInfo 3 64 [(0, 2, 1)]) sail)).2 g 0 0) (countArmed 1 t) with detail := ofInt 64 g }).mbox.armed ≤ 8192) | .inr _ => false) = true) ∧
    ((fun (c : Cmd) (s : State) (i : Nat) => let plane (c : Cmd) (s : State) : Nat := (destPlane s (salvoEntry c 0).1).getD 0; let starts (c : Cmd) (s : State) : Int × Int := takeFrames s (plane c s) (bitOf (c.u16 2) 1) (toInt 64 (c.u64 8)); let entries (c : Cmd) (s : State) : List (Nat × Entry) := (List.range (c.u16 0)).map (salvoTake s c (starts c s).2); let placed (c : Cmd) (s : State) : State × Int ⊕ Nat := if bitOf (c.u16 2) 0 then placeSplit (starts c s).1 (byCommand c) 0 (entries c s) none ((entries c s).foldl takePrepares s) else placeWhole (plane c s) (entries c s) (starts c s).1 (byCommand c) ((entries c s).foldl takePrepares s); let good (c : Cmd) (s : State) : Prop := c.checkGen = false ∧ 1 ≤ c.u16 0 ∧ c.u16 0 ≤ 512 ∧ salvoFault c (destPlane s (salvoEntry c 0).1) [] (List.range (c.u16 0)) s = none; good c s ∧ placed c s = .inr i) (sent salvoInfo 3 64 [(0, 2, 3), (22, 2, 0x2000), (24, 2, 0x4000), (28, 2, 0x2001), (30, 2, 0x4001)]) (sail.onBasin fun b => { b with routes := (0, { queue := [{ frame := 1 }, { frame := 3 }, { frame := 4 }, { frame := 5 }] }) :: (List.range 4094).map fun i => (0x2002 + i, { queue := [{ frame := 1 }] }) }) 0) ∧
    ((fun (c : Cmd) (s : State) (st : Status) (off : Nat) => c.checkGen = false ∧ 1 ≤ c.u16 0 ∧ c.u16 0 ≤ 512 ∧ salvoFault c (destPlane s (salvoEntry c 0).1) [] (List.range (c.u16 0)) s = some (st, off)) (sent salvoInfo 3 64 [(0, 2, 1), (16, 2, 1)]) sail .state 0x30) ∧
    ((fun (c : Cmd) (_p0 : Option Nat) (_seen : List Nat) (_r : List Nat) (i : Nat) (st : Status) (off : Nat) (s : State) => takeFault s (salvoEntry c i).1 (salvoEntry c i).2.1 (salvoEntry c i).2.2 c.session = some (st, off)) (sent salvoInfo 3 32 [(0, 2, 1), (18, 2, 0xF800)]) none [] [] 0 .range 2 sail) ∧
    (let plane (c : Cmd) (s : State) : Nat := (destPlane s (salvoEntry c 0).1).getD 0; let starts (c : Cmd) (s : State) : Int × Int := takeFrames s (plane c s) (bitOf (c.u16 2) 1) (toInt 64 (c.u64 8)); let entries (c : Cmd) (s : State) : List (Nat × Entry) := (List.range (c.u16 0)).map (salvoTake s c (starts c s).2); let placed (c : Cmd) (s : State) : State × Int ⊕ Nat := if bitOf (c.u16 2) 0 then placeSplit (starts c s).1 (byCommand c) 0 (entries c s) none ((entries c s).foldl takePrepares s) else placeWhole (plane c s) (entries c s) (starts c s).1 (byCommand c) ((entries c s).foldl takePrepares s); let good (c : Cmd) (s : State) : Prop := c.checkGen = false ∧ 1 ≤ c.u16 0 ∧ c.u16 0 ≤ 512 ∧ salvoFault c (destPlane s (salvoEntry c 0).1) [] (List.range (c.u16 0)) s = none; accepts salvoInfo (sent salvoInfo 3 64 [(0, 2, 1)]) (sail.onMbox fun m => { m with armed := 8192 }) ∧ good (sent salvoInfo 3 64 [(0, 2, 1)]) (admittedAt (sent salvoInfo 3 64 [(0, 2, 1)]) (sail.onMbox fun m => { m with armed := 8192 })) ∧ (match placed (sent salvoInfo 3 64 [(0, 2, 1)]) (admittedAt (sent salvoInfo 3 64 [(0, 2, 1)]) (sail.onMbox fun m => { m with armed := 8192 })) with | .inl (t, g) => decide (8192 < (conclude salvoInfo (sent salvoInfo 3 64 [(0, 2, 1)]) { queued (.salvo 1 0 0 0 (starts (sent salvoInfo 3 64 [(0, 2, 1)]) (admittedAt (sent salvoInfo 3 64 [(0, 2, 1)]) (sail.onMbox fun m => { m with armed := 8192 }))).2 g 0 0) (countArmed 1 t) with detail := ofInt 64 g }).mbox.armed) | .inr _ => false) = true) := by
  refine ⟨?_, ?_, ?_, ?_, ?_, ?_, ?_, ?_, ?_, ?_⟩ <;>
    (first | decide +kernel | (dsimp only [Meets, accepts, dockTakes, hdmCanonical, replyFits]; decide +kernel) | rfl)

/-- The hypotheses of QueueKeepsFrames are met, clause by clause. -/
theorem witness_QueueKeepsFrames :
    (let frames (s : State) (d : Nat) : List Int := (s.routeRt d).queue.map fun q => q.frame; (fun (d by_ : Nat) (e : Entry) (s : State) => tableOk ({} : RouteRt) s.basin.routes = true ∧ (frames s d).Pairwise (· < ·) ∧ (s.routeRt d).queue.length ≤ 4 ∧ (armEntry d e by_ s).isSome = true) 0 0 { frame := 5 } (up.onRouteRt 0 fun r => { r with queue := [{ frame := 1 }, { frame := 9 }] })) ∧
    ((fun (d : Nat) (_by_ : Nat) (e : Entry) (s : State) => openEntryAt s d e.frame = none ∧ 4 ≤ (s.routeRt d).queue.length) 0 0 { frame := 9 } (sail.onRouteRt 0 fun r => { r with queue := [{ frame := 1 }, { frame := 2 }, { frame := 3 }, { frame := 4 }] })) := by
  refine ⟨?_, ?_⟩ <;>
    (first | decide +kernel | (dsimp only [Meets, accepts, dockTakes, hdmCanonical, replyFits]; decide +kernel) | rfl)

/-- The hypotheses of FirstFrameWithRoom are met, clause by clause. -/
theorem witness_FirstFrameWithRoom :
    ((fun (s : State) (p : Nat) (fuel : Nat) (need : Int → Nat) (f : Int) g => let r := findFrame s p need fuel f; f ≤ g ∧ g < r.1) (up.onRouteRt 0 fun r => { r with queue := [{ frame := 7 }] }) 0 4 (fun f => if f = 7 then 8193 else 0) 7 7) ∧
    ((fun (s : State) (p : Nat) (fuel : Nat) (need : Int → Nat) (f : Int) => let r := findFrame s p need fuel f; r.1 < f + fuel) up 0 4 (fun _ => 0) 7) := by
  refine ⟨?_, ?_⟩ <;>
    (first | decide +kernel | (dsimp only [Meets, accepts, dockTakes, hdmCanonical, replyFits]; decide +kernel) | rfl)

/-- The hypotheses of BasinCommandsComplete are met, clause by clause (part 1). -/
theorem witness_BasinCommandsComplete_1 :
    (Meets cancelInfo (fun c s => c.u8 0 ≤ 1 ∧ openEntries s (cancelReach c s) ≠ []) (sent cancelInfo 3 128 [(1, 1, 3), (2, 2, 5)]) (sail.onRouteRt 0 fun r => { r with queue := [{ frame := 1, session := 7, ch := 3, tag := 5 }] })) ∧
    (Meets cancelInfo (fun c s => c.u8 0 ≤ 1 ∧ openEntries s (cancelReach c s) ≠ []) (sent cancelInfo 3 128 [(0, 1, 1)]) (sail.onRouteRt 0 fun r => { r with queue := [{ frame := 1, session := 7, ch := 3, tag := 5 }] })) ∧
    (Meets cancelInfo (fun c s => c.u8 0 ≤ 1 ∧ openEntries s (cancelReach c s) = []) (sent cancelInfo 3 128 []) sail) ∧
    (Meets cancelInfo (fun c s => c.u8 0 ≤ 1 ∧ openEntries s (cancelReach c s) = []) (sent cancelInfo 3 128 [(0, 1, 1), (4, 2, 1)]) (sail.onRouteRt 0 fun r => { r with queue := [{ frame := 1, session := 7, ch := 3, tag := 5 }] })) ∧
    (Meets cancelInfo (fun c _ => 1 < c.u8 0) (sent cancelInfo 3 128 [(0, 1, 2)]) sail) ∧
    (let lockGood (c : Cmd) : Prop := (c.checkGen = true → lockCount c = 1) ∧ lockCount c ≤ 4096 ∧ c.u16 0 + lockCount c ≤ 65536 ∧ destRange (c.u16 0) = destRange (c.u16 0 + lockCount c - 1) ∧ c.u8 4 ≤ 2; Meets lockDestinationInfo (fun c s => lockGood c ∧ ∀ d ∈ span (c.u16 0) (lockCount c), lockable s (c.u8 4) c.session d = true) (sent lockDestinationInfo 3 128 []) up) ∧
    (let lockGood (c : Cmd) : Prop := (c.checkGen = true → lockCount c = 1) ∧ lockCount c ≤ 4096 ∧ c.u16 0 + lockCount c ≤ 65536 ∧ destRange (c.u16 0) = destRange (c.u16 0 + lockCount c - 1) ∧ c.u8 4 ≤ 2; Meets lockDestinationInfo (fun c s => lockGood c ∧ ∃ d ∈ span (c.u16 0) (lockCount c), lockable s (c.u8 4) c.session d = false) (sent lockDestinationInfo 3 128 [(2, 2, 2), (4, 1, 1)]) (sail.onRouteRt 1 fun r => { r with protect := 8 })) ∧
    (let lockGood (c : Cmd) : Prop := (c.checkGen = true → lockCount c = 1) ∧ lockCount c ≤ 4096 ∧ c.u16 0 + lockCount c ≤ 65536 ∧ destRange (c.u16 0) = destRange (c.u16 0 + lockCount c - 1) ∧ c.u8 4 ≤ 2; Meets lockDestinationInfo (fun c _ => ¬lockGood c) (sent lockDestinationInfo 3 128 [(0, 2, 0xE000), (2, 2, 4097)]) sail) ∧
    (let lockGood (c : Cmd) : Prop := (c.checkGen = true → lockCount c = 1) ∧ lockCount c ≤ 4096 ∧ c.u16 0 + lockCount c ≤ 65536 ∧ destRange (c.u16 0) = destRange (c.u16 0 + lockCount c - 1) ∧ c.u8 4 ≤ 2; Meets lockDestinationInfo (fun c _ => ¬lockGood c) (sent lockDestinationInfo 3 128 [(4, 1, 3)]) sail) ∧
    (let fields (c : Cmd) : Prop := c.u8 0 < 16 ∧ (c.u8 1 < 8 ∨ c.u8 1 = 255) ∧ c.u8 2 ∈ [1, 2, 4, 8] ∧ c.u8 3 ≤ 5 ∧ c.u8 6 ≤ 1 ∧ (c.u8 7 = 1 ∨ c.u8 7 = 2) ∧ c.u16 8 < 1024 ∧ c.u16 0x0A < 1024 ∧ c.u16 0x0C < 1024; let old (c : Cmd) (s : State) : GenObj := s.gen (c.u8 0); let shape (c : Cmd) (s : State) : Bool := genReshaped (old c s) (genSetting c (old c s).gen); let fits (c : Cmd) (s : State) : Prop := serialIn (c.u8 2) (c.u16 4) = true ∧ (c.u8 1 = 255 ∨ s.rate (c.u8 1) = some (fmtRate (c.u16 4))); let new (c : Cmd) (s : State) : Prop := genSetting c (old c s).gen ≠ old c s; Meets setGeneratorInfo (fun c s => fields c ∧ fits c s ∧ new c s ∧ shape c s = true ∧ genUsed s (c.u8 0) = false) (sent setGeneratorInfo 3 128 [(0, 1, 15), (2, 1, 2), (4, 2, 0x1500), (7, 1, 1)]) sail) ∧
    (let fields (c : Cmd) : Prop := c.u8 0 < 16 ∧ (c.u8 1 < 8 ∨ c.u8 1 = 255) ∧ c.u8 2 ∈ [1, 2, 4, 8] ∧ c.u8 3 ≤ 5 ∧ c.u8 6 ≤ 1 ∧ (c.u8 7 = 1 ∨ c.u8 7 = 2) ∧ c.u16 8 < 1024 ∧ c.u16 0x0A < 1024 ∧ c.u16 0x0C < 1024; let old (c : Cmd) (s : State) : GenObj := s.gen (c.u8 0); let shape (c : Cmd) (s : State) : Bool := genReshaped (old c s) (genSetting c (old c s).gen); let fits (c : Cmd) (s : State) : Prop := serialIn (c.u8 2) (c.u16 4) = true ∧ (c.u8 1 = 255 ∨ s.rate (c.u8 1) = some (fmtRate (c.u16 4))); let shown (c : Cmd) (s : State) : GenObj := tget {} s.basin.genPend (c.u8 0); let new (c : Cmd) (s : State) : Prop := genSetting c (old c s).gen ≠ old c s; Meets setGeneratorInfo (fun c s => fields c ∧ fits c s ∧ new c s ∧ shape c s = false ∧ shown c s ≠ {}) (sent setGeneratorInfo 3 128 [(0, 1, 15), (2, 1, 2), (4, 2, 0x1500), (7, 1, 1), (3, 1, 1)]) ((sail.onObj fun o => { o with gens := [(15, { plane := some 0, width := 2, format := 0x1500, form := 1 })] }).onBasin fun b => { b with genPend := [(15, { plane := some 0 })] })) ∧
    (let fields (c : Cmd) : Prop := c.u8 0 < 16 ∧ (c.u8 1 < 8 ∨ c.u8 1 = 255) ∧ c.u8 2 ∈ [1, 2, 4, 8] ∧ c.u8 3 ≤ 5 ∧ c.u8 6 ≤ 1 ∧ (c.u8 7 = 1 ∨ c.u8 7 = 2) ∧ c.u16 8 < 1024 ∧ c.u16 0x0A < 1024 ∧ c.u16 0x0C < 1024; let old (c : Cmd) (s : State) : GenObj := s.gen (c.u8 0); let shape (c : Cmd) (s : State) : Bool := genReshaped (old c s) (genSetting c (old c s).gen); let fits (c : Cmd) (s : State) : Prop := serialIn (c.u8 2) (c.u16 4) = true ∧ (c.u8 1 = 255 ∨ s.rate (c.u8 1) = some (fmtRate (c.u16 4))); let shown (c : Cmd) (s : State) : GenObj := tget {} s.basin.genPend (c.u8 0); let new (c : Cmd) (s : State) : Prop := genSetting c (old c s).gen ≠ old c s; Meets setGeneratorInfo (fun c s => fields c ∧ fits c s ∧ new c s ∧ shape c s = false ∧ shown c s = {}) (sent setGeneratorInfo 3 128 [(0, 1, 15), (2, 1, 2), (4, 2, 0x1500), (7, 1, 1), (3, 1, 1)]) (sail.onObj fun o => { o with gens := [(15, { plane := some 0, width := 2, format := 0x1500, form := 1 })] })) := by
  refine ⟨?_, ?_, ?_, ?_, ?_, ?_, ?_, ?_, ?_, ?_, ?_, ?_⟩
  · first | decide +kernel | (dsimp only [Meets, accepts, dockTakes, hdmCanonical, replyFits]; decide +kernel) | rfl
  · first | decide +kernel | (dsimp only [Meets, accepts, dockTakes, hdmCanonical, replyFits]; decide +kernel) | rfl
  · first | decide +kernel | (dsimp only [Meets, accepts, dockTakes, hdmCanonical, replyFits]; decide +kernel) | rfl
  · first | decide +kernel | (dsimp only [Meets, accepts, dockTakes, hdmCanonical, replyFits]; decide +kernel) | rfl
  · first | decide +kernel | (dsimp only [Meets, accepts, dockTakes, hdmCanonical, replyFits]; decide +kernel) | rfl
  · first | decide +kernel | (dsimp only [Meets, accepts, dockTakes, hdmCanonical, replyFits]; decide +kernel) | rfl
  · exact ⟨by unfold accepts; decide +kernel, by decide +kernel, 1, by decide +kernel⟩
  · first | decide +kernel | (dsimp only [Meets, accepts, dockTakes, hdmCanonical, replyFits]; decide +kernel) | rfl
  · first | decide +kernel | (dsimp only [Meets, accepts, dockTakes, hdmCanonical, replyFits]; decide +kernel) | rfl
  · first | decide +kernel | (dsimp only [Meets, accepts, dockTakes, hdmCanonical, replyFits]; decide +kernel) | rfl
  · first | decide +kernel | (dsimp only [Meets, accepts, dockTakes, hdmCanonical, replyFits]; decide +kernel) | rfl
  · first | decide +kernel | (dsimp only [Meets, accepts, dockTakes, hdmCanonical, replyFits]; decide +kernel) | rfl

/-- The hypotheses of BasinCommandsComplete are met, clause by clause (part 2). -/
theorem witness_BasinCommandsComplete_2 :
    (let fields (c : Cmd) : Prop := c.u8 0 < 16 ∧ (c.u8 1 < 8 ∨ c.u8 1 = 255) ∧ c.u8 2 ∈ [1, 2, 4, 8] ∧ c.u8 3 ≤ 5 ∧ c.u8 6 ≤ 1 ∧ (c.u8 7 = 1 ∨ c.u8 7 = 2) ∧ c.u16 8 < 1024 ∧ c.u16 0x0A < 1024 ∧ c.u16 0x0C < 1024; let old (c : Cmd) (s : State) : GenObj := s.gen (c.u8 0); let fits (c : Cmd) (s : State) : Prop := serialIn (c.u8 2) (c.u16 4) = true ∧ (c.u8 1 = 255 ∨ s.rate (c.u8 1) = some (fmtRate (c.u16 4))); let new (c : Cmd) (s : State) : Prop := genSetting c (old c s).gen ≠ old c s; Meets setGeneratorInfo (fun c s => fields c ∧ fits c s ∧ ¬new c s) (sent setGeneratorInfo 3 128 [(0, 1, 15), (2, 1, 2), (4, 2, 0x1500), (7, 1, 1)]) (sail.onObj fun o => { o with gens := [(15, { plane := some 0, width := 2, format := 0x1500, form := 1 })] })) ∧
    (let fields (c : Cmd) : Prop := c.u8 0 < 16 ∧ (c.u8 1 < 8 ∨ c.u8 1 = 255) ∧ c.u8 2 ∈ [1, 2, 4, 8] ∧ c.u8 3 ≤ 5 ∧ c.u8 6 ≤ 1 ∧ (c.u8 7 = 1 ∨ c.u8 7 = 2) ∧ c.u16 8 < 1024 ∧ c.u16 0x0A < 1024 ∧ c.u16 0x0C < 1024; let old (c : Cmd) (s : State) : GenObj := s.gen (c.u8 0); let shape (c : Cmd) (s : State) : Bool := genReshaped (old c s) (genSetting c (old c s).gen); let fits (c : Cmd) (s : State) : Prop := serialIn (c.u8 2) (c.u16 4) = true ∧ (c.u8 1 = 255 ∨ s.rate (c.u8 1) = some (fmtRate (c.u16 4))); Meets setGeneratorInfo (fun c s => fields c ∧ fits c s ∧ shape c s = true ∧ genUsed s (c.u8 0) = true) (sent setGeneratorInfo 3 128 [(0, 1, 15), (1, 1, 255), (2, 1, 2), (4, 2, 0x1500), (7, 1, 1)]) ((sail.onObj fun o => { o with gens := [(15, { plane := some 0, width := 2, format := 0x1500, form := 1 })] }).onRoute 0 fun r => { r with source := some 0x2178 })) ∧
    (let fields (c : Cmd) : Prop := c.u8 0 < 16 ∧ (c.u8 1 < 8 ∨ c.u8 1 = 255) ∧ c.u8 2 ∈ [1, 2, 4, 8] ∧ c.u8 3 ≤ 5 ∧ c.u8 6 ≤ 1 ∧ (c.u8 7 = 1 ∨ c.u8 7 = 2) ∧ c.u16 8 < 1024 ∧ c.u16 0x0A < 1024 ∧ c.u16 0x0C < 1024; Meets setGeneratorInfo (fun c s => fields c ∧ c.u8 1 < 8 ∧ s.rate (c.u8 1) = none) (sent setGeneratorInfo 3 128 [(0, 1, 15), (2, 1, 2), (4, 2, 0x1500), (7, 1, 1)]) up) ∧
    (let fields (c : Cmd) : Prop := c.u8 0 < 16 ∧ (c.u8 1 < 8 ∨ c.u8 1 = 255) ∧ c.u8 2 ∈ [1, 2, 4, 8] ∧ c.u8 3 ≤ 5 ∧ c.u8 6 ≤ 1 ∧ (c.u8 7 = 1 ∨ c.u8 7 = 2) ∧ c.u16 8 < 1024 ∧ c.u16 0x0A < 1024 ∧ c.u16 0x0C < 1024; let fits (c : Cmd) (s : State) : Prop := serialIn (c.u8 2) (c.u16 4) = true ∧ (c.u8 1 = 255 ∨ s.rate (c.u8 1) = some (fmtRate (c.u16 4))); Meets setGeneratorInfo (fun c s => fields c ∧ (c.u8 1 = 255 ∨ (s.rate (c.u8 1)).isSome = true) ∧ ¬fits c s) (sent setGeneratorInfo 3 128 [(0, 1, 15), (2, 1, 2), (4, 2, 0x1600), (7, 1, 1)]) sail) ∧
    ((fun (s : State) (d : Nat) (_src : Nat) (_fl : Nat) (_session : Nat) => (s.route d).locked = true) (sail.onRoute 0 fun r => { r with locked := true }) 0 0 0 7) ∧
    ((fun (s : State) (d : Nat) (_src : Nat) (_fl : Nat) (session : Nat) => (s.routeRt d).protect ≠ 0 ∧ (s.routeRt d).protect ≠ session) (sail.onRouteRt 0 fun r => { r with protect := 8 }) 0 0 0 7) ∧
    ((fun (c : Cmd) (s : State) (_d : Nat) => tableOk ({} : RouteObj) s.obj.routes = true ∧ c.u8 4 = 2) (sent lockDestinationInfo 3 8 [(4, 1, 2)]) sail 0) ∧
    ((fun (c : Cmd) (s : State) (d : Nat) => tableOk ({} : RouteRt) s.basin.routes = true ∧ c.u8 4 = 2 ∧ ((s.route d).locked = false ∨ (s.routeRt d).protect ≠ 0)) (sent lockDestinationInfo 3 8 [(4, 1, 2)]) sail 0) ∧
    ((fun (c : Cmd) (s : State) (_d : Nat) => tableOk ({} : RouteObj) s.obj.routes = true ∧ tableOk ({} : RouteRt) s.basin.routes = true ∧ c.u8 4 = 1) (sent lockDestinationInfo 3 8 [(4, 1, 1)]) sail 0) ∧
    ((fun (c : Cmd) (s : State) (_d : Nat) => tableOk ({} : RouteObj) s.obj.routes = true ∧ tableOk ({} : RouteRt) s.basin.routes = true ∧ c.u8 4 = 0) (sent lockDestinationInfo 3 8 []) (sail.onRoute 0 fun r => { r with locked := true }) 0) := by
  refine ⟨?_, ?_, ?_, ?_, ?_, ?_, ?_, ?_, ?_, ?_⟩ <;>
    (first | decide +kernel | (dsimp only [Meets, accepts, dockTakes, hdmCanonical, replyFits]; decide +kernel) | rfl)

/-- The hypotheses of TakesCommitAndExecute are met, clause by clause. -/
theorem witness_TakesCommitAndExecute :
    ((fun (p : Nat) (s : State) => s.serving = true ∧ commitDue s p = true) 0 sail) ∧
    ((fun (d : Nat) (_e : Entry) (s : State) => tableOk ({} : RouteObj) s.obj.routes = true ∧ destLive s d = true) 0 {} sail) ∧
    ((fun (d : Nat) (_e : Entry) (s : State) k => tableOk ({} : RouteObj) s.obj.routes = true ∧ destLive s d = true ∧ k ≠ d) 0 { frame := 1, source := some 0 } sail 1) := by
  refine ⟨?_, ?_, ?_⟩ <;>
    (first | decide +kernel | (dsimp only [Meets, accepts, dockTakes, hdmCanonical, replyFits]; decide +kernel) | rfl)

/-- The hypotheses of WharfAndDestinationSettings are met, clause by clause (part 1). -/
theorem witness_WharfAndDestinationSettings_1 :
    (let set (c : Cmd) (s : State) : FsyncObj := fsyncSetting c (s.fsync (c.u16 0)).gen; let plane (c : Cmd) (s : State) : Nat := if c.u8 3 = 255 then (s.stream (c.u16 0)).plane else c.u8 3; let fields (c : Cmd) : Prop := c.u16 0 < 8192 ∧ c.u8 2 ≤ 1 ∧ (c.u8 3 < 8 ∨ c.u8 3 = 255) ∧ c.u8 4 ≤ 60 ∧ c.u8 5 ≤ 1 ∧ c.u8 6 < 16 ∧ (c.u32 8 ≤ 600000 ∨ c.u32 8 = 0xFFFFFFFF); let stands (c : Cmd) (s : State) : Prop := (s.stream (c.u16 0)).st = .defined ∨ (s.stream (c.u16 0)).st = .live; let timed (c : Cmd) (s : State) : Prop := (s.rate (plane c s)).isSome = true ∧ s.rate (plane c s) = s.rate (s.stream (c.u16 0)).plane; let free (c : Cmd) (s : State) : Prop := plane c s = readPlane s (c.u16 0) ∨ (berthDests s (c.u16 0)).isEmpty = true; let good (c : Cmd) (s : State) : Prop := fields c ∧ stands c s ∧ (s.stream (c.u16 0)).form ≠ 3 ∧ timed c s ∧ free c s; Meets setFrameSyncInfo (fun c s => good c s ∧ c.u8 2 = 1 ∧ (fitBerth (c.u16 0) (set c s) s).isSome = true) (sent setFrameSyncInfo 3 128 [(2, 1, 1), (3, 1, 255), (8, 4, 0xFFFFFFFF)]) sail) ∧
    (let set (c : Cmd) (s : State) : FsyncObj := fsyncSetting c (s.fsync (c.u16 0)).gen; let plane (c : Cmd) (s : State) : Nat := if c.u8 3 = 255 then (s.stream (c.u16 0)).plane else c.u8 3; let fields (c : Cmd) : Prop := c.u16 0 < 8192 ∧ c.u8 2 ≤ 1 ∧ (c.u8 3 < 8 ∨ c.u8 3 = 255) ∧ c.u8 4 ≤ 60 ∧ c.u8 5 ≤ 1 ∧ c.u8 6 < 16 ∧ (c.u32 8 ≤ 600000 ∨ c.u32 8 = 0xFFFFFFFF); let stands (c : Cmd) (s : State) : Prop := (s.stream (c.u16 0)).st = .defined ∨ (s.stream (c.u16 0)).st = .live; let timed (c : Cmd) (s : State) : Prop := (s.rate (plane c s)).isSome = true ∧ s.rate (plane c s) = s.rate (s.stream (c.u16 0)).plane; let free (c : Cmd) (s : State) : Prop := plane c s = readPlane s (c.u16 0) ∨ (berthDests s (c.u16 0)).isEmpty = true; let good (c : Cmd) (s : State) : Prop := fields c ∧ stands c s ∧ (s.stream (c.u16 0)).form ≠ 3 ∧ timed c s ∧ free c s; Meets setFrameSyncInfo (fun c s => good c s ∧ c.u8 2 = 1 ∧ fitBerth (c.u16 0) (set c s) s = none) (sent setFrameSyncInfo 3 128 [(2, 1, 1), (3, 1, 0), (4, 1, 60)]) (sail.onWharf fun w => { w with berths := [(64, { die := 0, pages := 100000000, slots := 4 }), (65, { die := 1, pages := 100000000, slots := 4 })] })) ∧
    (let plane (c : Cmd) (s : State) : Nat := if c.u8 3 = 255 then (s.stream (c.u16 0)).plane else c.u8 3; let fields (c : Cmd) : Prop := c.u16 0 < 8192 ∧ c.u8 2 ≤ 1 ∧ (c.u8 3 < 8 ∨ c.u8 3 = 255) ∧ c.u8 4 ≤ 60 ∧ c.u8 5 ≤ 1 ∧ c.u8 6 < 16 ∧ (c.u32 8 ≤ 600000 ∨ c.u32 8 = 0xFFFFFFFF); let stands (c : Cmd) (s : State) : Prop := (s.stream (c.u16 0)).st = .defined ∨ (s.stream (c.u16 0)).st = .live; let timed (c : Cmd) (s : State) : Prop := (s.rate (plane c s)).isSome = true ∧ s.rate (plane c s) = s.rate (s.stream (c.u16 0)).plane; let free (c : Cmd) (s : State) : Prop := plane c s = readPlane s (c.u16 0) ∨ (berthDests s (c.u16 0)).isEmpty = true; let good (c : Cmd) (s : State) : Prop := fields c ∧ stands c s ∧ (s.stream (c.u16 0)).form ≠ 3 ∧ timed c s ∧ free c s; Meets setFrameSyncInfo (fun c s => good c s ∧ c.u8 2 = 0 ∧ s.obj.trims.syncAll = false ∧ berthed s (c.u16 0) = true ∧ (berthDests s (c.u16 0)).isEmpty = true) (sent setFrameSyncInfo 3 128 []) (sail.onWharf fun w => { w with berths := [(0, { pages := 1, slots := 4 })] })) ∧
    (let plane (c : Cmd) (s : State) : Nat := if c.u8 3 = 255 then (s.stream (c.u16 0)).plane else c.u8 3; let fields (c : Cmd) : Prop := c.u16 0 < 8192 ∧ c.u8 2 ≤ 1 ∧ (c.u8 3 < 8 ∨ c.u8 3 = 255) ∧ c.u8 4 ≤ 60 ∧ c.u8 5 ≤ 1 ∧ c.u8 6 < 16 ∧ (c.u32 8 ≤ 600000 ∨ c.u32 8 = 0xFFFFFFFF); let stands (c : Cmd) (s : State) : Prop := (s.stream (c.u16 0)).st = .defined ∨ (s.stream (c.u16 0)).st = .live; let timed (c : Cmd) (s : State) : Prop := (s.rate (plane c s)).isSome = true ∧ s.rate (plane c s) = s.rate (s.stream (c.u16 0)).plane; let free (c : Cmd) (s : State) : Prop := plane c s = readPlane s (c.u16 0) ∨ (berthDests s (c.u16 0)).isEmpty = true; let good (c : Cmd) (s : State) : Prop := fields c ∧ stands c s ∧ (s.stream (c.u16 0)).form ≠ 3 ∧ timed c s ∧ free c s; Meets setFrameSyncInfo (fun c s => good c s ∧ c.u8 2 = 0 ∧ s.obj.trims.syncAll = false ∧ berthed s (c.u16 0) = true ∧ (berthDests s (c.u16 0)).isEmpty = false) (sent setFrameSyncInfo 3 128 []) (((sail.onWharf fun w => { w with berths := [(0, { pages := 1, slots := 4 })] }).onRoute 0 fun r => { r with source := some 0 }).onRouteRt 0 fun r => { r with via := true })) ∧
    (let plane (c : Cmd) (s : State) : Nat := if c.u8 3 = 255 then (s.stream (c.u16 0)).plane else c.u8 3; let fields (c : Cmd) : Prop := c.u16 0 < 8192 ∧ c.u8 2 ≤ 1 ∧ (c.u8 3 < 8 ∨ c.u8 3 = 255) ∧ c.u8 4 ≤ 60 ∧ c.u8 5 ≤ 1 ∧ c.u8 6 < 16 ∧ (c.u32 8 ≤ 600000 ∨ c.u32 8 = 0xFFFFFFFF); let stands (c : Cmd) (s : State) : Prop := (s.stream (c.u16 0)).st = .defined ∨ (s.stream (c.u16 0)).st = .live; let timed (c : Cmd) (s : State) : Prop := (s.rate (plane c s)).isSome = true ∧ s.rate (plane c s) = s.rate (s.stream (c.u16 0)).plane; let free (c : Cmd) (s : State) : Prop := plane c s = readPlane s (c.u16 0) ∨ (berthDests s (c.u16 0)).isEmpty = true; let good (c : Cmd) (s : State) : Prop := fields c ∧ stands c s ∧ (s.stream (c.u16 0)).form ≠ 3 ∧ timed c s ∧ free c s; Meets setFrameSyncInfo (fun c s => good c s ∧ c.u8 2 = 0 ∧ s.obj.trims.syncAll = false ∧ berthed s (c.u16 0) = false) (sent setFrameSyncInfo 3 128 []) sail) ∧
    (let fields (c : Cmd) : Prop := c.u16 0 < 8192 ∧ c.u8 2 ≤ 1 ∧ (c.u8 3 < 8 ∨ c.u8 3 = 255) ∧ c.u8 4 ≤ 60 ∧ c.u8 5 ≤ 1 ∧ c.u8 6 < 16 ∧ (c.u32 8 ≤ 600000 ∨ c.u32 8 = 0xFFFFFFFF); let stands (c : Cmd) (s : State) : Prop := (s.stream (c.u16 0)).st = .defined ∨ (s.stream (c.u16 0)).st = .live; Meets setFrameSyncInfo (fun c s => fields c ∧ ¬stands c s) (sent setFrameSyncInfo 3 128 []) up) ∧
    (let fields (c : Cmd) : Prop := c.u16 0 < 8192 ∧ c.u8 2 ≤ 1 ∧ (c.u8 3 < 8 ∨ c.u8 3 = 255) ∧ c.u8 4 ≤ 60 ∧ c.u8 5 ≤ 1 ∧ c.u8 6 < 16 ∧ (c.u32 8 ≤ 600000 ∨ c.u32 8 = 0xFFFFFFFF); let stands (c : Cmd) (s : State) : Prop := (s.stream (c.u16 0)).st = .defined ∨ (s.stream (c.u16 0)).st = .live; Meets setFrameSyncInfo (fun c s => fields c ∧ stands c s ∧ (s.stream (c.u16 0)).form = 3) (sent setFrameSyncInfo 3 128 [(3, 1, 255)]) (sail.onObj fun o => { o with streams := [(0, { st := .live, width := 1, form := 3, format := 0xFFFF }), (8192, { st := .live, width := 1, form := 3, format := 0xFFFF })] })) ∧
    (let plane (c : Cmd) (s : State) : Nat := if c.u8 3 = 255 then (s.stream (c.u16 0)).plane else c.u8 3; let fields (c : Cmd) : Prop := c.u16 0 < 8192 ∧ c.u8 2 ≤ 1 ∧ (c.u8 3 < 8 ∨ c.u8 3 = 255) ∧ c.u8 4 ≤ 60 ∧ c.u8 5 ≤ 1 ∧ c.u8 6 < 16 ∧ (c.u32 8 ≤ 600000 ∨ c.u32 8 = 0xFFFFFFFF); let stands (c : Cmd) (s : State) : Prop := (s.stream (c.u16 0)).st = .defined ∨ (s.stream (c.u16 0)).st = .live; Meets setFrameSyncInfo (fun c s => fields c ∧ stands c s ∧ (s.stream (c.u16 0)).form ≠ 3 ∧ (s.rate (plane c s)).isSome = true ∧ s.rate (plane c s) ≠ s.rate (s.stream (c.u16 0)).plane) (sent setFrameSyncInfo 3 128 [(3, 1, 1)]) (sail.onObj fun o => { o with planes := [(0, { rate := some 5 }), (1, { rate := some 7 })] })) ∧
    (let plane (c : Cmd) (s : State) : Nat := if c.u8 3 = 255 then (s.stream (c.u16 0)).plane else c.u8 3; let fields (c : Cmd) : Prop := c.u16 0 < 8192 ∧ c.u8 2 ≤ 1 ∧ (c.u8 3 < 8 ∨ c.u8 3 = 255) ∧ c.u8 4 ≤ 60 ∧ c.u8 5 ≤ 1 ∧ c.u8 6 < 16 ∧ (c.u32 8 ≤ 600000 ∨ c.u32 8 = 0xFFFFFFFF); let stands (c : Cmd) (s : State) : Prop := (s.stream (c.u16 0)).st = .defined ∨ (s.stream (c.u16 0)).st = .live; let timed (c : Cmd) (s : State) : Prop := (s.rate (plane c s)).isSome = true ∧ s.rate (plane c s) = s.rate (s.stream (c.u16 0)).plane; let free (c : Cmd) (s : State) : Prop := plane c s = readPlane s (c.u16 0) ∨ (berthDests s (c.u16 0)).isEmpty = true; Meets setFrameSyncInfo (fun c s => fields c ∧ stands c s ∧ (s.stream (c.u16 0)).form ≠ 3 ∧ (s.rate (plane c s) = none ∨ (timed c s ∧ ((c.u8 2 = 0 ∧ s.obj.trims.syncAll = true) ∨ ¬free c s)))) (sent setFrameSyncInfo 3 128 [(3, 1, 1)]) sail) ∧
    (let plane (c : Cmd) (s : State) : Nat := if c.u8 3 = 255 then (s.stream (c.u16 0)).plane else c.u8 3; let fields (c : Cmd) : Prop := c.u16 0 < 8192 ∧ c.u8 2 ≤ 1 ∧ (c.u8 3 < 8 ∨ c.u8 3 = 255) ∧ c.u8 4 ≤ 60 ∧ c.u8 5 ≤ 1 ∧ c.u8 6 < 16 ∧ (c.u32 8 ≤ 600000 ∨ c.u32 8 = 0xFFFFFFFF); let stands (c : Cmd) (s : State) : Prop := (s.stream (c.u16 0)).st = .defined ∨ (s.stream (c.u16 0)).st = .live; let timed (c : Cmd) (s : State) : Prop := (s.rate (plane c s)).isSome = true ∧ s.rate (plane c s) = s.rate (s.stream (c.u16 0)).plane; let free (c : Cmd) (s : State) : Prop := plane c s = readPlane s (c.u16 0) ∨ (berthDests s (c.u16 0)).isEmpty = true; Meets setFrameSyncInfo (fun c s => fields c ∧ stands c s ∧ (s.stream (c.u16 0)).form ≠ 3 ∧ (s.rate (plane c s) = none ∨ (timed c s ∧ ((c.u8 2 = 0 ∧ s.obj.trims.syncAll = true) ∨ ¬free c s)))) (sent setFrameSyncInfo 3 128 [(3, 1, 255)]) (sail.onObj fun o => { o with trims := { syncAll := true } })) ∧
    (let policy (c : Cmd) (gen : Nat) : WharfPolObj := { scrubHours := if c.u16 0 = 0 then 24 else c.u16 0, hardRepair := decide (c.u8 2 = 1), gen := gen }; let policyOk (c : Cmd) : Prop := (c.u16 0 = 0 ∨ (12 ≤ c.u16 0 ∧ c.u16 0 ≤ 168)) ∧ c.u8 2 ≤ 1; Meets setWharfPolicyInfo (fun c s => policyOk c ∧ policy c s.obj.wharfPol.gen ≠ s.obj.wharfPol) (sent setWharfPolicyInfo 3 128 []) up) ∧
    (let policy (c : Cmd) (gen : Nat) : WharfPolObj := { scrubHours := if c.u16 0 = 0 then 24 else c.u16 0, hardRepair := decide (c.u8 2 = 1), gen := gen }; let policyOk (c : Cmd) : Prop := (c.u16 0 = 0 ∨ (12 ≤ c.u16 0 ∧ c.u16 0 ≤ 168)) ∧ c.u8 2 ≤ 1; Meets setWharfPolicyInfo (fun c s => policyOk c ∧ policy c s.obj.wharfPol.gen = s.obj.wharfPol) (sent setWharfPolicyInfo 3 128 [(0, 2, 24), (2, 1, 1)]) sail) := by
  refine ⟨?_, ?_, ?_, ?_, ?_, ?_, ?_, ?_, ?_, ?_, ?_, ?_⟩ <;>
    (first | decide +kernel | (dsimp only [Meets, accepts, dockTakes, hdmCanonical, replyFits]; decide +kernel) | rfl)

/-- The hypotheses of WharfAndDestinationSettings are met, clause by clause (part 2). -/
theorem witness_WharfAndDestinationSettings_2 :
    (let policyOk (c : Cmd) : Prop := (c.u16 0 = 0 ∨ (12 ≤ c.u16 0 ∧ c.u16 0 ≤ 168)) ∧ c.u8 2 ≤ 1; Meets setWharfPolicyInfo (fun c _ => ¬policyOk c) (sent setWharfPolicyInfo 3 128 [(0, 2, 11)]) sail) ∧
    (let policyOk (c : Cmd) : Prop := (c.u16 0 = 0 ∨ (12 ≤ c.u16 0 ∧ c.u16 0 ≤ 168)) ∧ c.u8 2 ≤ 1; Meets setWharfPolicyInfo (fun c _ => ¬policyOk c) (sent setWharfPolicyInfo 3 128 [(0, 2, 169)]) sail) ∧
    (let policyOk (c : Cmd) : Prop := (c.u16 0 = 0 ∨ (12 ≤ c.u16 0 ∧ c.u16 0 ≤ 168)) ∧ c.u8 2 ≤ 1; Meets setWharfPolicyInfo (fun c _ => ¬policyOk c) (sent setWharfPolicyInfo 3 128 [(2, 1, 2)]) sail) ∧
    (let form (c : Cmd) (gen : Nat) : DestFormObj := { level := c.u8 2, tcMode := c.u8 3, pidMode := c.u8 4, dropFrame := bitOf (c.u8 5) 0, tcOffset := c.i32 8, gen := gen }; let out (c : Cmd) (s : State) : StreamObj := s.stream (streamKey 1 (c.u16 0)); let fields (c : Cmd) : Prop := c.u16 0 < 8192 ∧ c.u8 2 ≤ 1 ∧ c.u8 3 ≤ 2 ∧ c.u8 4 ≤ 1 ∧ -86400 ≤ c.i32 8 ∧ c.i32 8 ≤ 86400; let stands (c : Cmd) (s : State) : Prop := (out c s).st = .defined ∨ (out c s).st = .live; let suits (c : Cmd) (x : StreamObj) : Prop := (c.u8 2 = 0 ∨ (x.form = 1 ∧ x.width = 2)) ∧ (c.u8 3 ≠ 2 ∨ (x.form ≠ 3 ∧ fmtRate x.format < 10)) ∧ (x.form ≠ 3 ∨ (c.u8 3 = 0 ∧ c.u8 4 = 0)); Meets setDestinationFormInfo (fun c s => fields c ∧ stands c s ∧ suits c (out c s) ∧ form c (s.destForm (c.u16 0)).gen ≠ s.destForm (c.u16 0)) (sent setDestinationFormInfo 3 128 [(3, 1, 1), (8, 4, 86400)]) (sail.onWharf fun w => { w with berths := [(0, { pages := 1, slots := 4 })] })) ∧
    (let form (c : Cmd) (gen : Nat) : DestFormObj := { level := c.u8 2, tcMode := c.u8 3, pidMode := c.u8 4, dropFrame := bitOf (c.u8 5) 0, tcOffset := c.i32 8, gen := gen }; let out (c : Cmd) (s : State) : StreamObj := s.stream (streamKey 1 (c.u16 0)); let fields (c : Cmd) : Prop := c.u16 0 < 8192 ∧ c.u8 2 ≤ 1 ∧ c.u8 3 ≤ 2 ∧ c.u8 4 ≤ 1 ∧ -86400 ≤ c.i32 8 ∧ c.i32 8 ≤ 86400; let stands (c : Cmd) (s : State) : Prop := (out c s).st = .defined ∨ (out c s).st = .live; let suits (c : Cmd) (x : StreamObj) : Prop := (c.u8 2 = 0 ∨ (x.form = 1 ∧ x.width = 2)) ∧ (c.u8 3 ≠ 2 ∨ (x.form ≠ 3 ∧ fmtRate x.format < 10)) ∧ (x.form ≠ 3 ∨ (c.u8 3 = 0 ∧ c.u8 4 = 0)); Meets setDestinationFormInfo (fun c s => fields c ∧ stands c s ∧ suits c (out c s) ∧ form c (s.destForm (c.u16 0)).gen = s.destForm (c.u16 0)) (sent setDestinationFormInfo 3 128 []) sail) ∧
    (let out (c : Cmd) (s : State) : StreamObj := s.stream (streamKey 1 (c.u16 0)); let fields (c : Cmd) : Prop := c.u16 0 < 8192 ∧ c.u8 2 ≤ 1 ∧ c.u8 3 ≤ 2 ∧ c.u8 4 ≤ 1 ∧ -86400 ≤ c.i32 8 ∧ c.i32 8 ≤ 86400; let stands (c : Cmd) (s : State) : Prop := (out c s).st = .defined ∨ (out c s).st = .live; Meets setDestinationFormInfo (fun c s => fields c ∧ ¬stands c s) (sent setDestinationFormInfo 3 128 []) up) ∧
    ((fun (c : Cmd) (s : State) => let out (c : Cmd) (s : State) : StreamObj := s.stream (streamKey 1 (c.u16 0)); let fields (c : Cmd) : Prop := c.u16 0 < 8192 ∧ c.u8 2 ≤ 1 ∧ c.u8 3 ≤ 2 ∧ c.u8 4 ≤ 1 ∧ -86400 ≤ c.i32 8 ∧ c.i32 8 ≤ 86400; let stands (c : Cmd) (s : State) : Prop := (out c s).st = .defined ∨ (out c s).st = .live; let suits (c : Cmd) (x : StreamObj) : Prop := (c.u8 2 = 0 ∨ (x.form = 1 ∧ x.width = 2)) ∧ (c.u8 3 ≠ 2 ∨ (x.form ≠ 3 ∧ fmtRate x.format < 10)) ∧ (x.form ≠ 3 ∨ (c.u8 3 = 0 ∧ c.u8 4 = 0)); fields c ∧ stands c s ∧ (¬suits c (out c s))) (sent setDestinationFormInfo 3 16 [(3, 1, 2)]) (sail.onObj fun o => { o with streams := [(0, { st := .live, width := 1, form := 3, format := 0xFFFF }), (8192, { st := .live, width := 1, form := 3, format := 0xFFFF })] })) ∧
    ((fun x => let anc (c : Cmd) (gen : Nat) : AncObj := { mode := c.u8 2, did := c.u8 3, sdid := c.u8 4, line := c.u16 6, gen := gen }; let ancFields (c : Cmd) : Prop := 0xF000 ≤ c.u16 0 ∧ c.u8 2 ≤ 2 ∧ audioDid (c.u8 3) = false ∧ (c.u8 3 ≠ 0x41 ∨ c.u8 4 ≠ 1) ∧ (c.u16 6 = 0 ∨ (9 ≤ c.u16 6 ∧ c.u16 6 ≤ 1125)); Meets setAncDestinationInfo (fun c s => ancFields c ∧ (c.u16 6 = 0 ∨ verticalAnc x (c.u16 6) = true) ∧ ancDefined s (c.u16 0) = some x ∧ anc c (s.anc (c.u16 0)).gen ≠ s.anc (c.u16 0)) (sent setAncDestinationInfo 3 128 [(0, 2, 0xF000), (2, 1, 1)]) sail) (sail.stream 8192)) ∧
    ((fun x => let anc (c : Cmd) (gen : Nat) : AncObj := { mode := c.u8 2, did := c.u8 3, sdid := c.u8 4, line := c.u16 6, gen := gen }; let ancFields (c : Cmd) : Prop := 0xF000 ≤ c.u16 0 ∧ c.u8 2 ≤ 2 ∧ audioDid (c.u8 3) = false ∧ (c.u8 3 ≠ 0x41 ∨ c.u8 4 ≠ 1) ∧ (c.u16 6 = 0 ∨ (9 ≤ c.u16 6 ∧ c.u16 6 ≤ 1125)); Meets setAncDestinationInfo (fun c s => ancFields c ∧ (c.u16 6 = 0 ∨ verticalAnc x (c.u16 6) = true) ∧ ancDefined s (c.u16 0) = some x ∧ anc c (s.anc (c.u16 0)).gen ≠ s.anc (c.u16 0)) (sent setAncDestinationInfo 3 128 [(0, 2, 0xF000), (2, 1, 2), (6, 2, 41)]) sail) (sail.stream 8192)) ∧
    ((fun x => let anc (c : Cmd) (gen : Nat) : AncObj := { mode := c.u8 2, did := c.u8 3, sdid := c.u8 4, line := c.u16 6, gen := gen }; let ancFields (c : Cmd) : Prop := 0xF000 ≤ c.u16 0 ∧ c.u8 2 ≤ 2 ∧ audioDid (c.u8 3) = false ∧ (c.u8 3 ≠ 0x41 ∨ c.u8 4 ≠ 1) ∧ (c.u16 6 = 0 ∨ (9 ≤ c.u16 6 ∧ c.u16 6 ≤ 1125)); Meets setAncDestinationInfo (fun c s => ancFields c ∧ (c.u16 6 = 0 ∨ verticalAnc x (c.u16 6) = true) ∧ ancDefined s (c.u16 0) = some x ∧ anc c (s.anc (c.u16 0)).gen = s.anc (c.u16 0)) (sent setAncDestinationInfo 3 128 [(0, 2, 0xF000)]) sail) (sail.stream 8192)) ∧
    ((fun x => let ancFields (c : Cmd) : Prop := 0xF000 ≤ c.u16 0 ∧ c.u8 2 ≤ 2 ∧ audioDid (c.u8 3) = false ∧ (c.u8 3 ≠ 0x41 ∨ c.u8 4 ≠ 1) ∧ (c.u16 6 = 0 ∨ (9 ≤ c.u16 6 ∧ c.u16 6 ≤ 1125)); Meets setAncDestinationInfo (fun c s => ancFields c ∧ c.u16 6 ≠ 0 ∧ verticalAnc x (c.u16 6) = false ∧ ancDefined s (c.u16 0) = some x) (sent setAncDestinationInfo 3 128 [(0, 2, 0xF000), (6, 2, 42)]) sail) (sail.stream 8192)) ∧
    (let ancFields (c : Cmd) : Prop := 0xF000 ≤ c.u16 0 ∧ c.u8 2 ≤ 2 ∧ audioDid (c.u8 3) = false ∧ (c.u8 3 ≠ 0x41 ∨ c.u8 4 ≠ 1) ∧ (c.u16 6 = 0 ∨ (9 ≤ c.u16 6 ∧ c.u16 6 ≤ 1125)); Meets setAncDestinationInfo (fun c s => ancFields c ∧ ancDefined s (c.u16 0) = none) (sent setAncDestinationInfo 3 128 [(0, 2, 0xF000), (2, 1, 1)]) up) := by
  refine ⟨?_, ?_, ?_, ?_, ?_, ?_, ?_, ?_, ?_, ?_, ?_, ?_⟩ <;>
    (first | decide +kernel | (dsimp only [Meets, accepts, dockTakes, hdmCanonical, replyFits]; decide +kernel) | rfl)

/-- The hypotheses of WharfAndDestinationSettings are met, clause by clause (part 3). -/
theorem witness_WharfAndDestinationSettings_3 :
    (Meets setAncDestinationInfo (fun c _ => 0xF000 ≤ c.u16 0 ∧ c.u8 2 ≤ 2 ∧ (audioDid (c.u8 3) = true ∨ (c.u8 3 = 0x41 ∧ c.u8 4 = 1))) (sent setAncDestinationInfo 3 128 [(0, 2, 0xF000), (3, 1, 0xE7)]) sail) ∧
    (Meets setAncDestinationInfo (fun c _ => 0xF000 ≤ c.u16 0 ∧ c.u8 2 ≤ 2 ∧ (audioDid (c.u8 3) = true ∨ (c.u8 3 = 0x41 ∧ c.u8 4 = 1))) (sent setAncDestinationInfo 3 128 [(0, 2, 0xF000), (3, 1, 0x41), (4, 1, 1)]) sail) := by
  refine ⟨?_, ?_⟩ <;>
    (first | decide +kernel | (dsimp only [Meets, accepts, dockTakes, hdmCanonical, replyFits]; decide +kernel) | rfl)

/-- The hypotheses of MeasurementAndAudioSettings are met, clause by clause (part 1). -/
theorem witness_MeasurementAndAudioSettings_1 :
    (let det (c : Cmd) (gen : Nat) : DetObj := { enable := c.u8 2 % 16, tcSource := c.u8 3, blackLevel := c.u16 4, blackArea := c.u16 6, blackFrames := c.u16 8, freezeFrames := c.u16 0x0A, freezeLimit := c.u32 0x0C, silenceDb := c.i16 0x10, silenceMs := c.u32 0x14, gen := gen }; let fields (c : Cmd) : Prop := c.u16 0 < 8192 ∧ c.u8 3 ≤ 1 ∧ c.u16 4 ≤ 1023 ∧ 1 ≤ c.u16 6 ∧ c.u16 6 ≤ 1000 ∧ 1 ≤ c.u16 8 ∧ 1 ≤ c.u16 0x0A ∧ c.u32 0x0C ≤ 2 ^ 31 ∧ -12000 ≤ c.i16 0x10 ∧ c.i16 0x10 ≤ 0 ∧ 100 ≤ c.u32 0x14 ∧ c.u32 0x14 ≤ 3600000; let stands (c : Cmd) (s : State) : Prop := (s.stream (c.u16 0)).st = .defined ∨ (s.stream (c.u16 0)).st = .live; let suits (c : Cmd) (s : State) : Prop := (s.stream (c.u16 0)).form ≠ 3 ∨ c.u8 2 % 8 = 0; Meets setDetectorsInfo (fun c s => fields c ∧ stands c s ∧ suits c s ∧ det c (s.det (c.u16 0)).gen ≠ s.det (c.u16 0)) (sent setDetectorsInfo 3 128 [(6, 2, 1), (8, 2, 1), (10, 2, 1), (20, 4, 100)]) sail) ∧
    (let det (c : Cmd) (gen : Nat) : DetObj := { enable := c.u8 2 % 16, tcSource := c.u8 3, blackLevel := c.u16 4, blackArea := c.u16 6, blackFrames := c.u16 8, freezeFrames := c.u16 0x0A, freezeLimit := c.u32 0x0C, silenceDb := c.i16 0x10, silenceMs := c.u32 0x14, gen := gen }; let fields (c : Cmd) : Prop := c.u16 0 < 8192 ∧ c.u8 3 ≤ 1 ∧ c.u16 4 ≤ 1023 ∧ 1 ≤ c.u16 6 ∧ c.u16 6 ≤ 1000 ∧ 1 ≤ c.u16 8 ∧ 1 ≤ c.u16 0x0A ∧ c.u32 0x0C ≤ 2 ^ 31 ∧ -12000 ≤ c.i16 0x10 ∧ c.i16 0x10 ≤ 0 ∧ 100 ≤ c.u32 0x14 ∧ c.u32 0x14 ≤ 3600000; let stands (c : Cmd) (s : State) : Prop := (s.stream (c.u16 0)).st = .defined ∨ (s.stream (c.u16 0)).st = .live; let suits (c : Cmd) (s : State) : Prop := (s.stream (c.u16 0)).form ≠ 3 ∨ c.u8 2 % 8 = 0; Meets setDetectorsInfo (fun c s => fields c ∧ stands c s ∧ suits c s ∧ det c (s.det (c.u16 0)).gen = s.det (c.u16 0)) (sent setDetectorsInfo 3 128 [(6, 2, 1), (8, 2, 1), (10, 2, 1), (20, 4, 100)]) (sail.onObj fun o => { o with detectors := [(0, { enable := 0, blackLevel := 0, blackArea := 1, blackFrames := 1, freezeFrames := 1, freezeLimit := 0, silenceDb := 0, silenceMs := 100, gen := 1 })] })) ∧
    (let fields (c : Cmd) : Prop := c.u16 0 < 8192 ∧ c.u8 3 ≤ 1 ∧ c.u16 4 ≤ 1023 ∧ 1 ≤ c.u16 6 ∧ c.u16 6 ≤ 1000 ∧ 1 ≤ c.u16 8 ∧ 1 ≤ c.u16 0x0A ∧ c.u32 0x0C ≤ 2 ^ 31 ∧ -12000 ≤ c.i16 0x10 ∧ c.i16 0x10 ≤ 0 ∧ 100 ≤ c.u32 0x14 ∧ c.u32 0x14 ≤ 3600000; let stands (c : Cmd) (s : State) : Prop := (s.stream (c.u16 0)).st = .defined ∨ (s.stream (c.u16 0)).st = .live; Meets setDetectorsInfo (fun c s => fields c ∧ ¬stands c s) (sent setDetectorsInfo 3 128 [(6, 2, 1), (8, 2, 1), (10, 2, 1), (20, 4, 100)]) up) ∧
    (let fields (c : Cmd) : Prop := c.u16 0 < 8192 ∧ c.u8 3 ≤ 1 ∧ c.u16 4 ≤ 1023 ∧ 1 ≤ c.u16 6 ∧ c.u16 6 ≤ 1000 ∧ 1 ≤ c.u16 8 ∧ 1 ≤ c.u16 0x0A ∧ c.u32 0x0C ≤ 2 ^ 31 ∧ -12000 ≤ c.i16 0x10 ∧ c.i16 0x10 ≤ 0 ∧ 100 ≤ c.u32 0x14 ∧ c.u32 0x14 ≤ 3600000; let stands (c : Cmd) (s : State) : Prop := (s.stream (c.u16 0)).st = .defined ∨ (s.stream (c.u16 0)).st = .live; let suits (c : Cmd) (s : State) : Prop := (s.stream (c.u16 0)).form ≠ 3 ∨ c.u8 2 % 8 = 0; Meets setDetectorsInfo (fun c s => fields c ∧ stands c s ∧ ¬suits c s) (sent setDetectorsInfo 3 128 [(2, 1, 1), (6, 2, 1), (8, 2, 1), (10, 2, 1), (20, 4, 100)]) (sail.onObj fun o => { o with streams := [(0, { st := .live, width := 1, form := 3, format := 0xFFFF }), (8192, { st := .live, width := 1, form := 3, format := 0xFFFF })] })) ∧
    (let group (c : Cmd) (gen : Nat) : LoudObj := { channels := (List.range (c.u8 2)).map fun i => c.u16 (8 + 2 * i), weights := (List.range (c.u8 2)).map fun i => c.u8 (0x18 + i), gen := gen }; let old (c : Cmd) (s : State) : LoudObj := tget {} s.obj.loud (c.u16 0); let listed (c : Cmd) : Prop := c.u16 0 < 2048 ∧ c.u8 2 ≤ 8 ∧ badChannel [] 0 (group c 0).channels = none ∧ (∀ w ∈ (group c 0).weights, w ≤ 2); let held (c : Cmd) (s : State) : Prop := c.u8 2 = 0 ∨ (rangeStream s 0 ((group c 0).channels.headD 0) 1).isSome = true; Meets setLoudnessGroupInfo (fun c s => listed c ∧ held c s ∧ group c (old c s).gen ≠ old c s) (sent setLoudnessGroupInfo 3 128 [(2, 1, 2), (8, 2, 0x4000), (10, 2, 0x4001)]) sail) ∧
    (let group (c : Cmd) (gen : Nat) : LoudObj := { channels := (List.range (c.u8 2)).map fun i => c.u16 (8 + 2 * i), weights := (List.range (c.u8 2)).map fun i => c.u8 (0x18 + i), gen := gen }; let old (c : Cmd) (s : State) : LoudObj := tget {} s.obj.loud (c.u16 0); let listed (c : Cmd) : Prop := c.u16 0 < 2048 ∧ c.u8 2 ≤ 8 ∧ badChannel [] 0 (group c 0).channels = none ∧ (∀ w ∈ (group c 0).weights, w ≤ 2); let held (c : Cmd) (s : State) : Prop := c.u8 2 = 0 ∨ (rangeStream s 0 ((group c 0).channels.headD 0) 1).isSome = true; Meets setLoudnessGroupInfo (fun c s => listed c ∧ held c s ∧ group c (old c s).gen = old c s ∧ bitOf (c.u8 3) 0 = true) (sent setLoudnessGroupInfo 3 128 [(3, 1, 1)]) sail) ∧
    (let group (c : Cmd) (gen : Nat) : LoudObj := { channels := (List.range (c.u8 2)).map fun i => c.u16 (8 + 2 * i), weights := (List.range (c.u8 2)).map fun i => c.u8 (0x18 + i), gen := gen }; let old (c : Cmd) (s : State) : LoudObj := tget {} s.obj.loud (c.u16 0); let listed (c : Cmd) : Prop := c.u16 0 < 2048 ∧ c.u8 2 ≤ 8 ∧ badChannel [] 0 (group c 0).channels = none ∧ (∀ w ∈ (group c 0).weights, w ≤ 2); let held (c : Cmd) (s : State) : Prop := c.u8 2 = 0 ∨ (rangeStream s 0 ((group c 0).channels.headD 0) 1).isSome = true; Meets setLoudnessGroupInfo (fun c s => listed c ∧ held c s ∧ group c (old c s).gen = old c s ∧ bitOf (c.u8 3) 0 = false) (sent setLoudnessGroupInfo 3 128 []) up) ∧
    (let group (c : Cmd) (gen : Nat) : LoudObj := { channels := (List.range (c.u8 2)).map fun i => c.u16 (8 + 2 * i), weights := (List.range (c.u8 2)).map fun i => c.u8 (0x18 + i), gen := gen }; let listed (c : Cmd) : Prop := c.u16 0 < 2048 ∧ c.u8 2 ≤ 8 ∧ badChannel [] 0 (group c 0).channels = none ∧ (∀ w ∈ (group c 0).weights, w ≤ 2); let held (c : Cmd) (s : State) : Prop := c.u8 2 = 0 ∨ (rangeStream s 0 ((group c 0).channels.headD 0) 1).isSome = true; Meets setLoudnessGroupInfo (fun c s => listed c ∧ ¬held c s) (sent setLoudnessGroupInfo 3 128 [(2, 1, 2), (8, 2, 0x4000), (10, 2, 0x4001)]) up) ∧
    ((fun k x => let range (c : Cmd) (n : Nat) (s : State) (k : Nat) (x : StreamObj) : Prop := destChannels (c.u16 0) n = true ∧ 1 ≤ n ∧ n ≤ 64 ∧ (c.checkGen = true → n = 1) ∧ rangeStream s 1 (c.u16 0) n = some (k, x) ∧ cutsPair s x (c.u16 0) = false; Meets setChannelGainInfo (fun c s => range c (c.u8 2) s k x ∧ gainOk (c.i32 4) = true) (sent setChannelGainInfo 3 128 [(0, 2, 0x2000), (2, 1, 4), (4, 4, 2147483648)]) sail) 8192 (sail.stream 8192)) ∧
    ((fun k x => let range (c : Cmd) (n : Nat) (s : State) (k : Nat) (x : StreamObj) : Prop := destChannels (c.u16 0) n = true ∧ 1 ≤ n ∧ n ≤ 64 ∧ (c.checkGen = true → n = 1) ∧ rangeStream s 1 (c.u16 0) n = some (k, x) ∧ cutsPair s x (c.u16 0) = false; Meets setChannelGainInfo (fun c s => range c (c.u8 2) s k x ∧ gainOk (c.i32 4) = true) (sent setChannelGainInfo 3 128 [(0, 2, 0x2003), (2, 1, 1), (4, 4, 1572864)]) sail) 8192 (sail.stream 8192)) ∧
    ((fun k x => let range (c : Cmd) (n : Nat) (s : State) (k : Nat) (x : StreamObj) : Prop := destChannels (c.u16 0) n = true ∧ 1 ≤ n ∧ n ≤ 64 ∧ (c.checkGen = true → n = 1) ∧ rangeStream s 1 (c.u16 0) n = some (k, x) ∧ cutsPair s x (c.u16 0) = false; Meets setChannelGainInfo (fun c s => range c (c.u8 2) s k x ∧ gainOk (c.i32 4) = false) (sent setChannelGainInfo 3 128 [(0, 2, 0x2000), (2, 1, 4), (4, 4, 0x00180001)]) sail) 8192 (sail.stream 8192)) ∧
    ((fun k x => let range (c : Cmd) (n : Nat) (s : State) (k : Nat) (x : StreamObj) : Prop := destChannels (c.u16 0) n = true ∧ 1 ≤ n ∧ n ≤ 64 ∧ (c.checkGen = true → n = 1) ∧ rangeStream s 1 (c.u16 0) n = some (k, x) ∧ cutsPair s x (c.u16 0) = false; Meets setChannelDelayInfo (fun c s => range c (c.u8 2) s k x ∧ c.u32 4 ≤ 12000) (sent setChannelDelayInfo 3 128 [(0, 2, 0x2000), (2, 1, 4), (4, 4, 12000)]) sail) 8192 (sail.stream 8192)) := by
  refine ⟨?_, ?_, ?_, ?_, ?_, ?_, ?_, ?_, ?_, ?_, ?_, ?_⟩ <;>
    (first | decide +kernel | (dsimp only [Meets, accepts, dockTakes, hdmCanonical, replyFits]; decide +kernel) | rfl)

/-- The hypotheses of MeasurementAndAudioSettings are met, clause by clause (part 2). -/
theorem witness_MeasurementAndAudioSettings_2 :
    ((fun k x => let range (c : Cmd) (n : Nat) (s : State) (k : Nat) (x : StreamObj) : Prop := destChannels (c.u16 0) n = true ∧ 1 ≤ n ∧ n ≤ 64 ∧ (c.checkGen = true → n = 1) ∧ rangeStream s 1 (c.u16 0) n = some (k, x) ∧ cutsPair s x (c.u16 0) = false; let named (c : Cmd) (s : State) (x : StreamObj) : List Nat := (span (c.u16 0) (c.u8 2)).flatMap (settled s x); Meets setChannelDelayInfo (fun c s => range c (c.u8 2) s k x ∧ 12000 < c.u32 4 ∧ c.u32 4 ≤ 96000 ∧ longFits s (named c s x) = true) (sent setChannelDelayInfo 3 128 [(0, 2, 0x2000), (2, 1, 4), (4, 4, 12001)]) sail) 8192 (sail.stream 8192)) ∧
    ((fun k x => let range (c : Cmd) (n : Nat) (s : State) (k : Nat) (x : StreamObj) : Prop := destChannels (c.u16 0) n = true ∧ 1 ≤ n ∧ n ≤ 64 ∧ (c.checkGen = true → n = 1) ∧ rangeStream s 1 (c.u16 0) n = some (k, x) ∧ cutsPair s x (c.u16 0) = false; let named (c : Cmd) (s : State) (x : StreamObj) : List Nat := (span (c.u16 0) (c.u8 2)).flatMap (settled s x); Meets setChannelDelayInfo (fun c s => range c (c.u8 2) s k x ∧ 12000 < c.u32 4 ∧ c.u32 4 ≤ 96000 ∧ longFits s (named c s x) = true) (sent setChannelDelayInfo 3 128 [(0, 2, 0x2000), (2, 1, 4), (4, 4, 96000)]) sail) 8192 (sail.stream 8192)) ∧
    ((fun k x => let range (c : Cmd) (n : Nat) (s : State) (k : Nat) (x : StreamObj) : Prop := destChannels (c.u16 0) n = true ∧ 1 ≤ n ∧ n ≤ 64 ∧ (c.checkGen = true → n = 1) ∧ rangeStream s 1 (c.u16 0) n = some (k, x) ∧ cutsPair s x (c.u16 0) = false; let named (c : Cmd) (s : State) (x : StreamObj) : List Nat := (span (c.u16 0) (c.u8 2)).flatMap (settled s x); Meets setChannelDelayInfo (fun c s => range c (c.u8 2) s k x ∧ 12000 < c.u32 4 ∧ c.u32 4 ≤ 96000 ∧ longFits s (named c s x) = false) (sent setChannelDelayInfo 3 128 [(0, 2, 0x2000), (2, 1, 4), (4, 4, 12001)]) (sail.onWharf fun w => { w with longChans := List.range 8192 })) 8192 (sail.stream 8192)) ∧
    ((fun k x => let range (c : Cmd) (n : Nat) (s : State) (k : Nat) (x : StreamObj) : Prop := destChannels (c.u16 0) n = true ∧ 1 ≤ n ∧ n ≤ 64 ∧ (c.checkGen = true → n = 1) ∧ rangeStream s 1 (c.u16 0) n = some (k, x) ∧ cutsPair s x (c.u16 0) = false; Meets setChannelDelayInfo (fun c s => range c (c.u8 2) s k x ∧ 96000 < c.u32 4) (sent setChannelDelayInfo 3 128 [(0, 2, 0x2000), (2, 1, 4), (4, 4, 96001)]) sail) 8192 (sail.stream 8192)) ∧
    ((fun k x => let range (c : Cmd) (n : Nat) (s : State) (k : Nat) (x : StreamObj) : Prop := destChannels (c.u16 0) n = true ∧ 1 ≤ n ∧ n ≤ 64 ∧ (c.checkGen = true → n = 1) ∧ rangeStream s 1 (c.u16 0) n = some (k, x) ∧ cutsPair s x (c.u16 0) = false; let mixFields (c : Cmd) : Prop := 1 ≤ c.u8 2 ∧ c.u8 2 ≤ 3 ∧ gainOk (c.i32 8) = true; let adds (c : Cmd) : Prop := bitOf (c.u8 3) 0 = true ∧ sourceKindOk (c.u16 0) (c.u16 4) = true; Meets setMixInfo (fun c s => range c 1 s k x ∧ mixFields c ∧ adds c ∧ sourceLive s (c.u16 0) (c.u16 4) = true ∧ linkRule s (c.u16 0) (c.u16 4) = true) (sent setMixInfo 3 128 [(0, 2, 0x2000), (2, 1, 3), (3, 1, 1), (4, 2, 0x4003)]) sail) 8192 (sail.stream 8192)) ∧
    ((fun k x => let range (c : Cmd) (n : Nat) (s : State) (k : Nat) (x : StreamObj) : Prop := destChannels (c.u16 0) n = true ∧ 1 ≤ n ∧ n ≤ 64 ∧ (c.checkGen = true → n = 1) ∧ rangeStream s 1 (c.u16 0) n = some (k, x) ∧ cutsPair s x (c.u16 0) = false; let mixFields (c : Cmd) : Prop := 1 ≤ c.u8 2 ∧ c.u8 2 ≤ 3 ∧ gainOk (c.i32 8) = true; Meets setMixInfo (fun c s => range c 1 s k x ∧ mixFields c ∧ bitOf (c.u8 3) 0 = false) (sent setMixInfo 3 128 [(0, 2, 0x2000), (2, 1, 1)]) sail) 8192 (sail.stream 8192)) ∧
    ((fun k x => let range (c : Cmd) (n : Nat) (s : State) (k : Nat) (x : StreamObj) : Prop := destChannels (c.u16 0) n = true ∧ 1 ≤ n ∧ n ≤ 64 ∧ (c.checkGen = true → n = 1) ∧ rangeStream s 1 (c.u16 0) n = some (k, x) ∧ cutsPair s x (c.u16 0) = false; let mixFields (c : Cmd) : Prop := 1 ≤ c.u8 2 ∧ c.u8 2 ≤ 3 ∧ gainOk (c.i32 8) = true; let adds (c : Cmd) : Prop := bitOf (c.u8 3) 0 = true ∧ sourceKindOk (c.u16 0) (c.u16 4) = true; Meets setMixInfo (fun c s => range c 1 s k x ∧ mixFields c ∧ adds c ∧ sourceLive s (c.u16 0) (c.u16 4) = false) (sent setMixInfo 3 128 [(0, 2, 0x2000), (2, 1, 3), (3, 1, 1), (4, 2, 0x4004)]) sail) 8192 (sail.stream 8192)) ∧
    ((fun k x => let range (c : Cmd) (n : Nat) (s : State) (k : Nat) (x : StreamObj) : Prop := destChannels (c.u16 0) n = true ∧ 1 ≤ n ∧ n ≤ 64 ∧ (c.checkGen = true → n = 1) ∧ rangeStream s 1 (c.u16 0) n = some (k, x) ∧ cutsPair s x (c.u16 0) = false; let mixFields (c : Cmd) : Prop := 1 ≤ c.u8 2 ∧ c.u8 2 ≤ 3 ∧ gainOk (c.i32 8) = true; let adds (c : Cmd) : Prop := bitOf (c.u8 3) 0 = true ∧ sourceKindOk (c.u16 0) (c.u16 4) = true; Meets setMixInfo (fun c s => range c 1 s k x ∧ mixFields c ∧ adds c ∧ sourceLive s (c.u16 0) (c.u16 4) = true ∧ linkRule s (c.u16 0) (c.u16 4) = false) (sent setMixInfo 3 128 [(0, 2, 0x2000), (2, 1, 3), (3, 1, 1), (4, 2, 0x4001)]) (sail.onObj fun o => { o with chans := [(0x2000, { linked := true }), (0x2001, { linked := true })], srcLinks := [] })) 8192 (sail.stream 8192)) ∧
    ((fun k x => let range (c : Cmd) (n : Nat) (s : State) (k : Nat) (x : StreamObj) : Prop := destChannels (c.u16 0) n = true ∧ 1 ≤ n ∧ n ≤ 64 ∧ (c.checkGen = true → n = 1) ∧ rangeStream s 1 (c.u16 0) n = some (k, x) ∧ cutsPair s x (c.u16 0) = false; let whole (c : Cmd) (x : StreamObj) : Prop := posIn x (c.u16 0) % 2 = 0 ∧ c.u8 2 % 2 = 0; Meets setChannelOptionsInfo (fun c s => optionsDest c s = true ∧ range c (c.u8 2) s k x ∧ (bitOf (c.u8 3) 4 = true → c.u16 4 ≤ 192) ∧ (bitOf (c.u8 3) 2 = true → whole c x ∧ ∀ d ∈ span (c.u16 0) (c.u8 2), (s.chanObj d).linked = bitOf (c.u8 3) 3 ∨ destInUse s d = false)) (sent setChannelOptionsInfo 3 128 [(0, 2, 0x2000), (2, 1, 4), (3, 1, 16), (4, 2, 192)]) sail) 8192 (sail.stream 8192)) ∧
    ((fun k x => let range (c : Cmd) (n : Nat) (s : State) (k : Nat) (x : StreamObj) : Prop := destChannels (c.u16 0) n = true ∧ 1 ≤ n ∧ n ≤ 64 ∧ (c.checkGen = true → n = 1) ∧ rangeStream s 1 (c.u16 0) n = some (k, x) ∧ cutsPair s x (c.u16 0) = false; let whole (c : Cmd) (x : StreamObj) : Prop := posIn x (c.u16 0) % 2 = 0 ∧ c.u8 2 % 2 = 0; Meets setChannelOptionsInfo (fun c s => optionsDest c s = true ∧ range c (c.u8 2) s k x ∧ (bitOf (c.u8 3) 4 = true → c.u16 4 ≤ 192) ∧ (bitOf (c.u8 3) 2 = true → whole c x ∧ ∀ d ∈ span (c.u16 0) (c.u8 2), (s.chanObj d).linked = bitOf (c.u8 3) 3 ∨ destInUse s d = false)) (sent setChannelOptionsInfo 3 128 [(0, 2, 0x2002), (2, 1, 2), (3, 1, 12)]) sail) 8192 (sail.stream 8192)) ∧
    ((fun k x => let range (c : Cmd) (n : Nat) (s : State) (k : Nat) (x : StreamObj) : Prop := destChannels (c.u16 0) n = true ∧ 1 ≤ n ∧ n ≤ 64 ∧ (c.checkGen = true → n = 1) ∧ rangeStream s 1 (c.u16 0) n = some (k, x) ∧ cutsPair s x (c.u16 0) = false; let whole (c : Cmd) (x : StreamObj) : Prop := posIn x (c.u16 0) % 2 = 0 ∧ c.u8 2 % 2 = 0; Meets setChannelOptionsInfo (fun c s => optionsDest c s = true ∧ range c (c.u8 2) s k x ∧ (bitOf (c.u8 3) 4 = true → c.u16 4 ≤ 192) ∧ bitOf (c.u8 3) 2 = true ∧ whole c x ∧ ∃ d ∈ span (c.u16 0) (c.u8 2), (s.chanObj d).linked ≠ bitOf (c.u8 3) 3 ∧ destInUse s d = true) (sent setChannelOptionsInfo 3 128 [(0, 2, 0x2000), (2, 1, 2), (3, 1, 12)]) (sail.onRoute 0x2001 fun r => { r with source := some 0x4000 })) 8192 (sail.stream 8192)) ∧
    ((fun k x => let srcRange (c : Cmd) (s : State) (k : Nat) (x : StreamObj) : Prop := 0x4000 ≤ c.u16 0 ∧ c.u16 0 + c.u8 2 ≤ 0x10000 ∧ 1 ≤ c.u8 2 ∧ c.u8 2 ≤ 64 ∧ (c.checkGen = true → c.u8 2 = 1) ∧ bitOf (c.u8 3) 0 = false ∧ bitOf (c.u8 3) 4 = false ∧ rangeStream s 0 (c.u16 0) (c.u8 2) = some (k, x); let whole (c : Cmd) (x : StreamObj) : Prop := posIn x (c.u16 0) % 2 = 0 ∧ c.u8 2 % 2 = 0; Meets setChannelOptionsInfo (fun c s => optionsDest c s = false ∧ srcRange c s k x ∧ bitOf (c.u8 3) 2 = true ∧ whole c x ∧ ∀ h ∈ span (c.u16 0) (c.u8 2), (tget {} s.obj.srcLinks h : SrcLinkObj).linked = bitOf (c.u8 3) 3 ∨ srcInUse s h = false) (sent setChannelOptionsInfo 3 128 [(0, 2, 0x4000), (2, 1, 4), (3, 1, 12)]) sail) 0 (sail.stream 0)) := by
  refine ⟨?_, ?_, ?_, ?_, ?_, ?_, ?_, ?_, ?_, ?_, ?_, ?_⟩
  · first | decide +kernel | (dsimp only [Meets, accepts, dockTakes, hdmCanonical, replyFits]; decide +kernel) | rfl
  · first | decide +kernel | (dsimp only [Meets, accepts, dockTakes, hdmCanonical, replyFits]; decide +kernel) | rfl
  · first | decide +kernel | (dsimp only [Meets, accepts, dockTakes, hdmCanonical, replyFits]; decide +kernel) | rfl
  · first | decide +kernel | (dsimp only [Meets, accepts, dockTakes, hdmCanonical, replyFits]; decide +kernel) | rfl
  · first | decide +kernel | (dsimp only [Meets, accepts, dockTakes, hdmCanonical, replyFits]; decide +kernel) | rfl
  · first | decide +kernel | (dsimp only [Meets, accepts, dockTakes, hdmCanonical, replyFits]; decide +kernel) | rfl
  · first | decide +kernel | (dsimp only [Meets, accepts, dockTakes, hdmCanonical, replyFits]; decide +kernel) | rfl
  · first | decide +kernel | (dsimp only [Meets, accepts, dockTakes, hdmCanonical, replyFits]; decide +kernel) | rfl
  · first | decide +kernel | (dsimp only [Meets, accepts, dockTakes, hdmCanonical, replyFits]; decide +kernel) | rfl
  · first | decide +kernel | (dsimp only [Meets, accepts, dockTakes, hdmCanonical, replyFits]; decide +kernel) | rfl
  · exact ⟨by unfold accepts; decide +kernel, by decide +kernel, by decide +kernel, by decide +kernel, by decide +kernel, by decide +kernel, 0x2001, by decide +kernel⟩
  · first | decide +kernel | (dsimp only [Meets, accepts, dockTakes, hdmCanonical, replyFits]; decide +kernel) | rfl

/-- The hypotheses of MeasurementAndAudioSettings are met, clause by clause (part 3). -/
theorem witness_MeasurementAndAudioSettings_3 :
    ((fun k x => let srcRange (c : Cmd) (s : State) (k : Nat) (x : StreamObj) : Prop := 0x4000 ≤ c.u16 0 ∧ c.u16 0 + c.u8 2 ≤ 0x10000 ∧ 1 ≤ c.u8 2 ∧ c.u8 2 ≤ 64 ∧ (c.checkGen = true → c.u8 2 = 1) ∧ bitOf (c.u8 3) 0 = false ∧ bitOf (c.u8 3) 4 = false ∧ rangeStream s 0 (c.u16 0) (c.u8 2) = some (k, x); Meets setChannelOptionsInfo (fun c s => optionsDest c s = false ∧ srcRange c s k x ∧ bitOf (c.u8 3) 2 = false) (sent setChannelOptionsInfo 3 128 [(0, 2, 0x4003), (2, 1, 1)]) sail) 0 (sail.stream 0)) := by
  first | decide +kernel | (dsimp only [Meets, accepts, dockTakes, hdmCanonical, replyFits]; decide +kernel) | rfl

/-- The hypotheses of HeadCommandsComplete are met, clause by clause (part 1). -/
theorem witness_HeadCommandsComplete_1 :
    (let mine (c : Cmd) (s : State) : Prop := c.u8 0 < 32 ∧ ownedByOther c s = none; let headFields (c : Cmd) : Prop := (c.u8 1 < 8 ∨ c.u8 1 = 255) ∧ c.u8 2 ≤ 1 ∧ firstBad (matrixRange c 0x10) = none; let inUse (c : Cmd) (s : State) : Prop := replaying s = true ∨ (s.head (c.u8 0)).retired = false; let suits (c : Cmd) (s : State) : Prop := headFormatOk (s.rate (c.u8 1)) (decide (c.u8 2 = 1)) (c.u16 4) = true; Meets setHeadInfo (fun c s => mine c s ∧ headFields c ∧ inUse c s ∧ (c.u8 1 = 255 ∨ ((s.rate (c.u8 1)).isSome = true ∧ suits c s))) (sent setHeadInfo 3 128 [(4, 2, 0x3500)]) (sail.onHeadObj 0 fun x => { x with cfg := headCfg })) ∧
    (let mine (c : Cmd) (s : State) : Prop := c.u8 0 < 32 ∧ ownedByOther c s = none; let headFields (c : Cmd) : Prop := (c.u8 1 < 8 ∨ c.u8 1 = 255) ∧ c.u8 2 ≤ 1 ∧ firstBad (matrixRange c 0x10) = none; let inUse (c : Cmd) (s : State) : Prop := replaying s = true ∨ (s.head (c.u8 0)).retired = false; Meets setHeadInfo (fun c s => mine c s ∧ headFields c ∧ ¬inUse c s) (sent setHeadInfo 3 128 [(1, 1, 255)]) (sail.onHead 0 fun r => { r with retired := true })) ∧
    (let mine (c : Cmd) (s : State) : Prop := c.u8 0 < 32 ∧ ownedByOther c s = none; let headFields (c : Cmd) : Prop := (c.u8 1 < 8 ∨ c.u8 1 = 255) ∧ c.u8 2 ≤ 1 ∧ firstBad (matrixRange c 0x10) = none; let inUse (c : Cmd) (s : State) : Prop := replaying s = true ∨ (s.head (c.u8 0)).retired = false; Meets setHeadInfo (fun c s => mine c s ∧ headFields c ∧ inUse c s ∧ c.u8 1 < 8 ∧ s.rate (c.u8 1) = none) (sent setHeadInfo 3 128 []) up) ∧
    (let mine (c : Cmd) (s : State) : Prop := c.u8 0 < 32 ∧ ownedByOther c s = none; let headFields (c : Cmd) : Prop := (c.u8 1 < 8 ∨ c.u8 1 = 255) ∧ c.u8 2 ≤ 1 ∧ firstBad (matrixRange c 0x10) = none; let inUse (c : Cmd) (s : State) : Prop := replaying s = true ∨ (s.head (c.u8 0)).retired = false; let suits (c : Cmd) (s : State) : Prop := headFormatOk (s.rate (c.u8 1)) (decide (c.u8 2 = 1)) (c.u16 4) = true; Meets setHeadInfo (fun c s => mine c s ∧ headFields c ∧ inUse c s ∧ c.u8 1 < 8 ∧ (s.rate (c.u8 1)).isSome = true ∧ ¬suits c s) (sent setHeadInfo 3 128 []) sail) ∧
    (let mine (c : Cmd) (s : State) : Prop := c.u8 0 < 32 ∧ ownedByOther c s = none; let pend (c : Cmd) (s : State) : HeadCfg := pendingCfg s (c.u8 0); Meets setLayerInfo (fun c s => mine c s ∧ c.u8 1 < 128 ∧ c.u8 2 ≤ 2 ∧ (c.u8 2 = 2 → c.u8 3 < 4) ∧ c.u16 6 ≤ 1023 ∧ (c.u8 2 = 0 ∨ rectOk (pend c s) (c.bytes 0 64) = true) ∧ c.u8 0x18 < 16 ∧ c.u8 0x19 < 4 ∧ c.u8 0x1A ≤ 2 ∧ (c.u8 2 = 1 → firstBad (matrixRange c 0x20) = none)) (sent setLayerInfo 3 128 []) up) ∧
    (let mine (c : Cmd) (s : State) : Prop := c.u8 0 < 32 ∧ ownedByOther c s = none; Meets setCoefficientsInfo (fun c s => mine c s ∧ c.u8 1 < 16 ∧ c.u8 2 ≤ 1 ∧ firstBad ((List.range 64).flatMap (phaseChecks c)) = none) { ch := 3, session := 7, length := 1032, payload := List.replicate 8 0#8 ++ (List.replicate 64 (0#8 :: 1#8 :: List.replicate 14 0#8)).flatten } sail) ∧
    (let mine (c : Cmd) (s : State) : Prop := c.u8 0 < 32 ∧ ownedByOther c s = none; let lutVals (c : Cmd) : List Nat := (List.range (c.u16 6)).map fun i => c.u16 (0x10 + 2 * i); Meets setLutInfo (fun c s => mine c s ∧ c.u8 1 ≤ 4 ∧ 1 ≤ c.u16 6 ∧ c.u16 6 ≤ 2040 ∧ c.u16 4 + c.u16 6 ≤ (if c.u8 1 = 4 then 4097 else 1024) ∧ (c.u8 1 = 4 → ∀ v ∈ lutVals c, v ≤ 1023)) (sent setLutInfo 3 4096 [(4, 2, 1023), (6, 2, 1)]) (sail.onHead 0 fun r => { r with retired := true })) ∧
    ((fun (c : Cmd) (s : State) (o : Nat) (range : List (Bool × Nat)) (_rest : List (Bool × Status × Nat)) (_cfg : HeadCfg) => c.u8 0 < 32 ∧ firstBad range = none ∧ ownedByOther c s = some o) (sent setHeadInfo 3 64 []) (sail.onHead 0 fun r => { r with owner := 8 }) 8 [] [] {}) ∧
    (let mine (c : Cmd) (s : State) : Prop := c.u8 0 < 32 ∧ ownedByOther c s = none; let flips (c : Cmd) : Nat := fieldOf (c.u8 1) 1 4; Meets commitHeadInfo (fun c s => mine c s ∧ bitOf (c.u8 1) 0 = true ∧ flips c = 0) (sent commitHeadInfo 3 128 [(1, 1, 1)]) sail) ∧
    (let mine (c : Cmd) (s : State) : Prop := c.u8 0 < 32 ∧ ownedByOther c s = none; let flips (c : Cmd) : Nat := fieldOf (c.u8 1) 1 4; Meets commitHeadInfo (fun c s => mine c s ∧ bitOf (c.u8 1) 0 = false ∧ (s.head (c.u8 0)).pend = none ∧ flips c = 0) (sent commitHeadInfo 3 128 []) up) ∧
    (let mine (c : Cmd) (s : State) : Prop := c.u8 0 < 32 ∧ ownedByOther c s = none; let flips (c : Cmd) : Nat := fieldOf (c.u8 1) 1 4; let waits (c : Cmd) (s : State) : Bool := ((s.head (c.u8 0)).commit.map HeadCommit.waiting).getD false; let cfg (c : Cmd) (s : State) : HeadCfg := pendingCfg s (c.u8 0); let acts (c : Cmd) (s : State) : Prop := mine c s ∧ bitOf (c.u8 1) 0 = false ∧ ((s.head (c.u8 0)).pend.isSome = true ∨ flips c ≠ 0); Meets commitHeadInfo (fun c s => acts c s ∧ commitFault s (c.u8 0) (cfg c s) = none ∧ (flips c = 0 ∨ waits c s = false) ∧ reshapes (s.headObj (c.u8 0)).cfg (cfg c s) = false) (sent commitHeadInfo 3 128 []) ((sail.onHeadObj 0 fun x => { x with cfg := headCfg }).onHead 0 fun r => { r with pend := some { headCfg with background := 1 }, owner := 7 })) ∧
    (let mine (c : Cmd) (s : State) : Prop := c.u8 0 < 32 ∧ ownedByOther c s = none; let flips (c : Cmd) : Nat := fieldOf (c.u8 1) 1 4; let waits (c : Cmd) (s : State) : Bool := ((s.head (c.u8 0)).commit.map HeadCommit.waiting).getD false; let cfg (c : Cmd) (s : State) : HeadCfg := pendingCfg s (c.u8 0); let acts (c : Cmd) (s : State) : Prop := mine c s ∧ bitOf (c.u8 1) 0 = false ∧ ((s.head (c.u8 0)).pend.isSome = true ∨ flips c ≠ 0); Meets commitHeadInfo (fun c s => acts c s ∧ commitFault s (c.u8 0) (cfg c s) = none ∧ (flips c = 0 ∨ waits c s = false) ∧ reshapes (s.headObj (c.u8 0)).cfg (cfg c s) = true) (sent commitHeadInfo 3 128 []) (sail.onHead 0 fun r => { r with pend := some headCfg, owner := 7 })) := by
  refine ⟨?_, ?_, ?_, ?_, ?_, ?_, ?_, ?_, ?_, ?_, ?_, ?_⟩ <;>
    (first | decide +kernel | (dsimp only [Meets, accepts, dockTakes, hdmCanonical, replyFits]; decide +kernel) | rfl)

/-- The hypotheses of HeadCommandsComplete are met, clause by clause (part 2). -/
theorem witness_HeadCommandsComplete_2 :
    (let mine (c : Cmd) (s : State) : Prop := c.u8 0 < 32 ∧ ownedByOther c s = none; let flips (c : Cmd) : Nat := fieldOf (c.u8 1) 1 4; let waits (c : Cmd) (s : State) : Bool := ((s.head (c.u8 0)).commit.map HeadCommit.waiting).getD false; let cfg (c : Cmd) (s : State) : HeadCfg := pendingCfg s (c.u8 0); let acts (c : Cmd) (s : State) : Prop := mine c s ∧ bitOf (c.u8 1) 0 = false ∧ ((s.head (c.u8 0)).pend.isSome = true ∨ flips c ≠ 0); Meets commitHeadInfo (fun c s => acts c s ∧ commitFault s (c.u8 0) (cfg c s) = none ∧ flips c ≠ 0 ∧ waits c s = true) (sent commitHeadInfo 3 128 [(1, 1, 2)]) ((sail.onHeadObj 0 fun x => { x with cfg := headCfg }).onHead 0 fun r => { r with pend := some { headCfg with background := 1 }, owner := 7, commit := some { flips := 1, waiting := true } })) ∧
    ((fun st d => let mine (c : Cmd) (s : State) : Prop := c.u8 0 < 32 ∧ ownedByOther c s = none; let flips (c : Cmd) : Nat := fieldOf (c.u8 1) 1 4; let cfg (c : Cmd) (s : State) : HeadCfg := pendingCfg s (c.u8 0); let acts (c : Cmd) (s : State) : Prop := mine c s ∧ bitOf (c.u8 1) 0 = false ∧ ((s.head (c.u8 0)).pend.isSome = true ∨ flips c ≠ 0); Meets commitHeadInfo (fun c s => acts c s ∧ commitFault s (c.u8 0) (cfg c s) = some (st, d)) (sent commitHeadInfo 3 128 []) ((sail.onHead 0 fun r => { r with pend := some headCfg, owner := 7 }).onObj fun o => { o with routes := [(0, { source := some 0x2000 })] })) .state 0xFFFF) ∧
    (let flips (c : Cmd) : Nat := fieldOf (c.u8 1) 1 4; Meets commitHeadInfo (fun c _ => c.u8 0 < 32 ∧ bitOf (c.u8 1) 0 = true ∧ flips c ≠ 0) (sent commitHeadInfo 3 128 [(1, 1, 3)]) sail) ∧
    (let cfg (c : Cmd) (s : State) : HeadCfg := (s.headObj (c.u8 0)).cfg; let inside (c : Cmd) (s : State) : Prop := c.u16 8 + c.u16 0x0C ≤ rasterW (cfg c s) ∧ c.u16 0x0A + c.u16 0x0E ≤ rasterH (cfg c s); let named (c : Cmd) : Prop := c.u8 0 < 32 ∧ c.u8 1 < 16; Meets setAssayInfo (fun c s => named c ∧ (c.u8 2 = 0 ∨ (c.u8 2 = 2 ∧ inside c s))) (sent setAssayInfo 3 128 []) up) ∧
    (let cfg (c : Cmd) (s : State) : HeadCfg := (s.headObj (c.u8 0)).cfg; let inside (c : Cmd) (s : State) : Prop := c.u16 8 + c.u16 0x0C ≤ rasterW (cfg c s) ∧ c.u16 0x0A + c.u16 0x0E ≤ rasterH (cfg c s); let named (c : Cmd) : Prop := c.u8 0 < 32 ∧ c.u8 1 < 16; Meets setAssayInfo (fun c s => named c ∧ c.u8 2 = 1 ∧ 1 ≤ c.u16 4 ∧ inside c s) (sent setAssayInfo 3 128 [(0, 1, 31), (1, 1, 15), (2, 1, 1), (4, 2, 1)]) (sail.onHead 0 fun r => { r with retired := true })) ∧
    (let cfg (c : Cmd) (s : State) : HeadCfg := (s.headObj (c.u8 0)).cfg; let inside (c : Cmd) (s : State) : Prop := c.u16 8 + c.u16 0x0C ≤ rasterW (cfg c s) ∧ c.u16 0x0A + c.u16 0x0E ≤ rasterH (cfg c s); let named (c : Cmd) : Prop := c.u8 0 < 32 ∧ c.u8 1 < 16; Meets setAssayInfo (fun c s => named c ∧ (c.u8 2 = 2 ∨ (c.u8 2 = 1 ∧ 1 ≤ c.u16 4)) ∧ ¬inside c s) (sent setAssayInfo 3 128 [(2, 1, 2), (12, 2, 3840), (14, 2, 2160)]) sail) := by
  refine ⟨?_, ?_, ?_, ?_, ?_, ?_⟩ <;>
    (first | decide +kernel | (dsimp only [Meets, accepts, dockTakes, hdmCanonical, replyFits]; decide +kernel) | rfl)

/-- The hypotheses of HallmarkCommandsAuthenticated are met, clause by clause. -/
theorem witness_HallmarkCommandsAuthenticated :
    (let signed (c : Cmd) (n : Nat) (s : State) : Prop := c.u8 0 < 32 ∧ s.mbox.nextJob ≠ 0 ∧ (∃ key, hallKey s = some key ∧ macOf key (c.bytes 0 n) = c.bytes n 48) ∧ s.obj.hallCounter < c.u64 0x10; let region (c : Cmd) (s : State) : HallReg := tget {} (s.head (c.u8 0)).hallPend (c.u8 2); let fits (c : Cmd) (s : State) : Prop := c.u8 2 < 8 ∧ (region c s).enable = true ∧ c.u16 8 * c.u16 0x0A ≤ 2000 ∧ c.u16 4 + c.u16 8 ≤ (region c s).w ∧ c.u16 6 + c.u16 0x0A ≤ (region c s).h; Meets writeHallmarkInfo (fun c s => signed c 0xFD0 s ∧ fits c s) (signedRec writeHallmarkInfo 0xFD0 [(1, 1, 2), (4, 2, 1), (8, 2, 1), (10, 2, 2), (16, 8, 1)]) ((sail.onObj fun o => { o with keys := [(2, { current := some someKey })] }).onHead 0 fun r => { r with hallPend := [(0, { enable := true, w := 2, h := 2 })] })) ∧
    (let signed (c : Cmd) (n : Nat) (s : State) : Prop := c.u8 0 < 32 ∧ s.mbox.nextJob ≠ 0 ∧ (∃ key, hallKey s = some key ∧ macOf key (c.bytes 0 n) = c.bytes n 48) ∧ s.obj.hallCounter < c.u64 0x10; let region (c : Cmd) (s : State) : HallReg := tget {} (s.head (c.u8 0)).hallPend (c.u8 2); Meets writeHallmarkInfo (fun c s => signed c 0xFD0 s ∧ ¬(c.u8 2 < 8 ∧ (region c s).enable = true)) (signedRec writeHallmarkInfo 0xFD0 [(2, 1, 8), (16, 8, 1)]) (sail.onObj fun o => { o with keys := [(2, { current := some someKey })] })) ∧
    (let signed (c : Cmd) (n : Nat) (s : State) : Prop := c.u8 0 < 32 ∧ s.mbox.nextJob ≠ 0 ∧ (∃ key, hallKey s = some key ∧ macOf key (c.bytes 0 n) = c.bytes n 48) ∧ s.obj.hallCounter < c.u64 0x10; Meets setHallmarkRegionInfo (fun c s => signed c 0x20 s ∧ c.u8 1 < 8 ∧ c.u8 2 = 0) (signedRec setHallmarkRegionInfo 0x20 [(1, 1, 7), (16, 8, 1)]) (sail.onObj fun o => { o with keys := [(2, { current := some someKey })] })) ∧
    (let signed (c : Cmd) (n : Nat) (s : State) : Prop := c.u8 0 < 32 ∧ s.mbox.nextJob ≠ 0 ∧ (∃ key, hallKey s = some key ∧ macOf key (c.bytes 0 n) = c.bytes n 48) ∧ s.obj.hallCounter < c.u64 0x10; let place (c : Cmd) : HallReg := { enable := true, x := c.u16 4, y := c.u16 6, w := c.u16 8, h := c.u16 0x0A }; Meets setHallmarkRegionInfo (fun c s => signed c 0x20 s ∧ c.u8 1 < 8 ∧ c.u8 2 = 1 ∧ regionFits (s.headObj (c.u8 0)).cfg (s.head (c.u8 0)).hallPend (c.u8 1) (place c) = true) (signedRec setHallmarkRegionInfo 0x20 [(2, 1, 1), (8, 2, 256), (10, 2, 128), (16, 8, 1)]) (((sail.onObj fun o => { o with keys := [(2, { current := some someKey })] }).onHeadObj 0 fun x => { x with cfg := headCfg }))) ∧
    (let signed (c : Cmd) (n : Nat) (s : State) : Prop := c.u8 0 < 32 ∧ s.mbox.nextJob ≠ 0 ∧ (∃ key, hallKey s = some key ∧ macOf key (c.bytes 0 n) = c.bytes n 48) ∧ s.obj.hallCounter < c.u64 0x10; let place (c : Cmd) : HallReg := { enable := true, x := c.u16 4, y := c.u16 6, w := c.u16 8, h := c.u16 0x0A }; Meets setHallmarkRegionInfo (fun c s => signed c 0x20 s ∧ c.u8 1 < 8 ∧ c.u8 2 = 1 ∧ regionFits (s.headObj (c.u8 0)).cfg (s.head (c.u8 0)).hallPend (c.u8 1) (place c) = false) (signedRec setHallmarkRegionInfo 0x20 [(2, 1, 1), (4, 2, 3839), (8, 2, 2), (10, 2, 2), (16, 8, 1)]) (((sail.onObj fun o => { o with keys := [(2, { current := some someKey })] }).onHeadObj 0 fun x => { x with cfg := headCfg }))) ∧
    ((fun (c : Cmd) (s : State) (key : List Byte) => c.u8 0 < 32 ∧ s.mbox.nextJob ≠ 0 ∧ hallKey s = some key ∧ ∃ p : List Byte, macOf key (({ c with payload := p } : Cmd).bytes 0 0) ≠ ({ c with payload := p } : Cmd).bytes 0 48) (sent setHallmarkRegionInfo 1 80 []) (sail.onObj fun o => { o with keys := [(2, { current := some someKey })] }) someKey) ∧
    ((fun (c : Cmd) (n : Nat) (s : State) (_body : State → Res) (key : List Byte) => c.u8 0 < 32 ∧ s.mbox.nextJob ≠ 0 ∧ hallKey s = some key ∧ macOf key (c.bytes 0 n) = c.bytes n 48 ∧ c.u64 0x10 ≤ s.obj.hallCounter) (signedRec setHallmarkRegionInfo 0x20 [(16, 8, 1)]) 0x20 ((sail.onObj fun o => { o with keys := [(2, { current := some someKey })] }).onObj fun o => { o with hallCounter := 1 }) (fun s => ok s) someKey) ∧
    ((fun (c : Cmd) (_n : Nat) (s : State) (_body : State → Res) => c.u8 0 < 32 ∧ s.mbox.nextJob ≠ 0 ∧ hallKey s = none) (sent setHallmarkRegionInfo 1 80 []) 0x20 sail (fun s => ok s)) := by
  refine ⟨?_, ?_, ?_, ?_, ?_, ?_, ?_, ?_⟩
  · exact ⟨by unfold accepts; decide +kernel, ⟨by decide +kernel, by decide +kernel, ⟨someKey, by decide +kernel, signedRec_mac _ _ _⟩, by decide +kernel⟩, by decide +kernel, by decide +kernel, by decide +kernel, by decide +kernel, by decide +kernel⟩
  · exact ⟨by unfold accepts; decide +kernel, ⟨by decide +kernel, by decide +kernel, ⟨someKey, by decide +kernel, signedRec_mac _ _ _⟩, by decide +kernel⟩, by decide +kernel⟩
  · exact ⟨by unfold accepts; decide +kernel, ⟨by decide +kernel, by decide +kernel, ⟨someKey, by decide +kernel, signedRec_mac _ _ _⟩, by decide +kernel⟩, by decide +kernel, by decide +kernel⟩
  · exact ⟨by unfold accepts; decide +kernel, ⟨by decide +kernel, by decide +kernel, ⟨someKey, by decide +kernel, signedRec_mac _ _ _⟩, by decide +kernel⟩, by decide +kernel, by decide +kernel, by decide +kernel⟩
  · exact ⟨by unfold accepts; decide +kernel, ⟨by decide +kernel, by decide +kernel, ⟨someKey, by decide +kernel, signedRec_mac _ _ _⟩, by decide +kernel⟩, by decide +kernel, by decide +kernel, by decide +kernel⟩
  · exact ⟨by decide +kernel, by decide +kernel, by decide +kernel, mac_differs _ _⟩
  · exact ⟨by decide +kernel, by decide +kernel, by decide +kernel, signedRec_mac _ _ _, by decide +kernel⟩
  · first | decide +kernel | (dsimp only [Meets, accepts, dockTakes, hdmCanonical, replyFits]; decide +kernel) | rfl

/-- The hypotheses of LaneCommandsComplete are met, clause by clause. -/
theorem witness_LaneCommandsComplete :
    (let named (c : Cmd) : Prop := c.u8 0 < 128 ∨ (c.u8 0 = 0xFF ∧ c.checkGen = false); Meets laneControlInfo (fun c _ => named c ∧ c.u8 1 = 0) (sent laneControlInfo 3 128 []) up) ∧
    (let named (c : Cmd) : Prop := c.u8 0 < 128 ∨ (c.u8 0 = 0xFF ∧ c.checkGen = false); let acted (c : Cmd) (s : State) : List Nat := if c.u8 0 = 0xFF ∧ c.u8 1 = 2 then (namedLanes (c.u8 0)).filter fun l => !offOrTest s l else namedLanes (c.u8 0); let forced (c : Cmd) (s : State) : Prop := bitOf (c.u8 2) 0 = true ∨ ∀ l ∈ acted c s, laneInUse s l = false; Meets laneControlInfo (fun c s => named c ∧ (c.u8 1 = 1 ∨ c.u8 1 = 5 ∨ c.u8 1 = 6 ∨ (c.u8 1 = 2 ∧ (c.u8 0 = 0xFF ∨ offOrTest s (c.u8 0) = false))) ∧ forced c s) (sent laneControlInfo 3 128 [(0, 1, 127), (1, 1, 6)]) sail) ∧
    (Meets laneControlInfo (fun c s => c.u8 0 < 128 ∧ c.u8 1 = 2 ∧ offOrTest s (c.u8 0) = true) (sent laneControlInfo 3 128 [(0, 1, 1), (1, 1, 2)]) sail) ∧
    (let named (c : Cmd) : Prop := c.u8 0 < 128 ∨ (c.u8 0 = 0xFF ∧ c.checkGen = false); let acted (c : Cmd) (s : State) : List Nat := if c.u8 0 = 0xFF ∧ c.u8 1 = 2 then (namedLanes (c.u8 0)).filter fun l => !offOrTest s l else namedLanes (c.u8 0); let forced (c : Cmd) (s : State) : Prop := bitOf (c.u8 2) 0 = true ∨ ∀ l ∈ acted c s, laneInUse s l = false; Meets laneControlInfo (fun c s => named c ∧ (c.u8 1 = 1 ∨ c.u8 1 = 5 ∨ c.u8 1 = 6 ∨ (c.u8 1 = 2 ∧ (c.u8 0 = 0xFF ∨ offOrTest s (c.u8 0) = false))) ∧ ¬forced c s) (sent laneControlInfo 3 128 [(1, 1, 1)]) (sail.onLane 1 fun l => { l with rx := .detect })) ∧
    (let named (c : Cmd) : Prop := c.u8 0 < 128 ∨ (c.u8 0 = 0xFF ∧ c.checkGen = false); Meets laneControlInfo (fun c _ => named c ∧ c.u8 1 = 3) (sent laneControlInfo 3 128 [(1, 1, 3)]) up) ∧
    (let named (c : Cmd) : Prop := c.u8 0 < 128 ∨ (c.u8 0 = 0xFF ∧ c.checkGen = false); Meets laneControlInfo (fun c _ => named c ∧ c.u8 1 = 4) (sent laneControlInfo 3 128 [(1, 1, 4)]) sail) ∧
    (let named (c : Cmd) : Prop := c.u8 0 < 128 ∨ (c.u8 0 = 0xFF ∧ c.checkGen = false); Meets laneControlInfo (fun c _ => named c ∧ 6 < c.u8 1) (sent laneControlInfo 3 128 [(0, 1, 127), (1, 1, 7)]) sail) ∧
    (let named (c : Cmd) : Prop := c.u8 0 < 128 ∨ (c.u8 0 = 0xFF ∧ c.checkGen = false); let policy (c : Cmd) : Prop := c.u8 1 ≤ 2 ∧ (c.u16 2 = 0 ∨ (5 ≤ c.u16 2 ∧ c.u16 2 ≤ 100)) ∧ (c.u32 4 = 0 ∨ (1 ≤ c.u32 4 ∧ c.u32 4 ≤ 10000000)) ∧ (c.u16 8 = 0 ∨ (1000 ≤ c.u16 8 ∧ c.u16 8 ≤ 3000)) ∧ (c.u16 0x0A = 0 ∨ (50 ≤ c.u16 0x0A ∧ c.u16 0x0A ≤ 600)); Meets setLanePolicyInfo (fun c _ => named c ∧ policy c) (sent setLanePolicyInfo 3 128 []) up) ∧
    ((fun n => n < 128) 0) := by
  refine ⟨?_, ?_, ?_, ?_, ?_, ?_, ?_, ?_, ?_⟩ <;>
    (first | decide +kernel | (dsimp only [Meets, accepts, dockTakes, hdmCanonical, replyFits]; decide +kernel) | rfl)

/-- The hypotheses of TwinAndRestartCommandsComplete are met, clause by clause. -/
theorem witness_TwinAndRestartCommandsComplete :
    (Meets resyncInfo (fun c s => s.twin.helm = false ∧ tandemDown s = false ∧ (s.twin.st ≠ .inStep ∨ bitOf (c.u8 0) 0 = true)) (sent resyncInfo 3 128 []) ({ up with dev := .readyStandby, twin := { up.twin with helm := false, st := .adrift }, tow := { up.tow with lanes := [(128, { rx := .active })] } })) ∧
    (Meets resyncInfo (fun c s => s.twin.helm = false ∧ tandemDown s = false ∧ s.twin.st = .inStep ∧ bitOf (c.u8 0) 0 = false) (sent resyncInfo 3 128 []) ({ up with dev := .readyStandby, twin := { up.twin with helm := false, st := .inStep }, tow := { up.tow with lanes := [(128, { rx := .active })] } })) ∧
    (Meets resyncInfo (fun _ s => s.twin.helm = true ∨ tandemDown s = true) (sent resyncInfo 3 128 []) up) ∧
    (Meets yieldHelmInfo (fun c s => 1 ≤ c.u16 0 ∧ c.u16 0 ≤ 60000 ∧ s.twin.helm = true ∧ s.twin.st = .paired) (sent yieldHelmInfo 3 128 [(0, 2, 1)]) (up.onTwin fun t => { t with st := .paired })) ∧
    (Meets yieldHelmInfo (fun c s => 1 ≤ c.u16 0 ∧ c.u16 0 ≤ 60000 ∧ (s.twin.helm = false ∨ s.twin.st ≠ .paired)) (sent yieldHelmInfo 3 128 [(0, 2, 1)]) (up.onTwin fun t => { t with st := .alone })) ∧
    (Meets yieldHelmInfo (fun c _ => c.u16 0 = 0 ∨ 60000 < c.u16 0) (sent yieldHelmInfo 3 128 []) up) ∧
    (let busy (s : State) : Prop := s.fw.phase = .checking ∨ s.fw.phase = .writing; Meets restartInfo (fun c s => c.u8 0 ≤ 1 ∧ ¬busy s ∧ (s.twin.helm = false ∨ s.twin.st ≠ .alone ∨ bitOf (c.u8 1) 0 = true)) (sent restartInfo 3 128 []) up) ∧
    (let busy (s : State) : Prop := s.fw.phase = .checking ∨ s.fw.phase = .writing; Meets restartInfo (fun c s => c.u8 0 ≤ 1 ∧ busy s) (sent restartInfo 3 128 [(0, 1, 1)]) (up.onFw fun f => { f with phase := .checking })) ∧
    (let busy (s : State) : Prop := s.fw.phase = .checking ∨ s.fw.phase = .writing; Meets restartInfo (fun c s => c.u8 0 ≤ 1 ∧ ¬busy s ∧ s.twin.helm = true ∧ s.twin.st = .alone ∧ bitOf (c.u8 1) 0 = false) (sent restartInfo 3 128 [(0, 1, 1)]) (up.onTwin fun t => { t with st := .alone })) ∧
    (let checker (c : Cmd) : Prop := injectable (c.u8 0) = true ∧ c.u8 1 ≤ 1 ∧ c.u16 2 < instanceLimit (c.u8 0) ∧ (c.u8 4 = 1 ∨ c.u8 4 = 2) ∧ 1 ≤ c.u16 6 ∧ c.u16 6 ≤ 255 ∧ 1 ≤ c.u32 8 ∧ c.u32 8 ≤ 60000; let allowed (c : Cmd) : Prop := fatalChecker (c.u8 0) (c.u8 4) = false ∨ bitOf (c.u8 5) 0 = true; let armed (c : Cmd) (s : State) : Bool := injectionArmed (c.u8 0) (c.u16 2) (decide (c.u8 1 = 1)) s; Meets injectFaultInfo (fun c s => checker c ∧ allowed c ∧ armed c s = false) (sent injectFaultInfo 3 128 [(0, 1, 1), (4, 1, 2), (6, 2, 255), (8, 4, 60000)]) ({ up with dev := .readyStandby, twin := { up.twin with helm := false, st := .adrift }, tow := { up.tow with lanes := [(128, { rx := .active })] } })) ∧
    (let checker (c : Cmd) : Prop := injectable (c.u8 0) = true ∧ c.u8 1 ≤ 1 ∧ c.u16 2 < instanceLimit (c.u8 0) ∧ (c.u8 4 = 1 ∨ c.u8 4 = 2) ∧ 1 ≤ c.u16 6 ∧ c.u16 6 ≤ 255 ∧ 1 ≤ c.u32 8 ∧ c.u32 8 ≤ 60000; let allowed (c : Cmd) : Prop := fatalChecker (c.u8 0) (c.u8 4) = false ∨ bitOf (c.u8 5) 0 = true; Meets injectFaultInfo (fun c _ => checker c ∧ ¬allowed c) (sent injectFaultInfo 3 128 [(0, 1, 11), (4, 1, 1), (6, 2, 1), (8, 4, 1)]) up) ∧
    (let checker (c : Cmd) : Prop := injectable (c.u8 0) = true ∧ c.u8 1 ≤ 1 ∧ c.u16 2 < instanceLimit (c.u8 0) ∧ (c.u8 4 = 1 ∨ c.u8 4 = 2) ∧ 1 ≤ c.u16 6 ∧ c.u16 6 ≤ 255 ∧ 1 ≤ c.u32 8 ∧ c.u32 8 ≤ 60000; let allowed (c : Cmd) : Prop := fatalChecker (c.u8 0) (c.u8 4) = false ∨ bitOf (c.u8 5) 0 = true; let armed (c : Cmd) (s : State) : Bool := injectionArmed (c.u8 0) (c.u16 2) (decide (c.u8 1 = 1)) s; Meets injectFaultInfo (fun c s => checker c ∧ allowed c ∧ armed c s = true) (sent injectFaultInfo 3 128 [(0, 1, 1), (4, 1, 2), (6, 2, 255), (8, 4, 60000)]) (up.onFaults fun f => { f with injects := [{ kind := 1 }] })) := by
  refine ⟨?_, ?_, ?_, ?_, ?_, ?_, ?_, ?_, ?_, ?_, ?_, ?_⟩ <;>
    (first | decide +kernel | (dsimp only [Meets, accepts, dockTakes, hdmCanonical, replyFits]; decide +kernel) | rfl)

/-- The hypotheses of KeyCommandsAuthenticated are met, clause by clause (part 1). -/
theorem witness_KeyCommandsAuthenticated_1 :
    (∀ key : List Byte, unwrapKey (keyed.keys.bank.getD 0) ((signedRec installKeyInfo 0xC0 [(0, 1, 2), (1, 1, 0), (8, 8, 1)]).u8 0) ((signedRec installKeyInfo 0xC0 [(0, 1, 2), (1, 1, 0), (8, 8, 1)]).bytes 0x10 96) ((signedRec installKeyInfo 0xC0 [(0, 1, 2), (1, 1, 0), (8, 8, 1)]).bytes 0x70 12) ((signedRec installKeyInfo 0xC0 [(0, 1, 2), (1, 1, 0), (8, 8, 1)]).bytes 0 16) ((signedRec installKeyInfo 0xC0 [(0, 1, 2), (1, 1, 0), (8, 8, 1)]).bytes 0x80 48) ((signedRec installKeyInfo 0xC0 [(0, 1, 2), (1, 1, 0), (8, 8, 1)]).bytes 0xB0 16) = some key → kcvOf key = 0 → let signed (c : Cmd) (n : Nat) (s : State) : Prop := (∃ key, (s.keySlot 1).current = some key ∧ macOf key (c.bytes 0 n) = c.bytes n 48) ∧ s.obj.keyCounter < c.u64 8; let given (c : Cmd) (s : State) : Option (List Byte) := unwrapKey (s.keys.bank.getD 0) (c.u8 0) (c.bytes 0x10 96) (c.bytes 0x70 12) (c.bytes 0 16) (c.bytes 0x80 48) (c.bytes 0xB0 16); let kind (c : Cmd) : Prop := c.u8 0 = 1 ∨ c.u8 0 = 2; Meets installKeyInfo (fun c s => kind c ∧ bitOf (c.u8 1) 0 = false ∧ signed c 0xC0 s ∧ given c s = some key ∧ kcvOf key = c.u32 4) (signedRec installKeyInfo 0xC0 [(0, 1, 2), (1, 1, 0), (8, 8, 1)]) keyed) ∧
    (∀ key : List Byte, unwrapKey (up.keys.bank.getD 0) ((signedRec installKeyInfo 0xC0 [(0, 1, 1), (1, 1, 1), (8, 8, 1)]).u8 0) ((signedRec installKeyInfo 0xC0 [(0, 1, 1), (1, 1, 1), (8, 8, 1)]).bytes 0x10 96) ((signedRec installKeyInfo 0xC0 [(0, 1, 1), (1, 1, 1), (8, 8, 1)]).bytes 0x70 12) ((signedRec installKeyInfo 0xC0 [(0, 1, 1), (1, 1, 1), (8, 8, 1)]).bytes 0 16) ((signedRec installKeyInfo 0xC0 [(0, 1, 1), (1, 1, 1), (8, 8, 1)]).bytes 0x80 48) ((signedRec installKeyInfo 0xC0 [(0, 1, 1), (1, 1, 1), (8, 8, 1)]).bytes 0xB0 16) = some key → kcvOf key = 0 → let given (c : Cmd) (s : State) : Option (List Byte) := unwrapKey (s.keys.bank.getD 0) (c.u8 0) (c.bytes 0x10 96) (c.bytes 0x70 12) (c.bytes 0 16) (c.bytes 0x80 48) (c.bytes 0xB0 16); Meets installKeyInfo (fun c s => c.u8 0 = 1 ∧ bitOf (c.u8 1) 0 = true ∧ (s.keySlot 1).current = none ∧ s.obj.keyCounter < c.u64 8 ∧ given c s = some key ∧ kcvOf key = c.u32 4) (signedRec installKeyInfo 0xC0 [(0, 1, 1), (1, 1, 1), (8, 8, 1)]) up) ∧
    ((fun key => let signed (c : Cmd) (n : Nat) (s : State) : Prop := (∃ key, (s.keySlot 1).current = some key ∧ macOf key (c.bytes 0 n) = c.bytes n 48) ∧ s.obj.keyCounter < c.u64 8; let kind (c : Cmd) : Prop := c.u8 0 = 1 ∨ c.u8 0 = 2; Meets swapKeyInfo (fun c s => kind c ∧ signed c 0x10 s ∧ (s.keySlot (c.u8 0)).next = some key ∧ c.u32 4 = (s.keySlot (c.u8 0)).kcvNext ∧ kcvOf key = (s.keySlot (c.u8 0)).kcvNext) (swapRec (kcvOf someKey)) (keyed.onObj fun o => { o with keys := [(1, { current := some someKey }), (2, { next := some someKey, kcvNext := kcvOf someKey })] })) someKey) ∧
    (let signed (c : Cmd) (n : Nat) (s : State) : Prop := (∃ key, (s.keySlot 1).current = some key ∧ macOf key (c.bytes 0 n) = c.bytes n 48) ∧ s.obj.keyCounter < c.u64 8; let kind (c : Cmd) : Prop := c.u8 0 = 1 ∨ c.u8 0 = 2; Meets invalidateKeyInfo (fun c s => kind c ∧ signed c 0x10 s) (signedRec invalidateKeyInfo 0x10 [(0, 1, 2), (8, 8, 1)]) keyed) ∧
    (let signed (c : Cmd) (n : Nat) (s : State) : Prop := (∃ key, (s.keySlot 1).current = some key ∧ macOf key (c.bytes 0 n) = c.bytes n 48) ∧ s.obj.keyCounter < c.u64 8; Meets scuttleInfo (fun c s => c.u32 0 = Config.serial % 2 ^ 32 ∧ signed c 0x10 s) scuttleRec keyed) ∧
    (let signed (c : Cmd) (n : Nat) (s : State) : Prop := (∃ key, (s.keySlot 1).current = some key ∧ macOf key (c.bytes 0 n) = c.bytes n 48) ∧ s.obj.keyCounter < c.u64 8; let given (c : Cmd) (s : State) : Option (List Byte) := unwrapKey (s.keys.bank.getD 0) (c.u8 0) (c.bytes 0x10 96) (c.bytes 0x70 12) (c.bytes 0 16) (c.bytes 0x80 48) (c.bytes 0xB0 16); let kind (c : Cmd) : Prop := c.u8 0 = 1 ∨ c.u8 0 = 2; given (signedRec installKeyInfo 0xC0 [(0, 1, 2), (1, 1, 0), (8, 8, 1)]) keyed = none → Meets installKeyInfo (fun c s => kind c ∧ bitOf (c.u8 1) 0 = false ∧ signed c 0xC0 s ∧ given c s = none) (signedRec installKeyInfo 0xC0 [(0, 1, 2), (1, 1, 0), (8, 8, 1)]) keyed) ∧
    (let signed (c : Cmd) (n : Nat) (s : State) : Prop := (∃ key, (s.keySlot 1).current = some key ∧ macOf key (c.bytes 0 n) = c.bytes n 48) ∧ s.obj.keyCounter < c.u64 8; let given (c : Cmd) (s : State) : Option (List Byte) := unwrapKey (s.keys.bank.getD 0) (c.u8 0) (c.bytes 0x10 96) (c.bytes 0x70 12) (c.bytes 0 16) (c.bytes 0x80 48) (c.bytes 0xB0 16); let kind (c : Cmd) : Prop := c.u8 0 = 1 ∨ c.u8 0 = 2; ∀ key : List Byte, given (signedRec installKeyInfo 0xC0 [(0, 1, 2), (1, 1, 0), (8, 8, 1)]) keyed = some key → kcvOf key ≠ 0 → Meets installKeyInfo (fun c s => kind c ∧ bitOf (c.u8 1) 0 = false ∧ signed c 0xC0 s ∧ given c s = some key ∧ kcvOf key ≠ c.u32 4) (signedRec installKeyInfo 0xC0 [(0, 1, 2), (1, 1, 0), (8, 8, 1)]) keyed) ∧
    (let kind (c : Cmd) : Prop := c.u8 0 = 1 ∨ c.u8 0 = 2; Meets installKeyInfo (fun c s => kind c ∧ bitOf (c.u8 1) 0 = true ∧ ¬(c.u8 0 = 1 ∧ (s.keySlot 1).current = none)) (signedRec installKeyInfo 0xC0 [(0, 1, 1), (1, 1, 1), (8, 8, 1)]) keyed) ∧
    (let signed (c : Cmd) (n : Nat) (s : State) : Prop := (∃ key, (s.keySlot 1).current = some key ∧ macOf key (c.bytes 0 n) = c.bytes n 48) ∧ s.obj.keyCounter < c.u64 8; let kind (c : Cmd) : Prop := c.u8 0 = 1 ∨ c.u8 0 = 2; Meets swapKeyInfo (fun c s => kind c ∧ signed c 0x10 s ∧ (s.keySlot (c.u8 0)).next = none) (signedRec swapKeyInfo 0x10 [(0, 1, 2), (8, 8, 1)]) keyed) ∧
    (let signed (c : Cmd) (n : Nat) (s : State) : Prop := (∃ key, (s.keySlot 1).current = some key ∧ macOf key (c.bytes 0 n) = c.bytes n 48) ∧ s.obj.keyCounter < c.u64 8; let kind (c : Cmd) : Prop := c.u8 0 = 1 ∨ c.u8 0 = 2; Meets swapKeyInfo (fun c s => kind c ∧ signed c 0x10 s ∧ (s.keySlot (c.u8 0)).next.isSome = true ∧ c.u32 4 ≠ (s.keySlot (c.u8 0)).kcvNext) (signedRec swapKeyInfo 0x10 [(0, 1, 2), (8, 8, 1)]) (keyed.onObj fun o => { o with keys := [(1, { current := some someKey }), (2, { next := some [], kcvNext := 1 })] })) ∧
    (let kind (c : Cmd) : Prop := c.u8 0 = 1 ∨ c.u8 0 = 2; Meets installKeyInfo (fun c _ => ¬kind c) (sent installKeyInfo 1 128 []) sail) ∧
    (let kind (c : Cmd) : Prop := c.u8 0 = 1 ∨ c.u8 0 = 2; Meets swapKeyInfo (fun c _ => ¬kind c) (sent swapKeyInfo 1 128 []) sail) := by
  refine ⟨?_, ?_, ?_, ?_, ?_, ?_, ?_, ?_, ?_, ?_, ?_, ?_⟩
  · dsimp only; intro key hg hv; exact ⟨by unfold accepts; decide +kernel, by decide +kernel, by decide +kernel, ⟨⟨someKey, by decide +kernel, signedRec_mac _ _ _⟩, by decide +kernel⟩, hg, hv⟩
  · dsimp only; intro key hg hv; exact ⟨by unfold accepts; decide +kernel, by decide +kernel, by decide +kernel, by decide +kernel, by decide +kernel, hg, hv⟩
  · exact ⟨by unfold accepts; decide +kernel, by decide +kernel, ⟨⟨someKey, by decide +kernel, signedWith_mac _ _ rfl⟩, by decide +kernel⟩, by decide +kernel, leNat_toLe4 _ kcv_fits, rfl⟩
  · exact ⟨by unfold accepts; decide +kernel, by decide +kernel, ⟨⟨someKey, by decide +kernel, signedRec_mac _ _ _⟩, by decide +kernel⟩⟩
  · exact ⟨by unfold accepts; decide +kernel, leNat_toLe4 _ (Nat.mod_lt _ (by decide)), ⟨⟨someKey, by decide +kernel, signedWith_mac _ _ rfl⟩, by decide +kernel⟩⟩
  · dsimp only; intro hg; exact ⟨by unfold accepts; decide +kernel, by decide +kernel, by decide +kernel, ⟨⟨someKey, by decide +kernel, signedRec_mac _ _ _⟩, by decide +kernel⟩, hg⟩
  · dsimp only; intro key hg hv; exact ⟨by unfold accepts; decide +kernel, by decide +kernel, by decide +kernel, ⟨⟨someKey, by decide +kernel, signedRec_mac _ _ _⟩, by decide +kernel⟩, hg, hv⟩
  · first | decide +kernel | (dsimp only [Meets, accepts, dockTakes, hdmCanonical, replyFits]; decide +kernel) | rfl
  · exact ⟨by unfold accepts; decide +kernel, by decide +kernel, ⟨⟨someKey, by decide +kernel, signedRec_mac _ _ _⟩, by decide +kernel⟩, by decide +kernel⟩
  · exact ⟨by unfold accepts; decide +kernel, by decide +kernel, ⟨⟨someKey, by decide +kernel, signedRec_mac _ _ _⟩, by decide +kernel⟩, by decide +kernel, by decide +kernel⟩
  · first | decide +kernel | (dsimp only [Meets, accepts, dockTakes, hdmCanonical, replyFits]; decide +kernel) | rfl
  · first | decide +kernel | (dsimp only [Meets, accepts, dockTakes, hdmCanonical, replyFits]; decide +kernel) | rfl

/-- The hypotheses of KeyCommandsAuthenticated are met, clause by clause (part 2). -/
theorem witness_KeyCommandsAuthenticated_2 :
    (let kind (c : Cmd) : Prop := c.u8 0 = 1 ∨ c.u8 0 = 2; Meets invalidateKeyInfo (fun c _ => ¬kind c) (sent invalidateKeyInfo 1 128 []) sail) ∧
    (Meets scuttleInfo (fun c _ => c.u32 0 ≠ Config.serial % 2 ^ 32) (signedWith (toLe 4 ((Config.serial + 1) % 2 ^ 32) ++ List.replicate 12 0#8)) keyed) ∧
    ((fun (c : Cmd) (s : State) (key : List Byte) => (s.keySlot 1).current = some key ∧ ∃ p : List Byte, macOf key (({ c with payload := p } : Cmd).bytes 0 0) ≠ ({ c with payload := p } : Cmd).bytes 0 48) {} keyed someKey) ∧
    ((fun (_op : Nat) (c : Cmd) (n : Nat) (s : State) (_body : State → Res) (key : List Byte) => (s.keySlot 1).current = some key ∧ macOf key (c.bytes 0 n) = c.bytes n 48 ∧ c.u64 8 ≤ s.obj.keyCounter) 0x1003 (signedRec invalidateKeyInfo 0x10 [(0, 1, 2)]) 0x10 keyed (fun s => ok s) someKey) ∧
    ((fun (_op : Nat) (_c : Cmd) (_n : Nat) (s : State) (_body : State → Res) => (s.keySlot 1).current = none) 0x1003 {} 0x10 up (fun s => ok s)) ∧
    ((fun (c : Cmd) (s : State) => (s.keySlot 1).current = none ∧ (c.u8 0 = 1 ∨ c.u8 0 = 2) ∧ (¬(c.u8 0 = 1 ∧ bitOf (c.u8 1) 0 = true))) (sent installKeyInfo 1 16 [(0, 1, 2), (1, 1, 1)]) up) ∧
    ((fun (c : Cmd) (s : State) => (s.keySlot 1).current = none ∧ (c.u8 0 = 1 ∨ c.u8 0 = 2) ∧ (¬(c.u8 0 = 1 ∧ bitOf (c.u8 1) 0 = true))) (sent installKeyInfo 1 16 [(0, 1, 1)]) up) := by
  refine ⟨?_, ?_, ?_, ?_, ?_, ?_, ?_⟩
  · first | decide +kernel | (dsimp only [Meets, accepts, dockTakes, hdmCanonical, replyFits]; decide +kernel) | rfl
  · refine ⟨by unfold accepts; decide +kernel, fun h => ?_⟩
    have e : Cmd.u32 (signedWith (toLe 4 ((Config.serial + 1) % 2 ^ 32) ++ List.replicate 12 0#8)) 0 = (Config.serial + 1) % 2 ^ 32 :=
      leNat_toLe4 _ (Nat.mod_lt _ (by decide))
    rw [e] at h
    omega
  · exact ⟨by decide +kernel, mac_differs _ _⟩
  · exact ⟨by decide +kernel, signedRec_mac _ _ _, by decide +kernel⟩
  · first | decide +kernel | (dsimp only [Meets, accepts, dockTakes, hdmCanonical, replyFits]; decide +kernel) | rfl
  · first | decide +kernel | (dsimp only [Meets, accepts, dockTakes, hdmCanonical, replyFits]; decide +kernel) | rfl
  · first | decide +kernel | (dsimp only [Meets, accepts, dockTakes, hdmCanonical, replyFits]; decide +kernel) | rfl

/-- The hypotheses of FirmwareCommandsComplete are met, clause by clause (part 1). -/
theorem witness_FirmwareCommandsComplete_1 :
    (let slotted (c : Cmd) (s : State) : Prop := c.u32 0 % 4096 = 0 ∧ c.u32 0 + c.u32 4 ≤ 0x20000000 ∧ c.u32 0 < 0x20000000 ∧ c.u8 8 ≤ 1 ∧ c.u8 8 ≠ s.fw.running; Meets stageImageInfo (fun c s => slotted c s ∧ (sessionLive s = false ∨ s.fw.source = .partner) ∧ s.fw.phase ≠ .handover) (sent stageImageInfo 2 128 [(8, 1, 1)]) up) ∧
    (let slotted (c : Cmd) (s : State) : Prop := c.u32 0 % 4096 = 0 ∧ c.u32 0 + c.u32 4 ≤ 0x20000000 ∧ c.u32 0 < 0x20000000 ∧ c.u8 8 ≤ 1 ∧ c.u8 8 ≠ s.fw.running; Meets stageImageInfo (fun c s => slotted c s ∧ ((sessionLive s = true ∧ s.fw.source ≠ .partner) ∨ s.fw.phase = .handover)) (sent stageImageInfo 2 128 [(8, 1, 1)]) (up.onFw fun f => { f with source := .host, phase := .staged, job := some 1 })) ∧
    (Meets setFollowListInfo (fun c _ => c.u8 0 ≤ 8) (sent setFollowListInfo 2 400 [(0, 1, 8)]) up) ∧
    (Meets setFollowListInfo (fun c _ => c.u8 0 ≤ 8) (sent setFollowListInfo 2 400 []) up) ∧
    (Meets setFollowListInfo (fun c _ => 8 < c.u8 0) (sent setFollowListInfo 2 400 [(0, 1, 9)]) up) ∧
    (let image (c : Cmd) (s : State) : SlotHdr := s.fwSlot (c.u8 0); let fields (c : Cmd) : Prop := c.u8 0 ≤ 1 ∧ c.u16 2 ≤ 3600; let good (c : Cmd) (s : State) : Prop := inTrial s = false ∧ (image c s).st = 1 ∧ c.u8 0 ≠ s.fw.running; let secure (c : Cmd) (s : State) : Prop := s.keys.secCounter ≤ (image c s).security; let schema (c : Cmd) (s : State) : Prop := (image c s).schemaMin ≤ s.fw.image.schemaW ∧ s.fw.image.schemaW ≤ (image c s).schemaMax; let suits (c : Cmd) (s : State) : Prop := bitOf (c.u8 1) 0 = true ∨ partnerRefuses (image c s) s = false; Meets handoverInfo (fun c s => fields c ∧ good c s ∧ secure c s ∧ schema c s ∧ suits c s ∧ s.fw.phase ≠ .handover ∧ s.fw.phase ≠ .checking) (sent handoverInfo 2 128 [(0, 1, 1)]) (up.onFw fun f => { f with slots := [(1, { st := 1 })] })) ∧
    (let image (c : Cmd) (s : State) : SlotHdr := s.fwSlot (c.u8 0); let fields (c : Cmd) : Prop := c.u8 0 ≤ 1 ∧ c.u16 2 ≤ 3600; let good (c : Cmd) (s : State) : Prop := inTrial s = false ∧ (image c s).st = 1 ∧ c.u8 0 ≠ s.fw.running; Meets handoverInfo (fun c s => fields c ∧ ¬good c s) (sent handoverInfo 2 128 [(0, 1, 1)]) up) ∧
    (let image (c : Cmd) (s : State) : SlotHdr := s.fwSlot (c.u8 0); let fields (c : Cmd) : Prop := c.u8 0 ≤ 1 ∧ c.u16 2 ≤ 3600; let good (c : Cmd) (s : State) : Prop := inTrial s = false ∧ (image c s).st = 1 ∧ c.u8 0 ≠ s.fw.running; let secure (c : Cmd) (s : State) : Prop := s.keys.secCounter ≤ (image c s).security; Meets handoverInfo (fun c s => fields c ∧ good c s ∧ ¬secure c s) (sent handoverInfo 2 128 [(0, 1, 1)]) ((up.onFw fun f => { f with slots := [(1, { st := 1 })] }).onKeys fun k => { k with secCounter := 1 })) ∧
    (let image (c : Cmd) (s : State) : SlotHdr := s.fwSlot (c.u8 0); let fields (c : Cmd) : Prop := c.u8 0 ≤ 1 ∧ c.u16 2 ≤ 3600; let good (c : Cmd) (s : State) : Prop := inTrial s = false ∧ (image c s).st = 1 ∧ c.u8 0 ≠ s.fw.running; let secure (c : Cmd) (s : State) : Prop := s.keys.secCounter ≤ (image c s).security; let schema (c : Cmd) (s : State) : Prop := (image c s).schemaMin ≤ s.fw.image.schemaW ∧ s.fw.image.schemaW ≤ (image c s).schemaMax; Meets handoverInfo (fun c s => fields c ∧ good c s ∧ secure c s ∧ ¬schema c s) (sent handoverInfo 2 128 [(0, 1, 1)]) (up.onFw fun f => { f with slots := [(1, { st := 1, schemaMin := 1, schemaMax := 1 })] })) ∧
    (let image (c : Cmd) (s : State) : SlotHdr := s.fwSlot (c.u8 0); let fields (c : Cmd) : Prop := c.u8 0 ≤ 1 ∧ c.u16 2 ≤ 3600; let good (c : Cmd) (s : State) : Prop := inTrial s = false ∧ (image c s).st = 1 ∧ c.u8 0 ≠ s.fw.running; let secure (c : Cmd) (s : State) : Prop := s.keys.secCounter ≤ (image c s).security; let schema (c : Cmd) (s : State) : Prop := (image c s).schemaMin ≤ s.fw.image.schemaW ∧ s.fw.image.schemaW ≤ (image c s).schemaMax; let suits (c : Cmd) (s : State) : Prop := bitOf (c.u8 1) 0 = true ∨ partnerRefuses (image c s) s = false; Meets handoverInfo (fun c s => fields c ∧ good c s ∧ secure c s ∧ schema c s ∧ ¬suits c s) (sent handoverInfo 2 128 [(0, 1, 1)]) ({ (up.onFw fun f => { f with slots := [(1, { st := 1 })] }) with tow := { up.tow with lanes := [(128, { rx := .active })] }, twin := { up.twin with session := true, partnerMin := 1 } })) ∧
    (let image (c : Cmd) (s : State) : SlotHdr := s.fwSlot (c.u8 0); let fields (c : Cmd) : Prop := c.u8 0 ≤ 1 ∧ c.u16 2 ≤ 3600; let good (c : Cmd) (s : State) : Prop := inTrial s = false ∧ (image c s).st = 1 ∧ c.u8 0 ≠ s.fw.running; let secure (c : Cmd) (s : State) : Prop := s.keys.secCounter ≤ (image c s).security; let schema (c : Cmd) (s : State) : Prop := (image c s).schemaMin ≤ s.fw.image.schemaW ∧ s.fw.image.schemaW ≤ (image c s).schemaMax; let suits (c : Cmd) (s : State) : Prop := bitOf (c.u8 1) 0 = true ∨ partnerRefuses (image c s) s = false; Meets handoverInfo (fun c s => fields c ∧ good c s ∧ secure c s ∧ schema c s ∧ suits c s ∧ (s.fw.phase = .handover ∨ s.fw.phase = .checking)) (sent handoverInfo 2 128 [(0, 1, 1)]) (up.onFw fun f => { f with slots := [(1, { st := 1 })], phase := .checking })) ∧
    (Meets commitImageInfo (fun _ s => inTrial s = true ∧ s.fw.noCommit = false) (sent commitImageInfo 2 128 []) (up.onFw fun f => { f with trialMs := 1 })) := by
  refine ⟨?_, ?_, ?_, ?_, ?_, ?_, ?_, ?_, ?_, ?_, ?_, ?_⟩ <;>
    (first | decide +kernel | (dsimp only [Meets, accepts, dockTakes, hdmCanonical, replyFits]; decide +kernel) | rfl)

/-- The hypotheses of FirmwareCommandsComplete are met, clause by clause (part 2). -/
theorem witness_FirmwareCommandsComplete_2 :
    (Meets commitImageInfo (fun _ s => inTrial s = false ∨ s.fw.noCommit = true) (sent commitImageInfo 2 128 []) up) ∧
    (Meets revertInfo (fun _ s => inTrial s = true ∧ committing s = false ∧ s.fw.phase ≠ .handover) (sent revertInfo 2 128 []) (up.onFw fun f => { f with trialMs := 1 })) ∧
    (Meets revertInfo (fun _ s => inTrial s = false ∨ committing s = true ∨ s.fw.phase = .handover) (sent revertInfo 2 128 []) up) ∧
    ((fun id => Meets abortUpdateInfo (fun _ s => sessionLive s = true ∧ s.fw.job = some id) (sent abortUpdateInfo 2 128 []) (up.onFw fun f => { f with source := .host, phase := .staged, job := some 1 })) 1) ∧
    (Meets abortUpdateInfo (fun _ s => sessionLive s = true ∧ s.fw.job = none) (sent abortUpdateInfo 2 128 []) (up.onFw fun f => { f with source := .host, phase := .staged })) ∧
    (Meets abortUpdateInfo (fun _ s => sessionLive s = false) (sent abortUpdateInfo 2 128 []) up) := by
  refine ⟨?_, ?_, ?_, ?_, ?_, ?_⟩ <;>
    (first | decide +kernel | (dsimp only [Meets, accepts, dockTakes, hdmCanonical, replyFits]; decide +kernel) | rfl)

/-- The hypotheses of ImagesAreCheckedInOrder are met, clause by clause (part 1). -/
theorem witness_ImagesAreCheckedInOrder_1 :
    ((fun (h : List Byte) (n : Option Nat) (_r : ImageChecks) (_s : State) => shapeOk h n = false) [] none {} (up.onTwin fun t => { t with helm := false, st := .inStep, session := true })) ∧
    ((fun (h : List Byte) (n : Option Nat) (r : ImageChecks) (_s : State) => shapeOk h n = true ∧ r.signature = false) goodHeader none { signature := false } up) ∧
    ((fun (h : List Byte) (n : Option Nat) (r : ImageChecks) (s : State) => shapeOk h n = true ∧ r.signature = true ∧ vendorKeyOk s (headerOf h).keyIndex = false) (recordBytes 512 [(0, 4, 0x4D495846), (4, 2, 1), (0x17, 1, 0xB0), (0x20, 4, 4096), (6, 1, 4)]) none {} up) ∧
    ((fun (h : List Byte) (n : Option Nat) (r : ImageChecks) (s : State) => shapeOk h n = true ∧ r.signature = true ∧ vendorKeyOk s (headerOf h).keyIndex = true ∧ (headerOf h).security < s.keys.secCounter) goodHeader none {} (up.onKeys fun k => { k with secCounter := 1 })) ∧
    (Config.romVersion < 0xFFFFFFFF → (fun (h : List Byte) (n : Option Nat) (r : ImageChecks) (s : State) => shapeOk h n = true ∧ r.signature = true ∧ vendorKeyOk s (headerOf h).keyIndex = true ∧ s.keys.secCounter ≤ (headerOf h).security ∧ Config.romVersion < (headerOf h).romMin) (recordBytes 512 [(0, 4, 0x4D495846), (4, 2, 1), (0x17, 1, 0xB0), (0x20, 4, 4096), (0x10, 4, 0xFFFFFFFF)]) none {} up) ∧
    ((fun (h : List Byte) (n : Option Nat) (r : ImageChecks) (s : State) => shapeOk h n = true ∧ r.signature = true ∧ vendorKeyOk s (headerOf h).keyIndex = true ∧ s.keys.secCounter ≤ (headerOf h).security ∧ (headerOf h).romMin ≤ Config.romVersion) goodHeader none {} up) ∧
    ((fun (_h : List Byte) (_r : ImageChecks) (s : State) => s.fw.phase ≠ .checking) [] {} up) ∧
    ((fun (g : List Byte) (r : ImageChecks) (s : State) => let h := checkedHeader g s; s.fw.phase = .checking ∧ imageCause h (checkedLength s) r s ≠ 0) [] {} (up.onFw fun f => { f with phase := .checking })) ∧
    ((fun (s : State) => s.fw.phase = .checking ∧ s.fw.source ≠ .partner ∧ imageCause (checkedHeader goodHeader s) (checkedLength s) {} s = 0) (up.onFw fun f => { f with phase := .checking })) ∧
    ((fun (g : List Byte) (d : List Byte) (r : ImageChecks) (s : State) => s.fw.phase = .checking ∧ s.fw.source = .partner ∧ s.fw.hash = some d ∧ imageCause (checkedHeader g s) (checkedLength s) r s = 0) goodHeader [] {} (up.onFw fun f => { f with phase := .checking, source := .partner, hash := some [] })) ∧
    ((fun (_ok : Bool) (s : State) => s.fw.phase ≠ .writing) true up) ∧
    ((fun (id : Nat) (s : State) => s.fw.phase = .writing ∧ s.fw.source = .host ∧ s.fw.job = some id) 1 (up.onFw fun f => { f with source := .host, phase := .writing, job := some 1 })) := by
  refine ⟨?_, ?_, ?_, ?_, ?_, ?_, ?_, ?_, ?_, ?_, ?_, ?_⟩
  · first | decide +kernel | (dsimp only [Meets, accepts, dockTakes, hdmCanonical, replyFits]; decide +kernel) | rfl
  · first | decide +kernel | (dsimp only [Meets, accepts, dockTakes, hdmCanonical, replyFits]; decide +kernel) | rfl
  · first | decide +kernel | (dsimp only [Meets, accepts, dockTakes, hdmCanonical, replyFits]; decide +kernel) | rfl
  · first | decide +kernel | (dsimp only [Meets, accepts, dockTakes, hdmCanonical, replyFits]; decide +kernel) | rfl
  · intro hv
    have e : (headerOf (recordBytes 512 [(0, 4, 0x4D495846), (4, 2, 1), (0x17, 1, 0xB0), (0x20, 4, 4096), (0x10, 4, 0xFFFFFFFF)])).romMin = 0xFFFFFFFF := by decide +kernel
    exact ⟨by decide +kernel, by decide +kernel, by decide +kernel, by decide +kernel, by simpa only [e] using hv⟩
  · have e : (headerOf goodHeader).romMin = 0 := by decide +kernel
    exact ⟨by decide +kernel, by decide +kernel, by decide +kernel, by decide +kernel, by simp only [e, Nat.zero_le]⟩
  · first | decide +kernel | (dsimp only [Meets, accepts, dockTakes, hdmCanonical, replyFits]; decide +kernel) | rfl
  · first | decide +kernel | (dsimp only [Meets, accepts, dockTakes, hdmCanonical, replyFits]; decide +kernel) | rfl
  · exact ⟨by decide +kernel, by decide +kernel, goodHeader_passes⟩
  · exact ⟨by decide +kernel, by decide +kernel, by decide +kernel, goodHeader_passes⟩
  · first | decide +kernel | (dsimp only [Meets, accepts, dockTakes, hdmCanonical, replyFits]; decide +kernel) | rfl
  · first | decide +kernel | (dsimp only [Meets, accepts, dockTakes, hdmCanonical, replyFits]; decide +kernel) | rfl

/-- The hypotheses of ImagesAreCheckedInOrder are met, clause by clause (part 2). -/
theorem witness_ImagesAreCheckedInOrder_2 :
    ((fun (s : State) => s.fw.phase = .writing ∧ s.fw.source = .partner ∧ s.fw.job = none) (up.onFw fun f => { f with phase := .writing, source := .partner })) ∧
    ((fun (s : State) => s.fw.phase = .writing ∧ s.fw.source = .dryDock ∧ s.fw.both = true) (up.onFw fun f => { f with phase := .writing, source := .dryDock, both := true })) ∧
    ((fun (op : Nat) (c : Cmd) (s : State) => s.fw.phase = .writing ∧ s.fw.source = .dryDock ∧ s.fw.both = false ∧ s.host.ddCmd = some (op, c)) 0x6303 {} ((up.onFw fun f => { f with phase := .writing, source := .dryDock }).onHost fun h => { h with ddCmd := some (0x6303, {}) })) ∧
    ((fun (op : Nat) (c : Cmd) (s : State) => s.fw.phase = .writing ∧ s.fw.source = .dryDock ∧ s.host.ddCmd = some (op, c)) 0x6303 {} ((up.onFw fun f => { f with phase := .writing, source := .dryDock }).onHost fun h => { h with ddCmd := some (0x6303, {}) })) ∧
    ((fun (_d : List Byte) (s : State) => (s.dev.ready = false ∨ s.twin.session = false ∨ tandemDown s = true)) [] (up.onTwin fun t => { t with helm := false, st := .inStep, session := true })) ∧
    ((fun (d : List Byte) (s : State) => s.dev.ready = true ∧ s.twin.session = true ∧ tandemDown s = false ∧ sessionLive s = false ∧ s.fw.phase ≠ .handover ∧ s.obj.followList.contains d = true) [1] ({ up with tow := { up.tow with lanes := [(128, { rx := .active })] }, twin := { up.twin with session := true }, obj := { up.obj with followList := [[1]] } })) ∧
    ((fun (d : List Byte) (s : State) => s.dev.ready = true ∧ s.twin.session = true ∧ tandemDown s = false ∧ sessionLive s = false ∧ s.fw.phase ≠ .handover ∧ s.obj.followList.contains d = false) [2] ({ up with tow := { up.tow with lanes := [(128, { rx := .active })] }, twin := { up.twin with session := true }, obj := { up.obj with followList := [[1]] } })) ∧
    ((fun (_d : List Byte) (s : State) => s.dev.ready = true ∧ s.twin.session = true ∧ tandemDown s = false ∧ (sessionLive s = true ∨ s.fw.phase = .handover)) [1] (({ up with tow := { up.tow with lanes := [(128, { rx := .active })] }, twin := { up.twin with session := true }, obj := { up.obj with followList := [[1]] } }).onFw fun f => { f with phase := .handover })) := by
  refine ⟨?_, ?_, ?_, ?_, ?_, ?_, ?_, ?_⟩ <;>
    (first | decide +kernel | (dsimp only [Meets, accepts, dockTakes, hdmCanonical, replyFits]; decide +kernel) | rfl)

/-- The hypotheses of HandoverRowsComplete are met, clause by clause. -/
theorem witness_HandoverRowsComplete :
    ((fun (_ok : Bool) (s : State) => s.dev.ready = true ∧ s.fw.phase = .handover ∧ s.fw.handStep = 0) false (up.onFw fun f => { f with phase := .handover })) ∧
    ((fun (_ok : Bool) (s : State) => s.dev.ready = true ∧ s.fw.phase = .handover ∧ s.fw.handStep = 0) true (up.onFw fun f => { f with phase := .handover })) ∧
    ((fun (_ok : Bool) (s : State) => s.dev = .handover ∧ s.fw.handStep ≤ 1) true ({ up with dev := .handover, fw := { up.fw with handStep := 1 } })) ∧
    ((fun (ok : Bool) (s : State) => s.dev = .handover ∧ (s.fw.handStep = 2 ∨ s.fw.handStep = 3) ∧ (ok = true ∨ s.fw.reverting = true)) true ({ up with dev := .handover, fw := { up.fw with handStep := 2 } })) ∧
    ((fun (s : State) => s.dev = .handover ∧ (s.fw.handStep = 2 ∨ s.fw.handStep = 3) ∧ s.fw.reverting = false) ({ up with dev := .handover, fw := { up.fw with handStep := 2 } })) ∧
    ((fun (s : State) => s.dev = .handover ∧ (s.fw.handStep = 2 ∨ s.fw.handStep = 3) ∧ s.fw.reverting = false) ({ up with dev := .handover, fw := { up.fw with handStep := 3 } })) ∧
    ((fun (_ok : Bool) (s : State) => s.dev = .handover ∧ 4 ≤ s.fw.handStep ∧ s.fw.reverting = false) true ({ up with dev := .handover, fw := { up.fw with handStep := 4 } })) ∧
    ((fun (_ok : Bool) (s : State) => s.dev = .handover ∧ 4 ≤ s.fw.handStep ∧ s.fw.reverting = true) true ({ up with dev := .handover, fw := { up.fw with handStep := 4, reverting := true } })) ∧
    ((fun (_ok : Bool) (s : State) => s.dev ≠ .handover ∧ (s.fw.phase ≠ .handover ∨ s.dev.ready = false ∨ s.fw.handStep ≠ 0)) true (up.onTwin fun t => { t with helm := false, st := .inStep, session := true })) ∧
    ((fun (s : State) => s.dev.ready = true ∧ s.fw.trialMs ≠ 0 ∧ s.fw.noCommit = false ∧ msTicks s.fw.trialMs ≤ s.fw.trialAge ∧ committing s = false ∧ s.fw.phase ≠ .handover) (up.onFw fun f => { f with trialMs := 10, trialAge := 480 })) ∧
    ((fun (s : State) => (s.dev.ready = false ∨ s.fw.trialMs = 0 ∨ s.fw.noCommit = true ∨ s.fw.trialAge < msTicks s.fw.trialMs ∨ committing s = true ∨ s.fw.phase = .handover)) (up.onTwin fun t => { t with helm := false, st := .inStep, session := true })) := by
  refine ⟨?_, ?_, ?_, ?_, ?_, ?_, ?_, ?_, ?_, ?_, ?_⟩ <;>
    (first | decide +kernel | (dsimp only [Meets, accepts, dockTakes, hdmCanonical, replyFits]; decide +kernel) | rfl)

/-- The hypotheses of FrameGrid are met, clause by clause. -/
theorem witness_FrameGrid :
    ((fun (_rate : Nat) (_phase : Nat) (_e : Int) (n : Int) (m : Int) => n ≤ m) 5 0 0 1 1) := by
  first | decide +kernel | (dsimp only [Meets, accepts, dockTakes, hdmCanonical, replyFits]; decide +kernel) | rfl

/-- The hypotheses of SampleTickRuns are met, clause by clause. -/
theorem witness_SampleTickRuns :
    ((fun (_fg : Nat) (_bg : Nat) (_e : Bool) (_w : Bool) (s : State) => s.dev = .off) 0 0 true true State.reset) ∧
    ((fun (_fg : Nat) (_bg : Nat) (_e : Bool) (_w : Bool) (s : State) => s.serving = false ∧ s.dev ≠ .off) 0 0 true true (up.onDev fun _ => .fatalD)) ∧
    ((fun (_fg : Nat) (_bg : Nat) (_e : Bool) (_w : Bool) (s : State) => s.serving = true) 0 0 true true up) ∧
    ((fun (_sl : Bool) (s : State) _ch => tableOk ({} : Channel) s.mbox.channels = true) true (up.onTwin fun t => { t with helm := false, st := .inStep, session := true }) 0) ∧
    ((fun (fg : Nat) (_s : State) => slipsTick fg = false) 20833 up) ∧
    ((fun (fg : Nat) (_s : State) => slipsTick fg = false) 0 up) ∧
    ((fun (fg : Nat) (_s : State) => slipsTick fg = true) 20834 up) := by
  refine ⟨?_, ?_, ?_, ?_, ?_, ?_, ?_⟩ <;>
    (first | decide +kernel | (dsimp only [Meets, accepts, dockTakes, hdmCanonical, replyFits]; decide +kernel) | rfl)

/-- The hypotheses of AdmissionOrder are met, clause by clause. -/
theorem witness_AdmissionOrder :
    ((fun (_s : State) ch => ch < 64) (up.onTwin fun t => { t with helm := false, st := .inStep, session := true }) 0) ∧
    ((fun (s : State) (ch : Nat) => channelWaits s ch = false) up 3) ∧
    ((fun (_c : Cmd) (s : State) => 256 ≤ s.mbox.admitted) { ch := 3, session := 7 } (up.onMbox fun m => { m with admitted := 256 })) := by
  refine ⟨?_, ?_, ?_⟩ <;>
    (first | decide +kernel | (dsimp only [Meets, accepts, dockTakes, hdmCanonical, replyFits]; decide +kernel) | rfl)

/-- The hypotheses of TickRowsComplete are met, clause by clause (part 1). -/
theorem witness_TickRowsComplete_1 :
    ((fun (ch : Nat) (op : Nat) (c : Cmd) (s : State) => ch ≠ 0 ∧ (s.chan ch).held = some (op, c) ∧ c.targetTick ≤ s.now ∧ gate c (s.onChan ch fun k => { k with held := none }) = true) 3 0x0108 { ch := 3, session := 7, flags := 2, targetTick := 0 } (up.onChan 3 fun k => { k with held := some (0x0108, { ch := 3, session := 7, flags := 2, targetTick := 0 }) })) ∧
    ((fun (op : Nat) (c : Cmd) (s : State) => (s.chan 0).held = some (op, c) ∧ c.targetTick ≤ s.now) 0x6301 { flags := 2, targetTick := 5 } ((up.onChan 0 fun k => { k with held := some (0x6301, { flags := 2, targetTick := 5 }) }).onTime fun t => { t with tick := 5 })) ∧
    ((fun (ch : Nat) (op : Nat) (c : Cmd) (s : State) => (s.chan ch).held = some (op, c) ∧ s.now < c.targetTick) 3 0x0108 { ch := 3, session := 7, flags := 2, targetTick := 1 } (up.onChan 3 fun k => { k with held := some (0x0108, { ch := 3, session := 7, flags := 2, targetTick := 1 }) })) ∧
    ((fun (ch : Nat) (op : Nat) (c : Cmd) (s : State) => ch ≠ 0 ∧ (s.chan ch).held = some (op, c) ∧ gate c (s.onChan ch fun k => { k with held := none }) = false) 3 0x0108 { ch := 3, session := 7 } ((up.onChan 3 fun k => { k with held := some (0x0108, { ch := 3, session := 7 }) }).onHost fun h => { h with link := .down })) ∧
    ((fun (ch : Nat) (s : State) => (s.chan ch).held = none) 0 (up.onTwin fun t => { t with helm := false, st := .inStep, session := true })) ∧
    ((fun (p : Nat) (s : State) => s.serving = true ∧ adoptionDue s p = true ∧ sameGrid s p = true) 0 (sail.onTime fun t => { t with tick := 24 })) ∧
    ((fun (p : Nat) (s : State) => s.serving = true ∧ adoptionDue s p = true ∧ sameGrid s p = false) 0 ((sail.onPlaneRt 0 fun q => { q with gridPhase := 1 }).onTime fun t => { t with tick := 24 })) ∧
    ((fun (p : Nat) (s : State) => (s.serving = false ∨ adoptionDue s p = false)) 0 (up.onTwin fun t => { t with helm := false, st := .inStep, session := true })) ∧
    ((fun (p : Nat) (s : State) => s.serving = true ∧ frameNow s p = true ∧ (s.planeRt p).pubFrame ≠ some (s.planeRt p).frame) 0 (sail.onPlaneRt 0 fun q => { q with pubFrame := none })) ∧
    ((fun (p : Nat) (s : State) => (s.serving = false ∨ frameNow s p = false ∨ (s.planeRt p).pubFrame = some (s.planeRt p).frame)) 0 (up.onTwin fun t => { t with helm := false, st := .inStep, session := true })) ∧
    ((fun (s : State) => s.serving = true ∧ s.now % 24 = 0 ∧ s.faults.aliveAt ≠ some s.elapsed) up) ∧
    ((fun (s : State) => s.serving = true ∧ (s.now % 24 ≠ 0 ∨ s.faults.aliveAt = some s.elapsed)) (up.onTime fun t => { t with tick := 23 })) := by
  refine ⟨?_, ?_, ?_, ?_, ?_, ?_, ?_, ?_, ?_, ?_, ?_, ?_⟩ <;>
    (first | decide +kernel | (dsimp only [Meets, accepts, dockTakes, hdmCanonical, replyFits]; decide +kernel) | rfl)

/-- The hypotheses of TickRowsComplete are met, clause by clause (part 2). -/
theorem witness_TickRowsComplete_2 :
    ((fun (s : State) => s.dev = .dryDock ∧ (s.faults.aliveAt.all fun t => decide (t + 2400 ≤ s.elapsed)) = true) (up.onDev fun _ => .dryDock)) ∧
    ((fun (s : State) => s.serving = false ∧ (s.dev ≠ .dryDock ∨ (s.faults.aliveAt.all fun t => decide (t + 2400 ≤ s.elapsed)) = false)) State.reset) ∧
    ((fun (s : State) => s.dev.ready = true ∧ s.now % 48 = 0 ∧ s.time.published ≠ some s.elapsed) up) ∧
    ((fun (s : State) => (s.dev.ready = false ∨ s.now % 48 ≠ 0 ∨ s.time.published = some s.elapsed)) State.reset) ∧
    ((fun (s : State) => s.time.bgCount < 48000) up) ∧
    ((fun (s : State) => 48000 ≤ s.time.bgCount) (up.onTime fun t => { t with bgCount := 48000 })) := by
  refine ⟨?_, ?_, ?_, ?_, ?_, ?_⟩ <;>
    (first | decide +kernel | (dsimp only [Meets, accepts, dockTakes, hdmCanonical, replyFits]; decide +kernel) | rfl)

/-- The hypotheses of ReferenceRowsComplete are met, clause by clause (part 1). -/
theorem witness_ReferenceRowsComplete_1 :
    ((fun (pin : Nat) (w : Nat) (_at_ : Int) (s : State) => pin ≤ 1 ∧ (s.slot (8 + pin)).st ≠ .disabled ∧ 25 ≤ w) 0 25 0 ((sail.onObj fun o => { o with refs := [(8, {}), (9, {})] }).onSlot 8 fun x => { x with st := .unqualified })) ∧
    ((fun (r : Nat) (_inst : Int) (s : State) => (s.slot r).meas = []) 0 0 (up.onTwin fun t => { t with helm := false, st := .inStep, session := true })) ∧
    ((fun (pin : Nat) (w : Nat) (_at_ : Int) (s : State) => pin ≤ 1 ∧ (s.slot (8 + pin)).st ≠ .disabled ∧ w < 20) 1 0 0 (sail.onSlot 9 fun x => { x with st := .unqualified })) ∧
    ((fun (pin : Nat) (w : Nat) (_at_ : Int) (s : State) => pin ≤ 1 ∧ (s.slot (8 + pin)).st ≠ .disabled ∧ 20 ≤ w ∧ w < 25) 0 20 0 ((sail.onObj fun o => { o with refs := [(8, {}), (9, {})] }).onSlot 8 fun x => { x with st := .unqualified })) ∧
    ((fun (pin : Nat) (w : Nat) (_at_ : Int) (s : State) => pin ≤ 1 ∧ (s.slot (8 + pin)).st ≠ .disabled ∧ 20 ≤ w ∧ w < 25) 0 24 0 ((sail.onObj fun o => { o with refs := [(8, {}), (9, {})] }).onSlot 8 fun x => { x with st := .qualified })) ∧
    ((fun (pin : Nat) (_w : Nat) (_at_ : Int) (s : State) => (1 < pin ∨ (s.slot (8 + pin)).st = .disabled)) 0 0 0 (up.onTwin fun t => { t with helm := false, st := .inStep, session := true })) ∧
    ((fun (r : Nat) (_record : List Byte) (_a : BeaconArrival) (s : State) => (8 ≤ r ∨ (s.slot r).st = .disabled ∨ (s.lane (s.refObj r).lane).rx ≠ .active)) 8 [] {} up) ∧
    ((fun (r : Nat) (_record : List Byte) (_a : BeaconArrival) (s : State) => (8 ≤ r ∨ (s.slot r).st = .disabled ∨ (s.lane (s.refObj r).lane).rx ≠ .active)) 0 [] {} up) ∧
    ((fun (r : Nat) (_record : List Byte) (_a : BeaconArrival) (s : State) => r < 8 ∧ tableOk ({} : SlotRt) s.refs.slots = true ∧ (s.slot r).st ≠ .disabled ∧ (s.lane (s.refObj r).lane).rx = .active ∧ (s.slot r).jump = none) 7 [254] {} (sail.onSlot 7 fun x => { x with st := .unqualified })) ∧
    ((fun (r : Nat) (s : State) => (s.slot r).st ≠ .disabled ∧ (s.slot r).missing = false ∧ silentTooLong s r = true) 0 (sail.onSlot 0 fun x => { x with st := .qualified, missedRun := 2 })) ∧
    ((fun (r : Nat) (s : State) => (s.slot r).st ≠ .disabled ∧ (s.slot r).missing = false ∧ silentTooLong s r = true) 8 ((sail.onObj fun o => { o with refs := [(8, {})] }).onSlot 8 fun x => { x with st := .qualified, silent := 2002 })) ∧
    ((fun (r : Nat) (s : State) => ((s.slot r).st = .disabled ∨ (s.slot r).missing = true ∨ silentTooLong s r = false)) 0 (up.onTwin fun t => { t with helm := false, st := .inStep, session := true })) := by
  refine ⟨?_, ?_, ?_, ?_, ?_, ?_, ?_, ?_, ?_, ?_, ?_, ?_⟩ <;>
    (first | decide +kernel | (dsimp only [Meets, accepts, dockTakes, hdmCanonical, replyFits]; decide +kernel) | rfl)

/-- The hypotheses of ReferenceRowsComplete are met, clause by clause (part 2). -/
theorem witness_ReferenceRowsComplete_2 :
    ((fun (r : Nat) (s : State) => (s.slot r).st = .qualifying ∧ conditionOn s r = false ∧ timeServed s r = true) 0 (sail.onSlot 0 fun x => { x with st := .qualifying, quality := 0, timer := 384000, freqJudged := true })) ∧
    ((fun (r : Nat) (s : State) => ((s.slot r).st ≠ .qualifying ∨ conditionOn s r = true ∨ timeServed s r = false)) 0 (up.onTwin fun t => { t with helm := false, st := .inStep, session := true })) ∧
    ((fun (_within : Nat) (s : State) => s.refs.window < 48000) 0 up) ∧
    ((fun (_within : Nat) (s : State) => 48000 ≤ s.refs.window) 20833 (up.onRefs fun r => { r with window := 48000 })) ∧
    ((fun (within : Nat) (r : Nat) (f : Int) (s : State) => (s.slot r).st ≠ .disabled ∧ 48000 ≤ (s.slot r).cover ∧ slopeOf (slotRate s r) s.obj.policy.spreadPpb ((s.slot r).meas.filter fun e => decide ((s.now : Int) * 62500 + 3 * within ≤ (e.1 + 1000000000) * 3)) = some f) 0 0 0 (up.onSlot 0 fun x => { x with st := .qualified, cover := 48000, meas := [(0, 0, 0), (1000000, 0, 0)] })) ∧
    ((fun (s : State) => s.isHelm = true ∧ s.refs.holdover = true ∧ s.refs.outOfSpec = false ∧ overBudget s.obj.policy s.refs.holdAge = true) (up.onRefs fun x => { x with holdover := true, holdAge := 4800000000 })) ∧
    ((fun (s : State) => (s.isHelm = false ∨ s.refs.holdover = false ∨ s.refs.outOfSpec = true ∨ overBudget s.obj.policy s.refs.holdAge = false)) (up.onTwin fun t => { t with helm := false, st := .inStep, session := true })) := by
  refine ⟨?_, ?_, ?_, ?_, ?_, ?_, ?_⟩ <;>
    (first | decide +kernel | (dsimp only [Meets, accepts, dockTakes, hdmCanonical, replyFits]; decide +kernel) | rfl)

/-- The hypotheses of AudioRowsComplete are met, clause by clause (part 1). -/
theorem witness_AudioRowsComplete_1 :
    ((fun (s : State) => s.now % 480 ≠ 0) (sail.onTime fun t => { t with tick := 479 })) ∧
    ((fun (bay : Nat) (t : Nat) (s : State) => s.now % 480 = 0 ∧ liveInputs s = [bay] ∧ (s.aud bay).primed = true ∧ (s.aud bay).winMin ≤ (s.aud bay).winMax ∧ s.isHelm = true ∧ (s.aud bay).slip = none ∧ ((s.aud bay).winMin < 16 ∨ 112 < (s.aud bay).winMax) ∧ slipTick s = some t) 0 ((slipTick (sail.onAud 0 fun a => { a with primed := true, winMin := 15, winMax := 64 })).getD 0) (sail.onAud 0 fun a => { a with primed := true, winMin := 15, winMax := 64 })) ∧
    ((fun (bay : Nat) (t : Nat) (s : State) => s.now % 480 = 0 ∧ liveInputs s = [bay] ∧ (s.aud bay).primed = true ∧ (s.aud bay).winMin ≤ (s.aud bay).winMax ∧ s.isHelm = true ∧ (s.aud bay).slip = none ∧ ((s.aud bay).winMin < 16 ∨ 112 < (s.aud bay).winMax) ∧ slipTick s = some t) 0 ((slipTick (sail.onAud 0 fun a => { a with primed := true, winMin := 15, winMax := 64 })).getD 0) (sail.onAud 0 fun a => { a with primed := true, winMin := 64, winMax := 113 })) ∧
    ((fun (bay : Nat) (s : State) => s.now % 480 = 0 ∧ liveInputs s = [bay] ∧ (s.aud bay).primed = true ∧ 16 ≤ (s.aud bay).winMin ∧ (s.aud bay).winMin ≤ (s.aud bay).winMax ∧ (s.aud bay).winMax ≤ 112) 0 (sail.onAud 0 fun a => { a with primed := true, winMin := 16, winMax := 112 })) ∧
    ((fun (bay : Nat) (drop : Bool) (s : State) => (s.aud bay).slip = some (drop, s.now)) 0 true (sail.onAud 0 fun a => { a with slip := some (true, 0) })) ∧
    ((fun (bay : Nat) (t : Nat) (drop : Bool) (s : State) => (s.aud bay).slip = some (drop, t) ∧ t ≠ s.now) 0 1 true (sail.onAud 0 fun a => { a with slip := some (true, 1) })) ∧
    ((fun (bay : Nat) (s : State) => (s.aud bay).slip = none) 0 sail) ∧
    ((fun (bay : Nat) (s : State) => s.isHelm = true ∧ (s.aud bay).primed = false ∧ streamLive s bay = true ∧ 64 ≤ audFill s bay) 0 (sail.onAudio fun a => { a with src := [(0x4000, { buf := List.replicate 64 0 })] })) ∧
    ((fun (bay : Nat) (s : State) => (s.isHelm = false ∨ (s.aud bay).primed = true ∨ streamLive s bay = false ∨ audFill s bay < 64)) 0 up) ∧
    ((fun (bay : Nat) (s : State) => (s.isHelm = false ∨ (s.aud bay).primed = true ∨ streamLive s bay = false ∨ audFill s bay < 64)) 0 (sail.onAud 0 fun a => { a with primed := true })) ∧
    ((fun (bay : Nat) (s : State) => (s.isHelm = false ∨ (s.aud bay).primed = true ∨ streamLive s bay = false ∨ audFill s bay < 64)) 0 (sail.onAudio fun a => { a with src := [(0x4000, { buf := List.replicate 63 0 })] })) ∧
    ((fun (bay : Nat) (s : State) => (s.streamRt bay).lost ≠ 0 ∧ berthed s bay = true ∧ (s.streamRt bay).filling = false ∧ msTicks (s.fsync bay).lossHoldMs ≤ (s.streamRt bay).lostFor) 0 ((sail.onWharf fun w => { w with berths := [(0, { pages := 1, slots := 4 })] }).onStreamRt 0 fun r => { r with lost := 2, lostFor := 96000 })) := by
  refine ⟨?_, ?_, ?_, ?_, ?_, ?_, ?_, ?_, ?_, ?_, ?_, ?_⟩ <;>
    (first | decide +kernel | (dsimp only [Meets, accepts, dockTakes, hdmCanonical, replyFits]; decide +kernel) | rfl)

/-- The hypotheses of AudioRowsComplete are met, clause by clause (part 2). -/
theorem witness_AudioRowsComplete_2 :
    ((fun (bay : Nat) (s : State) => (s.streamRt bay).lostFor < msTicks (s.fsync bay).lossHoldMs) 0 (sail.onStreamRt 0 fun r => { r with lost := 2, lostFor := 95999 })) := by
  first | decide +kernel | (dsimp only [Meets, accepts, dockTakes, hdmCanonical, replyFits]; decide +kernel) | rfl

/-- The hypotheses of JournalRowsComplete are met, clause by clause (part 1). -/
theorem witness_JournalRowsComplete_1 :
    ((fun (s : State) => s.dev.ready = true ∧ s.start.powerFail = false ∧ s.journal.writes = true ∧ cutDue s = true ∧ s.journal.pending ≠ []) (up.onJournal fun j => { j with pending := [1] })) ∧
    ((fun (s : State) => s.dev.ready = true ∧ s.start.powerFail = false ∧ s.journal.writes = true ∧ cutDue s = false ∧ s.journal.starved = true ∧ s.journal.pending ≠ []) (up.onJournal fun j => { j with interval := 1000, regular := some 0, starved := true, pending := [1] })) ∧
    ((fun (s : State) => cutDue s = false ∧ s.journal.starved = false) (up.onJournal fun j => { j with regular := some 0 })) ∧
    ((fun (s : State) => s.dev.ready = true ∧ s.start.powerFail = false ∧ s.journal.writes = true ∧ cutDue s = true ∧ s.journal.pending = []) up) ∧
    ((fun (s : State) => (s.dev.ready = false ∨ s.start.powerFail = true ∨ s.journal.writes = false)) State.reset) ∧
    ((fun (s : State) => (s.dev.ready = false ∨ s.start.powerFail = true ∨ s.journal.writes = false)) (up.onJournal fun j => { j with good0 := false, good1 := false })) ∧
    ((fun (c : CutRec) (r : List CutRec) (s : State) => s.journal.writing = c :: r ∧ c.kind ≠ .trial ∧ (s.journal.good0 = true ∨ s.journal.good1 = true)) {} [] (up.onJournal fun j => { j with writing := [{}] })) ∧
    ((fun (c : CutRec) (r : List CutRec) (ok0 : Bool) (ok1 : Bool) (s : State) => let s0 := s.onJournal fun j => { j with writing := r }; let s1 := if ok0 then s0 else norFails 0 s0; let s2 := if ok1 then s1 else norFails 1 s1; s.journal.writing = c :: r ∧ s2.journal.good0 = false ∧ s2.journal.good1 = false) {} [] false false (up.onJournal fun j => { j with writing := [{}] })) ∧
    ((fun (_ok0 : Bool) (_ok1 : Bool) (s : State) => s.journal.writing = []) true true up) ∧
    ((fun (s : State) => 14336 < writeRate s ∧ 2880000 ≤ s.journal.sinceUp ∧ s.journal.interval < s.obj.journalPol.maxMs) (up.onJournal fun j => { j with bytes := [(0, 860220)], sinceUp := 2880000 })) ∧
    ((fun (s : State) => writeRate s < 3584 ∧ 28800000 ≤ s.journal.lowFor ∧ s.obj.journalPol.baseMs < s.journal.interval) (up.onJournal fun j => { j with interval := 200, lowFor := 28800000 })) ∧
    ((fun (s : State) => 3584 ≤ writeRate s ∧ writeRate s ≤ 14336) (up.onJournal fun j => { j with bytes := [(0, 215040)] })) := by
  refine ⟨?_, ?_, ?_, ?_, ?_, ?_, ?_, ?_, ?_, ?_, ?_, ?_⟩ <;>
    (first | decide +kernel | (dsimp only [Meets, accepts, dockTakes, hdmCanonical, replyFits]; decide +kernel) | rfl)

/-- The hypotheses of JournalRowsComplete are met, clause by clause (part 2). -/
theorem witness_JournalRowsComplete_2 :
    ((fun (s : State) => 3584 ≤ writeRate s ∧ writeRate s ≤ 14336) (up.onJournal fun j => { j with bytes := [(0, 860219)] })) ∧
    ((fun (s : State) => s.dev.ready = true ∧ 172800000 ≤ s.log.age) (up.onLog fun l => { l with age := 172800000 })) ∧
    ((fun (s : State) => s.log.age < 172800000) up) ∧
    ((fun (_ok0 : Bool) (_ok1 : Bool) (_bad0 : Nat) (_bad1 : Nat) (_a : Nat) (_b : Nat) (s : State) => s.dev.ready = true ∧ 29030400000 ≤ s.journal.patrolAge) true true 0 0 0 0 (up.onJournal fun j => { j with patrolAge := 29030400000 })) ∧
    ((fun (_d : Nat) (bad : Nat) (s : State) => 0 < bad ∧ s.journal.good0 = true ∧ s.journal.good1 = true) 0 1 (up.onTwin fun t => { t with helm := false, st := .inStep, session := true })) ∧
    ((fun (_ok0 : Bool) (_ok1 : Bool) (_bad0 : Nat) (_bad1 : Nat) (_a : Nat) (_b : Nat) (s : State) => (s.dev.ready = false ∨ s.journal.patrolAge < 29030400000)) true true 0 0 0 0 (up.onTwin fun t => { t with helm := false, st := .inStep, session := true })) := by
  refine ⟨?_, ?_, ?_, ?_, ?_, ?_⟩ <;>
    (first | decide +kernel | (dsimp only [Meets, accepts, dockTakes, hdmCanonical, replyFits]; decide +kernel) | rfl)

/-- The hypotheses of RepairAndPoundRowsComplete are met, clause by clause (part 1). -/
theorem witness_RepairAndPoundRowsComplete_1 :
    ((fun (k : Nat) (_f : ScrubFound) (s : State) => scrubDue s k = false) 0 .clean (up.onClocks fun c => { c with throttle := 1 })) ∧
    ((fun (k : Nat) (_f : ScrubFound) (s : State) => scrubDue s k = false) 0 .clean (up.onStack 0 fun x => { x with unit := 93750000 })) ∧
    ((fun (k : Nat) (s : State) => scrubDue s k = true) 0 (up.onTwin fun t => { t with helm := false, st := .inStep, session := true })) ∧
    ((fun (k : Nat) (_row : Nat) (_o : WordOwner) (_cut : Bool) (s : State) => scrubDue s k = true) 3 0 .unused false up) ∧
    ((fun (k : Nat) (n : Nat) (_row : Nat) (_o : WordOwner) (_cut : Bool) (s : State) => scrubDue s k = true ∧ 2 ≤ n) 3 2 0 (.hdm 0) true up) ∧
    ((fun (_k : Nat) (s : State) => s.shedding = true) 0 (up.onClocks fun c => { c with throttle := 3 })) ∧
    ((fun (k : Nat) (s : State) => scrubUnits ≤ (s.stack k).unit) 0 (up.onStack 0 fun x => { x with unit := 93750000 })) ∧
    ((fun (k : Nat) (s : State) => (s.stack k).unit < scrubUnits) 0 (up.onTwin fun t => { t with helm := false, st := .inStep, session := true })) ∧
    ((fun (k : Nat) (s : State) => (s.stack k).repairing = none) 0 up) ∧
    ((fun (k : Nat) (row : Nat) (s : State) => (s.stack k).repairing = some row) 0 5 (up.onStack 0 fun x => { x with repairing := some 5 })) ∧
    ((fun (k : Nat) (pc : Nat) (s : State) => (s.stack k).copying = some pc) 0 3 (up.onStack 0 fun x => { x with copying := some 3 })) ∧
    ((fun (k : Nat) (s : State) => (s.stack k).copying = none) 0 up) := by
  refine ⟨?_, ?_, ?_, ?_, ?_, ?_, ?_, ?_, ?_, ?_, ?_, ?_⟩ <;>
    (first | decide +kernel | (dsimp only [Meets, accepts, dockTakes, hdmCanonical, replyFits]; decide +kernel) | rfl)

/-- The hypotheses of RepairAndPoundRowsComplete are met, clause by clause (part 2). -/
theorem witness_RepairAndPoundRowsComplete_2 :
    ((fun (die : Nat) (s : State) => let free (die : Nat) (s : State) : Prop := (s.pounds die).spare.isSome = true ∧ (s.pounds die).shadow = none ∧ (s.pounds die).testing = false ∧ (s.pounds die).failed = false ∧ s.shedding = false ∧ (s.pounds die).rotAt + 480000 ≤ s.elapsed; free die s) 1 (up.onTime fun t => { t with elapsed := 480000 })) ∧
    ((fun (die : Nat) (s : State) => let free (die : Nat) (s : State) : Prop := (s.pounds die).spare.isSome = true ∧ (s.pounds die).shadow = none ∧ (s.pounds die).testing = false ∧ (s.pounds die).failed = false ∧ s.shedding = false ∧ (s.pounds die).rotAt + 480000 ≤ s.elapsed; (¬free die s)) 0 (up.onTwin fun t => { t with helm := false, st := .inStep, session := true })) ∧
    ((fun (die : Nat) (k : Nat) (new : Nat) (_bytes : List Byte) (s : State) => let carried (die k new : Nat) (s : State) : Prop := (s.pounds die).shadow = some k ∧ (s.pounds die).spare = some new ∧ 16 ≤ (s.pounds die).barges; carried die k new s ∧ (s.pounds die).mismatch = false) 1 0 8 [] (up.onPounds 1 fun p => { p with shadow := some 0, barges := 16 })) ∧
    ((fun (die : Nat) (k : Nat) (new : Nat) (a : List Byte) (b : List Byte) (s : State) => let carried (die k new : Nat) (s : State) : Prop := (s.pounds die).shadow = some k ∧ (s.pounds die).spare = some new ∧ 16 ≤ (s.pounds die).barges; carried die k new s ∧ ((s.pounds die).mismatch = true ∨ a ≠ b)) 1 0 8 [] [0#8] (up.onPounds 1 fun p => { p with shadow := some 0, barges := 16 })) ∧
    ((fun (die : Nat) (k : Nat) (new : Nat) (a : List Byte) (b : List Byte) (s : State) => let carried (die k new : Nat) (s : State) : Prop := (s.pounds die).shadow = some k ∧ (s.pounds die).spare = some new ∧ 16 ≤ (s.pounds die).barges; carried die k new s ∧ ((s.pounds die).mismatch = true ∨ a ≠ b)) 1 0 8 [] [] (up.onPounds 1 fun p => { p with shadow := some 0, barges := 16, mismatch := true })) ∧
    ((fun (die : Nat) (_a : List Byte) (_b : List Byte) (s : State) => ((s.pounds die).shadow = none ∨ (s.pounds die).spare = none ∨ (s.pounds die).barges < 16)) 0 [] [] (up.onTwin fun t => { t with helm := false, st := .inStep, session := true })) ∧
    ((fun (die : Nat) (n : Nat) (s : State) => (s.pounds die).spare = some n ∧ (s.pounds die).testing = true) 1 8 (up.onPounds 1 fun p => { p with testing := true })) := by
  refine ⟨?_, ?_, ?_, ?_, ?_, ?_, ?_⟩ <;>
    (first | decide +kernel | (dsimp only [Meets, accepts, dockTakes, hdmCanonical, replyFits]; decide +kernel) | rfl)

/-- The hypotheses of SpdmAndIdeRowsComplete are met, clause by clause (part 1). -/
theorem witness_SpdmAndIdeRowsComplete_1 :
    ((fun (_i : Nat) (s : State) => doeUp s = true) 0 up) ∧
    ((fun (i : Instr) (s : State) => doeUp s = false ∧ (i ∈ [.getVersion, .getDigests] ∨ (∃ n, i ∈ [.doeDiscovery n, .getCapabilities n, .keyUpdate n, .heartbeat n, .endSession n]) ∨ (∃ b, i = .negotiateAlgorithms b) ∨ (∃ n m, i = .query n m) ∨ (∃ n a b, i = .getCertificate n a b) ∨ (∃ n x, i ∈ [.challenge n x, .getMeasurements n x, .keyExchange n x]) ∨ (∃ n v, i = .finish n v) ∨ (∃ n a b d, i ∈ [.kSetGo n a b d, .kSetStop n a b d]) ∨ (∃ n a b d k, i = .keyProg n a b d k))) .getVersion State.reset) ∧
    ((fun (i : Instr) (s : State) => doeUp s = true ∧ (s.keys.lock = true ∨ s.keys.vault = false) ∧ (i ∈ [.getVersion, .getDigests] ∨ (∃ n, i ∈ [.getCapabilities n, .keyUpdate n, .heartbeat n, .endSession n]) ∨ (∃ b, i = .negotiateAlgorithms b) ∨ (∃ n m, i = .query n m) ∨ (∃ n a b, i = .getCertificate n a b) ∨ (∃ n x, i ∈ [.challenge n x, .getMeasurements n x, .keyExchange n x]) ∨ (∃ n v, i = .finish n v) ∨ (∃ n a b d, i ∈ [.kSetGo n a b d, .kSetStop n a b d]) ∨ (∃ n a b d k, i = .keyProg n a b d k))) .getVersion up) ∧
    ((fun (s : State) => doeUp s = true ∧ s.keys.lock = false ∧ s.keys.vault = true) (up.onKeys fun k => { k with vault := true })) ∧
    ((fun (s : State) v => doeUp s = true ∧ s.keys.lock = false ∧ s.keys.vault = true ∧ (v = 0x11 ∨ v = 0x12)) (up.onKeys fun k => { k with vault := true }) 0x11) ∧
    ((fun (s : State) v => doeUp s = true ∧ s.keys.lock = false ∧ s.keys.vault = true ∧ (v = 0x11 ∨ v = 0x12)) (up.onKeys fun k => { k with vault := true }) 0x12) ∧
    ((fun (s : State) => doeUp s = true ∧ s.keys.lock = false ∧ s.keys.vault = true ∧ s.keys.bank = some 0) (up.onKeys fun k => { k with vault := true, bank := some 0 })) ∧
    ((fun (s : State) => doeUp s = true ∧ s.keys.lock = false ∧ s.keys.vault = true ∧ s.keys.bank ≠ some 0) (up.onKeys fun k => { k with vault := true, sessions := [{ id := 1 }] })) ∧
    ((fun (s : State) _a _n => doeUp s = true ∧ s.keys.lock = false ∧ s.keys.vault = true ∧ s.keys.bank = some 0) (up.onKeys fun k => { k with vault := true, bank := some 0 }) 0 65535) ∧
    ((fun (s : State) _a _n => doeUp s = true ∧ s.keys.lock = false ∧ s.keys.vault = true ∧ s.keys.bank ≠ some 0) (up.onKeys fun k => { k with vault := true, sessions := [{ id := 1, st := .handshake }] }) 0 0) ∧
    ((fun (s : State) v => doeUp s = true ∧ s.keys.lock = false ∧ s.keys.vault = true ∧ v ≠ 0x11 ∧ v ≠ 0x12) (up.onKeys fun k => { k with vault := true }) 0) ∧
    ((fun (s : State) slot _x => doeUp s = true ∧ s.keys.lock = false ∧ s.keys.vault = true ∧ slot ≠ 0) (up.onKeys fun k => { k with vault := true }) 1 ([] : List Byte)) := by
  refine ⟨?_, ?_, ?_, ?_, ?_, ?_, ?_, ?_, ?_, ?_, ?_, ?_⟩
  · first | decide +kernel | (dsimp only [Meets, accepts, dockTakes, hdmCanonical, replyFits]; decide +kernel) | rfl
  · exact ⟨by decide +kernel, .inl (.head _)⟩
  · exact ⟨by decide +kernel, by decide +kernel, .inl (.head _)⟩
  · first | decide +kernel | (dsimp only [Meets, accepts, dockTakes, hdmCanonical, replyFits]; decide +kernel) | rfl
  · first | decide +kernel | (dsimp only [Meets, accepts, dockTakes, hdmCanonical, replyFits]; decide +kernel) | rfl
  · first | decide +kernel | (dsimp only [Meets, accepts, dockTakes, hdmCanonical, replyFits]; decide +kernel) | rfl
  · first | decide +kernel | (dsimp only [Meets, accepts, dockTakes, hdmCanonical, replyFits]; decide +kernel) | rfl
  · first | decide +kernel | (dsimp only [Meets, accepts, dockTakes, hdmCanonical, replyFits]; decide +kernel) | rfl
  · first | decide +kernel | (dsimp only [Meets, accepts, dockTakes, hdmCanonical, replyFits]; decide +kernel) | rfl
  · first | decide +kernel | (dsimp only [Meets, accepts, dockTakes, hdmCanonical, replyFits]; decide +kernel) | rfl
  · first | decide +kernel | (dsimp only [Meets, accepts, dockTakes, hdmCanonical, replyFits]; decide +kernel) | rfl
  · first | decide +kernel | (dsimp only [Meets, accepts, dockTakes, hdmCanonical, replyFits]; decide +kernel) | rfl

/-- The hypotheses of SpdmAndIdeRowsComplete are met, clause by clause (part 2). -/
theorem witness_SpdmAndIdeRowsComplete_2 :
    ((fun (s : State) _x => doeUp s = true ∧ s.keys.lock = false ∧ s.keys.vault = true) (up.onKeys fun k => { k with vault := true }) 0) ∧
    ((fun (s : State) b _x => doeUp s = true ∧ s.keys.lock = false ∧ s.keys.vault = true ∧ b ≠ 255 ∧ (b = 0 ∨ 4 < b)) (up.onKeys fun k => { k with vault := true }) 0 0) ∧
    ((fun (s : State) slot _a _n => doeUp s = true ∧ s.keys.lock = false ∧ s.keys.vault = true ∧ slot ≠ 0) (up.onKeys fun k => { k with vault := true }) 1 0 0) ∧
    ((fun (s : State) b _x => doeUp s = true ∧ s.keys.lock = false ∧ s.keys.vault = true ∧ 1 ≤ b ∧ b ≤ 4) (up.onKeys fun k => { k with vault := true }) 1 ([] : List Byte)) ∧
    ((fun (s : State) b _x => doeUp s = true ∧ s.keys.lock = false ∧ s.keys.vault = true ∧ 1 ≤ b ∧ b ≤ 4) (up.onKeys fun k => { k with vault := true }) 4 ([] : List Byte)) ∧
    ((fun (h : Nat) (_x : List Byte) (s : State) => doeUp s = true ∧ s.keys.lock = false ∧ s.keys.vault = true ∧ s.keys.sessions.length < 2 ∧ h ≤ 60) 60 [] (up.onKeys fun k => { k with vault := true, sessions := [{ id := 1 }] })) ∧
    ((fun (_h : Nat) (_x : List Byte) (s : State) => doeUp s = true ∧ s.keys.lock = false ∧ s.keys.vault = true ∧ 2 ≤ s.keys.sessions.length) 0 [] (up.onKeys fun k => { k with vault := true, sessions := [{ id := 1 }, { id := 2 }] })) ∧
    ((fun (h : Nat) (_x : List Byte) (s : State) => doeUp s = true ∧ s.keys.lock = false ∧ s.keys.vault = true ∧ s.keys.sessions.length < 2 ∧ 60 < h) 61 [] (up.onKeys fun k => { k with vault := true, sessions := [{ id := 1 }] })) ∧
    ((fun (id : Nat) (x : Spdm) (s : State) => doeUp s = true ∧ s.keys.lock = false ∧ s.keys.vault = true ∧ s.spdmSession id = some x ∧ x.st = .handshake) 1 { id := 1, st := .handshake } (up.onKeys fun k => { k with vault := true, sessions := [{ id := 1, st := .handshake }] })) ∧
    ((fun (id : Nat) (_v : Bool) (s : State) => doeUp s = true ∧ s.keys.lock = false ∧ s.keys.vault = true ∧ s.spdmSession id = none) 0 false (up.onKeys fun k => { k with vault := true })) ∧
    ((fun (id : Nat) (x : Spdm) (s : State) => doeUp s = true ∧ s.keys.lock = false ∧ s.keys.vault = true ∧ s.spdmSession id = some x) 1 { id := 1, st := .handshake } (up.onKeys fun k => { k with vault := true, sessions := [{ id := 1, st := .handshake }] })) ∧
    ((fun (id : Nat) (x : Spdm) (s : State) => doeUp s = true ∧ s.keys.lock = false ∧ s.keys.vault = true ∧ s.spdmSession id = some x ∧ x.st ≠ .handshake) 1 { id := 1, st := .established } (up.onKeys fun k => { k with vault := true, sessions := [{ id := 1, st := .established }] })) := by
  refine ⟨?_, ?_, ?_, ?_, ?_, ?_, ?_, ?_, ?_, ?_, ?_, ?_⟩ <;>
    (first | decide +kernel | (dsimp only [Meets, accepts, dockTakes, hdmCanonical, replyFits]; decide +kernel) | rfl)

/-- The hypotheses of SpdmAndIdeRowsComplete are met, clause by clause (part 3). -/
theorem witness_SpdmAndIdeRowsComplete_3 :
    ((fun (id : Nat) (s : State) (i : Instr) => doeUp s = true ∧ s.keys.lock = false ∧ s.keys.vault = true ∧ inSession s id = false ∧ (i ∈ [.keyUpdate id, .heartbeat id, .endSession id] ∨ (∃ n, i = .query id n) ∨ (∃ a b d k, i ∈ [.keyProg id a b d k, .kSetGo id a b d, .kSetStop id a b d]))) 1 (up.onKeys fun k => { k with vault := true }) (.keyUpdate 1)) ∧
    ((fun (id : Nat) (s : State) => doeUp s = true ∧ s.keys.lock = false ∧ s.keys.vault = true ∧ inSession s id = true) 1 (up.onKeys fun k => { k with vault := true, sessions := [{ id := 1, st := .established }] })) ∧
    ((fun (id : Nat) (s : State) n => doeUp s = true ∧ s.keys.lock = false ∧ s.keys.vault = true ∧ inSession s id = true ∧ n < 2) 1 (up.onKeys fun k => { k with vault := true, sessions := [{ id := 1, st := .established }] }) 0) ∧
    ((fun (id : Nat) (s : State) n => doeUp s = true ∧ s.keys.lock = false ∧ s.keys.vault = true ∧ inSession s id = true ∧ 2 ≤ n) 1 (up.onKeys fun k => { k with vault := true, sessions := [{ id := 1, st := .established }] }) 2) ∧
    ((fun (id : Nat) (s : State) st d ks key (i : Instr) => doeUp s = true ∧ s.keys.lock = false ∧ s.keys.vault = true ∧ inSession s id = true ∧ (2 ≤ st ∨ 2 ≤ d ∨ 2 ≤ ks) ∧ i ∈ [.keyProg id st d ks key, .kSetGo id st d ks, .kSetStop id st d ks]) 1 (up.onKeys fun k => { k with vault := true, sessions := [{ id := 1, st := .established }] }) 2 0 0 [] (.kSetGo 1 2 0 0)) ∧
    ((fun (id : Nat) (s : State) st d ks => doeUp s = true ∧ s.keys.lock = false ∧ s.keys.vault = true ∧ inSession s id = true ∧ (tget ({} : IdeKeys) s.keys.ide (ideKey st d ks)).key = []) 1 (up.onKeys fun k => { k with vault := true, sessions := [{ id := 1, st := .established }] }) 0 0 0) ∧
    ((fun (id : Nat) (s : State) st d ks _key => doeUp s = true ∧ s.keys.lock = false ∧ s.keys.vault = true ∧ inSession s id = true ∧ st < 2 ∧ d < 2 ∧ ks < 2) 1 (up.onKeys fun k => { k with vault := true, sessions := [{ id := 1, st := .established }] }) 0 0 0 0) ∧
    ((fun (id : Nat) (s : State) st d ks => doeUp s = true ∧ s.keys.lock = false ∧ s.keys.vault = true ∧ inSession s id = true ∧ st < 2 ∧ d < 2 ∧ ks < 2 ∧ (tget ({} : IdeKeys) s.keys.ide (ideKey st d ks)).key ≠ []) 1 (up.onKeys fun k => { k with vault := true, sessions := [{ id := 1, st := .established }], ide := [(0, { key := [1#8] })] }) 0 0 0) ∧
    ((fun (id : Nat) (s : State) st d ks => doeUp s = true ∧ s.keys.lock = false ∧ s.keys.vault = true ∧ inSession s id = true ∧ st < 2 ∧ d < 2 ∧ ks < 2) 1 (up.onKeys fun k => { k with vault := true, sessions := [{ id := 1, st := .established }] }) 0 0 0) ∧
    ((fun (id : Nat) (x : Spdm) (s : State) => s.spdmSession id = some x ∧ x.heartbeat ≠ 0 ∧ x.heartbeat * 48000 ≤ x.age) 1 { id := 1, heartbeat := 1, age := 48000 } (up.onKeys fun k => { k with sessions := [{ id := 1, heartbeat := 1, age := 48000 }] })) ∧
    ((fun (id : Nat) (x : Spdm) (s : State) => s.spdmSession id = some x ∧ (x.heartbeat = 0 ∨ x.age < x.heartbeat * 48000)) 1 { id := 1, heartbeat := 1, age := 47999 } (up.onKeys fun k => { k with sessions := [{ id := 1, heartbeat := 1, age := 47999 }] })) ∧
    ((fun (id : Nat) (x : Spdm) (s : State) => s.spdmSession id = some x ∧ (x.heartbeat = 0 ∨ x.age < x.heartbeat * 48000)) 1 { id := 1 } (up.onKeys fun k => { k with sessions := [{ id := 1 }] })) := by
  refine ⟨?_, ?_, ?_, ?_, ?_, ?_, ?_, ?_, ?_, ?_, ?_, ?_⟩
  · exact ⟨by decide +kernel, by decide +kernel, by decide +kernel, by decide +kernel, .inl (.head _)⟩
  · first | decide +kernel | (dsimp only [Meets, accepts, dockTakes, hdmCanonical, replyFits]; decide +kernel) | rfl
  · first | decide +kernel | (dsimp only [Meets, accepts, dockTakes, hdmCanonical, replyFits]; decide +kernel) | rfl
  · first | decide +kernel | (dsimp only [Meets, accepts, dockTakes, hdmCanonical, replyFits]; decide +kernel) | rfl
  · exact ⟨by decide +kernel, by decide +kernel, by decide +kernel, by decide +kernel, by decide +kernel, by decide +kernel⟩
  · first | decide +kernel | (dsimp only [Meets, accepts, dockTakes, hdmCanonical, replyFits]; decide +kernel) | rfl
  · first | decide +kernel | (dsimp only [Meets, accepts, dockTakes, hdmCanonical, replyFits]; decide +kernel) | rfl
  · first | decide +kernel | (dsimp only [Meets, accepts, dockTakes, hdmCanonical, replyFits]; decide +kernel) | rfl
  · first | decide +kernel | (dsimp only [Meets, accepts, dockTakes, hdmCanonical, replyFits]; decide +kernel) | rfl
  · first | decide +kernel | (dsimp only [Meets, accepts, dockTakes, hdmCanonical, replyFits]; decide +kernel) | rfl
  · first | decide +kernel | (dsimp only [Meets, accepts, dockTakes, hdmCanonical, replyFits]; decide +kernel) | rfl
  · first | decide +kernel | (dsimp only [Meets, accepts, dockTakes, hdmCanonical, replyFits]; decide +kernel) | rfl

/-- The hypotheses of SpdmAndIdeRowsComplete are met, clause by clause (part 4). -/
theorem witness_SpdmAndIdeRowsComplete_4 :
    ((fun (id : Nat) (s : State) => s.spdmSession id = none) 0 (up.onTwin fun t => { t with helm := false, st := .inStep, session := true })) := by
  first | decide +kernel | (dsimp only [Meets, accepts, dockTakes, hdmCanonical, replyFits]; decide +kernel) | rfl

/-- The hypotheses of TamperScuttles are met, clause by clause (part 1). -/
theorem witness_TamperScuttles_1 :
    ((fun (source : Nat) (low : Nat) (_s : State) => source < 2 ∧ low < 970) 0 0 (up.onTwin fun t => { t with helm := false, st := .inStep, session := true })) ∧
    ((fun (_low : Nat) (s : State) => s.clocks.railsUp = false) 0 (up.onTwin fun t => { t with helm := false, st := .inStep, session := true })) ∧
    ((fun (source : Nat) (low : Nat) (s : State) => (1030 ≤ low ∨ 2 ≤ source) ∧ (source = 3 → s.clocks.railsUp = true) ∧ s.dev = .off ∧ s.clocks.aoUp = false) 0 1030 State.reset) ∧
    ((fun (source : Nat) (low : Nat) (s : State) => (1030 ≤ low ∨ 2 ≤ source) ∧ (source = 3 → s.clocks.railsUp = true) ∧ s.dev = .off ∧ s.clocks.aoUp = false) 2 0 State.reset) ∧
    ((fun (source : Nat) (low : Nat) (s : State) => (1030 ≤ low ∨ 2 ≤ source) ∧ (source = 3 → s.clocks.railsUp = true) ∧ (s.dev ≠ .off ∨ s.clocks.aoUp = true) ∧ s.keys.killing.isSome = true) 0 1030 (up.onKeys fun k => { k with killing := some 0 })) ∧
    ((fun (source : Nat) (low : Nat) (s : State) => (1030 ≤ low ∨ 2 ≤ source) ∧ (source = 3 → s.clocks.railsUp = true) ∧ (s.dev ≠ .off ∨ s.clocks.aoUp = true) ∧ s.keys.killing = none) 1 1030 up) ∧
    ((fun (source : Nat) (low : Nat) (s : State) => (1030 ≤ low ∨ 2 ≤ source) ∧ (source = 3 → s.clocks.railsUp = true) ∧ (s.dev ≠ .off ∨ s.clocks.aoUp = true) ∧ s.keys.killing = none) 3 0 (up.onClocks fun c => { c with railsUp := true })) ∧
    ((fun (source : Nat) (low : Nat) (_s : State) => source < 2 ∧ 970 ≤ low ∧ low < 1030) 0 970 up) ∧
    ((fun (source : Nat) (low : Nat) (_s : State) => source < 2 ∧ 970 ≤ low ∧ low < 1030) 1 1029 up) ∧
    ((fun (_ok : Bool) (s : State) => s.keys.killing = none) true up) ∧
    ((fun (b : Nat) (s : State) => s.keys.killing = some b) 0 (up.onKeys fun k => { k with killing := some 0 })) ∧
    ((fun (b : Nat) (s : State) => s.keys.killing = some b ∧ s.dev = .fatalS) 0 ((up.onDev fun _ => .fatalS).onKeys fun k => { k with killing := some 0 })) := by
  refine ⟨?_, ?_, ?_, ?_, ?_, ?_, ?_, ?_, ?_, ?_, ?_, ?_⟩ <;>
    (first | decide +kernel | (dsimp only [Meets, accepts, dockTakes, hdmCanonical, replyFits]; decide +kernel) | rfl)

/-- The hypotheses of TamperScuttles are met, clause by clause (part 2). -/
theorem witness_TamperScuttles_2 :
    ((fun (b : Nat) (s : State) => s.keys.killing = some b ∧ s.dev ≠ .fatalS) 1 (up.onKeys fun k => { k with killing := some 1 })) := by
  first | decide +kernel | (dsimp only [Meets, accepts, dockTakes, hdmCanonical, replyFits]; decide +kernel) | rfl

/-- The hypotheses of ClockAndPowerRowsComplete are met, clause by clause (part 1). -/
theorem witness_ClockAndPowerRowsComplete_1 :
    ((fun (_b : Bool) (cause : Nat) (_s : State) => cause ≠ 3) true 0 (up.onTwin fun t => { t with helm := false, st := .inStep, session := true })) ∧
    ((fun (s : State) => (s.clocks.rooted = false ∨ s.clocks.holdover = true)) (up.onTwin fun t => { t with helm := false, st := .inStep, session := true })) ∧
    ((fun (s : State) => s.clocks.rooted = true ∧ s.clocks.holdover = false) (up.onClocks fun c => { c with rooted := true })) ∧
    ((fun (a : Nat) (_d : Int) (s : State) => mayLock (decide (a % 2 = 1)) s = false) 0 0 up) ∧
    ((fun (a : Nat) (_d : Int) (s : State) => mayLock (decide (a % 2 = 1)) s = true ∧ s.clocks.rooted = true ∧ s.clocks.holdover = false) 0 0 (up.onClocks fun c => { c with rooted := true, cleanA := true })) ∧
    ((fun (a : Nat) (_d : Int) (s : State) => let b := decide (a % 2 = 1); let s1 := raise 0x0D84 0 (a % 2 + 256 * (a / 2)) 0 (s.onAnvil a fun x => { x with locked := true, eligible := true, eligFor := 0 }); mayLock (decide (a % 2 = 1)) s = true ∧ s.clocks.rooted = false ∧ bothEligible b s1 = true) 0 0 (up.onClocks fun c => { c with cleanA := true, rooted := false, anvils := [(2, { eligible := true })] })) ∧
    ((fun (a : Nat) (_d : Int) (s : State) => let b := decide (a % 2 = 1); let s1 := raise 0x0D84 0 (a % 2 + 256 * (a / 2)) 0 (s.onAnvil a fun x => { x with locked := true, eligible := true, eligFor := 0 }); mayLock (decide (a % 2 = 1)) s = true ∧ bothEligible b s1 = false) 0 0 (up.onClocks fun c => { c with rooted := true, cleanA := true })) ∧
    ((fun (a : Nat) (_d : Int) (s : State) => let b := decide (a % 2 = 1); mayLock (decide (a % 2 = 1)) s = true ∧ s.clocks.rooted = true ∧ s.clocks.holdover = true ∧ b = s.clocks.rootB) 0 0 (up.onClocks fun c => { c with cleanA := true, rooted := true, holdover := true })) ∧
    ((fun (a : Nat) (_d : Int) (s : State) => let b := decide (a % 2 = 1); let s1 := raise 0x0D84 0 (a % 2 + 256 * (a / 2)) 0 (s.onAnvil a fun x => { x with locked := true, eligible := true, eligFor := 0 }); mayLock (decide (a % 2 = 1)) s = true ∧ s.clocks.rooted = true ∧ s.clocks.holdover = true ∧ b ≠ s.clocks.rootB ∧ bothEligible b s1 = true) 1 0 (up.onClocks fun c => { c with cleanB := true, rooted := true, holdover := true, anvils := [(3, { eligible := true })] })) ∧
    ((fun (s : State) => s.clocks.holdover = true ∧ bothEligible true s = false ∧ bothEligible false s = false) (up.onClocks fun c => { c with holdover := true })) ∧
    ((fun (s : State) => (s.clocks.holdover = false ∨ bothEligible true s = true ∨ bothEligible false s = true)) (up.onTwin fun t => { t with helm := false, st := .inStep, session := true })) ∧
    ((fun (s : State) => s.obj.powerPol.preferAnvil = 2 ∧ s.clocks.rooted = true ∧ s.clocks.holdover = false ∧ s.clocks.rootB = false ∧ bothEligible true s = true ∧ 48000 ≤ (s.anvil 1).eligFor ∧ 48000 ≤ (s.anvil 3).eligFor) (((up.onClocks fun c => { c with rooted := true, anvils := [(0, { eligible := true, eligFor := 48000 }), (1, { eligible := true, eligFor := 48000 }), (2, { eligible := true, eligFor := 48000 }), (3, { eligible := true, eligFor := 48000 })] })).onObj fun o => { o with powerPol := { o.powerPol with preferAnvil := 2 } })) := by
  refine ⟨?_, ?_, ?_, ?_, ?_, ?_, ?_, ?_, ?_, ?_, ?_, ?_⟩ <;>
    (first | decide +kernel | (dsimp only [Meets, accepts, dockTakes, hdmCanonical, replyFits]; decide +kernel) | rfl)

/-- The hypotheses of ClockAndPowerRowsComplete are met, clause by clause (part 2). -/
theorem witness_ClockAndPowerRowsComplete_2 :
    ((fun (s : State) => s.obj.powerPol.preferAnvil = 1 ∧ s.clocks.rooted = true ∧ s.clocks.holdover = false ∧ s.clocks.rootB = true ∧ bothEligible false s = true ∧ 48000 ≤ (s.anvil 0).eligFor ∧ 48000 ≤ (s.anvil 2).eligFor) (((up.onClocks fun c => { c with rooted := true, rootB := true, anvils := [(0, { eligible := true, eligFor := 48000 }), (2, { eligible := true, eligFor := 48000 })] })).onObj fun o => { o with powerPol := { preferAnvil := 1 } })) ∧
    ((fun (s : State) => let b := decide (s.obj.powerPol.preferAnvil = 2); ((s.obj.powerPol.preferAnvil ≠ 1 ∧ s.obj.powerPol.preferAnvil ≠ 2) ∨ s.clocks.rooted = false ∨ s.clocks.holdover = true ∨ s.clocks.rootB = b ∨ bothEligible b s = false ∨ (s.anvil (bit b)).eligFor < 48000 ∨ (s.anvil (2 + bit b)).eligFor < 48000)) (up.onTwin fun t => { t with helm := false, st := .inStep, session := true })) ∧
    ((fun (s : State) => s.clocks.holdover = true) (up.onClocks fun c => { c with holdover := true })) ∧
    ((fun (s : State) => s.clocks.holdover = false) up) ∧
    ((fun (d : Nat) (s : State) => ((s.domain d).port = .opened ∧ gateable d s = true ∧ (s.domain d).retryAfter ≤ s.elapsed ∨ (s.domain d).port = .draining)) 11 up) ∧
    ((fun (d : Nat) (s : State) => ((s.domain d).port = .opened ∧ gateable d s = true ∧ (s.domain d).retryAfter ≤ s.elapsed ∨ (s.domain d).port = .draining)) 0 (up.onDomain 0 fun x => { x with port := .draining })) ∧
    ((fun (d : Nat) (s : State) => (s.domain d).port ≠ .draining ∧ ((s.domain d).port ≠ .opened ∨ gateable d s = false ∨ s.elapsed < (s.domain d).retryAfter)) 0 (up.onTwin fun t => { t with helm := false, st := .inStep, session := true })) ∧
    ((fun (d : Nat) (s : State) => (s.domain d).port = .gated) 31 (up.onDomain 31 fun x => { x with port := .gated })) ∧
    ((fun (d : Nat) (s : State) => (s.domain d).port ≠ .gated) 0 (up.onTwin fun t => { t with helm := false, st := .inStep, session := true })) ∧
    ((fun (d : Nat) (s : State) => (s.domain d).port = .draining ∧ s.dev ≠ .fatalD ∧ s.dev ≠ .fatalS) 0 (up.onDomain 0 fun x => { x with port := .draining })) ∧
    ((fun (_d : Nat) (s : State) => (s.dev = .fatalD ∨ s.dev = .fatalS)) 0 (State.onDomain { up with dev := .fatalS } 0 fun x => { x with port := .draining })) ∧
    ((fun (d : Nat) (s : State) => (s.domain d).port ≠ .draining) 0 up) := by
  refine ⟨?_, ?_, ?_, ?_, ?_, ?_, ?_, ?_, ?_, ?_, ?_, ?_⟩ <;>
    (first | decide +kernel | (dsimp only [Meets, accepts, dockTakes, hdmCanonical, replyFits]; decide +kernel) | rfl)

/-- The hypotheses of ClockAndPowerRowsComplete are met, clause by clause (part 3). -/
theorem witness_ClockAndPowerRowsComplete_3 :
    ((fun (d : Nat) (s : State) => (s.domain d).port = .draining ∧ (s.dev = .fatalS ∨ (s.dev = .fatalD ∧ s.faults.thermal = true))) 0 (State.onDomain { up with dev := .fatalS } 0 fun x => { x with port := .draining })) ∧
    ((fun (_d : Nat) (s : State) => s.dev ≠ .fatalS ∧ (s.dev ≠ .fatalD ∨ s.faults.thermal = false)) 0 (up.onTwin fun t => { t with helm := false, st := .inStep, session := true })) ∧
    ((fun (d : Nat) (s : State) => (s.domain d).ramping = false) 0 up) ∧
    ((fun (d : Nat) (s : State) => (s.domain d).ramping = true ∧ (s.domain d).port = .stopping) 0 (up.onDomain 0 fun x => { x with ramping := true, port := .stopping })) ∧
    ((fun (d : Nat) (s : State) => (s.domain d).ramping = true ∧ (s.domain d).port = .starting) 0 (up.onDomain 0 fun x => { x with ramping := true, port := .starting })) ∧
    ((fun (d : Nat) (s : State) => (s.domain d).ramping = true ∧ (s.domain d).port ≠ .stopping ∧ (s.domain d).port ≠ .starting) 5 (up.onDomain 5 fun d => { d with ramping := true })) ∧
    ((fun (m : Nat) (mv : Nat) (s : State) => mv * 100 < nominalMv m * 96 ∧ s.clocks.lowRails.contains m = true) 0 719 (up.onClocks fun c => { c with lowRails := [0] })) ∧
    ((fun (m : Nat) (mv : Nat) (s : State) => mv * 100 < nominalMv m * 96 ∧ s.clocks.lowRails.contains m = false) 0 719 up) ∧
    ((fun (m : Nat) (mv : Nat) (_s : State) => nominalMv m * 96 ≤ mv * 100) 0 720 up) ∧
    ((fun (_k : Nat) (t : Int) (_s : State) => t < 1150) 0 1149 up) ∧
    ((fun (_k : Nat) (t : Int) (_s : State) => 1150 ≤ t) 0 1150 up) ∧
    ((fun (ts : List Int) (_mw : Nat) (s : State) => hottest ts < 10 * s.obj.powerPol.throttleC - 50 ∧ s.clocks.throttle = 0) [949] 0 up) := by
  refine ⟨?_, ?_, ?_, ?_, ?_, ?_, ?_, ?_, ?_, ?_, ?_, ?_⟩ <;>
    (first | decide +kernel | (dsimp only [Meets, accepts, dockTakes, hdmCanonical, replyFits]; decide +kernel) | rfl)

/-- The hypotheses of ClockAndPowerRowsComplete are met, clause by clause (part 4). -/
theorem witness_ClockAndPowerRowsComplete_4 :
    ((fun (t : Int) (s : State) => 10 * s.obj.powerPol.throttleC ≤ t ∧ s.clocks.throttle = 0) 1150 up) ∧
    ((fun (t : Int) (s : State) => 10 * s.obj.powerPol.throttleC ≤ t ∧ 1 ≤ s.clocks.throttle ∧ s.clocks.throttle < 3) 1000 (up.onClocks fun c => { c with throttle := 1 })) ∧
    ((fun (t : Int) (s : State) => 10 * s.obj.powerPol.throttleC ≤ t ∧ 1 ≤ s.clocks.throttle ∧ s.clocks.throttle < 3) 1000 (up.onClocks fun c => { c with throttle := 2 })) ∧
    ((fun (t : Int) (s : State) => t < 10 * s.obj.powerPol.throttleC - 50 ∧ 1 ≤ s.clocks.throttle ∧ s.clocks.throttle ≤ 3) 949 (up.onClocks fun c => { c with throttle := 3 })) ∧
    ((fun (t : Int) (s : State) => t < 10 * s.obj.powerPol.throttleC - 50 ∧ 1 ≤ s.clocks.throttle ∧ s.clocks.throttle ≤ 3) 949 (up.onClocks fun c => { c with throttle := 1 })) := by
  refine ⟨?_, ?_, ?_, ?_, ?_⟩ <;>
    (first | decide +kernel | (dsimp only [Meets, accepts, dockTakes, hdmCanonical, replyFits]; decide +kernel) | rfl)

/-- The hypotheses of FabricAndFaultRowsComplete are met, clause by clause (part 1). -/
theorem witness_FabricAndFaultRowsComplete_1 :
    ((fun (q : FabricReq) (_s0 : State) => q.target = none) { target := none } up) ∧
    ((fun (q : FabricReq) (s0 : State) d => let k := q.die * 8 + q.master; let s := answerTxns q.die k q.earlier s0; q.target = some d ∧ (requestFits q.addr q.beats = false ∨ mayReach s q.master d = false)) { target := some 3, beats := 17 } up 3) ∧
    ((fun (q : FabricReq) (s0 : State) d => let k := q.die * 8 + q.master; let s := answerTxns q.die k q.earlier s0; let t := requested q d; q.target = some d ∧ requestFits q.addr q.beats = true ∧ mayReach s q.master d = true ∧ heldBack (s.master k) t = true) { target := some 3, stream := 1 } (up.onFaults fun x => { x with masters := [(0, { txns := [{ stream := 1, target := 4 }] })] }) 3) ∧
    ((fun (q : FabricReq) (s0 : State) d => let k := q.die * 8 + q.master; let s := answerTxns q.die k q.earlier s0; let t := requested q d; q.target = some d ∧ requestFits q.addr q.beats = true ∧ mayReach s q.master d = true ∧ heldBack (s.master k) t = false ∧ queuedBehind (s.master k) t = true) { target := some 3, stream := 1, beats := 1 } (up.onFaults fun x => { x with masters := [(0, { txns := List.replicate 64 { stream := 2, target := 4 } })] }) 3) ∧
    ((fun (q : FabricReq) (s0 : State) d => let k := q.die * 8 + q.master; let s := answerTxns q.die k q.earlier s0; let t := requested q d; q.target = some d ∧ requestFits q.addr q.beats = true ∧ mayReach s q.master d = true ∧ heldBack (s.master k) t = false ∧ queuedBehind (s.master k) t = false) { target := some 3, stream := 1 } sail 3) ∧
    ((fun (_k : Nat) (t : Txn) (_s : State) => t.behalf = false) 0 {} up) ∧
    ((fun (die : Nat) (m : Nat) (st : Nat) (s : State) => (((s.master (die * 8 + m)).txns.find? fun t => t.stream = st ∧ t.done = false) = none)) 0 0 0 up) ∧
    ((fun (die : Nat) (m : Nat) (st : Nat) (t : Txn) (s : State) => (((s.master (die * 8 + m)).txns.find? fun t => t.stream = st ∧ t.done = false) = some t)) 0 0 1 { stream := 1 } (up.onFaults fun x => { x with masters := [(0, { txns := [{ stream := 1 }] })] })) ∧
    ((fun (r : FaultRep) (s : State) => (r.injected = false ∨ injectionOf r s = none) ∧ faultClass r.code = 0) {} (up.onTwin fun t => { t with helm := false, st := .inStep, session := true })) ∧
    ((fun (r : FaultRep) (s : State) => (r.injected = false ∨ injectionOf r s = none) ∧ faultClass r.code = 1) { code := 0x0101 } up) ∧
    ((fun (r : FaultRep) (s : State) => (r.injected = false ∨ injectionOf r s = none) ∧ faultClass r.code = 2) { code := 0x0402 } up) ∧
    ((fun (r : FaultRep) (s : State) => (r.injected = false ∨ injectionOf r s = none) ∧ faultClass r.code = 3 ∧ r.code ≠ 0x0901) { code := 0x0702 } up) := by
  refine ⟨?_, ?_, ?_, ?_, ?_, ?_, ?_, ?_, ?_, ?_, ?_, ?_⟩ <;>
    (first | decide +kernel | (dsimp only [Meets, accepts, dockTakes, hdmCanonical, replyFits]; decide +kernel) | rfl)

/-- The hypotheses of FabricAndFaultRowsComplete are met, clause by clause (part 2). -/
theorem witness_FabricAndFaultRowsComplete_2 :
    ((fun (r : FaultRep) (s : State) => (r.injected = false ∨ injectionOf r s = none) ∧ r.code = 0x0901) { code := 0x0901 } up) ∧
    ((fun (r : FaultRep) (s : State) => (r.injected = false ∨ injectionOf r s = none) ∧ faultClass r.code = 4) { code := 0x0C01 } up) ∧
    ((fun (r : FaultRep) (s : State) => (r.injected = false ∨ injectionOf r s = none) ∧ faultClass r.code = 5) { code := 0x0D01 } up) ∧
    ((fun (r : FaultRep) (i : Inject) (s : State) => r.injected = true ∧ injectionOf r s = some i) { code := 0x0101, injected := true } { kind := 1, bits := 1 } (up.onFaults fun f => { f with injects := [{ kind := 1, bits := 1 }] })) ∧
    ((fun (r : FaultRep) (_s : State) => r.hallmark = none ∧ r.line = false ∧ r.holds = [] ∧ r.code ≠ 0x0401) {} (up.onTwin fun t => { t with helm := false, st := .inStep, session := true })) ∧
    ((fun (_code : Nat) (_subj : Nat) (_detail : Nat) (_w : Bool) (_i : Bool) (s : State) => s.dev ≠ .fatalD ∧ s.dev ≠ .fatalS) 0 0 0 false false up) ∧
    ((fun (w : Bool) (s : State) => s.serving = true ∧ 48 ≤ (if w then s.time.missedWest else s.time.missedEast)) true (up.onTime fun t => { t with missedWest := 48 })) ∧
    ((fun (w : Bool) (s : State) => s.serving = true ∧ 48 ≤ (if w then s.time.missedWest else s.time.missedEast)) false (up.onTime fun t => { t with missedEast := 48 })) ∧
    ((fun (w : Bool) (s : State) => (if w then s.time.missedWest else s.time.missedEast) < 48) true (up.onTime fun t => { t with missedWest := 47 })) ∧
    ((fun (_w : Bool) (s : State) => s.serving = false) true State.reset) ∧
    ((fun (kind : Nat) (inst : Nat) (w : Bool) (i : Inject) (s : State) => ((s.faults.injects.find? fun i => i.kind = kind ∧ i.west = w ∧ i.inst = inst) = some i)) 1 0 false { kind := 1 } (up.onFaults fun x => { x with injects := [{ kind := 1 }] })) ∧
    ((fun (kind : Nat) (inst : Nat) (w : Bool) (s : State) => ((s.faults.injects.find? fun i => i.kind = kind ∧ i.west = w ∧ i.inst = inst) = none)) 0 0 true (up.onTwin fun t => { t with helm := false, st := .inStep, session := true })) := by
  refine ⟨?_, ?_, ?_, ?_, ?_, ?_, ?_, ?_, ?_, ?_, ?_, ?_⟩ <;>
    (first | decide +kernel | (dsimp only [Meets, accepts, dockTakes, hdmCanonical, replyFits]; decide +kernel) | rfl)

/-- The hypotheses of FabricAndFaultRowsComplete are met, clause by clause (part 3). -/
theorem witness_FabricAndFaultRowsComplete_3 :
    ((fun (s : State) => s.dev = .fatalD ∧ msTicks s.faults.waitMs ≤ s.faults.waited ∧ (s.faults.thermal = false ∨ hottest s.clocks.temps < 10 * (s.obj.powerPol.throttleC : Int) - 50)) (State.onFaults { up with dev := .fatalD } fun f => { f with waitMs := 1000, waited := 48000 })) ∧
    ((fun (s : State) => s.dev = .fatalD ∧ msTicks s.faults.waitMs ≤ s.faults.waited ∧ s.faults.thermal = true ∧ 10 * (s.obj.powerPol.throttleC : Int) - 50 ≤ hottest s.clocks.temps) ((State.onFaults { up with dev := .fatalD } fun f => { f with waitMs := 1000, waited := 48000, thermal := true }).onClocks fun c => { c with temps := [950] })) ∧
    ((fun (s : State) => (s.dev ≠ .fatalD ∨ s.faults.waited < msTicks s.faults.waitMs)) up) ∧
    ((fun (s : State) => (s.dev ≠ .fatalD ∨ s.faults.waited < msTicks s.faults.waitMs)) (State.onFaults { up with dev := .fatalD } fun f => { f with waitMs := 1000, waited := 47999 })) := by
  refine ⟨?_, ?_, ?_, ?_⟩ <;>
    (first | decide +kernel | (dsimp only [Meets, accepts, dockTakes, hdmCanonical, replyFits]; decide +kernel) | rfl)

/-- The hypotheses of CrossingRequestsRefused are met, clause by clause. -/
theorem witness_CrossingRequestsRefused :
    ((fun (q : FabricReq) (d : Nat) (_s : State) => q.target = some d ∧ requestFits q.addr q.beats = false) { target := some 3, addr := 4065 } 3 up) ∧
    ((fun (_k : Nat) (_q : FabricReq) (_d : Nat) (s : State) => tableOk ({} : MasterRt) s.faults.masters = true) 0 {} 0 up) := by
  refine ⟨?_, ?_⟩ <;>
    (first | decide +kernel | (dsimp only [Meets, accepts, dockTakes, hdmCanonical, replyFits]; decide +kernel) | rfl)

/-- The hypotheses of SupplyAndStartRowsComplete are met, clause by clause (part 1). -/
theorem witness_SupplyAndStartRowsComplete_1 :
    ((fun (s : State) => s.dev = .off) State.reset) ∧
    ((fun (s : State) => s.dev ≠ .off) up) ∧
    ((fun (m : Nat) (mv : Nat) (s : State) => s.dev ≠ .off ∧ mv * 100 < nominalMv m * 92 ∧ m < 4) 3 781 up) ∧
    ((fun (m : Nat) (mv : Nat) (s : State) => s.dev ≠ .off ∧ mv * 100 < nominalMv m * 92 ∧ m < 4) 0 689 up) ∧
    ((fun (mv : Nat) (s : State) => s.dev ≠ .off ∧ mv ≤ 700) 700 up) ∧
    ((fun (mv : Nat) (s : State) => s.dev ≠ .off ∧ 700 < mv ∧ mv < 736) 701 up) ∧
    ((fun (mv : Nat) (s : State) => s.dev ≠ .off ∧ 700 < mv ∧ mv < 736) 735 up) ∧
    ((fun (m : Nat) (mv : Nat) (s : State) => (s.dev = .off ∨ nominalMv m * 92 ≤ mv * 100 ∨ 4 ≤ m ∧ m ≠ 7)) 0 0 State.reset) ∧
    ((fun (m : Nat) (mv : Nat) (s : State) => (s.dev = .off ∨ nominalMv m * 92 ≤ mv * 100 ∨ 4 ≤ m ∧ m ≠ 7)) 0 690 up) ∧
    ((fun (m : Nat) (mv : Nat) (s : State) => (s.dev = .off ∨ nominalMv m * 92 ≤ mv * 100 ∨ 4 ≤ m ∧ m ≠ 7)) 4 0 up) ∧
    ((fun (m : Nat) (mv : Nat) (s : State) => (s.dev = .off ∨ nominalMv m * 92 ≤ mv * 100 ∨ 4 ≤ m ∧ m ≠ 7)) 7 736 up) ∧
    ((fun (s : State) => s.serving = false) State.reset) := by
  refine ⟨?_, ?_, ?_, ?_, ?_, ?_, ?_, ?_, ?_, ?_, ?_, ?_⟩ <;>
    (first | decide +kernel | (dsimp only [Meets, accepts, dockTakes, hdmCanonical, replyFits]; decide +kernel) | rfl)

/-- The hypotheses of SupplyAndStartRowsComplete are met, clause by clause (part 2). -/
theorem witness_SupplyAndStartRowsComplete_2 :
    ((fun (s : State) => s.start.powerFail = true) (up.onStart fun r => { r with powerFail := true })) ∧
    ((fun (s : State) => s.serving = true ∧ s.start.powerFail = false ∧ s.fw.phase ≠ .writing) (up.onTwin fun t => { t with helm := false, st := .inStep, session := true })) ∧
    ((fun (s : State) id => s.serving = true ∧ s.start.powerFail = false ∧ s.fw.phase = .writing ∧ s.fw.job = some id) (up.onFw fun f => { f with phase := .writing, job := some 1 }) 1) ∧
    ((fun (s : State) => s.serving = true ∧ s.start.powerFail = false ∧ s.fw.phase = .writing ∧ s.fw.job = none) (up.onFw fun f => { f with phase := .writing })) ∧
    ((fun (s : State) => s.start.powerFail = false) up) ∧
    ((fun (w : Bool) (s : State) => s.start.restart = some w ∧ s.journal.writing = [] ∧ s.dev.ready = true) true (up.onStart fun r => { r with restart := some true })) ∧
    ((fun (s : State) => (s.start.restart = none ∨ s.journal.writing ≠ [] ∨ s.dev.ready = false)) (up.onTwin fun t => { t with helm := false, st := .inStep, session := true })) ∧
    ((fun (_ms : Nat) (_f : StepFound) (s : State) => s.start.running = false) 0 {} up) ∧
    ((fun (ms : Nat) (_f : StepFound) (s : State) => s.start.running = true ∧ stepBound s < ms) 21 {} ({ up with dev := .coldStart, start := { up.start with running := true, stepNo := 1 } })) ∧
    ((fun (ms : Nat) (f : StepFound) (s : State) => s.start.running = true ∧ ms ≤ stepBound s ∧ f.ok = false) 1 { ok := false } (up.onStart fun r => { r with running := true, stepNo := 3 })) ∧
    ((fun (ms : Nat) (f : StepFound) (s : State) => s.start.running = true ∧ ms ≤ stepBound s ∧ f.ok = true ∧ s.start.stepNo ∈ [1, 5, 9, 10, 11]) 1 {} (up.onStart fun r => { r with running := true, stepNo := 11 })) ∧
    ((fun (ms : Nat) (f : StepFound) (s : State) => s.start.running = true ∧ ms ≤ stepBound s ∧ f.ok = true ∧ s.start.stepNo = 2) 1 {} ((up.onStart fun r => { r with running := true, stepNo := 2 }).onClocks fun c => { c with rooted := true })) := by
  refine ⟨?_, ?_, ?_, ?_, ?_, ?_, ?_, ?_, ?_, ?_, ?_, ?_⟩ <;>
    (first | decide +kernel | (dsimp only [Meets, accepts, dockTakes, hdmCanonical, replyFits]; decide +kernel) | rfl)

/-- The hypotheses of SupplyAndStartRowsComplete are met, clause by clause (part 3). -/
theorem witness_SupplyAndStartRowsComplete_3 :
    ((fun (ms : Nat) (f : StepFound) (s : State) => let s1 := clockStep ms s; s.start.running = true ∧ ms ≤ stepBound s ∧ f.ok = true ∧ s.start.stepNo = 3 ∧ ((stepVault s1).keys.retired = true ∨ s.start.postScuttle = true)) 30 { ok := true } ({ up with dev := .coldStart, start := { up.start with running := true, stepNo := 3, kind := .cold }, keys := { up.keys with retired := true } })) ∧
    ((fun (ms : Nat) (f : StepFound) (s : State) => let s1 := clockStep ms s; s.start.running = true ∧ ms ≤ stepBound s ∧ f.ok = true ∧ s.start.stepNo = 3 ∧ ((stepVault s1).keys.retired = true ∨ s.start.postScuttle = true)) 0 { ok := true } ({ up with dev := .coldStart, start := { up.start with running := true, stepNo := 3, postScuttle := true } })) ∧
    ((fun (ms : Nat) (f : StepFound) (s : State) => let s1 := clockStep ms s; s.start.running = true ∧ ms ≤ stepBound s ∧ f.ok = true ∧ s.start.stepNo = 3 ∧ (stepVault s1).keys.retired = false ∧ s.start.postScuttle = false) 0 {} (up.onStart fun r => { r with running := true, stepNo := 3 })) ∧
    ((fun (ms : Nat) (f : StepFound) (s : State) => s.start.running = true ∧ ms ≤ stepBound s ∧ f.ok = true ∧ s.start.stepNo = 4 ∧ s.start.warm = true) 150 { ok := true } ({ up with dev := .coldStart, start := { up.start with running := true, stepNo := 4, warm := true } })) ∧
    ((fun (ms : Nat) (f : StepFound) (s : State) => s.start.running = true ∧ ms ≤ stepBound s ∧ f.ok = true ∧ s.start.stepNo = 4 ∧ s.start.warm = false) 400 { ok := true } ({ up with dev := .coldStart, start := { up.start with running := true, stepNo := 4 } })) ∧
    ((fun (ms : Nat) (f : StepFound) (s : State) => s.start.running = true ∧ ms ≤ stepBound s ∧ f.ok = true ∧ s.start.stepNo = 6) 700 { ok := true } ({ up with dev := .coldStart, start := { up.start with running := true, stepNo := 6 } })) ∧
    ((fun (ms : Nat) (f : StepFound) (s : State) => s.start.running = true ∧ ms ≤ stepBound s ∧ f.ok = true ∧ s.start.stepNo = 7) 3000 { ok := true } ({ up with dev := .coldStart, start := { up.start with running := true, stepNo := 7 } })) ∧
    ((fun (ms : Nat) (f : StepFound) (s : State) => s.start.running = true ∧ ms ≤ stepBound s ∧ f.ok = true ∧ s.start.stepNo = 8) 0 {} (up.onStart fun r => { r with running := true, stepNo := 8 })) ∧
    ((fun (ms : Nat) (f : StepFound) (s : State) => s.start.running = true ∧ ms ≤ stepBound s ∧ f.ok = true ∧ s.start.stepNo = 12) 500 { ok := true } ({ up with dev := .coldStart, start := { up.start with running := true, stepNo := 12 } })) ∧
    ((fun (ms : Nat) (f : StepFound) (s : State) => s.start.running = true ∧ ms ≤ stepBound s ∧ f.ok = true ∧ s.start.stepNo = 13) 1 {} (up.onStart fun r => { r with running := true, stepNo := 13 })) ∧
    ((fun (ms : Nat) (f : StepFound) (s : State) => s.start.running = true ∧ ms ≤ stepBound s ∧ f.ok = true ∧ s.start.stepNo = 14) 0 {} (up.onStart fun r => { r with running := true, stepNo := 14 })) ∧
    ((fun (_ms : Nat) (s : State) => s.start.running = true ∧ (s.start.stepNo = 9 ∨ s.start.stepNo = 11)) 1 (up.onStart fun r => { r with running := true, stepNo := 9 })) := by
  refine ⟨?_, ?_, ?_, ?_, ?_, ?_, ?_, ?_, ?_, ?_, ?_, ?_⟩ <;>
    (first | decide +kernel | (dsimp only [Meets, accepts, dockTakes, hdmCanonical, replyFits]; decide +kernel) | rfl)

/-- The hypotheses of SupplyAndStartRowsComplete are met, clause by clause (part 4). -/
theorem witness_SupplyAndStartRowsComplete_4 :
    ((fun (_ms : Nat) (s : State) => s.start.running = true ∧ (s.start.stepNo = 9 ∨ s.start.stepNo = 11)) 1 (up.onStart fun r => { r with running := true, stepNo := 11 })) ∧
    ((fun (_ms : Nat) (s : State) => s.start.running = true ∧ s.start.stepNo ≠ 9 ∧ s.start.stepNo ≠ 11) 1 (up.onStart fun r => { r with running := true, stepNo := 10 })) ∧
    ((fun (s : State) => s.start.warm = false ∧ s.start.stepNo < 14) (up.onStart fun r => { r with stepNo := 13 })) ∧
    ((fun (s : State) => s.start.warm = true) (up.onStart fun r => { r with warm := true, stepNo := 5 })) ∧
    ((fun (s : State) => s.start.waiting = false) up) ∧
    ((fun (s : State) => let k := bit s.start.slotB; s.start.waiting = true ∧ s.start.attempt < 3 ∧ s.start.tried.contains k = false) (up.onStart fun r => { r with waiting := true, attempt := 2 })) ∧
    ((fun (s : State) => let k := bit s.start.slotB; let s1 := coldReset (s.onStart fun r => { r with tried := if s.start.attempt < 3 then r.tried else setAdd r.tried k, startMs := satAdd 32 r.startMs 100, hbmParams := false }); let s2 := if s.start.warm then { s1 with dev := .coldStart, start := { s1.start with warm := false, becameCold := true, kind := .cold, cause := 4 } } else s1; s.start.waiting = true ∧ (3 ≤ s.start.attempt ∨ s.start.tried.contains k = true) ∧ s2.start.tried.contains (1 - k) = false) ({ up with dev := .coldStart, start := { up.start with running := true, waiting := true, attempt := 3 } })) ∧
    ((fun (s : State) => let k := bit s.start.slotB; let s1 := coldReset (s.onStart fun r => { r with tried := if s.start.attempt < 3 then r.tried else setAdd r.tried k, startMs := satAdd 32 r.startMs 100, hbmParams := false }); let s2 := if s.start.warm then { s1 with dev := .coldStart, start := { s1.start with warm := false, becameCold := true, kind := .cold, cause := 4 } } else s1; s.start.waiting = true ∧ (3 ≤ s.start.attempt ∨ s.start.tried.contains k = true) ∧ s2.start.tried.contains (1 - k) = false) ({ up with dev := .coldStart, start := { up.start with running := true, waiting := true, attempt := 1, tried := [0] } })) ∧
    ((fun (s : State) => let k := bit s.start.slotB; let s1 := coldReset (s.onStart fun r => { r with tried := if s.start.attempt < 3 then r.tried else setAdd r.tried k, startMs := satAdd 32 r.startMs 100, hbmParams := false }); let s2 := if s.start.warm then { s1 with dev := .coldStart, start := { s1.start with warm := false, becameCold := true, kind := .cold, cause := 4 } } else s1; s.start.waiting = true ∧ (3 ≤ s.start.attempt ∨ s.start.tried.contains k = true) ∧ s2.start.tried.contains (1 - k) = true) (up.onStart fun r => { r with waiting := true, attempt := 3, slotB := true, tried := [0] })) := by
  refine ⟨?_, ?_, ?_, ?_, ?_, ?_, ?_, ?_, ?_⟩ <;>
    (first | decide +kernel | (dsimp only [Meets, accepts, dockTakes, hdmCanonical, replyFits]; decide +kernel) | rfl)

/-- The hypotheses of LineCodingRoundTrips are met, clause by clause. -/
theorem witness_LineCodingRoundTrips :
    ((fun (p : Nat) (gs : List Nat) => p < 4 ∧ (∀ g ∈ gs, g < 4)) 3 [0, 1, 2, 3]) ∧
    ((fun (p : Nat) (gs : List Nat) => p < 4 ∧ (∀ g ∈ gs, g < 4)) 0 []) ∧
    ((fun (_seq : Nat) (kind : Nat) => kind < 3) 0x3405 0) ∧
    ((fun (_seq : Nat) (kind : Nat) => kind < 3) 65535 2) := by
  refine ⟨?_, ?_, ?_, ?_⟩ <;>
    (first | decide +kernel | (dsimp only [Meets, accepts, dockTakes, hdmCanonical, replyFits]; decide +kernel) | rfl)

/-- The hypotheses of LaneBargesComplete are met, clause by clause (part 1). -/
theorem witness_LaneBargesComplete_1 :
    ((fun (_lane : Nat) (b : RxBarge) (_s : State) => commaOf b.tail b.commaErrors = none) 0 { tail := 0 } sail) ∧
    ((fun (_lane : Nat) (b : RxBarge) (_s : State) => commaOf b.tail b.commaErrors = none) 0 { tail := tailOf .data, commaErrors := 3 } sail) ∧
    ((fun (lane : Nat) (n : Nat) (b : RxBarge) (s : State) => commaOf b.tail b.commaErrors = some (n, .data) ∧ (s.lane lane).rx = .active) 0 0x3405 { tail := tailOf .data } sail) ∧
    ((fun (lane : Nat) (n : Nat) (b : RxBarge) (s : State) => commaOf b.tail b.commaErrors = some (n, .data) ∧ (s.lane lane).rx = .lock) 0 13317 { tail := tailOf .data } (up.onLane 0 fun l => { l with rx := .lock })) ∧
    ((fun (lane : Nat) (n : Nat) (b : RxBarge) (s : State) => commaOf b.tail b.commaErrors = some (n, .data) ∧ (s.lane lane).rx = .caps) 0 13317 { tail := tailOf .data } (up.onLane 0 fun l => { l with rx := .caps })) ∧
    ((fun (lane : Nat) (n : Nat) (b : RxBarge) (s : State) => commaOf b.tail b.commaErrors = some (n, .data) ∧ (s.lane lane).rx ∈ [.off, .detect, .train, .test]) 0 13317 { tail := tailOf .data } up) ∧
    ((fun (lane : Nat) (n : Nat) (b : RxBarge) (s : State) => commaOf b.tail b.commaErrors = some (n, .data) ∧ (s.lane lane).rx ∈ [.off, .detect, .train, .test]) 0 13317 { tail := tailOf .data } (up.onLane 0 fun l => { l with rx := .train })) ∧
    ((fun (lane : Nat) (n : Nat) (b : RxBarge) (s : State) => commaOf b.tail b.commaErrors = some (n, .data) ∧ (s.lane lane).rx = .moored ∧ (s.lane lane).waking = false) 0 13317 { tail := tailOf .data } (up.onLane 0 fun l => { l with rx := .moored })) ∧
    ((fun (lane : Nat) (n : Nat) (b : RxBarge) (s : State) => commaOf b.tail b.commaErrors = some (n, .data) ∧ (s.lane lane).rx = .moored ∧ (s.lane lane).waking = true) 0 13317 { tail := tailOf .data } (up.onLane 0 fun l => { l with rx := .moored, waking := true })) ∧
    ((fun (_lane : Nat) (n : Nat) (k : KindSt) (b : RxBarge) (_s : State) => commaOf b.tail b.commaErrors = some (n, k) ∧ k ≠ .data) 0 13317 .training { tail := tailOf .training } up) ∧
    ((fun (_lane : Nat) (tail : Nat) (e : Nat) (_snr : Nat) (n : Nat) (k : KindSt) (_s : State) => commaOf tail e = some (n, k) ∧ k ≠ .calibration) 0 (tailOf .data) 0 0 13317 .data up) ∧
    ((fun (lane : Nat) (tail : Nat) (e : Nat) (_c : List Byte) (_a : RxAdapt) (s : State) => ((s.lane lane).rx = .detect ∨ (s.lane lane).rx = .train) ∧ commaOf tail e = none) 0 0 1 [] {} ((sail.onLane 0 fun l => { l with rx := .train }).onTime fun t => { t with elapsed := 4800 })) := by
  refine ⟨?_, ?_, ?_, ?_, ?_, ?_, ?_, ?_, ?_, ?_, ?_, ?_⟩ <;>
    (first | decide +kernel | (dsimp only [Meets, accepts, dockTakes, hdmCanonical, replyFits]; decide +kernel) | rfl)

/-- The hypotheses of LaneBargesComplete are met, clause by clause (part 2). -/
theorem witness_LaneBargesComplete_2 :
    ((fun (lane : Nat) (tail : Nat) (e : Nat) (n : Nat) (k : KindSt) (_c : List Byte) (_a : RxAdapt) (s : State) => ((s.lane lane).rx = .detect ∨ (s.lane lane).rx = .train) ∧ commaOf tail e = some (n, k) ∧ k ≠ .training) 0 (tailOf .data) 0 13317 .data [] {} (up.onLane 0 fun l => { l with rx := .detect })) ∧
    ((fun (lane : Nat) (tail : Nat) (e : Nat) (n : Nat) (k : KindSt) (_c : List Byte) (_a : RxAdapt) (s : State) => ((s.lane lane).rx = .detect ∨ (s.lane lane).rx = .train) ∧ commaOf tail e = some (n, k) ∧ k ≠ .training) 0 (tailOf .data) 0 13317 .data [] {} (up.onLane 0 fun l => { l with rx := .train })) ∧
    ((fun (_lane : Nat) (tail : Nat) (e : Nat) (_snr : Nat) (_s : State) => commaOf tail e = none) 0 0 0 0 sail) ∧
    ((fun (lane : Nat) (tail : Nat) (e : Nat) (_snr : Nat) (n : Nat) (s : State) => commaOf tail e = some (n, .calibration) ∧ (s.lane lane).rx = .active) 0 (tailOf .calibration) 2 0 0x3405 sail) ∧
    ((fun (lane : Nat) (tail : Nat) (e : Nat) (_snr : Nat) (n : Nat) (s : State) => commaOf tail e = some (n, .calibration) ∧ (s.lane lane).rx ≠ .active) 1 (tailOf .calibration) 0 0 0x3405 sail) ∧
    ((fun (lane : Nat) (_tail : Nat) (_e : Nat) (_c : List Byte) (_a : RxAdapt) (s : State) => (s.lane lane).rx = .test) 0 0 0 [] {} (sail.onLane 0 fun l => { l with rx := .test })) ∧
    ((fun (lane : Nat) (_tail : Nat) (_e : Nat) (_c : List Byte) (_a : RxAdapt) (s : State) => (s.lane lane).rx ∈ [.off, .lock, .caps, .active, .moored]) 0 0 0 [] {} sail) ∧
    ((fun (lane : Nat) (_tail : Nat) (_e : Nat) (_c : List Byte) (_a : RxAdapt) (s : State) => (s.lane lane).rx ∈ [.off, .lock, .caps, .active, .moored]) 1 0 0 [] {} sail) ∧
    ((fun (lane : Nat) (_tail : Nat) (_e : Nat) (_c : List Byte) (_a : RxAdapt) (s : State) => (s.lane lane).rx ∈ [.off, .lock, .caps, .active, .moored]) 0 0 0 [] {} (sail.onLane 0 fun l => { l with rx := .moored })) ∧
    ((fun (lane : Nat) (tail : Nat) (e : Nat) (n : Nat) (_c : List Byte) (_a : RxAdapt) (s : State) => (s.lane lane).rx = .train ∧ commaOf tail e = some (n, .training)) 0 (tailOf .training) 0 0x3405 [] {} (sail.onLane 0 fun l => { l with rx := .train })) ∧
    ((fun (lane : Nat) (tail : Nat) (e : Nat) (n : Nat) (_c : List Byte) (_a : RxAdapt) (s : State) => let x := s.lane lane; (s.lane lane).rx = .detect ∧ commaOf tail e = some (n, .training) ∧ 2 ≤ x.goodTrain ∧ x.idleHold = false) 0 (tailOf .training) 0 0x3405 [] {} (sail.onLane 0 fun l => { l with rx := .detect, goodTrain := 2 })) ∧
    ((fun (lane : Nat) (tail : Nat) (e : Nat) (n : Nat) (_c : List Byte) (_a : RxAdapt) (s : State) => let x := s.lane lane; (s.lane lane).rx = .detect ∧ commaOf tail e = some (n, .training) ∧ (x.goodTrain < 2 ∨ x.idleHold = true)) 0 (tailOf .training) 0 13317 [] {} (up.onLane 0 fun l => { l with rx := .detect, goodTrain := 1 })) := by
  refine ⟨?_, ?_, ?_, ?_, ?_, ?_, ?_, ?_, ?_, ?_, ?_, ?_⟩ <;>
    (first | decide +kernel | (dsimp only [Meets, accepts, dockTakes, hdmCanonical, replyFits]; decide +kernel) | rfl)

/-- The hypotheses of LaneBargesComplete are met, clause by clause (part 3). -/
theorem witness_LaneBargesComplete_3 :
    ((fun (lane : Nat) (tail : Nat) (e : Nat) (n : Nat) (_c : List Byte) (_a : RxAdapt) (s : State) => let x := s.lane lane; (s.lane lane).rx = .detect ∧ commaOf tail e = some (n, .training) ∧ (x.goodTrain < 2 ∨ x.idleHold = true)) 0 (tailOf .training) 2 13317 [] {} (up.onLane 0 fun l => { l with rx := .detect, goodTrain := 2, idleHold := true })) ∧
    ((fun (lane : Nat) (_xs : List Nat) (s : State) => (s.lane lane).rx ≠ .active) 1 [] sail) ∧
    ((fun (lane : Nat) (xs : List Nat) (s : State) => (s.lane lane).rx = .active ∧ shareOff (worstShare xs) ≤ (s.lanePol lane).histBound) 0 [230, 270] sail) ∧
    ((fun (lane : Nat) (xs : List Nat) (s : State) => (s.lane lane).rx = .active ∧ (s.lanePol lane).histBound < shareOff (worstShare xs) ∧ ((s.lane lane).frozenAt = none ∨ ∃ t, (s.lane lane).frozenAt = some t ∧ t + 48000 ≤ s.elapsed)) 0 [229] sail) ∧
    ((fun (lane : Nat) (t : Nat) (xs : List Nat) (s : State) => (s.lane lane).rx = .active ∧ (s.lanePol lane).histBound < shareOff (worstShare xs) ∧ (s.lane lane).frozenAt = some t ∧ s.elapsed < t + 48000) 0 0 [271, 243, 243, 243] (up.onLane 0 fun l => { l with rx := .active, frozenAt := some 0 })) ∧
    ((fun (lane : Nat) (s : State) => (s.lane lane).rx ≠ .active) 1 sail) ∧
    ((fun (lane : Nat) (s : State) => (s.lane lane).rx = .active) 0 sail) ∧
    ((fun (lane : Nat) (s : State) => (((s.lane lane).rx = .lock ∧ (s.lane lane).relocking = true) ∨ ((s.lane lane).rx = .moored ∧ (s.lane lane).waking = true)) ∧ (s.lane lane).since + 48 ≤ s.elapsed) 0 ((sail.onLane 0 fun l => { l with rx := .lock, relocking := true }).onTime fun t => { t with elapsed := 48 })) ∧
    ((fun (lane : Nat) (s : State) => (((s.lane lane).rx = .lock ∧ (s.lane lane).relocking = true) ∨ ((s.lane lane).rx = .moored ∧ (s.lane lane).waking = true)) ∧ (s.lane lane).since + 48 ≤ s.elapsed) 0 ((sail.onLane 0 fun l => { l with rx := .moored, waking := true }).onTime fun t => { t with elapsed := 48 })) ∧
    ((fun (lane : Nat) (s : State) => (s.elapsed < (s.lane lane).since + 48 ∨ (¬((s.lane lane).rx = .lock ∧ (s.lane lane).relocking = true) ∧ ¬((s.lane lane).rx = .moored ∧ (s.lane lane).waking = true)))) 0 (up.onTwin fun t => { t with helm := false, st := .inStep, session := true })) ∧
    ((fun (lane : Nat) (n : Nat) (s : State) => stateLimit (s.lane lane) = some n ∧ s.elapsed < (s.lane lane).since + n) 0 4800 (up.onLane 0 fun l => { l with rx := .train })) ∧
    ((fun (lane : Nat) (n : Nat) (s : State) => stateLimit (s.lane lane) = some n ∧ (s.lane lane).since + n ≤ s.elapsed) 0 4800 ((sail.onLane 0 fun l => { l with rx := .train }).onTime fun t => { t with elapsed := 4800 })) := by
  refine ⟨?_, ?_, ?_, ?_, ?_, ?_, ?_, ?_, ?_, ?_, ?_, ?_⟩ <;>
    (first | decide +kernel | (dsimp only [Meets, accepts, dockTakes, hdmCanonical, replyFits]; decide +kernel) | rfl)

/-- The hypotheses of LaneBargesComplete are met, clause by clause (part 4). -/
theorem witness_LaneBargesComplete_4 :
    ((fun (lane : Nat) (n : Nat) (s : State) => stateLimit (s.lane lane) = some n ∧ (s.lane lane).since + n ≤ s.elapsed) 0 48 ((sail.onLane 0 fun l => { l with rx := .caps, warm := true }).onTime fun t => { t with elapsed := 48 })) ∧
    ((fun (lane : Nat) (s : State) => stateLimit (s.lane lane) = none) 0 sail) ∧
    ((fun (lane : Nat) (s : State) => (s.lane lane).idleHold = true ∧ (s.lane lane).since + 4320 ≤ s.elapsed) 0 ((sail.onLane 0 fun l => { l with rx := .detect, idleHold := true }).onTime fun t => { t with elapsed := 4800 })) ∧
    ((fun (lane : Nat) (s : State) => ((s.lane lane).idleHold = false ∨ s.elapsed < (s.lane lane).since + 4320)) 0 (up.onTwin fun t => { t with helm := false, st := .inStep, session := true })) ∧
    ((fun (lane : Nat) (r : List Byte) (s : State) => (((s.lane lane).rx ≠ .caps ∧ (s.lane lane).rx ≠ .active) ∨ r.length < 48)) 0 [] (up.onTwin fun t => { t with helm := false, st := .inStep, session := true })) ∧
    ((fun (_lane : Nat) (r : List Byte) (_s : State) => r.length < 16) 0 [] (up.onTwin fun t => { t with helm := false, st := .inStep, session := true })) ∧
    ((fun (lane : Nat) (r : List Byte) (s : State) => ((s.lane lane).rx ≠ .active ∨ 128 ≤ lane ∨ r.length < 4)) 0 [] (up.onTwin fun t => { t with helm := false, st := .inStep, session := true })) ∧
    ((fun (lane : Nat) (r : List Byte) (s : State) => (s.lane lane).rx = .caps ∧ lane < 128 ∧ 48 ≤ r.length ∧ (s.lane lane).activeId = none) 0 (List.replicate 48 0#8) (up.onLane 0 fun l => { l with rx := .caps })) ∧
    ((fun (lane : Nat) (r : List Byte) (s : State) => (s.lane lane).rx = .active ∧ lane < 128 ∧ 48 ≤ r.length ∧ (s.lane lane).activeId = none) 0 (List.replicate 48 0) sail) ∧
    ((fun (_lane : Nat) (r : List Byte) (_s : State) => 16 ≤ r.length) 0 (List.replicate 16 0) sail) ∧
    ((fun (lane : Nat) (r : List Byte) (s : State) => (s.lane lane).rx = .active ∧ lane < 128 ∧ 4 ≤ r.length) 0 (List.replicate 4 0) sail) ∧
    ((fun (lane : Nat) (r : List Byte) (s : State) => let a : Announce := { epoch := leNat (r.take 1), seq := leNat ((r.drop 4).take 4), digest := leNat ((r.drop 8).take 4) }; let lead := seqAhead a.seq (s.lane lane).lastSeq; (lead ≤ 0 ∨ (s.manifestRt (manKey 0 lane)).announce = some a)) 0 [] (up.onTwin fun t => { t with helm := false, st := .inStep, session := true })) := by
  refine ⟨?_, ?_, ?_, ?_, ?_, ?_, ?_, ?_, ?_, ?_, ?_, ?_⟩ <;>
    (first | decide +kernel | (dsimp only [Meets, accepts, dockTakes, hdmCanonical, replyFits]; decide +kernel) | rfl)

/-- The hypotheses of LaneBargesComplete are met, clause by clause (part 5). -/
theorem witness_LaneBargesComplete_5 :
    ((fun (lane : Nat) (r : List Byte) (s : State) => let a : Announce := { epoch := leNat (r.take 1), seq := leNat ((r.drop 4).take 4), digest := leNat ((r.drop 8).take 4) }; let lead := seqAhead a.seq (s.lane lane).lastSeq; 0 < lead ∧ (s.manifestRt (manKey 0 lane)).announce ≠ some a) 0 [1, 0, 0, 0, 64, 0, 0, 0] sail) ∧
    ((fun (dir : Nat) (lane : Nat) (s : State) => (s.manifestRt (manKey dir lane)).announce = none) 0 0 sail) ∧
    ((fun (lane : Nat) (a : Announce) (s : State) => (s.manifestRt (manKey 0 lane)).announce = some a ∧ (s.manifestRt (manKey 0 lane)).pending = none) 0 { epoch := 1 } (sail.onManifestRt (manKey 0 0) fun m => { m with announce := some { epoch := 1 } })) ∧
    ((fun (lane : Nat) (a : Announce) (p : PendManifest) (s : State) => (s.manifestRt (manKey 0 lane)).announce = some a ∧ (s.manifestRt (manKey 0 lane)).pending = some p ∧ a.digest = manifestDigest (listed s 0 p.handles)) 0 { digest := manifestDigest (listed sail 0 [0]) } { handles := [0] } (sail.onManifestRt (manKey 0 0) fun m => { m with announce := some { digest := manifestDigest (listed sail 0 [0]) }, pending := some { handles := [0] } })) ∧
    ((fun (lane : Nat) (a : Announce) (p : PendManifest) (s : State) => (s.manifestRt (manKey 0 lane)).announce = some a ∧ (s.manifestRt (manKey 0 lane)).pending = some p ∧ a.digest ≠ manifestDigest (listed s 0 p.handles)) 0 {} {} (sail.onManifestRt (manKey 0 0) fun m => { m with announce := some {}, pending := some {} })) ∧
    ((fun (lane : Nat) (a : Announce) (s : State) => (s.manifestRt (manKey 1 lane)).announce = some a ∧ (s.manifestRt (manKey 1 lane)).pending = none) 0 {} (up.onManifestRt (manKey 1 0) fun m => { m with announce := some {} })) ∧
    ((fun (lane : Nat) (a : Announce) (p : PendManifest) (s : State) => (s.manifestRt (manKey 1 lane)).announce = some a ∧ (s.manifestRt (manKey 1 lane)).pending = some p) 0 {} {} (up.onManifestRt (manKey 1 0) fun m => { m with announce := some {}, pending := some {} })) ∧
    ((fun (lane : Nat) (p : PendManifest) (s : State) => (s.manifestRt (manKey 0 lane)).pending = some p ∧ p.age < p.timeoutTicks) 127 { timeoutTicks := 1 } (up.onManifestRt (manKey 0 127) fun m => { m with pending := some { timeoutTicks := 1 } })) ∧
    ((fun (lane : Nat) (p : PendManifest) (s : State) => (s.manifestRt (manKey 0 lane)).pending = some p ∧ (s.manifestRt (manKey 0 lane)).announce = none ∧ p.timeoutTicks ≤ p.age) 0 { timeoutTicks := 48, age := 48 } (sail.onManifestRt (manKey 0 0) fun m => { m with pending := some { timeoutTicks := 48, age := 48 } })) ∧
    ((fun (lane : Nat) (s : State) => ((s.manifestRt (manKey 0 lane)).pending = none ∨ (s.manifestRt (manKey 0 lane)).announce ≠ none)) 0 sail) ∧
    ((fun (lane : Nat) (s : State) => ((s.manifestRt (manKey 0 lane)).pending = none ∨ (s.manifestRt (manKey 0 lane)).announce ≠ none)) 0 (sail.onManifestRt (manKey 0 0) fun m => { m with announce := some {}, pending := some {} })) := by
  refine ⟨?_, ?_, ?_, ?_, ?_, ?_, ?_, ?_, ?_, ?_, ?_⟩ <;>
    (first | decide +kernel | (dsimp only [Meets, accepts, dockTakes, hdmCanonical, replyFits]; decide +kernel) | rfl)

/-- The hypotheses of LaneSendingComplete are met, clause by clause (part 1). -/
theorem witness_LaneSendingComplete_1 :
    ((fun (lane : Nat) (_d : List Byte) (_s : State) => 130 ≤ lane) 130 [] sail) ∧
    ((fun (lane : Nat) (_d : List Byte) (s : State) => lane < 130 ∧ s.tow.sent.contains lane = false) 129 [] sail) ∧
    ((fun (lane : Nat) (_d : List Byte) (s : State) => lane < 130 ∧ s.tow.sent.contains lane = true) 0 [] (sail.onTow fun t => { t with sent := [0] })) ∧
    ((fun (lane : Nat) (_seq : Nat) (_d : List Byte) (s : State) => ((s.lane lane).tx = .off ∨ (s.lane lane).tx = .moored ∨ (s.lane lane).idleHold = true)) 1 0 [] sail) ∧
    ((fun (lane : Nat) (_seq : Nat) (_d : List Byte) (s : State) => ((s.lane lane).tx = .off ∨ (s.lane lane).tx = .moored ∨ (s.lane lane).idleHold = true)) 0 0 [] (sail.onLane 0 fun l => { l with tx := .moored })) ∧
    ((fun (lane : Nat) (_seq : Nat) (_d : List Byte) (s : State) => ((s.lane lane).tx = .off ∨ (s.lane lane).tx = .moored ∨ (s.lane lane).idleHold = true)) 0 0 [] (sail.onLane 0 fun l => { l with idleHold := true })) ∧
    ((fun (lane : Nat) (id : Nat) (q : Nat) (s : State) => (s.lane lane).txMoor = some (q, id)) 0 1 66 (sail.onLane 0 fun l => { l with txMoor := some (66, 1) })) ∧
    ((fun (lane : Nat) (q : Nat) (s : State) => (s.lane lane).rx = .active ∧ (s.lane lane).farMoor = some q) 0 66 (sail.onLane 0 fun l => { l with farMoor := some 66 })) ∧
    ((fun (lane : Nat) (s : State) => (s.lane lane).txMoor = none) 0 (up.onTwin fun t => { t with helm := false, st := .inStep, session := true })) ∧
    ((fun (lane : Nat) (s : State) => ((s.lane lane).rx ≠ .active ∨ (s.lane lane).farMoor = none)) 0 (up.onTwin fun t => { t with helm := false, st := .inStep, session := true })) ∧
    ((fun (lane : Nat) (_e : Option Nat) (s : State) => (s.lane lane).rx ≠ .moored) 0 none sail) ∧
    ((fun (lane : Nat) (s : State) => (s.lane lane).rx = .moored) 0 (sail.onLane 0 fun l => { l with rx := .moored })) := by
  refine ⟨?_, ?_, ?_, ?_, ?_, ?_, ?_, ?_, ?_, ?_, ?_, ?_⟩ <;>
    (first | decide +kernel | (dsimp only [Meets, accepts, dockTakes, hdmCanonical, replyFits]; decide +kernel) | rfl)

/-- The hypotheses of LaneSendingComplete are met, clause by clause (part 2). -/
theorem witness_LaneSendingComplete_2 :
    ((fun (lane : Nat) (_e : Nat) (s : State) => (s.lane lane).rx = .moored) 0 255 (sail.onLane 0 fun l => { l with rx := .moored })) ∧
    ((fun (lane : Nat) (s : State) => (s.lane lane).txWake = none) 0 sail) ∧
    ((fun (lane : Nat) (jobs : List Nat) (s : State) => (s.lane lane).txWake = some jobs ∧ ((s.lane lane).tx = .moored ∨ (s.lane lane).tx = .active)) 0 [] (sail.onLane 0 fun l => { l with txWake := some [] })) ∧
    ((fun (lane : Nat) (jobs : List Nat) (s : State) => (s.lane lane).txWake = some jobs ∧ (s.lane lane).tx ≠ .moored ∧ (s.lane lane).tx ≠ .active) 0 [1] (up.onLane 0 fun l => { l with txWake := some [1] })) ∧
    ((fun (lane : Nat) (s : State) => ecoDue s lane = true) 0 (((sail.onLane 0 fun l => { l with idleFor := 48000 })).onObj fun o => { o with streams := [], trims := { o.trims with eco := true } })) ∧
    ((fun (lane : Nat) (s : State) => ecoDue s lane = false) 0 (up.onTwin fun t => { t with helm := false, st := .inStep, session := true })) ∧
    ((fun (_lane : Nat) (s : State) => s.obj.trims.eco = false ∧ s.clocks.throttle < 3) 0 sail) := by
  refine ⟨?_, ?_, ?_, ?_, ?_, ?_, ?_⟩ <;>
    (first | decide +kernel | (dsimp only [Meets, accepts, dockTakes, hdmCanonical, replyFits]; decide +kernel) | rfl)

/-- The hypotheses of HelmRowsComplete are met, clause by clause (part 1). -/
theorem witness_HelmRowsComplete_1 :
    ((fun (s : State) => (s.twin.helm = true ∨ s.serving = false)) up) ∧
    ((fun (s : State) => (s.twin.helm = true ∨ s.serving = false)) State.reset) ∧
    ((fun (s : State) => s.twin.helm = false ∧ s.serving = true) mate) ∧
    ((fun (s : State) => (s.twin.helm = false ∨ s.serving = false)) mate) ∧
    ((fun (s : State) => (s.twin.helm = false ∨ s.serving = false)) ({ up with dev := .fatalS })) ∧
    ((fun (s : State) => s.twin.helm = true ∧ s.serving = true) up) ∧
    ((fun (s : State) => s.twin.helm = true ∧ 240 ≤ s.twin.sinceRec) (up.onTwin fun t => { t with sinceRec := 240 })) ∧
    ((fun (s : State) => (s.twin.helm = false ∨ s.twin.sinceRec < 240)) mate) ∧
    ((fun (s : State) => (s.twin.helm = false ∨ s.twin.sinceRec < 240)) (up.onTwin fun t => { t with sinceRec := 239 })) ∧
    ((fun (_idle : Bool) (_n : Nat) (s : State) => s.twin.helm = true ∧ s.serving = true ∧ s.keys.lock = false ∧ s.dev ≠ .handover) false 0 up) ∧
    ((fun (_idle : Bool) (_n : Nat) (s : State) => (s.twin.helm = false ∨ s.serving = false ∨ s.keys.lock = true)) true 0 mate) ∧
    ((fun (_idle : Bool) (_n : Nat) (s : State) => (s.twin.helm = false ∨ s.serving = false ∨ s.keys.lock = true)) true 0 State.reset) := by
  refine ⟨?_, ?_, ?_, ?_, ?_, ?_, ?_, ?_, ?_, ?_, ?_, ?_⟩ <;>
    (first | decide +kernel | (dsimp only [Meets, accepts, dockTakes, hdmCanonical, replyFits]; decide +kernel) | rfl)

/-- The hypotheses of HelmRowsComplete are met, clause by clause (part 2). -/
theorem witness_HelmRowsComplete_2 :
    ((fun (_idle : Bool) (_n : Nat) (s : State) => (s.twin.helm = false ∨ s.serving = false ∨ s.keys.lock = true)) true 0 (up.onKeys fun k => { k with lock := true })) ∧
    ((fun (id : Nat) (ms : Nat) (s : State) => s.twin.yield = some (id, ms) ∧ s.twin.helm = true ∧ msTicks ms ≤ s.twin.yieldAge) 1 1 (up.onTwin fun t => { t with yield := some (1, 1), yieldAge := 48 })) ∧
    ((fun (s : State) => s.twin.yield = none) up) ∧
    ((fun (id : Nat) (ms : Nat) (s : State) => s.twin.yield = some (id, ms) ∧ (s.twin.helm = false ∨ s.twin.yieldAge < msTicks ms)) 1 10 (up.onTwin fun t => { t with yield := some (1, 10), yieldAge := 479 })) ∧
    ((fun (id : Nat) (ms : Nat) (s : State) => s.twin.yield = some (id, ms) ∧ (s.twin.helm = false ∨ s.twin.yieldAge < msTicks ms)) 1 10 (up.onTwin fun t => { t with helm := false, yield := some (1, 10), yieldAge := 480 })) := by
  refine ⟨?_, ?_, ?_, ?_, ?_⟩ <;>
    (first | decide +kernel | (dsimp only [Meets, accepts, dockTakes, hdmCanonical, replyFits]; decide +kernel) | rfl)

/-- The hypotheses of TandemRecordRowsComplete are met, clause by clause (part 1). -/
theorem witness_TandemRecordRowsComplete_1 :
    ((fun (_w : Bool) (_ok : Bool) (_r : TandemRec) (s : State) => (s.serving = false ∨ s.twin.session = false ∨ tandemDown s = true)) false true {} State.reset) ∧
    ((fun (_w : Bool) (_ok : Bool) (_r : TandemRec) (s : State) => (s.serving = false ∨ s.twin.session = false ∨ tandemDown s = true)) false true {} up) ∧
    ((fun (_w : Bool) (ok : Bool) (r : TandemRec) (s : State) => s.serving = true ∧ s.twin.session = true ∧ tandemDown s = false ∧ s.twin.helm = true ∧ ok = true ∧ r.claim = true) false true { claim := true } (State.onTwin { mate with dev := .readyHelm } fun t => { t with helm := true, st := .paired, lateRun := 0 })) ∧
    ((fun (_w : Bool) (ok : Bool) (r : TandemRec) (s : State) => s.serving = true ∧ s.twin.session = true ∧ tandemDown s = false ∧ s.twin.helm = true ∧ (ok = false ∨ r.claim = false)) true false {} (State.onTwin { mate with dev := .readyHelm } fun t => { t with helm := true, st := .paired, lateRun := 0 })) ∧
    ((fun (_w : Bool) (_ok : Bool) (_r : TandemRec) (s : State) => s.serving = true ∧ s.twin.session = true ∧ tandemDown s = false ∧ s.twin.helm = false ∧ keepsRecords s = false) true true {} (mate.onTwin fun t => { t with st := .adrift })) ∧
    ((fun (_w : Bool) (ok : Bool) (_r : TandemRec) (s : State) => s.serving = true ∧ s.twin.session = true ∧ tandemDown s = false ∧ s.twin.helm = false ∧ keepsRecords s = true ∧ ok = false) true false { rseq := 1 } (mate.onTwin fun t => { t with east := [{ rseq := 1 }], west := [{ rseq := 1 }] })) ∧
    ((fun (_w : Bool) (ok : Bool) (_r : TandemRec) (s : State) => s.serving = true ∧ s.twin.session = true ∧ tandemDown s = false ∧ s.twin.helm = false ∧ keepsRecords s = true ∧ ok = true) true true {} mate) ∧
    ((fun (s : State) => (appliesRecords s = false ∨ dueRecord s = none)) up) ∧
    ((fun (s : State) => (appliesRecords s = false ∨ dueRecord s = none)) mate) ∧
    ((fun (k : Nat) (r : TandemRec) (s : State) => appliesRecords s = true ∧ s.twin.east.length = k + 1 ∧ dueRecord s = some r) 0 { rseq := 1 } (mate.onTwin fun t => { t with east := [{ rseq := 1 }], west := [{ rseq := 1 }] })) ∧
    ((fun (n : Nat) (s : State) => (∀ r ∈ s.twin.east, r.rseq = n → wholeRecord s r = true → r.limit < s.now) ∧ appliesRecords s = true ∧ 0 ≤ seqAhead n (nextRseq s)) 1 (up.onTwin fun t => { t with helm := false, st := .inStep, session := true })) ∧
    ((fun (n : Nat) (s : State) => (appliesRecords s = false ∨ seqAhead n (nextRseq s) < 0 ∨ ∃ r ∈ s.twin.east, r.rseq = n ∧ wholeRecord s r = true ∧ s.now ≤ r.limit)) 0 (up.onTwin fun t => { t with helm := false, st := .inStep, session := true })) := by
  refine ⟨?_, ?_, ?_, ?_, ?_, ?_, ?_, ?_, ?_, ?_, ?_, ?_⟩ <;>
    (first | decide +kernel | (dsimp only [Meets, accepts, dockTakes, hdmCanonical, replyFits]; decide +kernel) | rfl)

/-- The hypotheses of TandemRecordRowsComplete are met, clause by clause (part 2). -/
theorem witness_TandemRecordRowsComplete_2 :
    ((fun (_a : TandemAck) (s : State) => (s.twin.helm = false ∨ s.serving = false ∨ s.twin.session = false ∨ tandemDown s = true)) {} mate) ∧
    ((fun (_a : TandemAck) (s : State) => (s.twin.helm = false ∨ s.serving = false ∨ s.twin.session = false ∨ tandemDown s = true)) {} up) ∧
    ((fun (a : TandemAck) (s : State) => s.twin.helm = true ∧ s.serving = true ∧ s.twin.session = true ∧ tandemDown s = false ∧ a.page = none) {} (State.onTwin { mate with dev := .readyHelm } fun t => { t with helm := true, st := .paired, lateRun := 0 })) ∧
    ((fun (a : TandemAck) (s : State) b p => s.twin.helm = true ∧ s.serving = true ∧ s.twin.session = true ∧ tandemDown s = false ∧ a.page = some (b, p)) { page := some (3, 5) } (mate.onDev (fun _ => .readyHelm) |>.onTwin fun t => { t with helm := true }) 3 5) ∧
    ((fun (s : State) => s.twin.helm = true ∧ s.twin.st = .paired ∧ 3 ≤ s.twin.lateRun ∧ 480 ≤ s.twin.sinceAck) (State.onTwin { mate with dev := .readyHelm } fun t => { t with helm := true, st := .paired, lateRun := 3, sinceAck := 480 })) ∧
    ((fun (s : State) => (s.twin.helm = false ∨ s.twin.st ≠ .paired ∨ s.twin.lateRun < 3 ∨ s.twin.sinceAck < 480)) mate) ∧
    ((fun (s : State) => (s.twin.helm = false ∨ s.twin.st ≠ .paired ∨ s.twin.lateRun < 3 ∨ s.twin.sinceAck < 480)) up) ∧
    ((fun (s : State) => (s.twin.helm = false ∨ s.twin.st ≠ .paired ∨ s.twin.lateRun < 3 ∨ s.twin.sinceAck < 480)) (State.onTwin { mate with dev := .readyHelm } fun t => { t with helm := true, st := .paired, lateRun := 2, sinceAck := 480 })) ∧
    ((fun (s : State) => (s.twin.helm = false ∨ s.twin.st ≠ .paired ∨ s.twin.lateRun < 3 ∨ s.twin.sinceAck < 480)) (State.onTwin { mate with dev := .readyHelm } fun t => { t with helm := true, st := .paired, lateRun := 3, sinceAck := 479 })) ∧
    ((fun (s : State) => appliesRecords s = true ∧ 3 ≤ s.twin.missRun ∧ 480 ≤ s.twin.sinceRec) (mate.onTwin fun t => { t with missRun := 3, sinceRec := 480 })) ∧
    ((fun (s : State) => (appliesRecords s = false ∨ s.twin.missRun < 3 ∨ s.twin.sinceRec < 480)) up) ∧
    ((fun (s : State) => (appliesRecords s = false ∨ s.twin.missRun < 3 ∨ s.twin.sinceRec < 480)) (mate.onTwin fun t => { t with missRun := 2, sinceRec := 480 })) := by
  refine ⟨?_, ?_, ?_, ?_, ?_, ?_, ?_, ?_, ?_, ?_, ?_, ?_⟩ <;>
    (first | decide +kernel | (dsimp only [Meets, accepts, dockTakes, hdmCanonical, replyFits]; decide +kernel) | rfl)

/-- The hypotheses of TandemRecordRowsComplete are met, clause by clause (part 3). -/
theorem witness_TandemRecordRowsComplete_3 :
    ((fun (s : State) => (appliesRecords s = false ∨ s.twin.missRun < 3 ∨ s.twin.sinceRec < 480)) (mate.onTwin fun t => { t with missRun := 3, sinceRec := 479 })) := by
  first | decide +kernel | (dsimp only [Meets, accepts, dockTakes, hdmCanonical, replyFits]; decide +kernel) | rfl

/-- The hypotheses of AdriftAtTheLaterOfTwo are met, clause by clause. -/
theorem witness_AdriftAtTheLaterOfTwo :
    ((fun (s : State) => appliesRecords s = true ∧ 3 ≤ s.twin.missRun ∧ 480 ≤ s.twin.sinceRec) (mate.onTwin fun t => { t with missRun := 3, sinceRec := 480 })) ∧
    ((fun (s : State) => (s.twin.missRun < 3 ∨ s.twin.sinceRec < 480)) (mate.onTwin fun t => { t with missRun := 2, sinceRec := 480 })) ∧
    ((fun (s : State) => (s.twin.missRun < 3 ∨ s.twin.sinceRec < 480)) (mate.onTwin fun t => { t with missRun := 3, sinceRec := 479 })) ∧
    ((fun (n : Nat) (s : State) => appliesRecords s = true ∧ 0 ≤ seqAhead n (nextRseq s)) 1 mate) ∧
    ((fun (r : TandemRec) (s : State) => r.sections = [] ∧ (∀ q ∈ s.twin.west, q.rseq = r.rseq → q.sections = [])) {} (up.onTwin fun t => { t with helm := false, st := .inStep, session := true })) ∧
    ((fun (s : State) => s.twin.st = .adrift) (mate.onTwin fun t => { t with st := .adrift })) := by
  refine ⟨?_, ?_, ?_, ?_, ?_, ?_⟩ <;>
    (first | decide +kernel | (dsimp only [Meets, accepts, dockTakes, hdmCanonical, replyFits]; decide +kernel) | rfl)

/-- The hypotheses of ResyncRowsComplete are met, clause by clause (part 1). -/
theorem witness_ResyncRowsComplete_1 :
    ((fun (_o : TandemOffer) (s : State) => (s.serving = false ∨ tandemDown s = true)) {} State.reset) ∧
    ((fun (_o : TandemOffer) (s : State) => (s.serving = false ∨ tandemDown s = true)) {} up) ∧
    ((fun (o : TandemOffer) (s : State) => s.serving = true ∧ tandemDown s = false ∧ proofHolds o s = false) {} (mate.onObj fun o => { o with keys := [] })) ∧
    ((fun (o : TandemOffer) (s : State) => s.serving = true ∧ tandemDown s = false ∧ proofHolds o s = true ∧ versionsAgree o s = true ∧ (s.twin.st ≠ .blocked ∨ s.twin.helm = true)) offer mate) ∧
    ((fun (o : TandemOffer) (s : State) => s.serving = true ∧ tandemDown s = false ∧ proofHolds o s = true ∧ versionsAgree o s = true ∧ s.twin.st = .blocked ∧ s.twin.helm = false) offer (mate.onTwin fun t => { t with st := .blocked })) ∧
    ((fun (o : TandemOffer) (s : State) => s.serving = true ∧ tandemDown s = false ∧ proofHolds o s = true ∧ versionsAgree o s = false ∧ s.twin.helm = true) offer ((mate.onTwin fun t => { t with helm := true }).onFw fun f => { f with image := { f.image with partnerMin := 1 } })) ∧
    ((fun (o : TandemOffer) (s : State) => s.serving = true ∧ tandemDown s = false ∧ proofHolds o s = true ∧ versionsAgree o s = false ∧ s.twin.helm = false) offer (mate.onFw fun f => { f with image := { f.image with partnerMin := 1 } })) ∧
    ((fun (_n : Nat) (_o : TandemOffer) (s : State) => (s.serving = false ∨ s.twin.session = false ∨ tandemDown s = true ∨ s.twin.sessionAge < 172800000)) 0 {} up) ∧
    ((fun (_n : Nat) (_o : TandemOffer) (s : State) => (s.serving = false ∨ s.twin.session = false ∨ tandemDown s = true ∨ s.twin.sessionAge < 172800000)) 0 {} (mate.onTwin fun t => { t with sessionAge := 172799999 })) ∧
    ((fun (_n : Nat) (_o : TandemOffer) (s : State) => s.serving = true ∧ s.twin.session = true ∧ tandemDown s = false ∧ 172800000 ≤ s.twin.sessionAge) 0 offer (mate.onTwin fun t => { t with sessionAge := 172800000 })) ∧
    ((fun (_x : Option Snapshot) (s : State) => (s.twin.helm = true ∨ s.twin.st ≠ .resyncing ∨ s.twin.phase = .none)) none (up.onTwin fun t => { t with helm := false, st := .inStep, session := true })) ∧
    ((fun (_x : Option Snapshot) (s : State) => s.twin.helm = false ∧ s.twin.st = .resyncing ∧ s.twin.phase = .session ∧ partnerRefused s = true) none (mate.onTwin fun t => { t with st := .resyncing, phase := .session, partnerMin := 1 })) := by
  refine ⟨?_, ?_, ?_, ?_, ?_, ?_, ?_, ?_, ?_, ?_, ?_, ?_⟩
  · first | decide +kernel | (dsimp only [Meets, accepts, dockTakes, hdmCanonical, replyFits]; decide +kernel) | rfl
  · first | decide +kernel | (dsimp only [Meets, accepts, dockTakes, hdmCanonical, replyFits]; decide +kernel) | rfl
  · first | decide +kernel | (dsimp only [Meets, accepts, dockTakes, hdmCanonical, replyFits]; decide +kernel) | rfl
  · exact ⟨by decide +kernel, by decide +kernel, offer_holds _ rfl, by decide +kernel, by decide +kernel⟩
  · exact ⟨by decide +kernel, by decide +kernel, offer_holds _ rfl, by decide +kernel, by decide +kernel, by decide +kernel⟩
  · exact ⟨by decide +kernel, by decide +kernel, offer_holds _ rfl, by decide +kernel, by decide +kernel⟩
  · exact ⟨by decide +kernel, by decide +kernel, offer_holds _ rfl, by decide +kernel, by decide +kernel⟩
  · first | decide +kernel | (dsimp only [Meets, accepts, dockTakes, hdmCanonical, replyFits]; decide +kernel) | rfl
  · first | decide +kernel | (dsimp only [Meets, accepts, dockTakes, hdmCanonical, replyFits]; decide +kernel) | rfl
  · first | decide +kernel | (dsimp only [Meets, accepts, dockTakes, hdmCanonical, replyFits]; decide +kernel) | rfl
  · first | decide +kernel | (dsimp only [Meets, accepts, dockTakes, hdmCanonical, replyFits]; decide +kernel) | rfl
  · first | decide +kernel | (dsimp only [Meets, accepts, dockTakes, hdmCanonical, replyFits]; decide +kernel) | rfl

/-- The hypotheses of ResyncRowsComplete are met, clause by clause (part 2). -/
theorem witness_ResyncRowsComplete_2 :
    ((fun (_x : Option Snapshot) (s : State) => s.twin.helm = false ∧ s.twin.st = .resyncing ∧ s.twin.phase = .session ∧ partnerRefused s = false ∧ s.twin.session = true) none (mate.onTwin fun t => { t with st := .resyncing, phase := .session })) ∧
    ((fun (_x : Option Snapshot) (s : State) => s.twin.helm = false ∧ s.twin.st = .resyncing ∧ s.twin.phase = .session ∧ s.twin.session = false) none (mate.onTwin fun t => { t with st := .resyncing, phase := .session, session := false })) ∧
    ((fun (x : Option Snapshot) (s : State) y => s.twin.helm = false ∧ s.twin.st = .resyncing ∧ s.twin.phase = .snapshot ∧ x = some y) (some {}) (mate.onTwin fun t => { t with st := .resyncing, phase := .snapshot }) {}) ∧
    ((fun (x : Option Snapshot) (s : State) => s.twin.helm = false ∧ s.twin.st = .resyncing ∧ s.twin.phase = .snapshot ∧ x = none) none (mate.onTwin fun t => { t with st := .resyncing, phase := .snapshot })) ∧
    ((fun (x : Option Snapshot) (s : State) y => s.twin.helm = false ∧ s.twin.st = .resyncing ∧ s.twin.phase = .graphics ∧ x = some y) (some {}) (mate.onTwin fun t => { t with st := .resyncing, phase := .graphics }) {}) ∧
    ((fun (x : Option Snapshot) (s : State) => s.twin.helm = false ∧ s.twin.st = .resyncing ∧ s.twin.phase = .graphics ∧ x = none) none (mate.onTwin fun t => { t with st := .resyncing, phase := .graphics })) ∧
    ((fun (_x : Option Snapshot) (s : State) => s.twin.helm = false ∧ s.twin.st = .resyncing ∧ s.twin.phase = .fill ∧ ringsFull s = true ∧ allPrimed s = true) none (mate.onTwin fun t => { t with st := .resyncing, phase := .fill })) ∧
    ((fun (_x : Option Snapshot) (s : State) => s.twin.helm = false ∧ s.twin.st = .resyncing ∧ s.twin.phase = .fill ∧ (ringsFull s = false ∨ allPrimed s = false)) none ({ (mate.onTwin fun t => { t with st := .resyncing, phase := .fill }) with wharf := { mate.wharf with berths := [(0, { slots := 4 })] }, obj := sail.obj })) ∧
    ((fun (_x : Option Snapshot) (s : State) => s.twin.helm = false ∧ s.twin.st = .resyncing ∧ s.twin.phase = .check ∧ 1 ≤ s.twin.fillChecks) none (mate.onTwin fun t => { t with st := .resyncing, phase := .check, fillChecks := 1 })) ∧
    ((fun (_x : Option Snapshot) (s : State) => s.twin.helm = false ∧ s.twin.st = .resyncing ∧ s.twin.phase = .check ∧ s.twin.fillChecks = 0) (some {}) (mate.onTwin fun t => { t with st := .resyncing, phase := .check, phaseAge := 480 })) ∧
    ((fun (s : State) => s.twin.helm = false ∧ s.twin.st = .resyncing ∧ s.twin.phase ≠ .none ∧ phaseBound s < s.twin.phaseAge) (mate.onTwin fun t => { t with st := .resyncing, phase := .check, phaseAge := 481 })) ∧
    ((fun (s : State) => (s.twin.helm = true ∨ s.twin.st ≠ .resyncing ∨ s.twin.phase = .none ∨ s.twin.phaseAge ≤ phaseBound s)) (up.onTwin fun t => { t with helm := false, st := .inStep, session := true })) := by
  refine ⟨?_, ?_, ?_, ?_, ?_, ?_, ?_, ?_, ?_, ?_, ?_, ?_⟩ <;>
    (first | decide +kernel | (dsimp only [Meets, accepts, dockTakes, hdmCanonical, replyFits]; decide +kernel) | rfl)

/-- The hypotheses of ResyncRowsComplete are met, clause by clause (part 3). -/
theorem witness_ResyncRowsComplete_3 :
    ((fun (a : Nat) (s : State) => s.twin.retryAge = some a ∧ s.serving = true ∧ s.twin.helm = false ∧ s.twin.st = .adrift ∧ s.obj.twinPol.autoResync = true ∧ s.obj.twinPol.retryS * 48000 ≤ a) 480000 (mate.onTwin fun t => { t with st := .adrift, retryAge := some 480000 })) ∧
    ((fun (s : State) => (s.twin.retryAge = none ∨ s.serving = false ∨ s.twin.helm = true ∨ s.twin.st ≠ .adrift ∨ s.obj.twinPol.autoResync = false)) (up.onTwin fun t => { t with helm := false, st := .inStep, session := true })) ∧
    ((fun (a : Nat) (s : State) => s.twin.retryAge = some a ∧ a < s.obj.twinPol.retryS * 48000) 479999 (mate.onTwin fun t => { t with retryAge := some 479999 })) ∧
    ((fun (h : Nat) (p : Nat) (k : HeadCommit) (s : State) => (s.head h).commit = some k ∧ k.waiting = true ∧ k.cfg.plane = some p) 0 0 { waiting := true, cfg := headCfg } (sail.onHead 0 fun r => { r with commit := some { waiting := true, cfg := headCfg } })) ∧
    ((fun (h : Nat) (s : State) => (∀ k, (s.head h).commit = some k → k.waiting = false)) 0 (up.onTwin fun t => { t with helm := false, st := .inStep, session := true })) := by
  refine ⟨?_, ?_, ?_, ?_, ?_⟩ <;>
    (first | decide +kernel | (dsimp only [Meets, accepts, dockTakes, hdmCanonical, replyFits]; decide +kernel) | rfl)

end Sys2Proof.Tests
end

/-! PROOFS.  Records read back (R4): the bytes that spell a number, the memory that a list of fields writes, and the
statement about `recordBytes`. -/

namespace Sys2Proof.Proofs
open Sys2Proof Sys2Proof.Machine

/-! ### Numbers as bytes -/

@[simp] theorem toLe_length (w v : Nat) : (toLe w v).length = w := by
  induction w generalizing v with
  | zero => rfl
  | succ w ih => simp [toLe, ih]

/-- `w` bytes carry a number modulo 256 ^ w. -/
@[simp] theorem leNat_toLe (w v : Nat) : leNat (toLe w v) = v % 256 ^ w := by
  induction w generalizing v with
  | zero => simp [toLe, leNat, Nat.mod_one]
  | succ w ih =>
    calc leNat (toLe (w + 1) v)
        = v % 256 + 256 * (v / 256 % 256 ^ w) := by simp [toLe, leNat, ih]
      _ = v % (256 * 256 ^ w) := Nat.mod_mul.symm
      _ = v % 256 ^ (w + 1) := by rw [pow_succ']

/-! ### Parts of what is read -/

/-- A stretch of the bytes read is what reading the stretch alone gives. -/
theorem take_drop_memRead {m : List Host.Cell} {a n off w : Nat} (h : off + w ≤ n) :
    ((memRead m a n).drop off).take w = memRead m (a + off) w := by
  apply List.ext_getElem?
  intro i
  by_cases hi : i < w
  · rw [List.getElem?_take_of_lt hi, List.getElem?_drop, memRead_getElem (by omega), memRead_getElem hi, Nat.add_assoc]
  · rw [List.getElem?_eq_none (by simp; omega), List.getElem?_eq_none (by simp; omega)]

/-! ### Fields written one after another -/

/-- The memory after the fields (offset, bytes, value) are written in turn, as `recordBytes` writes them. -/
def writeFields (m : List Host.Cell) (fs : List (Nat × Nat × Nat)) : List Host.Cell :=
  fs.foldl (fun m f => memWrite m f.1 (toLe f.2.1 f.2.2)) m

theorem recordBytes_eq_memRead (n : Nat) (fs : List (Nat × Nat × Nat)) : recordBytes n fs = memRead (writeFields [] fs) 0 n := rfl

theorem writeFields_cons (m : List Host.Cell) (f : Nat × Nat × Nat) (fs : List (Nat × Nat × Nat)) :
    writeFields m (f :: fs) = writeFields (memWrite m f.1 (toLe f.2.1 f.2.2)) fs := rfl

/-- Bytes that no field touches read as before. -/
theorem memRead_writeFields_apart {m : List Host.Cell} {a n : Nat} {fs : List (Nat × Nat × Nat)} (hm : Memory.wf m = true)
    (hfs : ∀ f ∈ fs, f.1 + f.2.1 ≤ a ∨ a + n ≤ f.1) : memRead (writeFields m fs) a n = memRead m a n := by
  induction fs generalizing m with
  | nil => rfl
  | cons f fs ih =>
    obtain ⟨hf, hrest⟩ := List.forall_mem_cons.mp hfs
    rw [writeFields_cons, ih (memWrite_wf hm) hrest, memRead_memWrite_apart hm (by rw [toLe_length]; exact hf.symm)]

/-- A byte that no field touches reads as before. -/
theorem memGet_writeFields_apart {m : List Host.Cell} {a : Nat} {fs : List (Nat × Nat × Nat)} (hm : Memory.wf m = true)
    (hfs : ∀ f ∈ fs, a < f.1 ∨ f.1 + f.2.1 ≤ a) : memGet (writeFields m fs) a = memGet m a := by
  have hread := memRead_writeFields_apart (n := 1) hm fun f hf => (hfs f hf).symm
  simpa [memRead] using hread

/-- A field that no later one touches reads back as its bytes. -/
theorem memRead_writeFields_first {m : List Host.Cell} {off w v : Nat} {fs : List (Nat × Nat × Nat)} (hm : Memory.wf m = true)
    (hfs : ∀ f ∈ fs, f.1 + f.2.1 ≤ off ∨ off + w ≤ f.1) : memRead (writeFields m ((off, w, v) :: fs)) off w = toLe w v := by
  have hwrite : memRead (memWrite m off (toLe w v)) off w = toLe w v := by
    simpa only [toLe_length] using memRead_memWrite (bs := toLe w v) (a := off) hm
  rw [writeFields_cons, memRead_writeFields_apart (memWrite_wf hm) hfs, hwrite]

/-! ### The statement -/

/-- Settles O18: a record is read out of the memory that its fields write, so each clause is one about that memory. -/
theorem recordFieldsReadBack : Obligations.RecordFieldsReadBack := by
  have hempty : Memory.wf [] = true := rfl
  refine ⟨?field, ?gap, ?length⟩
  case field =>
    intro n off w v fs hin hlater
    rw [recordBytes_eq_memRead, take_drop_memRead hin, Nat.zero_add, memRead_writeFields_first hempty hlater, leNat_toLe]
  case gap =>
    intro n a fs ha hfs
    rw [recordBytes_eq_memRead, memRead_getElem ha, Nat.zero_add, memGet_writeFields_apart hempty hfs]
    rfl
  case length =>
    intro n fs
    rw [recordBytes_eq_memRead, memRead_length]

end Sys2Proof.Proofs

/-! PROOFS.  Lane streams and bays (spec/02_streams_holds_handles.md): how a row's answer follows from its meaning, the numbering
of bays, and the statement about DEFINE_STREAM, RELEASE_STREAM and SET_MANIFEST. -/

namespace Sys2Proof.Proofs
open Sys2Proof Sys2Proof.Machine

/-! ### Rows and their meanings -/

/-- A row answers the state that its meaning gives. -/
theorem answers_of_eq {i : Instr} {s t u : State} (h : u = t) (hexec : exec i s = answer u := by rfl) : Answers i s t :=
  h ▸ hexec

/-- A mailbox row carries out what its command's effect gives under the row's conditions. -/
theorem carries_of_effect {row : Cmd → Instr} {i : CmdInfo} {body res : Cmd → State → Res} {pre : Cmd → State → Prop}
    (h : ∀ c s, pre c s → body c s = res c s) (hexec : ∀ c s, exec (row c) s = answer (runCmd i body c s) := by intros; rfl) :
    Carries row i pre res := by
  intro c s haccepts hpre
  rw [hexec, answer_accepts haccepts, h c _ hpre]

/-! ### Bay numbers (R24) -/

@[simp] theorem keyBay_streamKey {dir bay : Nat} (h : bay < 8192) : keyBay (streamKey dir bay) = bay := by
  simp only [keyBay, streamKey]; omega

@[simp] theorem keyLane_streamKey {dir bay : Nat} (h : bay < 8192) : keyLane (streamKey dir bay) = bay / 64 := by
  simp only [keyLane, streamKey]; omega

/-- Settles O21: the lane, the hold and the bay-in-hold are the digits of a bay number in the radices 128, 8 and 8. -/
theorem baysAreNumbered : Obligations.BaysAreNumbered := by
  refine ⟨?digits, ?number⟩
  case digits =>
    intro dir lane hold b _ hlane hhold hb bay
    have hbay : bay < 8192 := by omega
    rw [keyBay_streamKey hbay, keyLane_streamKey hbay, bayHold]
    omega
  case number =>
    intro bay hbay
    rw [keyLane, bayHold]
    omega

/-! ### DEFINE_STREAM (R42, R43, R539) -/

/-- The stream that a record of a stream command names. -/
abbrev recordKey (c : Cmd) : Nat := streamKey (c.u8 2) (c.u16 0)

/-- No check of R539 refuses the record. -/
def DefineChecksPass (c : Cmd) (s : State) : Prop :=
  firstBad (defineRange c) = none ∧ firstBad (defineState c s) = none ∧ firstBad (defineFormat c s) = none

section
variable {c : Cmd} {s : State}

theorem defineStream_of_range {off : Nat} (h : firstBad (defineRange c) = some off) : defineStream c s = rej .range off s := by
  simp only [defineStream, h]

theorem defineStream_of_state {off : Nat} (hrange : firstBad (defineRange c) = none) (h : firstBad (defineState c s) = some off) :
    defineStream c s = rej .state off s := by
  simp only [defineStream, hrange, h]

theorem defineStream_of_format {off : Nat} (hrange : firstBad (defineRange c) = none) (hstate : firstBad (defineState c s) = none)
    (h : firstBad (defineFormat c s) = some off) : defineStream c s = rej .format off s := by
  simp only [defineStream, hrange, hstate, h]

/-- A new definition of an undefined or DEFINED stream, AMEND clear. -/
theorem defineStream_new (h : DefineChecksPass c s) (hamend : c.u8 5 = 0)
    (hnew : definition c .defined (s.stream (recordKey c)).gen ≠ s.stream (recordKey c)) :
    let y := definition c .defined (if (s.stream (recordKey c)).st = .undef then 1 else genNext (s.stream (recordKey c)).gen)
    defineStream c s = ok (redefineBerth (recordKey c) y (putStream (recordKey c) y s)) := by
  obtain ⟨hrange, hstate, hformat⟩ := h
  simp only [defineStream, hrange, hstate, hformat, hamend]
  exact if_neg hnew

/-- A new definition of a LIVE stream, AMEND set. -/
theorem defineStream_amended {t : State} (h : DefineChecksPass c s) (hamend : c.u8 5 = 1)
    (hnew : definition c .live (s.stream (recordKey c)).gen ≠ s.stream (recordKey c))
    (ht : amendStream (recordKey c) (definition c .live (genNext (s.stream (recordKey c)).gen)) s = some t) : defineStream c s = ok t := by
  obtain ⟨hrange, hstate, hformat⟩ := h
  simp only [defineStream, hrange, hstate, hformat, hamend, ht]
  exact if_neg hnew

/-- The definition in force again. -/
theorem defineStream_same (h : DefineChecksPass c s)
    (hsame : (c.u8 5 = 0 ∧ definition c .defined (s.stream (recordKey c)).gen = s.stream (recordKey c)) ∨
      (c.u8 5 = 1 ∧ definition c .live (s.stream (recordKey c)).gen = s.stream (recordKey c))) : defineStream c s = ok s := by
  obtain ⟨hrange, hstate, hformat⟩ := h
  simp only [defineStream, hrange, hstate, hformat]
  rcases hsame with ⟨hamend, hsame⟩ | ⟨hamend, hsame⟩
  · exact (if_neg (by omega)).trans (if_pos hsame)
  · exact (if_pos hamend).trans (if_pos hsame)

end

/-- What the streams read after a definition is written. -/
theorem putStream_stream {k j : Nat} {x : StreamObj} {s : State} (h : tableOk ({} : StreamObj) s.obj.streams = true) :
    (putStream k x s).stream j = if j = k then x else s.stream j :=
  tget_tset h

/-! ### RELEASE_STREAM (R44, R45) -/

/-- A stream that becomes undefined keeps nothing but its generation, advanced. -/
theorem setUndef_stream {k : Nat} {s : State} (h : tableOk ({} : StreamObj) (clearStream k (s.stream k) s).obj.streams = true) :
    (setUndef k s).stream k = { gen := genNext (s.stream k).gen } :=
  (tget_tset h).trans (if_pos rfl)

/-- RELEASE_STREAM of a valid handle, by the state of its stream. -/
theorem releaseStream_by_state {c : Cmd} {s : State} (hhandle : c.u16 0 < 8192) (hdir : c.u8 2 ≤ 1) :
    ((s.stream (recordKey c)).st = .undef ∨ (s.stream (recordKey c)).st = .releasing → releaseStream c s = rej .state 0xFFFF s) ∧
    ((s.stream (recordKey c)).st = .defined →
      releaseStream c s = if inPending s (recordKey c) then rej .state 0x20 s else ok (setUndef (recordKey c) s)) ∧
    ((s.stream (recordKey c)).st = .live →
      releaseStream c s = if streamBusy s (recordKey c) (s.stream (recordKey c)) && !bitOf (c.u8 3) 0 then rej .state 0xFFFF s
        else ok (releaseLive c (recordKey c) (s.stream (recordKey c)) s)) := by
  simp only [releaseStream, firstBad, hhandle, hdir, decide_true, if_true]
  refine ⟨?unowned, fun hdefined => ?defined, fun hlive => ?live⟩
  case unowned =>
    rintro (hundef | hreleasing)
    · simp only [hundef]
    · simp only [hreleasing]
  case defined => simp only [hdefined]
  case live => simp only [hlive]

/-! ### SET_MANIFEST (R47 to R55) -/

/-- The fields of a SET_MANIFEST record are in range. -/
theorem manifestFields_ok {c : Cmd} (hlane : c.u8 0 < 128) (hdir : c.u8 1 ≤ 1) (hcount : c.u8 2 ≤ 64) (htime : c.u8 1 = 1 ∨ c.u16 4 ≤ 60000) :
    firstBad [(decide (c.u8 0 < 128), 0x20), (decide (c.u8 1 ≤ 1), 0x21), (decide (c.u8 2 ≤ 64), 0x22),
      (decide (c.u8 1 = 1 ∨ c.u16 4 ≤ 60000), 0x24)] = none := by
  simp only [firstBad, hlane, hdir, hcount, htime, decide_true, if_true]

section
variable {c : Cmd} {s : State}

/-- A manifest that R47 refuses. -/
theorem setManifest_refused {st : Status} {d : Nat} (hlane : c.u8 0 < 128) (hdir : c.u8 1 ≤ 1) (hcount : c.u8 2 ≤ 64)
    (htime : c.u8 1 = 1 ∨ c.u16 4 ≤ 60000) (h : manifestFault s (c.u8 1) (c.u8 0) (manifestList c) = some (st, d)) :
    setManifest c s = rej st d s := by
  simp only [setManifest, manifestFields_ok hlane hdir hcount htime, h]

/-- A manifest that R47 allows, and that needs no berths (R214): a transmit one, or SYNC-ALL clear. -/
theorem setManifest_accepted (hlane : c.u8 0 < 128) (hdir : c.u8 1 ≤ 1) (hcount : c.u8 2 ≤ 64) (htime : c.u8 1 = 1 ∨ c.u16 4 ≤ 60000)
    (h : manifestFault s (c.u8 1) (c.u8 0) (manifestList c) = none) (hsync : c.u8 1 = 1 ∨ s.obj.trims.syncAll = false) :
    setManifest c s = acceptManifest c s := by
  have hnone : ¬(c.u8 1 = 0 ∧ s.obj.trims.syncAll = true) := by
    rintro ⟨hzero, hset⟩
    rcases hsync with hone | hclear
    · omega
    · simp [hset] at hclear
  simp only [setManifest, manifestFields_ok hlane hdir hcount htime, h, if_neg hnone]

/-- On a lane direction that switches at an epoch, the manifest waits. -/
theorem acceptManifest_waits (h : atEpoch s (c.u8 1) (c.u8 0) = true) : ∃ t, acceptManifest c s = queued (.manifest (manKey (c.u8 1) (c.u8 0))) t :=
  ⟨_, if_pos h⟩

/-- On any other lane direction it switches at once. -/
theorem acceptManifest_at_once (h : atEpoch s (c.u8 1) (c.u8 0) = false) : ∃ t, acceptManifest c s = ok t :=
  ⟨_, if_neg (by simp [h])⟩

end

/-! ### The statement -/

/-- Settles O22: each clause is one equation of the row's effect, and the two frame clauses are what the table of streams reads
after a write. -/
theorem streamCommandsComplete : Obligations.StreamCommandsComplete := by
  refine ⟨?define, ?release, ?manifest⟩
  case define =>
    intro passes key next
    refine ⟨?new, ?amended, ?same, ?sameLive, ?range, ?state, ?format, ?frame⟩
    case new => exact carries_of_effect fun c s ⟨hpass, hamend, hnew⟩ => defineStream_new hpass hamend hnew
    case amended => exact fun t => carries_of_effect fun c s ⟨hpass, hamend, hnew, ht⟩ => defineStream_amended hpass hamend hnew ht
    case same => exact carries_of_effect fun c s ⟨hpass, hsame⟩ => defineStream_same hpass (.inl hsame)
    case sameLive => exact carries_of_effect fun c s ⟨hpass, hsame⟩ => defineStream_same hpass (.inr hsame)
    case range => exact fun off => carries_of_effect fun c s h => defineStream_of_range h
    case state => exact fun off => carries_of_effect fun c s ⟨hrange, h⟩ => defineStream_of_state hrange h
    case format => exact fun off => carries_of_effect fun c s ⟨hrange, hstate, h⟩ => defineStream_of_format hrange hstate h
    case frame =>
      intro c s hok _
      exact ⟨(putStream_stream hok).trans (if_pos rfl), rfl, fun k hk => (putStream_stream hok).trans (if_neg hk)⟩
  case release =>
    intro key good
    refine ⟨?defined, ?live, ?gone, ?busy, ?undefined⟩
    case defined =>
      refine carries_of_effect fun c s ⟨⟨hhandle, hdir⟩, hst, hpending⟩ => ?_
      obtain ⟨-, hdefined, -⟩ := releaseStream_by_state hhandle hdir
      exact (hdefined hst).trans (if_neg (Bool.eq_false_iff.mp hpending))
    case live =>
      refine carries_of_effect fun c s ⟨⟨hhandle, hdir⟩, hst, hfree⟩ => ?_
      obtain ⟨-, -, hlive⟩ := releaseStream_by_state hhandle hdir
      refine (hlive hst).trans (if_neg ?_)
      simp only [Bool.and_eq_true, Bool.not_eq_true', not_and_or, Bool.not_eq_true, Bool.not_eq_false]
      exact hfree
    case gone =>
      refine carries_of_effect fun c s ⟨⟨hhandle, hdir⟩, hst⟩ => ?_
      obtain ⟨hgone, -, -⟩ := releaseStream_by_state hhandle hdir
      exact hgone hst
    case busy =>
      refine carries_of_effect fun c s ⟨⟨hhandle, hdir⟩, hst, hbusy, hforce⟩ => ?_
      obtain ⟨-, -, hlive⟩ := releaseStream_by_state hhandle hdir
      refine (hlive hst).trans (if_pos ?_)
      simp only [Bool.and_eq_true, Bool.not_eq_true']
      exact ⟨hbusy, hforce⟩
    case undefined =>
      intro k s hok
      rw [setUndef_stream hok]
      exact ⟨rfl, rfl⟩
  case manifest =>
    intro good
    refine ⟨?accepted, ?refused, ?waits, ?atOnce⟩
    case accepted =>
      exact carries_of_effect fun c s ⟨⟨hlane, hdir, hcount, htime, hfault⟩, hsync⟩ => setManifest_accepted hlane hdir hcount htime hfault hsync
    case refused =>
      exact fun st d => carries_of_effect fun c s ⟨hlane, hdir, hcount, htime, hfault⟩ => setManifest_refused hlane hdir hcount htime hfault
    case waits =>
      intro c s hepoch
      obtain ⟨t, ht⟩ := acceptManifest_waits hepoch
      rw [ht]
      exact ⟨rfl, rfl⟩
    case atOnce =>
      intro c s hepoch
      obtain ⟨t, ht⟩ := acceptManifest_at_once hepoch
      rw [ht]
      rfl

end Sys2Proof.Proofs

/-! PROOFS.  A lane's barges and its receiver (spec/11_towpath.md): what a barge, a lost comma, a window of levels and a timeout of
bring-up do in each state of the receiver. -/

namespace Sys2Proof.Proofs
open Sys2Proof Sys2Proof.Machine

section
variable {lane n : Nat} {s : State}

/-! ### Data barges (R338 to R340, R354) -/

section
variable {b : RxBarge}

theorem dataBarge_badComma (h : commaOf b.tail b.commaErrors = none) : dataBarge lane b s = badComma lane s := by
  simp only [dataBarge, h]

/-- A barge of another kind is not read as data. -/
theorem dataBarge_otherKind {k : KindSt} (h : commaOf b.tail b.commaErrors = some (n, k)) (hk : k ≠ .data) : dataBarge lane b s = s := by
  simp only [dataBarge, h, if_pos hk]

theorem dataBarge_active (h : commaOf b.tail b.commaErrors = some (n, .data)) (hrx : (s.lane lane).rx = .active) :
    dataBarge lane b s = activeBarge lane b s := by
  simp [dataBarge, h, hrx]

theorem dataBarge_lock (h : commaOf b.tail b.commaErrors = some (n, .data)) (hrx : (s.lane lane).rx = .lock) :
    dataBarge lane b s = lockBarge lane b s := by
  simp [dataBarge, h, hrx]

theorem dataBarge_caps (h : commaOf b.tail b.commaErrors = some (n, .data)) (hrx : (s.lane lane).rx = .caps) :
    dataBarge lane b s = capsBarge lane b s := by
  simp [dataBarge, h, hrx]

/-- A receiver that reads no data leaves a data barge unread. -/
theorem dataBarge_unread (h : commaOf b.tail b.commaErrors = some (n, .data)) (hrx : (s.lane lane).rx ∈ [.off, .detect, .train, .test]) :
    dataBarge lane b s = s := by
  simp only [List.mem_cons, List.not_mem_nil, or_false] at hrx
  rcases hrx with hrx | hrx | hrx | hrx <;> simp [dataBarge, h, hrx]

theorem dataBarge_asleep (h : commaOf b.tail b.commaErrors = some (n, .data)) (hrx : (s.lane lane).rx = .moored)
    (hwaking : (s.lane lane).waking = false) : dataBarge lane b s = s := by
  simp [dataBarge, h, hrx, hwaking]

/-- The first good header ends a wake. -/
theorem dataBarge_waking (h : commaOf b.tail b.commaErrors = some (n, .data)) (hrx : (s.lane lane).rx = .moored)
    (hwaking : (s.lane lane).waking = true) :
    dataBarge lane b s = if hcrcOf b.payload = hdr b.payload 0x8E 2 ∧ b.codewords.getD 0 none ≠ none then
        relocked lane (hdr b.payload 4 1) (s.onLane lane fun l =>
          { l with lastSeq := hdr b.payload 0 4, expSeq := wrapAdd 32 (hdr b.payload 0 4) 1, adopt := false })
      else s := by
  simp [dataBarge, h, hrx, hwaking]

end

/-! ### Calibration barges (R337, R357) -/

section
variable {tail e snr : Nat}

theorem calibrationBarge_badComma (h : commaOf tail e = none) : calibrationBarge lane tail e snr s = badComma lane s := by
  simp only [calibrationBarge, h]

theorem calibrationBarge_otherKind {k : KindSt} (h : commaOf tail e = some (n, k)) (hk : k ≠ .calibration) :
    calibrationBarge lane tail e snr s = s := by
  simp only [calibrationBarge, h, if_pos hk]

theorem calibrationBarge_active (h : commaOf tail e = some (n, .calibration)) (hrx : (s.lane lane).rx = .active) :
    calibrationBarge lane tail e snr s = measureSnr lane snr ((epochBegins lane (s.lane lane).expSeq s).onLane lane fun l =>
      { l with lastSeq := l.expSeq, expSeq := wrapAdd 32 l.expSeq 1, badCommas := 0, seals := [], rxHolds := [] }) := by
  simp [calibrationBarge, h, hrx]

theorem calibrationBarge_unmeasured (h : commaOf tail e = some (n, .calibration)) (hrx : (s.lane lane).rx ≠ .active) :
    calibrationBarge lane tail e snr s = s := by
  simp [calibrationBarge, h, hrx]

end

/-! ### Training barges (R346 to R348, R361) -/

section
variable {tail e : Nat} {c : List Byte} {a : RxAdapt}

/-- A receiver in bring-up is not in TEST, and reads training barges. -/
theorem trains_of_bringup (hrx : (s.lane lane).rx = .detect ∨ (s.lane lane).rx = .train) :
    (s.lane lane).rx ≠ .test ∧ ¬((s.lane lane).rx ≠ .detect ∧ (s.lane lane).rx ≠ .train) := by
  rcases hrx with hrx | hrx <;> simp [hrx]

theorem trainingBarge_badComma (hrx : (s.lane lane).rx = .detect ∨ (s.lane lane).rx = .train) (h : commaOf tail e = none) :
    trainingBarge lane tail e c a s = badComma lane s := by
  obtain ⟨htest, hreads⟩ := trains_of_bringup hrx
  simp only [trainingBarge, if_neg htest, if_neg hreads, h]

theorem trainingBarge_otherKind {k : KindSt} (hrx : (s.lane lane).rx = .detect ∨ (s.lane lane).rx = .train) (h : commaOf tail e = some (n, k))
    (hk : k ≠ .training) : trainingBarge lane tail e c a s = s.onLane lane fun l => { l with goodTrain := 0 } := by
  obtain ⟨htest, hreads⟩ := trains_of_bringup hrx
  simp only [trainingBarge, if_neg htest, if_neg hreads, h, if_pos hk]

theorem trainingBarge_test (hrx : (s.lane lane).rx = .test) :
    trainingBarge lane tail e c a s = s.onLane lane fun l => { l with testErr := satAdd 32 l.testErr a.bitErrors } := by
  simp only [trainingBarge, if_pos hrx]

theorem trainingBarge_unread (hrx : (s.lane lane).rx ∈ [.off, .lock, .caps, .active, .moored]) : trainingBarge lane tail e c a s = s := by
  simp only [List.mem_cons, List.not_mem_nil, or_false] at hrx
  rcases hrx with hrx | hrx | hrx | hrx | hrx <;> simp [trainingBarge, hrx]

/-- In TRAIN the control word is followed and the receiver adapts. -/
theorem trainingBarge_train (hrx : (s.lane lane).rx = .train) (h : commaOf tail e = some (n, .training)) :
    trainingBarge lane tail e c a s = (s.onLane lane fun l => { l with lastSeq := l.lastSeq / 65536 * 65536 + n }).onLane lane fun l =>
      adaptTrain (s.lanePol lane) a (if controlOk c then applyControl (s.lanePol lane) c l else l) := by
  simp [trainingBarge, hrx, h]

/-- What a training barge leaves of a receiver in DETECT, before its third in a row ends the state. -/
def detectHeard (lane n : Nat) (s : State) : State :=
  (s.onLane lane fun l => { l with lastSeq := l.lastSeq / 65536 * 65536 + n }).onLane lane fun l =>
    { l with goodTrain := l.goodTrain + 1, heard := l.heard || !l.idleHold, since := if l.heard ∨ l.idleHold then l.since else s.elapsed }

theorem trainingBarge_detect (hrx : (s.lane lane).rx = .detect) (h : commaOf tail e = some (n, .training)) :
    trainingBarge lane tail e c a s = if 3 ≤ (s.lane lane).goodTrain + 1 ∧ (s.lane lane).idleHold = false then
      (setLane lane .train .train (detectHeard lane n s)).onLane lane fun l => { l with goodTrain := 0 }
    else detectHeard lane n s := by
  simp [trainingBarge, hrx, h, detectHeard]

end

/-! ### Level histograms (R356) -/

section
variable {xs : List Nat}

theorem histogramWindow_inactive (hrx : (s.lane lane).rx ≠ .active) : histogramWindow lane xs s = s := by
  simp only [histogramWindow, if_pos hrx]

theorem histogramWindow_good (hrx : (s.lane lane).rx = .active) (h : shareOff (worstShare xs) ≤ (s.lanePol lane).histBound) :
    histogramWindow lane xs s = s.onLane lane fun l =>
      { l with goodWin := min 16 (l.goodWin + 1), frozen := l.frozen && (l.farMoor.isSome || decide (l.goodWin + 1 < 16)) } := by
  simp [histogramWindow, hrx, h]

/-- A window beyond the bound is told of where none has been for a second. -/
theorem histogramWindow_bad_told (hrx : (s.lane lane).rx = .active) (h : (s.lanePol lane).histBound < shareOff (worstShare xs))
    (htell : (s.lane lane).frozenAt = none ∨ ∃ t, (s.lane lane).frozenAt = some t ∧ t + 48000 ≤ s.elapsed) :
    histogramWindow lane xs s = raise 0x0B85 1 lane (worstShare xs) (s.onLane lane fun l =>
      { l with frozen := true, goodWin := 0, frozenWins := inc l.frozenWins, frozenAt := some s.elapsed }) := by
  rcases htell with hnever | ⟨t, hlast, hlong⟩
  · simp [histogramWindow, hrx, Nat.not_le.mpr h, hnever]
  · simp [histogramWindow, hrx, Nat.not_le.mpr h, hlast, hlong]

theorem histogramWindow_bad_untold {t : Nat} (hrx : (s.lane lane).rx = .active) (h : (s.lanePol lane).histBound < shareOff (worstShare xs))
    (hlast : (s.lane lane).frozenAt = some t) (hrecent : s.elapsed < t + 48000) :
    histogramWindow lane xs s = s.onLane lane fun l => { l with frozen := true, goodWin := 0, frozenWins := inc l.frozenWins } := by
  simp [histogramWindow, hrx, Nat.not_le.mpr h, hlast, Nat.not_le.mpr hrecent]

end

/-! ### Lost commas and timeouts (R340, R346, R354) -/

theorem commaLoss_inactive (hrx : (s.lane lane).rx ≠ .active) : commaLoss lane s = s := by
  simp only [commaLoss, if_pos hrx]

theorem commaLoss_active (hrx : (s.lane lane).rx = .active) :
    commaLoss lane s = (setLane lane .lock (s.lane lane).tx ((List.range (3 - (s.lane lane).badCommas)).foldl (fun s _ => missBarge lane s) s)).onLane lane
      fun l => { l with relocks := inc l.relocks, relocking := true, badCommas := 0, goodData := 0, adopt := true, since := s.elapsed, seals := [] } := by
  simp only [commaLoss, hrx, ne_eq, not_true_eq_false, if_false]

/-- A receiver that has not reacquired in 48 ticks of its state, after a lost comma or on waking, trains anew. -/
theorem relockTimeout_due
    (hwaits : ((s.lane lane).rx = .lock ∧ (s.lane lane).relocking = true) ∨ ((s.lane lane).rx = .moored ∧ (s.lane lane).waking = true))
    (hdue : (s.lane lane).since + 48 ≤ s.elapsed) : relockTimeout lane s = toDetect lane 0 s :=
  if_pos ⟨hwaits, hdue⟩

theorem relockTimeout_not_due
    (h : s.elapsed < (s.lane lane).since + 48 ∨
      (¬((s.lane lane).rx = .lock ∧ (s.lane lane).relocking = true) ∧ ¬((s.lane lane).rx = .moored ∧ (s.lane lane).waking = true))) :
    relockTimeout lane s = s := by
  refine if_neg fun ⟨hwaits, hdue⟩ => ?_
  rcases h with hearly | hnot
  · omega
  · exact (not_or.mpr hnot) hwaits

theorem bringupTimeout_unlimited (h : stateLimit (s.lane lane) = none) : bringupTimeout lane s = s := by
  simp only [bringupTimeout, h]

theorem bringupTimeout_early (h : stateLimit (s.lane lane) = some n) (hearly : s.elapsed < (s.lane lane).since + n) : bringupTimeout lane s = s := by
  simp only [bringupTimeout, h, if_pos hearly]

theorem bringupTimeout_due (h : stateLimit (s.lane lane) = some n) (hdue : (s.lane lane).since + n ≤ s.elapsed) :
    let idle := decide (3 ≤ (s.lane lane).timeouts + 1)
    bringupTimeout lane s = toDetect lane 0 (raise 0x0B82 2 lane (s.lane lane).rx.code (s.onLane lane fun l =>
      { l with trainFail := inc l.trainFail, timeouts := if idle then 0 else l.timeouts + 1, coldNext := l.coldNext || l.warm, idleHold := idle })) := by
  simp only [bringupTimeout, h, if_neg (Nat.not_lt.mpr hdue)]

theorem detectIdleEnd_due (hidle : (s.lane lane).idleHold = true) (hdue : (s.lane lane).since + 4320 ≤ s.elapsed) :
    detectIdleEnd lane s = s.onLane lane fun l => { l with idleHold := false, txIdle := false, since := s.elapsed } :=
  if_pos ⟨hidle, hdue⟩

theorem detectIdleEnd_not_due (h : (s.lane lane).idleHold = false ∨ s.elapsed < (s.lane lane).since + 4320) : detectIdleEnd lane s = s := by
  refine if_neg fun ⟨hidle, hdue⟩ => ?_
  rcases h with hno | hearly
  · simp [hno] at hidle
  · omega

end

end Sys2Proof.Proofs

/-! PROOFS.  A lane's tender records, its manifests' epochs, and the statement about barges, records and timeouts
(spec/02_streams_holds_handles.md and spec/11_towpath.md). -/

namespace Sys2Proof.Proofs
open Sys2Proof Sys2Proof.Machine

/-! ### Reading a lane back -/

/-- A value that a table lists is read back, canonical or not. -/
theorem tget_tset_of_ne {α : Type} [DecidableEq α] {d v : α} (hv : v ≠ d) (t : List (Nat × α)) (k : Nat) : tget d (tset d t k v) k = v := by
  induction t with
  | nil => simp [tset, tget, hv]
  | cons e t ih =>
    obtain ⟨j, w⟩ := e
    simp only [tset, if_neg hv]
    split_ifs with hlt heq
    · simp [tget]
    · simp [tget]
    · simp [tget, Ne.symm heq, ih]

/-- Two changes that make the same of a lane are one. -/
theorem onLane_congr {lane : Nat} {s : State} {f g : LaneRt → LaneRt} (h : f (s.lane lane) = g (s.lane lane)) : s.onLane lane f = s.onLane lane g :=
  congrArg (fun l => s.onTow fun t => { t with lanes := tset {} t.lanes lane l }) h

section
variable {lane : Nat} {r : List Byte} {s : State}

theorem isTandem_of_lt (h : lane < 128) : isTandem lane = false := by
  simpa [isTandem] using h

/-! ### CAPS, STATUS and MOOR records (R345, R350, R351, R353) -/

theorem capsRecord_ignored (h : ((s.lane lane).rx ≠ .caps ∧ (s.lane lane).rx ≠ .active) ∨ r.length < 48) : capsRecord lane r s = s :=
  if_pos h

/-- The far device's fields of a CAPS record are kept. -/
def farNoted (lane : Nat) (r : List Byte) (s : State) : State :=
  s.onLane lane fun l =>
    { l with farCaps := r, farSender := recField r 1 1, farId := recField r 8 8, farPort := recField r 4 2, farTxEpoch := recField r 0x10 1 }

/-- A lane with a CAPS record kept reads as the lane before, but for the record's fields. -/
theorem farNoted_lane (hlen : 48 ≤ r.length) :
    (farNoted lane r s).lane lane = { s.lane lane with
      farCaps := r, farSender := recField r 1 1, farId := recField r 8 8, farPort := recField r 4 2, farTxEpoch := recField r 0x10 1 } := by
  refine tget_tset_of_ne (fun hdefault => ?_) s.tow.lanes lane
  have hnil : r = [] := congrArg LaneRt.farCaps hdefault
  simp [hnil] at hlen

theorem capsRecord_active (hrx : (s.lane lane).rx = .active) (hlane : lane < 128) (hlen : 48 ≤ r.length) (hfirst : (s.lane lane).activeId = none) :
    capsRecord lane r s = farNoted lane r s := by
  simp [capsRecord, hrx, Nat.not_lt.mpr hlen, hfirst, isTandem_of_lt hlane, farNoted]

/-- A lane in CAPS after R351's comparison, told whether the digests disagreed before. -/
def digestVerdict (lane : Nat) (r : List Byte) (s : State) (disagreed : Bool) (l : LaneRt) : LaneRt :=
  let wrong := (digestsWrong s lane r).1 || (digestsWrong s lane r).2
  let good := capsGood s lane r
  { l with disagree := wrong, accepted := good, since := if disagreed && !wrong then s.elapsed else l.since,
           farAccepted := if good && bitOf (recField r 3 1) 2 then min 2 (l.farAccepted + 1) else 0 }

/-- What R351's comparison leaves of a lane in CAPS, before it may become ACTIVE. -/
def capsJudged (lane : Nat) (r : List Byte) (s : State) : State :=
  let w := digestsWrong s lane r
  let s1 := (farNoted lane r s).onLane lane (digestVerdict lane r s (s.lane lane).disagree)
  let s2 := if (w.1 || w.2) && !(s.lane lane).disagree then raise 0x0B87 2 lane (bit w.1 + 2 * bit w.2) s1 else s1
  if capsGood s lane r then s2.onManifest (manKey 0 lane) fun m => { m with epoch := recField r 0x10 1 } else s2

/-- In CAPS the record is judged, and the second accepted by both sides makes the lane ACTIVE. -/
theorem capsRecord_caps (hrx : (s.lane lane).rx = .caps) (hlane : lane < 128) (hlen : 48 ≤ r.length) (hfirst : (s.lane lane).activeId = none) :
    capsRecord lane r s = if 2 ≤ ((capsJudged lane r s).lane lane).farAccepted then enterActive lane (capsJudged lane r s) else capsJudged lane r s := by
  have hverdict : ((farNoted lane r s).onLane lane fun l => digestVerdict lane r s l.disagree l) =
      (farNoted lane r s).onLane lane (digestVerdict lane r s (s.lane lane).disagree) :=
    onLane_congr (by rw [farNoted_lane hlen])
  simp only [capsJudged, ← hverdict]
  simp [capsRecord, hrx, Nat.not_lt.mpr hlen, hfirst, isTandem_of_lt hlane, farNoted, digestVerdict]

theorem statusRecord_short (h : r.length < 16) : statusRecord lane r s = s := if_pos h

theorem statusRecord_read (h : 16 ≤ r.length) :
    statusRecord lane r s = s.onLane lane fun l => { l with farUnc := recField r 2 2, farCorr := recField r 4 4 } :=
  if_neg (Nat.not_lt.mpr h)

theorem moorRecord_ignored (h : (s.lane lane).rx ≠ .active ∨ 128 ≤ lane ∨ r.length < 4) : moorRecord lane r s = s :=
  if_pos (by simpa [isTandem] using h)

theorem moorRecord_read (hrx : (s.lane lane).rx = .active) (hlane : lane < 128) (hlen : 4 ≤ r.length) :
    moorRecord lane r s = s.onLane lane fun l =>
      { l with farMoor := some (recField r 0 4), frozen := l.frozen || l.farMoor.isNone, goodWin := if l.farMoor.isNone then 0 else l.goodWin } :=
  if_neg (by simp [hrx, isTandem_of_lt hlane, hlen])

/-! ### EPOCH records and epochs (R49, R53, R344) -/

/-- The announcement that an EPOCH record makes. -/
def announcement (r : List Byte) : Announce :=
  { epoch := leNat (r.take 1), seq := leNat ((r.drop 4).take 4), digest := leNat ((r.drop 8).take 4) }

/-- A record of a barge that has passed, or one that has been told before, changes nothing. -/
theorem epochRecord_ignored
    (h : seqAhead (announcement r).seq (s.lane lane).lastSeq ≤ 0 ∨ (s.manifestRt (manKey 0 lane)).announce = some (announcement r)) :
    epochRecord lane r s = s :=
  if_pos h

/-- A new announcement stands; one less than 64 barges ahead is late. -/
theorem epochRecord_new (hlead : 0 < seqAhead (announcement r).seq (s.lane lane).lastSeq)
    (hnew : (s.manifestRt (manKey 0 lane)).announce ≠ some (announcement r)) :
    let lead := seqAhead (announcement r).seq (s.lane lane).lastSeq
    let t := s.onManifestRt (manKey 0 lane) fun m =>
      { m with announce := some (announcement r), pending := m.pending.map fun p => { p with late := p.late || decide (lead < 64) } }
    epochRecord lane r s = if lead < 64 then raise 0x0283 1 lane (announcement r).seq t else t :=
  if_neg (not_or.mpr ⟨Int.not_le.mpr hlead, hnew⟩)

section
variable {dir : Nat} {a : Announce} {p : PendManifest}

theorem manifestEpoch_unannounced (h : (s.manifestRt (manKey dir lane)).announce = none) : manifestEpoch dir lane s = s := by
  simp only [manifestEpoch, h]

theorem manifestEpoch_receive (h : (s.manifestRt (manKey 0 lane)).announce = some a) : manifestEpoch 0 lane s = receiveEpoch lane a s := by
  simp only [manifestEpoch, h, if_true]

theorem manifestEpoch_transmit (h : (s.manifestRt (manKey 1 lane)).announce = some a) : manifestEpoch 1 lane s = transmitEpoch lane a s := by
  simp only [manifestEpoch, h, one_ne_zero, if_false]

/-- An epoch that no manifest waits for is lost, and told. -/
theorem receiveEpoch_unexpected (h : (s.manifestRt (manKey 0 lane)).pending = none) :
    receiveEpoch lane a s = raise 0x0282 2 lane a.seq
      ((s.onManifestRt (manKey 0 lane) fun m => { m with announce := none, pending := none }).onManifest (manKey 0 lane) fun m => { m with epoch := a.epoch }) := by
  simp only [receiveEpoch, h]

/-- The far side switches to the manifest that waits. -/
theorem receiveEpoch_agreed (h : (s.manifestRt (manKey 0 lane)).pending = some p) (hdigest : a.digest = manifestDigest (listed s 0 p.handles)) :
    let t := switchManifest 0 lane p.handles true a.epoch (s.onManifestRt (manKey 0 lane) fun m => { m with announce := none, pending := none })
    receiveEpoch lane a s = finishNow p.job .done (t.manifest (manKey 0 lane)).gen 0 t := by
  simp only [receiveEpoch, h, hdigest, decide_true, if_true]

/-- The far side switches to another manifest: the streams given up go, and none is added. -/
theorem receiveEpoch_disagreed (h : (s.manifestRt (manKey 0 lane)).pending = some p) (hdigest : a.digest ≠ manifestDigest (listed s 0 p.handles)) :
    let t := switchManifest 0 lane p.handles false a.epoch (s.onManifestRt (manKey 0 lane) fun m => { m with announce := none, pending := none })
    receiveEpoch lane a s = finishNow p.job .format (t.manifest (manKey 0 lane)).gen 0xFFFF (raise 0x0281 2 lane a.digest t) := by
  simp only [receiveEpoch, h, hdigest, decide_false, if_false]

theorem transmitEpoch_idle (h : (s.manifestRt (manKey 1 lane)).pending = none) :
    transmitEpoch lane a s = s.onManifestRt (manKey 1 lane) fun m => { m with announce := none, pending := none, carried := false } := by
  simp only [transmitEpoch, h]

theorem transmitEpoch_pending (h : (s.manifestRt (manKey 1 lane)).pending = some p) :
    let t := switchManifest 1 lane p.handles true a.epoch (s.onManifestRt (manKey 1 lane) fun m => { m with announce := none, pending := none, carried := false })
    transmitEpoch lane a s = finishNow p.job .done (t.manifest (manKey 1 lane)).gen 0 t := by
  simp only [transmitEpoch, h]

/-- A manifest that has been announced, or none at all, does not time out. -/
theorem manifestTimeout_not_waiting (h : (s.manifestRt (manKey 0 lane)).pending = none ∨ (s.manifestRt (manKey 0 lane)).announce ≠ none) :
    manifestTimeout lane s = s := by
  cases hpending : (s.manifestRt (manKey 0 lane)).pending with
  | none => simp only [manifestTimeout, hpending]
  | some p =>
    obtain ⟨a, ha⟩ := Option.ne_none_iff_exists'.mp (h.resolve_left (by simp [hpending]))
    simp only [manifestTimeout, hpending, ha]

theorem manifestTimeout_early (h : (s.manifestRt (manKey 0 lane)).pending = some p) (hearly : p.age < p.timeoutTicks) : manifestTimeout lane s = s := by
  cases hannounce : (s.manifestRt (manKey 0 lane)).announce with
  | none => simp only [manifestTimeout, h, hannounce, if_neg (Nat.not_le.mpr hearly)]
  | some a => exact manifestTimeout_not_waiting (.inr (by simp [hannounce]))

theorem manifestTimeout_due (h : (s.manifestRt (manKey 0 lane)).pending = some p) (hannounce : (s.manifestRt (manKey 0 lane)).announce = none)
    (hdue : p.timeoutTicks ≤ p.age) :
    manifestTimeout lane s = (finish p.job .timedOut 0 s).onManifestRt (manKey 0 lane) fun m => { m with pending := none } := by
  simp only [manifestTimeout, h, hannounce, if_pos hdue]

end

end

/-! ### The statement -/

/-- Settles O55: each clause is one equation of the row's meaning, by the state of the receiver and by what has arrived. -/
theorem laneBargesComplete : Obligations.LaneBargesComplete := by
  refine ⟨⟨?dataBadComma, ?dataByState, ?dataOtherKind, ?calOtherKind, ?trainBadComma, ?trainOtherKind, ?calBadComma, ?calActive, ?calUnmeasured,
      ?trainTest, ?trainUnread, ?trainTrain, ?trainDetect, ?windowInactive, ?windowGood, ?windowTold, ?windowUntold, ?lossInactive, ?lossActive⟩,
    ⟨?relockDue, ?relockNotDue, ?bringupEarly, ?bringupDue, ?bringupUnlimited, ?idleDue, ?idleNotDue, ?capsIgnored, ?statusShort, ?moorIgnored,
      ?capsCaps, ?capsActive, ?statusRead, ?moorRead, ?epochRecords, ?unannounced, ?unexpected, ?agreed, ?disagreed, ?sentIdle, ?sentPending,
      ?timeoutEarly, ?timeoutDue, ?timeoutNotWaiting⟩⟩
  case dataBadComma => exact fun lane b s h => answers_of_eq (dataBarge_badComma h)
  case dataByState =>
    intro lane n b s h
    exact ⟨fun hrx => answers_of_eq (dataBarge_active h hrx), fun hrx => answers_of_eq (dataBarge_lock h hrx),
      fun hrx => answers_of_eq (dataBarge_caps h hrx), fun hrx => answers_of_eq (dataBarge_unread h hrx),
      fun hrx hwaking => answers_of_eq (dataBarge_asleep h hrx hwaking), fun hrx hwaking => answers_of_eq (dataBarge_waking h hrx hwaking)⟩
  case dataOtherKind => exact fun lane n k b s h hk => answers_of_eq (dataBarge_otherKind h hk)
  case calOtherKind => exact fun lane tail e snr n k s h hk => answers_of_eq (calibrationBarge_otherKind h hk)
  case trainBadComma => exact fun lane tail e c a s hrx h => answers_of_eq (trainingBarge_badComma hrx h)
  case trainOtherKind => exact fun lane tail e n k c a s hrx h hk => answers_of_eq (trainingBarge_otherKind hrx h hk)
  case calBadComma => exact fun lane tail e snr s h => answers_of_eq (calibrationBarge_badComma h)
  case calActive => exact fun lane tail e snr n s h hrx => answers_of_eq (calibrationBarge_active h hrx)
  case calUnmeasured => exact fun lane tail e snr n s h hrx => answers_of_eq (calibrationBarge_unmeasured h hrx)
  case trainTest => exact fun lane tail e c a s hrx => answers_of_eq (trainingBarge_test hrx)
  case trainUnread => exact fun lane tail e c a s hrx => answers_of_eq (trainingBarge_unread hrx)
  case trainTrain => exact fun lane tail e n c a s hrx h => answers_of_eq (trainingBarge_train hrx h)
  case trainDetect =>
    intro lane tail e n c a s hrx h x s1 s2
    refine ⟨fun hthird hheard => answers_of_eq ?_, fun hmore => answers_of_eq ?_⟩
    · exact (trainingBarge_detect hrx h).trans (if_pos ⟨Nat.succ_le_succ hthird, hheard⟩)
    · refine (trainingBarge_detect hrx h).trans (if_neg fun ⟨hthird, hheard⟩ => ?_)
      rcases hmore with hfewer | hidle
      · exact absurd hthird (Nat.not_le.mpr (Nat.succ_lt_succ hfewer))
      · exact Bool.false_ne_true (hheard.symm.trans hidle)
  case windowInactive => exact fun lane xs s hrx => answers_of_eq (histogramWindow_inactive hrx)
  case windowGood => exact fun lane xs s hrx h => answers_of_eq (histogramWindow_good hrx h)
  case windowTold => exact fun lane xs s hrx h htell => answers_of_eq (histogramWindow_bad_told hrx h htell)
  case windowUntold => exact fun lane t xs s hrx h hlast hrecent => answers_of_eq (histogramWindow_bad_untold hrx h hlast hrecent)
  case lossInactive => exact fun lane s hrx => answers_of_eq (commaLoss_inactive hrx)
  case lossActive => exact fun lane s hrx => answers_of_eq (commaLoss_active hrx)
  case relockDue => exact fun lane s hwaits hdue => answers_of_eq (relockTimeout_due hwaits hdue)
  case relockNotDue => exact fun lane s h => answers_of_eq (relockTimeout_not_due h)
  case bringupEarly => exact fun lane n s h hearly => answers_of_eq (bringupTimeout_early h hearly)
  case bringupDue => exact fun lane n s h hdue => answers_of_eq (bringupTimeout_due h hdue)
  case bringupUnlimited => exact fun lane s h => answers_of_eq (bringupTimeout_unlimited h)
  case idleDue => exact fun lane s hidle hdue => answers_of_eq (detectIdleEnd_due hidle hdue)
  case idleNotDue => exact fun lane s h => answers_of_eq (detectIdleEnd_not_due h)
  case capsIgnored => exact fun lane r s h => answers_of_eq (capsRecord_ignored h)
  case statusShort => exact fun lane r s h => answers_of_eq (statusRecord_short h)
  case moorIgnored => exact fun lane r s h => answers_of_eq (moorRecord_ignored h)
  case capsCaps => exact fun lane r s hrx hlane hlen hfirst => answers_of_eq (capsRecord_caps hrx hlane hlen hfirst)
  case capsActive => exact fun lane r s hrx hlane hlen hfirst => answers_of_eq (capsRecord_active hrx hlane hlen hfirst)
  case statusRead => exact fun lane r s h => answers_of_eq (statusRecord_read h)
  case moorRead => exact fun lane r s hrx hlane hlen => answers_of_eq (moorRecord_read hrx hlane hlen)
  case epochRecords =>
    exact fun lane r s => ⟨fun h => answers_of_eq (epochRecord_ignored h), fun hlead hnew => answers_of_eq (epochRecord_new hlead hnew)⟩
  case unannounced => exact fun dir lane s h => answers_of_eq (manifestEpoch_unannounced h)
  case unexpected => exact fun lane a s ha h => answers_of_eq ((manifestEpoch_receive ha).trans (receiveEpoch_unexpected h))
  case agreed => exact fun lane a p s ha h hdigest => answers_of_eq ((manifestEpoch_receive ha).trans (receiveEpoch_agreed h hdigest))
  case disagreed => exact fun lane a p s ha h hdigest => answers_of_eq ((manifestEpoch_receive ha).trans (receiveEpoch_disagreed h hdigest))
  case sentIdle => exact fun lane a s ha h => answers_of_eq ((manifestEpoch_transmit ha).trans (transmitEpoch_idle h))
  case sentPending => exact fun lane a p s ha h => answers_of_eq ((manifestEpoch_transmit ha).trans (transmitEpoch_pending h))
  case timeoutEarly => exact fun lane p s h hearly => answers_of_eq (manifestTimeout_early h hearly)
  case timeoutDue => exact fun lane p s h hannounce hdue => answers_of_eq (manifestTimeout_due h hannounce hdue)
  case timeoutNotWaiting => exact fun lane s h => answers_of_eq (manifestTimeout_not_waiting h)

end Sys2Proof.Proofs

/-! PROOFS.  The mailboxes' own operations (spec/03_mailboxes_and_cxl.md, R61 to R83): what a completion, a closing session and a
host transaction change, and what they leave alone. -/

namespace Sys2Proof.Proofs
open Sys2Proof Sys2Proof.Machine

/-! ### Channels as a table -/

/-- The table of channels stands in its canonical form. -/
abbrev ChannelsOk (s : State) : Prop := tableOk ({} : Channel) s.mbox.channels = true

theorem onChan_channelsOk {s : State} {ch : Nat} {f : Channel → Channel} (h : ChannelsOk s) : ChannelsOk (s.onChan ch f) :=
  tableOk_tset h

/-- What a channel reads after a channel is changed. -/
theorem onChan_chan {s : State} {ch d : Nat} {f : Channel → Channel} (h : ChannelsOk s) :
    (s.onChan ch f).chan d = if d = ch then f (s.chan ch) else s.chan d :=
  tget_tset h

/-- A change of a channel that keeps one of its fields changes that field on no channel. -/
theorem onChan_field {α : Type} (get : Channel → α) {s : State} {ch d : Nat} {f : Channel → Channel} (h : ChannelsOk s)
    (hf : ∀ k, get (f k) = get k) : get ((s.onChan ch f).chan d) = get (s.chan d) := by
  rw [onChan_chan h]
  split
  · next hd => rw [hf, hd]
  · rfl

/-- A field that a change of every entry keeps reads as before. -/
theorem tget_map_field {α β : Type} (get : α → β) {d : α} {g : Nat × α → α} (hg : ∀ e, get (g e) = get e.2) (t : List (Nat × α)) (k : Nat) :
    get (tget d (t.map fun e => (e.1, g e)) k) = get (tget d t k) := by
  induction t with
  | nil => rfl
  | cons e r ih =>
    simp only [List.map_cons, tget]
    split
    · exact hg e
    · exact ih

/-! ### Records and bytes -/

@[simp] theorem recordBytes_length (n : Nat) (fs : List (Nat × Nat × Nat)) : (recordBytes n fs).length = n := by
  rw [recordBytes_eq_memRead, memRead_length]

@[simp] theorem onChan_hdm (s : State) (ch : Nat) (f : Channel → Channel) : (s.onChan ch f).hdm = s.hdm := rfl
@[simp] theorem onChan_obj (s : State) (ch : Nat) (f : Channel → Channel) : (s.onChan ch f).obj = s.obj := rfl

@[simp] theorem hdmWrite_hdm (s : State) (a : Nat) (bs : List Byte) : (s.hdmWrite a bs).hdm = memWrite s.hdm a bs := rfl
@[simp] theorem hdmWrite_obj (s : State) (a : Nat) (bs : List Byte) : (s.hdmWrite a bs).obj = s.obj := rfl
@[simp] theorem hdmWrite_mbox (s : State) (a : Nat) (bs : List Byte) : (s.hdmWrite a bs).mbox = s.mbox := rfl

/-- Writing a channel's control block changes HDM alone. -/
theorem syncChannel_eq (ch : Nat) (s : State) :
    syncChannel ch s = s.onHdm fun m => memWrite (memWrite (memWrite m (chBase ch) (toLe 4 ((s.chan ch).headShown.getD (s.chan ch).sqHead)))
      (chBase ch + 0x80) (toLe 4 (s.chan ch).cqTail)) (chBase ch + 0xC0) (toLe 4 (channelStatusLow s ch)) := rfl

@[simp] theorem syncChannel_obj (ch : Nat) (s : State) : (syncChannel ch s).obj = s.obj := rfl
@[simp] theorem syncChannel_mbox (ch : Nat) (s : State) : (syncChannel ch s).mbox = s.mbox := rfl
@[simp] theorem syncChannel_chan (ch d : Nat) (s : State) : (syncChannel ch s).chan d = s.chan d := rfl

/-- Beyond the control block, a channel's bytes stand when it is written. -/
theorem syncChannel_reads_beyond {ch a n : Nat} {s : State} (h : hdmCanonical s) (ha : chBase ch + 0x1000 ≤ a) :
    memRead (syncChannel ch s).hdm a n = memRead s.hdm a n := by
  rw [syncChannel_eq, State.onHdm_hdm, memRead_memWrite_apart (memWrite_wf (memWrite_wf h)) (by simp; omega),
    memRead_memWrite_apart (memWrite_wf h) (by simp; omega), memRead_memWrite_apart h (by simp; omega)]

/-! ### Completions (R63, R79 to R82) -/

/-- A channel whose completion ring has taken a record. -/
def ringAdvanced (q : RingIrq) (k : Channel) : Channel :=
  { k with cqTail := (k.cqTail + 1) % 1024, phase := if k.cqTail + 1 = 1024 then !k.phase else k.phase, irq := q }

section
variable {ch tag op session tick gen head detail : Nat} {silent : Bool} {st : Status} {s : State}

/-- On a ring, a completion writes its record and moves the tail. -/
theorem complete_ring (hch : ch ≠ 0) :
    complete ch tag op session silent st tick gen head detail s = syncChannel ch
      (((s.hdmWrite (cqAddr ch (s.chan ch).cqTail) (completionBytes tag st.code (bit (s.chan ch).phase) op session tick gen head detail)).onChan ch
        (ringAdvanced ((s.chIrq ch).record s.elapsed (!silent)))).onMbox fun m => { m with tailMoved := true }) :=
  if_neg hch

@[simp] theorem complete_obj : (complete ch tag op session silent st tick gen head detail s).obj = s.obj := by
  by_cases hch : ch = 0
  · simp [complete, hch]
  · simp [complete_ring hch]

/-- Beyond its completion ring, a channel's bytes stand when a completion is written. -/
theorem complete_reads_beyond {a n : Nat} (h : hdmCanonical s) (hch : ch ≠ 0) (htail : (s.chan ch).cqTail < 1024) (ha : chBase ch + 0x9000 ≤ a) :
    memRead (complete ch tag op session silent st tick gen head detail s).hdm a n = memRead s.hdm a n := by
  have hcq : cqAddr ch (s.chan ch).cqTail + 32 ≤ a := by simp only [cqAddr]; omega
  rw [complete_ring hch, syncChannel_reads_beyond ?canonical (by omega)]
  · simp only [State.onMbox_hdm, onChan_hdm, hdmWrite_hdm]
    exact memRead_memWrite_apart h (by simp only [completionBytes, recordBytes_length]; omega)
  case canonical =>
    simp only [hdmCanonical, State.onMbox_hdm, onChan_hdm, hdmWrite_hdm]
    exact memWrite_wf h

/-- Of the channels, a completion changes its own alone, and there the completion ring. -/
theorem complete_channels (hch : ch ≠ 0) : ∃ q, (complete ch tag op session silent st tick gen head detail s).mbox.channels =
    (s.onChan ch (ringAdvanced q)).mbox.channels :=
  ⟨(s.chIrq ch).record s.elapsed (!silent), by simp only [complete_ring hch, State.onChan, syncChannel_mbox, State.onMbox_mbox, hdmWrite_mbox]⟩

/-- A completion keeps the table of channels canonical. -/
theorem complete_channelsOk (hch : ch ≠ 0) (h : ChannelsOk s) : ChannelsOk (complete ch tag op session silent st tick gen head detail s) := by
  obtain ⟨q, hq⟩ := complete_channels hch
  rw [ChannelsOk, hq]
  exact onChan_channelsOk h

/-- A completion keeps every field of a channel but its completion ring's. -/
theorem complete_field {α : Type} (get : Channel → α) {d : Nat} (hch : ch ≠ 0) (h : ChannelsOk s) (hget : ∀ q k, get (ringAdvanced q k) = get k) :
    get ((complete ch tag op session silent st tick gen head detail s).chan d) = get (s.chan d) := by
  obtain ⟨q, hq⟩ := complete_channels hch
  rw [State.chan, hq]
  exact onChan_field get h (hget q)

end

/-! ### Replies (R82) -/

/-- A reply that its REPLY_OFFSET lets stand is written, and the command is DONE. -/
theorem reply_fits {c : Cmd} {at_ len detail : Nat} {bytes : List Byte} {s : State} (h : replyFits c at_ len) :
    reply c at_ len detail bytes s = replied c at_ detail bytes s := by
  obtain ⟨halign, hroom⟩ := h
  simp [reply, replyOk, halign, hroom, replied]

theorem reply_refused {c : Cmd} {at_ len detail : Nat} {bytes : List Byte} {s : State} (h : ¬replyFits c at_ len) :
    reply c at_ len detail bytes s = rej .range (0x20 + at_) s := by
  have hbad : ¬replyOk (c.u32 at_) len = true := by
    simpa only [replyOk, replyFits, Bool.and_eq_true, decide_eq_true_eq] using h
  exact if_neg hbad

/-- A command that is DONE and closes no channel ends with its completion. -/
theorem conclude_done {i : CmdInfo} {c : Cmd} {r : Res} (hdone : r.status = .done) (hopen : r.close = none) :
    conclude i c r = complete c.ch c.tag i.opcode (r.session.getD c.session) c.silent .done r.s.now (newGen i c r.s) (r.s.chan c.ch).sqHead r.detail
      (carry i c .done r.s) := by
  simp [conclude, hdone, hopen]

theorem carry_chan {i : CmdInfo} {c : Cmd} {st : Status} {s : State} (ch : Nat) : (carry i c st s).chan ch = s.chan ch := by
  unfold carry; split <;> rfl

@[simp] theorem carry_hdm {i : CmdInfo} {c : Cmd} {st : Status} {s : State} : (carry i c st s).hdm = s.hdm := by
  unfold carry; split <;> rfl

/-- Settles O17: the bytes of a completion and of the control block stand below the reply area. -/
theorem replyStandsInItsArea : Obligations.ReplyStandsInItsArea := by
  refine ⟨?stands, ?refused⟩
  case stands =>
    intro i c at_ detail bytes s hcanon hch _ htail _
    have hwritten : hdmCanonical (carry i c .done (s.hdmWrite (replyAddr c.ch (c.u32 at_)) bytes)) := by
      rw [hdmCanonical, carry_hdm]
      exact memWrite_wf hcanon
    have htail' : ((carry i c .done (s.hdmWrite (replyAddr c.ch (c.u32 at_)) bytes)).chan c.ch).cqTail < 1024 := by
      rw [carry_chan]
      exact htail
    calc memRead (conclude i c (replied c at_ detail bytes s)).hdm (replyAddr c.ch (c.u32 at_)) bytes.length
        = memRead (carry i c .done (s.hdmWrite (replyAddr c.ch (c.u32 at_)) bytes)).hdm (replyAddr c.ch (c.u32 at_)) bytes.length := by
          rw [conclude_done rfl rfl]
          exact complete_reads_beyond hwritten (by omega) htail' (by simp only [replyAddr]; omega)
      _ = bytes := by
          rw [carry_hdm]
          exact memRead_memWrite hcanon
  case refused => exact fun c at_ len detail bytes s h => reply_refused h

end Sys2Proof.Proofs

/-! PROOFS.  Records and the host's own accesses (spec/03_mailboxes_and_cxl.md, R58 to R84): which record a row runs, when it waits,
which check answers it, and what the host reads and writes. -/

namespace Sys2Proof.Proofs
open Sys2Proof Sys2Proof.Machine

/-! ### Steps and answers -/

/-- Settles O1: a step is the meaning of the command at the front of the queue, on the rest of it. -/
theorem stepRunsTheFrontCommand : Obligations.StepRunsTheFrontCommand :=
  ⟨fun _ _ => rfl, fun s h => by simp only [step, h]⟩

/-- INJECTION_TIMEOUT answers whether or not such an injection is armed. -/
theorem injectionTimeout_answers (kind : Nat) (west : Bool) (inst : Nat) (s : State) :
    ∃ t, exec (.injectionTimeout kind west inst) s = .next t := by
  simp only [exec, execInjectionTimeout]
  split
  · exact ⟨_, rfl⟩
  · exact ⟨_, rfl⟩

/-- Every row but the host's two accesses to HDM is built with `answer`, which is a next state. -/
theorem exec_answers {i : Instr} {s : State} (hwrite : ∀ a d, i ≠ .hostHdmWrite a d) (hread : ∀ a n, i ≠ .hostHdmRead a n) :
    ∃ t, exec i s = .next t := by
  cases i
  case hostHdmWrite a d => exact absurd rfl (hwrite a d)
  case hostHdmRead a n => exact absurd rfl (hread a n)
  case injectionTimeout kind west inst => exact injectionTimeout_answers kind west inst s
  all_goals exact ⟨_, rfl⟩

section
variable {addr a n : Nat} {d : List Byte} {s : State}

theorem hostHdmWrite_down (h : s.hdmUp = false) : exec (.hostHdmWrite addr d) s = answer s := by
  simp only [exec, execHostHdmWrite, h, Bool.not_false, if_true]

theorem hostHdmRead_down (h : s.hdmUp = false) : exec (.hostHdmRead addr n) s = answer s := by
  simp only [exec, execHostHdmRead, h, Bool.not_false, if_true]

theorem hostHdmWrite_mapped (h : s.hdmUp = true) (ha : hdmOffset s addr d.length = some a) :
    exec (.hostHdmWrite addr d) s = answer (hostWrite a d s) := by
  simp [exec, execHostHdmWrite, h, ha]

theorem hostHdmRead_mapped (h : s.hdmUp = true) (ha : hdmOffset s addr n = some a) :
    exec (.hostHdmRead addr n) s = answer (hostRead a n s) := by
  simp [exec, execHostHdmRead, h, ha]

theorem hostHdmWrite_unmapped (h : s.hdmUp = true) (ha : hdmOffset s addr d.length = none) :
    exec (.hostHdmWrite addr d) s = .fault (.noSuchHdmAddress addr) := by
  simp [exec, execHostHdmWrite, h, ha]

theorem hostHdmRead_unmapped (h : s.hdmUp = true) (ha : hdmOffset s addr n = none) :
    exec (.hostHdmRead addr n) s = .fault (.noSuchHdmAddress addr) := by
  simp [exec, execHostHdmRead, h, ha]

/-- A host write is answered where HDM is down or holds the address. -/
theorem hostHdmWrite_answers (h : s.hdmUp = false ∨ (hdmOffset s addr d.length).isSome = true) : ∃ t, exec (.hostHdmWrite addr d) s = .next t := by
  cases hup : s.hdmUp with
  | false => exact ⟨_, hostHdmWrite_down hup⟩
  | true =>
    obtain ⟨a, ha⟩ := Option.isSome_iff_exists.mp (h.resolve_left (by simp [hup]))
    exact ⟨_, hostHdmWrite_mapped hup ha⟩

/-- A host read is answered where HDM is down or holds the address. -/
theorem hostHdmRead_answers (h : s.hdmUp = false ∨ (hdmOffset s addr n).isSome = true) : ∃ t, exec (.hostHdmRead addr n) s = .next t := by
  cases hup : s.hdmUp with
  | false => exact ⟨_, hostHdmRead_down hup⟩
  | true =>
    obtain ⟨a, ha⟩ := Option.isSome_iff_exists.mp (h.resolve_left (by simp [hup]))
    exact ⟨_, hostHdmRead_mapped hup ha⟩

end

/-- Settles O4: the host's two accesses fault where no decoder maps the address, and nothing else does. -/
theorem everyCommandAnswers : Obligations.EveryCommandAnswers :=
  ⟨fun _ _ hwrite hread => exec_answers hwrite hread, fun _ _ _ h => hostHdmWrite_answers h, fun _ _ _ h => hostHdmRead_answers h,
    fun _ _ _ _ hup => ⟨hostHdmWrite_unmapped hup, hostHdmRead_unmapped hup⟩⟩

/-! ### Mailbox rows (R72, R75, R76, R163) -/

/-- A tick with room for the takes that a row arms lets the row run. -/
theorem armGate_of_room {s run : State} (h : run.mbox.armed ≤ 8192) : armGate s run = run :=
  if_neg (Nat.not_lt.mpr h)

/-- A mailbox row runs its record; TAKE and SALVO run it behind the limit of a tick's takes. -/
theorem exec_mailboxRow {i : Instr} {e : CmdInfo × (Cmd → State → Res)} {c : Cmd} {s : State} (h : mailboxRow i = some (e, c)) :
    exec i s = answer (runCmd e.1 e.2 c s) ∨ exec i s = answer (armGate s (runCmd e.1 e.2 c s)) := by
  cases i
  case take => cases h; exact .inr rfl
  case salvo => cases h; exact .inr rfl
  all_goals (cases h <;> exact .inl rfl)

/-- Settles O5: TAKE and SALVO alone pass the gate of R163, which is open under the statement's hypothesis. -/
theorem mailboxRowsRunTheirCommand : Obligations.MailboxRowsRunTheirCommand := by
  intro i e c s hrow hroom
  rcases exec_mailboxRow (s := s) hrow with hexec | hexec
  · exact hexec
  · rw [hexec, armGate_of_room hroom, answer]

section
variable {i : CmdInfo} {body : Cmd → State → Res} {c : Cmd} {s : State}

/-- Channel 0 never takes a record from a ring. -/
theorem gate_ring (h : gate c s = true) : c.ch ≠ 0 := by
  intro hzero
  simp [gate, hzero] at h

theorem runCmd_ungated (hch : 1 ≤ c.ch) (h : gate c s = false) : runCmd i body c s = s := by
  simp [runCmd, h, Nat.ne_of_gt hch]

theorem runCmd_held (h : gate c s = true) (hwaits : waitsTick c (eligTick s c.ch c.units) s.now = true) :
    runCmd i body c s = syncChannel c.ch (s.onChan c.ch fun k => { k with held := some (i.opcode, c) }) := by
  simp [runCmd, gate_ring h, h, hwaits]

theorem runCmd_admitted (h : gate c s = true) (hwaits : waitsTick c (eligTick s c.ch c.units) s.now = false) :
    runCmd i body c s = conclude i c (judge i body c (admittedAt c s)) := by
  simp [runCmd, gate_ring h, h, hwaits, admitRecord, admittedAt]

/-- A record waits where it names a later tick within 60 s (R76). -/
theorem waitsTick_iff {elig now : Nat} : waitsTick c elig now = true ↔ c.atTick = true ∧ now < c.targetTick ∧ c.targetTick ≤ elig + 2880000 := by
  simp [waitsTick, and_assoc]

/-- A record that a check refuses is answered with the check's status, its effect left out. -/
theorem judge_refused {st : Status} {d : Nat} (h : checkCmd i c s = some (st, d)) : judge i body c s = rej st d s := by
  simp only [judge, h]

theorem judge_passed (h : checkCmd i c s = none) : judge i body c s = body c s := by
  simp only [judge, h]

end

/-- Settles O6: the gate of R75 comes first, then the target tick of R76. -/
theorem recordsWaitForTheirTurn : Obligations.RecordsWaitForTheirTurn :=
  ⟨fun _ _ _ _ hch hgate => runCmd_ungated hch hgate,
    fun _ _ _ _ hgate hat hlater hlimit => runCmd_held hgate (waitsTick_iff.mpr ⟨hat, hlater, hlimit⟩)⟩

/-! ### The checks of R83 -/

section
variable {i : CmdInfo} {c : Cmd} {s : State}

/-- The last tick that a record may name: 60 s from its eligible tick, on channel 0 from its commit (R76). -/
def targetLimit (c : Cmd) (s : State) : Nat := (if c.ch = 0 then s.now else (s.chan c.ch).readAt) + 2880000

theorem checkCmd_length (h : c.length ≠ i.length c) : checkCmd i c s = some (.range, 0x0018) := if_pos h

section
variable (hlength : c.length = i.length c)
include hlength

theorem checkCmd_channel (h : acceptedOn i c.ch = false) : checkCmd i c s = some (.auth, 0x0000) := by
  simp [checkCmd, hlength, h]

theorem checkCmd_session (hchannel : acceptedOn i c.ch = true) (h : sessionOk i c s = false) : checkCmd i c s = some (.auth, 0x0004) := by
  simp [checkCmd, hlength, hchannel, h]

theorem checkCmd_privilege (hchannel : acceptedOn i c.ch = true) (hsession : sessionOk i c s = true) (h : privOk i c s = false) :
    checkCmd i c s = some (.auth, 0x0000) := by
  simp [checkCmd, hlength, hchannel, hsession, h]

section
variable (hchannel : acceptedOn i c.ch = true) (hsession : sessionOk i c s = true) (hpriv : privOk i c s = true)
include hchannel hsession hpriv

theorem checkCmd_tamper (hlock : s.keys.lock = true) (hwrites : i.readOnly = false) (hrange1 : i.opcode / 256 ≠ 0x01)
    (hrangeF : i.opcode / 256 ≠ 0x0F) : checkCmd i c s = some (.tamper, 0) := by
  simp [checkCmd, hlength, hchannel, hsession, hpriv, hlock, hwrites, hrange1, hrangeF]

section
variable (hlock : s.keys.lock = false)
include hlock

theorem checkCmd_role (h : (i.content = true ∧ s.isHelm = false) ∨ (i.dock = true ∧ s.dev ≠ .dryDock)) :
    checkCmd i c s = some (.state, 0xFFFF) := by
  simp [checkCmd, hlength, hchannel, hsession, hpriv, hlock, h]

section
variable (hhelm : i.content = true → s.isHelm = true) (hdock : i.dock = true → s.dev = .dryDock)
include hhelm hdock

theorem checkCmd_late (hat : c.atTick = true) (hlate : targetLimit c s < c.targetTick) : checkCmd i c s = some (.range, 0x0010) := by
  have hlate' : (if c.ch = 0 then s.now else (s.chan c.ch).readAt) + 2880000 < c.targetTick := hlate
  simpa [checkCmd, hlength, hchannel, hsession, hpriv, hlock, hat, hlate'] using And.intro hhelm hdock

section
variable (hintime : c.atTick = true → c.targetTick ≤ targetLimit c s)
include hintime

omit hlength hchannel hsession hpriv hlock hhelm hdock in
theorem tick_allows : ¬(c.atTick = true ∧ (if c.ch = 0 then s.now else (s.chan c.ch).readAt) + 2880000 < c.targetTick) :=
  fun ⟨hat, hlate⟩ => Nat.not_lt.mpr (hintime hat) hlate

theorem checkCmd_stale {g : Nat} (hgen : i.gen c s = some g) (hcheck : c.checkGen = true) (hother : g ≠ c.expectedGen) :
    checkCmd i c s = some (.stale, 0x0008) := by
  simpa [checkCmd, hlength, hchannel, hsession, hpriv, hlock, tick_allows hintime, hgen, hcheck, hother] using And.intro hhelm hdock

theorem checkCmd_passed (hcheck : c.checkGen = false) : checkCmd i c s = none := by
  cases hgen : i.gen c s with
  | none => simpa [checkCmd, hlength, hchannel, hsession, hpriv, hlock, tick_allows hintime, hgen] using And.intro hhelm hdock
  | some g => simpa [checkCmd, hlength, hchannel, hsession, hpriv, hlock, tick_allows hintime, hgen, hcheck] using And.intro hhelm hdock

end
end
end
end
end
end

/-- Settles O7: each check is reached where those before it pass. -/
theorem firstFailingCheckAnswers : Obligations.FirstFailingCheckAnswers := by
  refine ⟨?refused, fun i c s => ⟨checkCmd_length, checkCmd_channel, checkCmd_session, checkCmd_privilege, checkCmd_tamper, checkCmd_role,
    checkCmd_late, fun hlength hchannel hsession hpriv hlock hhelm hdock hintime _ => checkCmd_stale hlength hchannel hsession hpriv hlock hhelm
      hdock hintime, checkCmd_passed⟩⟩
  case refused =>
    intro i body c s st d hgate hnow hcheck
    have hwaits : waitsTick c (eligTick s c.ch c.units) s.now = false := Bool.eq_false_iff.mpr fun h => hnow (waitsTick_iff.mp h)
    rw [runCmd_admitted hgate hwaits, judge_refused hcheck]

/-! ### Channel 0 and unknown opcodes (R63, R83, R100) -/

/-- Channel 0 takes a command that waits for no tick, and runs it. -/
theorem commitDock_runs {op : Nat} {c : Cmd} {run : Cmd → State → State} {s : State} (hup : dockUp s = true)
    (hwaits : waitsTick c s.now s.now = false) : commitDock op c run s = run { c with ch := 0 } (dockTaken s) := by
  simp only [dockUp, Bool.and_eq_true, Bool.not_eq_true'] at hup
  obtain ⟨hreached, hidle⟩ := hup
  have hwaits' : waitsTick { c with ch := 0 } s.now s.now = false := hwaits
  simp [commitDock, hreached, hidle, hwaits', dockTaken]

section
variable {op : Nat} {c : Cmd} {s : State}

theorem runUnknown_admitted (h : gate c s = true) (hwaits : waitsTick c (eligTick s c.ch c.units) s.now = false) :
    runUnknown op c s = complete c.ch c.tag op c.session c.silent .unknown (admittedAt c s).now 0 ((admittedAt c s).chan c.ch).sqHead 0
      (admittedAt c s) := by
  simp [runUnknown, gate_ring h, h, hwaits, admittedAt]

theorem runUnknown_dock (hch : c.ch = 0) (hup : dockUp s = true) (hwaits : waitsTick c s.now s.now = false) :
    runUnknown op c s = complete 0 c.tag op c.session false .unknown s.now 0 0 0 (dockTaken s) := by
  rw [runUnknown, if_pos hch, commitDock_runs hup hwaits]
  rfl

end

/-- Settles O20: a record of an opcode that is not implemented is read as any other, on a ring or on channel 0. -/
theorem unknownOpcodeAnswered : Obligations.UnknownOpcodeAnswered :=
  ⟨fun _ _ _ _ hgate hwaits => answers_of_eq (runUnknown_admitted hgate hwaits),
    fun _ _ _ hch hup hwaits => answers_of_eq (runUnknown_dock hch hup hwaits)⟩

end Sys2Proof.Proofs

/-! PROOFS.  The host's transactions with HDM and the commands that only read (spec/03_mailboxes_and_cxl.md, R58, R61, R82). -/

namespace Sys2Proof.Proofs
open Sys2Proof Sys2Proof.Machine

/-! ### What a host transaction leaves alone -/

/-- The use of an orphaned IDE key is counted among the keys. -/
theorem useIde_eq_onKeys (s : State) : ∃ f, useIde s = s.onKeys f := by
  unfold useIde
  split
  · exact ⟨_, rfl⟩
  · exact ⟨id, rfl⟩

section
variable (s : State)

@[simp] theorem useIde_host : (useIde s).host = s.host := by obtain ⟨f, hf⟩ := useIde_eq_onKeys s; rw [hf, State.onKeys_host]
@[simp] theorem useIde_hdm : (useIde s).hdm = s.hdm := by obtain ⟨f, hf⟩ := useIde_eq_onKeys s; rw [hf, State.onKeys_hdm]
@[simp] theorem useIde_mbox : (useIde s).mbox = s.mbox := by obtain ⟨f, hf⟩ := useIde_eq_onKeys s; rw [hf, State.onKeys_mbox]
@[simp] theorem useIde_dev : (useIde s).dev = s.dev := by obtain ⟨f, hf⟩ := useIde_eq_onKeys s; rw [hf, State.onKeys_dev]
@[simp] theorem useIde_obj : (useIde s).obj = s.obj := by obtain ⟨f, hf⟩ := useIde_eq_onKeys s; rw [hf, State.onKeys_obj]
@[simp] theorem useIde_time : (useIde s).time = s.time := by obtain ⟨f, hf⟩ := useIde_eq_onKeys s; rw [hf, State.onKeys_time]
@[simp] theorem useIde_chan (ch : Nat) : (useIde s).chan ch = s.chan ch := by rw [State.chan, useIde_mbox]; rfl
@[simp] theorem useIde_hdmUp : (useIde s).hdmUp = s.hdmUp := by rw [State.hdmUp, useIde_host]; rfl
@[simp] theorem useIde_serving : (useIde s).serving = s.serving := by rw [State.serving, useIde_dev]; rfl
@[simp] theorem useIde_now : (useIde s).now = s.now := by rw [State.now, useIde_time]; rfl

end

/-- A fold of steps that each change the heads alone changes the heads alone. -/
theorem foldl_onHeads {α : Type} {step : State → α → State} (hstep : ∀ s x, ∃ f, step s x = s.onHeads f) (l : List α) (s : State) :
    ∃ f, l.foldl step s = s.onHeads f := by
  induction l generalizing s with
  | nil => exact ⟨id, rfl⟩
  | cons x r ih =>
    obtain ⟨f, hf⟩ := hstep s x
    obtain ⟨g, hg⟩ := ih (step s x)
    exact ⟨g ∘ f, by rw [List.foldl_cons, hg, hf]; rfl⟩

/-- What a host write touches of the graphics pages is noted in the heads. -/
theorem markGraphics_eq_onHeads (a n : Nat) (s : State) : ∃ f, markGraphics a n s = s.onHeads f := by
  refine foldl_onHeads (fun s page => ?_) _ s
  dsimp only
  split
  · split
    · exact ⟨_, rfl⟩
    · exact ⟨id, rfl⟩
  · exact ⟨id, rfl⟩

/-! ### HDM addresses and accesses (R61, R209) -/

section
variable {b0 b1 addr a n : Nat} {d : List Byte} {s : State}

theorem hdmOffset_ranges (h0 : s.host.dec0 = some b0) (h1 : s.host.dec1 = some b1) :
    hdmOffset s addr n = if b0 ≤ addr ∧ addr + n ≤ b0 + 0x40000000 then some (addr - b0)
      else if b1 ≤ addr ∧ addr + n ≤ b1 + 0x3C0000000 then some (addr - b1 + 0x40000000) else none := by
  simp only [hdmOffset, h0, h1]

/-- A host write to HDM, on the heads and keys that it leaves. -/
theorem hostWrite_eq (h : s.hdmUp = true) : ∃ f g, hostWrite a d s = ((((s.onKeys f).onHeads g).hdmWrite a d).onHost fun x =>
    { x with poison := x.poison.filter fun w => !wholeWord a d.length w }) := by
  obtain ⟨f, hf⟩ := useIde_eq_onKeys s
  obtain ⟨g, hg⟩ := markGraphics_eq_onHeads a d.length (s.onKeys f)
  exact ⟨f, g, by rw [hostWrite, h, hf, hg]; rfl⟩

theorem hostRead_eq (h : s.hdmUp = true) :
    hostRead a n s = (useIde s).onHost fun x => { x with readData := memRead s.hdm a n, readPoison := x.poison.any (touchesWord a n) } := by
  simp [hostRead, h]

end

/-- Settles O19: the address names a byte of HDM by the two ranges, and the access then is one of that memory. -/
theorem hostMemoryAccess : Obligations.HostMemoryAccess := by
  refine ⟨?ranges, ?write, ?read, fun _ _ _ h => hostHdmWrite_down h, fun _ _ _ h => hostHdmRead_down h,
    fun _ _ _ _ hup => ⟨hostHdmWrite_unmapped hup, hostHdmRead_unmapped hup⟩⟩
  case ranges =>
    intro b0 b1 addr n s h0 h1
    simp only [hdmOffset_ranges h0 h1]
    exact ⟨fun hlow hhigh => if_pos ⟨hlow, hhigh⟩, fun hnot hlow hhigh => (if_neg hnot).trans (if_pos ⟨hlow, hhigh⟩),
      fun hnot0 hnot1 => (if_neg hnot0).trans (if_neg hnot1)⟩
  case write =>
    intro addr a d s hcanon hup ha
    obtain ⟨f, g, heq⟩ := hostWrite_eq (a := a) (d := d) hup
    refine ⟨hostWrite a d s, hostHdmWrite_mapped hup ha, ?_⟩
    rw [heq]
    exact ⟨memRead_memWrite hcanon, fun b hb => memGet_memWrite_outside hcanon hb, rfl, rfl, rfl, rfl⟩
  case read =>
    intro addr a n s hup ha
    refine ⟨hostRead a n s, hostHdmRead_mapped hup ha, ?_⟩
    simp [hostRead_eq hup]

/-! ### A plain PCI Express link (R58) -/

section
variable {ch value : Nat} {s : State}

/-- A channel that takes no doorbell (R73, R74). -/
theorem doorbell_ignored (h : ch = 0 ∨ 64 ≤ ch ∨ s.serving = false ∨ s.hdmUp = false ∨ (s.chan ch).ringFault = true) : doorbell ch value s = s :=
  if_pos h

theorem hdmUp_of_pcie (h : s.host.link = .pcie) : s.hdmUp = false := by
  simp [State.hdmUp, h]

theorem gate_of_hdmDown {c : Cmd} (h : s.hdmUp = false) : gate c s = false := by
  simp [gate, h]

/-- DEVICE_STATE's lower bits do not reach bit 6. -/
theorem deviceState_shows_pcie (h : s.host.link = .pcie) : bitOf (deviceStateWord s) 6 = true := by
  have hcode : s.dev.code ≤ 9 := by cases s.dev <;> decide
  have hlock : bit s.keys.lock ≤ 1 := by cases s.keys.lock <;> decide
  have hcxl : bit (decide (s.host.link = .cxl)) = 0 := by rw [h]; rfl
  have hpcie : bit (decide (s.host.link = .pcie)) = 1 := by rw [h]; rfl
  simp only [bitOf, deviceStateWord, hcxl, hpcie, beq_iff_eq]
  omega

end

/-- Settles O15: without a CXL link HDM is not reached, and every gate but that of channel 0 asks for it. -/
theorem plainLinkOffersOnlyChannelZero : Obligations.PlainLinkOffersOnlyChannelZero := by
  intro s hlink
  have hdown : s.hdmUp = false := hdmUp_of_pcie hlink
  refine ⟨fun _ _ => hostHdmWrite_down hdown, fun _ _ => hostHdmRead_down hdown, deviceState_shows_pcie hlink,
    fun _ _ _ hch => runCmd_ungated hch (gate_of_hdmDown hdown), ?dock, fun ch v => answers_of_eq (doorbell_ignored ?down), useIde_chan s⟩
  case dock =>
    intro hdev hidle
    simp [dockUp, dockReached, hlink, hdev, hidle]
  case down => simp [hdown]

/-! ### Commands that only read (R82) -/

/-- A command that replies with one block of a fixed length. -/
theorem carries_reply {row : Cmd → Instr} {i : CmdInfo} {len : Nat} {block : State → List Byte}
    (hexec : ∀ c s, exec (row c) s = answer (runCmd i (fun c s => reply c 0 len 0 (block s) s) c s) := by intros; rfl) :
    Carries row i (fun c _ => replyFits c 0 len) (fun c s => replied c 0 0 (block s) s) :=
  carries_of_effect (body := fun c s => reply c 0 len 0 (block s) s) (fun _ _ h => reply_fits h) hexec

section
variable {c : Cmd} {s : State}

theorem readRoutes_replies (hone : 1 ≤ c.u16 2) (hmost : c.u16 2 ≤ 2048) (hend : c.u16 0 + c.u16 2 ≤ 65536)
    (hrange : destRange (c.u16 0) = destRange (c.u16 0 + c.u16 2 - 1)) (hfits : replyFits c 4 (32 * c.u16 2)) :
    readRoutes c s = replied c 4 0 ((span (c.u16 0) (c.u16 2)).flatMap (routeRecord s)) s := by
  have hgood : decide (1 ≤ c.u16 2 ∧ c.u16 2 ≤ 2048 ∧ c.u16 0 + c.u16 2 ≤ 65536 ∧ destRange (c.u16 0) = destRange (c.u16 0 + c.u16 2 - 1)) = true :=
    decide_eq_true ⟨hone, hmost, hend, hrange⟩
  simp only [readRoutes, firstBad, hgood, if_true]
  exact reply_fits hfits

theorem readBerths_replies (hone : 1 ≤ c.u16 2) (hmost : c.u16 2 ≤ 512) (hfits : replyFits c 4 (32 * c.u16 2)) :
    let found := (s.wharf.berths.map Prod.fst).filter fun b => berthed s b ∧ c.u16 0 ≤ b ∧ b < c.u16 0 + c.u16 2
    readBerths c s = replied c 4 found.length (found.flatMap (berthRecord s)) s :=
  (if_neg (by omega)).trans (reply_fits hfits)

theorem readAudioSources_replies (hone : 1 ≤ c.u16 2) (hmost : c.u16 2 ≤ 512) (hfits : replyFits c 4 (32 * c.u16 2)) :
    let found := (liveInputs s).filter fun b => c.u16 0 ≤ b ∧ b < c.u16 0 + c.u16 2 ∧ (s.stream b).audioCount ≠ 0
    readAudioSources c s = replied c 4 found.length (found.flatMap (audioRecord s)) s :=
  (if_neg (by omega)).trans (reply_fits hfits)

theorem readHead_replies (hhead : c.u8 0 < 32) (hcopy : c.u8 1 ≤ 1) (hfits : replyFits c 4 8256) :
    readHead c s = replied c 4 0 (headBytes (c.u8 0) (if c.u8 1 = 1 then (s.headObj (c.u8 0)).cfg else pendingCfg s (c.u8 0))) s :=
  (if_neg (by omega)).trans ((if_neg (by omega)).trans (reply_fits hfits))

theorem attest_replies {key : List Byte} (hkey : (s.keySlot 1).current = some key) (hfits : replyFits c 0x20 208) :
    attest c s = replied c 0x20 0 (attestBytes c s ++ macOf key (attestBytes c s)) s := by
  simp only [attest, hkey]
  exact reply_fits hfits

theorem attest_keyless (hkey : (s.keySlot 1).current = none) : attest c s = rej .state 0xFFFF s := by
  simp only [attest, hkey]

end

/-- Settles O16: each command is its reply, once its operands are in range. -/
theorem readCommandsReply : Obligations.ReadCommandsReply :=
  ⟨⟨carries_reply, carries_reply, carries_reply, carries_reply, carries_reply, carries_reply, carries_reply, carries_reply, carries_reply,
      carries_reply⟩,
    carries_of_effect fun _ _ ⟨hone, hmost, hend, hrange, hfits⟩ => readRoutes_replies hone hmost hend hrange hfits,
    carries_of_effect fun _ _ ⟨hone, hmost, hfits⟩ => readBerths_replies hone hmost hfits,
    carries_of_effect fun _ _ ⟨hone, hmost, hfits⟩ => readAudioSources_replies hone hmost hfits,
    carries_of_effect fun _ _ ⟨hhead, hcopy, hfits⟩ => readHead_replies hhead hcopy hfits,
    fun _ => carries_of_effect fun _ _ ⟨hkey, hfits⟩ => attest_replies hkey hfits,
    carries_of_effect fun _ _ hkey => attest_keyless hkey⟩

end Sys2Proof.Proofs

/-! PROOFS.  Sessions and the link (spec/03_mailboxes_and_cxl.md, R58 to R59, R68 to R71, R93 to R98): what the end of a session changes,
the device and session commands, and the host link's own rows. -/

namespace Sys2Proof.Proofs
open Sys2Proof Sys2Proof.Machine

/-! ### What the end of a session changes (R70, R171, R288) -/

/-- `t` is `s` but for the channels, the heads, the destinations in service and HDM. -/
def EndsSessionsOnly (s t : State) : Prop :=
  ∃ channels heads basin hdm, t = { s with mbox := { s.mbox with channels := channels }, heads := heads, basin := basin, hdm := hdm }

theorem EndsSessionsOnly.refl (s : State) : EndsSessionsOnly s s := ⟨_, _, _, _, rfl⟩

theorem EndsSessionsOnly.trans {s t u : State} (h : EndsSessionsOnly s t) (h' : EndsSessionsOnly t u) : EndsSessionsOnly s u := by
  obtain ⟨_, _, _, _, rfl⟩ := h
  obtain ⟨_, _, _, _, rfl⟩ := h'
  exact ⟨_, _, _, _, rfl⟩

theorem EndsSessionsOnly.obj {s t : State} (h : EndsSessionsOnly s t) : t.obj = s.obj := by
  obtain ⟨_, _, _, _, rfl⟩ := h
  rfl

theorem onChan_endsOnly (s : State) (ch : Nat) (f : Channel → Channel) : EndsSessionsOnly s (s.onChan ch f) := ⟨_, _, _, _, rfl⟩

theorem syncChannel_endsOnly (ch : Nat) (s : State) : EndsSessionsOnly s (syncChannel ch s) := ⟨_, _, _, _, syncChannel_eq ch s⟩

theorem resetRings_endsOnly (ch : Nat) (s : State) : EndsSessionsOnly s (resetRings ch s) :=
  (onChan_endsOnly s ch _).trans (syncChannel_endsOnly ch _)

theorem drainChannel_endsOnly (ch : Nat) (s : State) : EndsSessionsOnly s (drainChannel ch s) := by
  unfold drainChannel
  split
  · exact resetRings_endsOnly ch s
  · exact .refl s

/-- A channel whose session has ended. -/
def sessionEnded (k : Channel) : Channel :=
  { k with isOpen := false, draining := true, held := none, session := 0, priv := 0, leaseMs := 0, leaseAge := 0, label := [],
           headShown := some (k.headShown.getD k.sqHead), sqHead := k.sqTail, eligible := k.sqTail, elig := [] }

/-- A channel closes: its session ends, and the channel drains. -/
theorem closeChannel_eq (ch : Nat) (s : State) : closeChannel ch s = drainChannel ch (syncChannel ch
    ((dropPending (s.chan ch).session (s.onChan ch sessionEnded)).onBasin fun b => { b with routes := b.routes.filterMap (unprotect (s.chan ch).session) })) :=
  rfl

theorem closeChannel_endsOnly (ch : Nat) (s : State) : EndsSessionsOnly s (closeChannel ch s) := by
  rw [closeChannel_eq]
  refine .trans ?_ ((syncChannel_endsOnly ch _).trans (drainChannel_endsOnly ch _))
  exact ⟨_, _, _, _, rfl⟩

@[simp] theorem closeChannel_obj (ch : Nat) (s : State) : (closeChannel ch s).obj = s.obj := (closeChannel_endsOnly ch s).obj

theorem drainChannel_channelsOk {ch : Nat} {s : State} (h : ChannelsOk s) : ChannelsOk (drainChannel ch s) := by
  unfold drainChannel
  split
  · exact onChan_channelsOk h
  · exact h

/-- Draining opens and closes no session. -/
theorem drainChannel_isOpen {ch d : Nat} {s : State} (h : ChannelsOk s) : ((drainChannel ch s).chan d).isOpen = (s.chan d).isOpen := by
  unfold drainChannel
  split
  · rw [resetRings, syncChannel_chan]
    exact onChan_field Channel.isOpen h fun _ => rfl
  · rfl

theorem closeChannel_channelsOk {ch : Nat} {s : State} (h : ChannelsOk s) : ChannelsOk (closeChannel ch s) := by
  rw [closeChannel_eq]
  exact drainChannel_channelsOk (onChan_channelsOk (f := sessionEnded) h)

/-- Of the sessions, that of the closing channel ends, and no other. -/
theorem closeChannel_isOpen {ch d : Nat} {s : State} (h : ChannelsOk s) :
    ((closeChannel ch s).chan d).isOpen = if d = ch then false else (s.chan d).isOpen := by
  have hended : ((s.onChan ch sessionEnded).chan d).isOpen = if d = ch then false else (s.chan d).isOpen := by
    rw [onChan_chan h]
    split
    · rfl
    · rfl
  rw [closeChannel_eq, drainChannel_isOpen (by exact onChan_channelsOk (f := sessionEnded) h)]
  exact hended

/-! ### Every session closes (R59) -/

/-- A channel closes where a session is open on it. -/
def closeIfOpen (s : State) (ch : Nat) : State := if (s.chan ch).isOpen then closeChannel ch s else s

theorem closeSessions_eq (s : State) : closeSessions s = ((List.range 61).map (· + 3)).foldl closeIfOpen s := rfl

section
variable {s : State} {ch d : Nat}

theorem closeIfOpen_endsOnly : EndsSessionsOnly s (closeIfOpen s ch) := by
  unfold closeIfOpen
  split
  · exact closeChannel_endsOnly ch s
  · exact .refl s

theorem closeIfOpen_channelsOk (h : ChannelsOk s) : ChannelsOk (closeIfOpen s ch) := by
  unfold closeIfOpen
  split
  · exact closeChannel_channelsOk h
  · exact h

theorem closeIfOpen_isOpen (h : ChannelsOk s) : ((closeIfOpen s ch).chan d).isOpen = if d = ch then false else (s.chan d).isOpen := by
  unfold closeIfOpen
  split
  · exact closeChannel_isOpen h
  · next hshut =>
    split
    · next hd => rw [hd]; exact Bool.eq_false_iff.mpr hshut
    · rfl

end

theorem foldl_closeIfOpen_endsOnly (l : List Nat) (s : State) : EndsSessionsOnly s (l.foldl closeIfOpen s) := by
  induction l generalizing s with
  | nil => exact .refl s
  | cons ch r ih => exact closeIfOpen_endsOnly.trans (ih _)

/-- Sessions on the channels listed end, the others stand. -/
theorem foldl_closeIfOpen_isOpen {d : Nat} (l : List Nat) {s : State} (h : ChannelsOk s) :
    ((l.foldl closeIfOpen s).chan d).isOpen = if d ∈ l then false else (s.chan d).isOpen := by
  induction l generalizing s with
  | nil => rfl
  | cons ch r ih =>
    rw [List.foldl_cons, ih (closeIfOpen_channelsOk h), closeIfOpen_isOpen h]
    by_cases hr : d ∈ r
    · simp [hr]
    · by_cases hd : d = ch
      · simp [hd]
      · simp [hr, hd]

theorem closeSessions_isOpen {d : Nat} {s : State} (h : ChannelsOk s) (hlow : 3 ≤ d) (hhigh : d ≤ 63) :
    ((closeSessions s).chan d).isOpen = false := by
  have hmem : d ∈ (List.range 61).map (· + 3) := List.mem_map.mpr ⟨d - 3, List.mem_range.mpr (by omega), by omega⟩
  rw [closeSessions_eq, foldl_closeIfOpen_isOpen _ h, if_pos hmem]

/-! ### The link is lost (R59) -/

/-- PERST_N low, where it is the cause of the loss. -/
def perstDropped (cause : LossCause) (s : State) : State := if cause = .perst then s.onPins fun p => { p with perstN := false } else s

/-- What a link loss takes from the keys, the host port and the mailbox. -/
def linkCleared (s : State) : State :=
  ((s.onKeys fun k => { k with ide := [] }).onHost fun h =>
    { h with link := .down, linkWidth := 0, linkRate := 0, linkLost := true, dec0 := none, dec1 := none, msixTable := [], config := [], bar2 := [],
             ideIo := false, ideMem := false }).onMbox fun m => { m with notifyAddr := 0, notifyOn := false }

@[simp] theorem linkCleared_chan (s : State) (ch : Nat) : (linkCleared s).chan ch = s.chan ch := rfl

theorem linkLoss_eq (cause : LossCause) (s : State) :
    linkLoss cause s = masterReset 0 1 (defaultIrqs (linkCleared (closeSessions (disown (fun ch => decide (1 ≤ ch)) (perstDropped cause s))))) :=
  rfl

theorem perstDropped_eq (cause : LossCause) (s : State) : ∃ f, perstDropped cause s = s.onPins f := by
  unfold perstDropped
  split
  · exact ⟨_, rfl⟩
  · exact ⟨id, rfl⟩

/-- Commands of a disowned channel owe no completion. -/
theorem disown_jobs {p : Nat → Bool} {s : State} {j : Job} (hj : j ∈ (disown p s).mbox.jobs) (hp : p j.cmd.ch = true) : j.owed = false := by
  obtain ⟨k, -, rfl⟩ := List.mem_map.mp hj
  by_cases hk : p k.cmd.ch = true
  · simp [hk]
  · simp only [hk] at hp
    exact absurd hp hk

/-- The interrupt settings' return to their defaults opens and closes no session. -/
theorem defaultIrqs_isOpen (s : State) (ch : Nat) : ((defaultIrqs s).chan ch).isOpen = (s.chan ch).isOpen :=
  tget_map_field Channel.isOpen
    (g := fun e => { e.2 with irq := { e.2.irq with vector := 4 + e.1 % 60, n := 1, m := 0, next := none } }) (fun _ => rfl) s.mbox.channels ch

/-- What stands once the link is lost, before the controller's master is reset. -/
theorem linkCleared_after {s u : State} (h : EndsSessionsOnly s u) :
    let t := defaultIrqs (linkCleared u)
    t.host = { s.host with link := .down, linkWidth := 0, linkRate := 0, linkLost := true, dec0 := none, dec1 := none, msixTable := [], config := [],
                           bar2 := [], ideIo := false, ideMem := false } ∧
    t.mbox.jobs = s.mbox.jobs ∧ t.mbox.notifyAddr = 0 ∧ t.mbox.notifyOn = false ∧ t.mbox.msixPending = 0 ∧
    t.keys.ide = [] ∧ t.obj = s.obj ∧ t.time = s.time ∧ t.streams = s.streams ∧ t.audio = s.audio ∧ t.tow = s.tow ∧ t.twin = s.twin ∧
    t.wharf = s.wharf ∧ t.dev = s.dev := by
  obtain ⟨_, _, _, _, rfl⟩ := h
  exact ⟨rfl, rfl, rfl, rfl, rfl, rfl, rfl, rfl, rfl, rfl, rfl, rfl, rfl, rfl⟩

/-! ### The link comes up (R58, R61, R73) -/

section
variable {d base w r : Nat} {s : State}

theorem commitDecoder_cxl (h : s.host.link = .cxl) :
    commitDecoder d base s = s.onHost fun x => if d = 0 then { x with dec0 := some base } else { x with dec1 := some base } :=
  if_pos h

theorem cxlLinkUp_trains (h : mayTrain s = true) :
    let t := s.onHost fun x => { x with link := .cxl, linkWidth := w, linkRate := r, linkLost := false, trained := true }
    cxlLinkUp w r s = if s.host.linkLost = true then resetAllRings t else t := by
  simp only [cxlLinkUp, h, Bool.not_true, Bool.false_eq_true, if_false]

theorem pcieLinkUp_trains (h : mayTrain s = true) :
    let t := s.onHost fun x => { x with link := .pcie, linkWidth := w, linkRate := r, linkLost := false, trained := true, dec0 := none, dec1 := none }
    pcieLinkUp w r s = if s.host.linkLost = true then resetAllRings t else t := by
  simp only [pcieLinkUp, h, Bool.not_true, Bool.false_eq_true, if_false]

end

/-- Settles O14: a link loss ends sessions and clears what is listed, in a state that the sessions' end leaves otherwise as it was. -/
theorem hostLinkRowsComplete : Obligations.HostLinkRowsComplete := by
  refine ⟨⟨fun _ _ _ h => answers_of_eq (commitDecoder_cxl h), fun _ _ _ h => answers_of_eq (cxlLinkUp_trains h),
    fun _ _ _ h => answers_of_eq (pcieLinkUp_trains h), fun _ => answers_of_eq rfl, fun _ _ => answers_of_eq rfl⟩, ?loss⟩
  case loss =>
    intro cause s
    obtain ⟨f, hf⟩ := perstDropped_eq cause s
    let owned := disown (fun ch => decide (1 ≤ ch)) (s.onPins f)
    obtain ⟨hhost, hjobs, haddr, hon, hmsix, hide, hobj, htime, hstreams, haudio, htow, htwin, hwharf, hdev⟩ :=
      linkCleared_after (s := owned) (u := closeSessions owned) (foldl_closeIfOpen_endsOnly _ owned)
    have hloss : linkLoss cause s = masterReset 0 1 (defaultIrqs (linkCleared (closeSessions owned))) := by
      rw [linkLoss_eq, hf]
    refine ⟨_, answers_of_eq hloss, hhost, ?shut, ?owed, haddr, hon, hmsix, hide, hobj, htime, hstreams, haudio, htow, htwin, hwharf, hdev⟩
    case shut =>
      intro hok ch hlow hhigh
      rw [defaultIrqs_isOpen, linkCleared_chan]
      exact closeSessions_isOpen (s := owned) hok hlow hhigh
    case owed =>
      intro j hj hch
      rw [hjobs] at hj
      exact disown_jobs hj (decide_eq_true hch)

end Sys2Proof.Proofs

/-! PROOFS.  The device and session commands (spec/03_mailboxes_and_cxl.md, R68 to R71, R93 to R98). -/

namespace Sys2Proof.Proofs
open Sys2Proof Sys2Proof.Machine

/-! ### Admission (R71, R72) -/

section
variable {c : Cmd} {s : State}

/-- A channel whose record at SQ_HEAD has been read. -/
def recordRead (c : Cmd) (s : State) (k : Channel) : Channel :=
  { k with sqHead := ((s.chan c.ch).sqHead + c.units) % 4096,
           sqTail := if ((s.chan c.ch).sqTail + 4096 - (s.chan c.ch).sqHead) % 4096 < c.units then ((s.chan c.ch).sqHead + c.units) % 4096 else k.sqTail,
           readAt := eligTick s c.ch c.units, elig := k.elig.filter fun e => decide (c.units < unitsTo k.sqHead e.1),
           eligible := if (k.eligible + 4096 - k.sqHead) % 4096 < c.units then ((s.chan c.ch).sqHead + c.units) % 4096 else k.eligible }

/-- Of the channels, a record's reading changes its own alone. -/
theorem countRead_channels : (countRead c s).mbox.channels = (s.onChan c.ch (recordRead c s)).mbox.channels := rfl

theorem countRead_channelsOk (h : ChannelsOk s) : ChannelsOk (countRead c s) := by
  rw [ChannelsOk, countRead_channels]
  exact onChan_channelsOk h

/-- A record's reading opens and closes no session, and numbers none. -/
theorem countRead_session (h : ChannelsOk s) (ch : Nat) :
    ((countRead c s).chan ch).isOpen = (s.chan ch).isOpen ∧ ((countRead c s).chan ch).session = (s.chan ch).session := by
  have hchan : (countRead c s).chan ch = (s.onChan c.ch (recordRead c s)).chan ch := by rw [State.chan, countRead_channels]; rfl
  rw [hchan]
  exact ⟨onChan_field Channel.isOpen h fun _ => rfl, onChan_field Channel.session h fun _ => rfl⟩

theorem admittedAt_channelsOk (h : ChannelsOk s) : ChannelsOk (admittedAt c s) := by
  unfold admittedAt renewLease
  split
  · exact onChan_channelsOk (countRead_channelsOk h)
  · exact countRead_channelsOk h

@[simp] theorem admittedAt_obj : (admittedAt c s).obj = s.obj := by
  unfold admittedAt renewLease
  split
  · rfl
  · rfl

/-- An admission renews the lease of the session that the record names (R71). -/
theorem admittedAt_renews (h : ChannelsOk s) (hopen : (s.chan c.ch).isOpen = true) (hsession : (s.chan c.ch).session = c.session) :
    ((admittedAt c s).chan c.ch).leaseAge = 0 := by
  obtain ⟨hopen', hsession'⟩ := countRead_session (c := c) h c.ch
  have hcond : ((countRead c s).chan c.ch).isOpen = true ∧ ((countRead c s).chan c.ch).session = c.session :=
    ⟨hopen'.trans hopen, hsession'.trans hsession⟩
  rw [admittedAt, renewLease, if_pos hcond, onChan_chan (countRead_channelsOk h), if_pos rfl]

/-- An admission opens and closes no session, and numbers none. -/
theorem admittedAt_session (h : ChannelsOk s) (ch : Nat) :
    ((admittedAt c s).chan ch).isOpen = (s.chan ch).isOpen ∧ ((admittedAt c s).chan ch).session = (s.chan ch).session := by
  obtain ⟨hopen, hsession⟩ := countRead_session (c := c) h ch
  have hok : ChannelsOk (countRead c s) := countRead_channelsOk h
  unfold admittedAt renewLease
  split
  · rw [onChan_field Channel.isOpen hok (by intro; rfl), onChan_field Channel.session hok (by intro; rfl)]
    exact ⟨hopen, hsession⟩
  · exact ⟨hopen, hsession⟩

end

/-! ### Conclusion -/

section
variable {i : CmdInfo} {c : Cmd} {s : State} {st : Status}

@[simp] theorem carry_obj : (carry i c st s).obj = s.obj := by
  unfold carry; split <;> rfl

theorem carry_mbox : (carry i c st s).mbox = s.mbox := by
  unfold carry; split <;> rfl

theorem carry_channelsOk (h : ChannelsOk s) : ChannelsOk (carry i c st s) := by
  rw [ChannelsOk, carry_mbox]
  exact h

/-- A command that closes its channel does so behind its completion. -/
theorem conclude_closes {r : Res} {ch : Nat} (hdone : r.status = .done) (hclose : r.close = some ch) :
    conclude i c r = closeChannel ch (complete c.ch c.tag i.opcode (r.session.getD c.session) c.silent .done r.s.now (newGen i c r.s)
      (r.s.chan c.ch).sqHead r.detail (carry i c .done r.s)) := by
  simp [conclude, hdone, hclose]

/-- The record's channel is one of those that accept it, and its session is right there. -/
theorem checkCmd_none (h : checkCmd i c s = none) : acceptedOn i c.ch = true ∧ sessionOk i c s = true := by
  by_cases hlength : c.length = i.length c
  · by_cases hchannel : acceptedOn i c.ch = true
    · refine ⟨hchannel, Bool.of_not_eq_false fun hsession => ?_⟩
      rw [checkCmd_session hlength hchannel hsession] at h
      cases h
    · rw [checkCmd_channel hlength (Bool.eq_false_iff.mpr hchannel)] at h
      cases h
  · rw [checkCmd_length hlength] at h
    cases h

/-- KEEPALIVE is accepted on the channels of sessions alone. -/
theorem keepalive_channel (h : acceptedOn keepaliveInfo c.ch = true) : 3 ≤ c.ch := by
  by_contra hlow
  obtain hch | hch | hch : c.ch = 0 ∨ c.ch = 1 ∨ c.ch = 2 := by omega
  all_goals simp [acceptedOn, keepaliveInfo, hch] at h

/-- A KEEPALIVE that passes the checks names the open session of its channel. -/
theorem keepalive_session (h : checkCmd keepaliveInfo c s = none) : (s.chan c.ch).isOpen = true ∧ (s.chan c.ch).session = c.session := by
  obtain ⟨hchannel, hsession⟩ := checkCmd_none h
  have hring : ¬c.ch ≤ 2 := by have := keepalive_channel hchannel; omega
  cases hopen : (s.chan c.ch).isOpen with
  | false => simp [sessionOk, hring, hopen, keepaliveInfo] at hsession
  | true =>
    simp only [sessionOk, hring, hopen, if_false, if_true, decide_eq_true_eq] at hsession
    exact ⟨rfl, hsession.symm⟩

end

/-! ### CLOSE_SESSION and KEEPALIVE (R95) -/

section
variable {c : Cmd} {s : State}

theorem exec_closeSession (h : accepts closeSessionInfo c s) (hok : ChannelsOk s) :
    ∃ t, exec (.closeSession c) s = .next t ∧ (t.chan c.ch).isOpen = false ∧ t.obj = s.obj := by
  obtain ⟨hgate, -, -⟩ := id h
  have hexec : exec (.closeSession c) s = answer (runCmd closeSessionInfo closeSession c s) := rfl
  refine ⟨_, hexec.trans (answer_accepts h), ?_⟩
  rw [conclude_closes (ch := c.ch) rfl rfl]
  refine ⟨?shut, ?objects⟩
  case shut =>
    have hcarried : ChannelsOk (carry closeSessionInfo c .done (admittedAt c s)) := carry_channelsOk (admittedAt_channelsOk hok)
    exact (closeChannel_isOpen (complete_channelsOk (gate_ring hgate) hcarried)).trans (if_pos rfl)
  case objects =>
    rw [State.settled, State.onHdm_obj, closeChannel_obj, complete_obj, carry_obj]
    exact admittedAt_obj

theorem exec_keepalive (h : accepts keepaliveInfo c s) (hok : ChannelsOk s) :
    ∃ t, exec (.keepalive c) s = .next t ∧ (t.chan c.ch).leaseAge = 0 ∧ t.obj = s.obj := by
  obtain ⟨hgate, -, hcheck⟩ := id h
  obtain ⟨hopen, hsession⟩ := keepalive_session hcheck
  obtain ⟨hopen', hsession'⟩ := admittedAt_session (c := c) hok c.ch
  have hexec : exec (.keepalive c) s = answer (runCmd keepaliveInfo keepalive c s) := rfl
  refine ⟨_, hexec.trans (answer_accepts h), ?_⟩
  rw [conclude_done rfl rfl]
  refine ⟨?renewed, ?objects⟩
  case renewed =>
    have hcarried : ChannelsOk (carry keepaliveInfo c .done (admittedAt c s)) := carry_channelsOk (admittedAt_channelsOk hok)
    refine (complete_field Channel.leaseAge (gate_ring hgate) hcarried fun _ _ => rfl).trans ?_
    rw [carry_chan]
    exact admittedAt_renews hok (hopen'.symm.trans hopen) (hsession'.symm.trans hsession)
  case objects =>
    rw [State.settled, State.onHdm_obj, complete_obj, carry_obj]
    exact admittedAt_obj

end

/-- Settles O11: the close stands behind the completion, and an accepted KEEPALIVE is one of the session whose lease its admission renews. -/
theorem closeAndKeepalive : Obligations.CloseAndKeepalive :=
  ⟨fun _ => rfl, fun _ => rfl, carries_of_effect fun _ _ _ => rfl, fun _ r hclose => ⟨_, by rw [conclude, hclose]⟩,
    carries_of_effect fun _ _ _ => rfl, fun _ _ hok hopen hsession => admittedAt_renews hok hopen hsession,
    fun _ _ haccepts hok => exec_closeSession haccepts hok, fun _ _ haccepts hok => exec_keepalive haccepts hok⟩

/-! ### OPEN_SESSION, SET_INTERRUPTS, SET_CHANNEL_CEILING, SET_NOTIFY (R94, R96 to R98) -/

section
variable {c : Cmd} {s : State}

theorem openSession_draining (h : (s.chan c.ch).draining = true) : openSession c s = rej .busy 0 s := if_pos h

theorem openSession_opens (hdraining : (s.chan c.ch).draining = false) (hlease : c.u32 4 = 0 ∨ (100 ≤ c.u32 4 ∧ c.u32 4 ≤ 600000)) :
    openSession c s =
      { s := syncChannel c.ch ((s.onMbox fun x => { x with usedSessions := setAdd x.usedSessions (newSession s) }).onChan c.ch fun k =>
               { k with isOpen := true, session := newSession s, priv := grantedMask (c.u32 0) c.ch s, leaseMs := c.u32 4, leaseAge := 0,
                        label := c.bytes 8 16 }),
        detail := newSession s + 65536 * grantedMask (c.u32 0) c.ch s, session := some (newSession s) } :=
  (if_neg (by simp [hdraining])).trans (if_neg (by omega))

/-- The fields of SET_INTERRUPTS in range, for a ring of completions or of events. -/
theorem interruptFields_ok (hkind : c.u8 0 ≤ 1) (hring : c.u8 1 < if c.u8 0 = 0 then 64 else 4) (hvector : c.u8 2 < 64) (hcount : c.u16 4 ≤ 1024)
    (htime : c.u16 6 ≤ 4800) :
    firstBad [(decide (c.u8 0 ≤ 1), 0x20), (decide (c.u8 1 < if c.u8 0 = 0 then 64 else 4), 0x21), (decide (c.u8 2 < 64), 0x22),
      (decide (c.u16 4 ≤ 1024), 0x24), (decide (c.u16 6 ≤ 4800), 0x26)] = none := by
  simp only [firstBad, hkind, hring, hvector, hcount, htime, decide_true, if_true]

theorem setInterrupts_completions (hkind : c.u8 0 = 0) (hring : c.u8 1 < 64) (hvector : c.u8 2 < 64) (hcount : c.u16 4 ≤ 1024)
    (htime : c.u16 6 ≤ 4800) :
    setInterrupts c s = ok (s.onChan (c.u8 1) fun x =>
      { x with irq := { s.chIrq (c.u8 1) with next := some (c.u8 2, if c.u16 4 = 0 then 1 else c.u16 4, c.u16 6) } }) := by
  simp only [setInterrupts, interruptFields_ok (c := c) (by omega) (by rw [if_pos hkind]; exact hring) hvector hcount htime]
  exact if_pos hkind

theorem setInterrupts_events (hkind : c.u8 0 = 1) (hring : c.u8 1 < 4) (hvector : c.u8 2 < 64) (hcount : c.u16 4 ≤ 1024)
    (htime : c.u16 6 ≤ 4800) :
    setInterrupts c s = ok (s.onRing (c.u8 1) fun x =>
      { x with irq := { s.ringIrq (c.u8 1) with next := some (c.u8 2, if c.u16 4 = 0 then 1 else c.u16 4, c.u16 6) } }) := by
  have hother : ¬c.u8 0 = 0 := by omega
  simp only [setInterrupts, interruptFields_ok (c := c) (by omega) (by rw [if_neg hother]; exact hring) hvector hcount htime]
  exact if_neg hother

theorem setNotify_set (haligned : c.u64 0 % 64 = 0) (hon : c.u8 8 ≤ 1) :
    setNotify c s = ok (s.onMbox fun m => { m with notifyAddr := c.u64 0, notifyOn := decide (c.u8 8 = 1) }) := by
  simp only [setNotify, firstBad, haligned, hon, decide_true, if_true]

/-- The ceiling of a channel written. -/
def ceilingSet (c : Cmd) (s : State) : State :=
  (s.onObj fun o => { o with ceilings := tset 0xFFFE o.ceilings (c.u8 0) (Nat.land (c.u32 4) 0xFFFE) }).touch 0x01 (c.u8 0)

theorem setChannelCeiling_open (hlow : 3 ≤ c.u8 0) (hhigh : c.u8 0 ≤ 63) (hopen : (s.chan (c.u8 0)).isOpen = true) :
    setChannelCeiling c s =
      { s := (ceilingSet c s).onChan (c.u8 0) fun k => { k with priv := Nat.land k.priv (Nat.land (c.u32 4) 0xFFFE) },
        close := if bitOf (c.u8 1) 0 then some (c.u8 0) else none } := by
  rw [setChannelCeiling, if_neg (by omega)]
  simp only [hopen, and_true, if_true]
  rfl

theorem setChannelCeiling_shut (hlow : 3 ≤ c.u8 0) (hhigh : c.u8 0 ≤ 63) (hshut : (s.chan (c.u8 0)).isOpen = false) :
    setChannelCeiling c s = ok (ceilingSet c s) := by
  rw [setChannelCeiling, if_neg (by omega)]
  simp only [hshut, Bool.false_eq_true, and_false, if_false]
  rfl

end

/-- Settles O10: each clause is the command's effect once its fields are in range. -/
theorem sessionCommandsComplete : Obligations.SessionCommandsComplete :=
  ⟨⟨carries_of_effect fun _ _ hfits => reply_fits hfits,
      carries_of_effect fun _ _ ⟨hdraining, hlease⟩ => openSession_opens hdraining hlease,
      carries_of_effect fun _ _ hdraining => openSession_draining hdraining,
      carries_of_effect fun _ _ ⟨hkind, hring, hvector, hcount, htime⟩ => setInterrupts_completions hkind hring hvector hcount htime,
      carries_of_effect fun _ _ ⟨hkind, hring, hvector, hcount, htime⟩ => setInterrupts_events hkind hring hvector hcount htime,
      carries_of_effect fun _ _ ⟨haligned, hon⟩ => setNotify_set haligned hon⟩,
    carries_of_effect fun _ _ ⟨hlow, hhigh, hopen⟩ => setChannelCeiling_open hlow hhigh hopen,
    carries_of_effect fun _ _ ⟨hlow, hhigh, hshut⟩ => setChannelCeiling_shut hlow hhigh hshut⟩

end Sys2Proof.Proofs

/-! PROOFS.  Doorbells, registers and the timers of channels and rings (spec/03_mailboxes_and_cxl.md, R62 to R75, R90, R91). -/

namespace Sys2Proof.Proofs
open Sys2Proof Sys2Proof.Machine

/-! ### Doorbells (R72 to R75) -/

/-- A change of a channel counts only where it falls on what the channel holds. -/
theorem onChan_congr {s : State} {ch : Nat} {f g : Channel → Channel} (h : f (s.chan ch) = g (s.chan ch)) : s.onChan ch f = s.onChan ch g := by
  have hset : tmod ({} : Channel) s.mbox.channels ch f = tmod {} s.mbox.channels ch g := by
    rw [tmod, tmod]
    exact congrArg _ h
  simp only [State.onChan, State.onMbox, hset]

/-- The records of a ring are looked over in HDM alone. -/
theorem scanRecords_congr {s t : State} (h : t.hdm = s.hdm) (ch fuel unit room : Nat) :
    scanRecords t ch fuel unit room = scanRecords s ch fuel unit room := by
  have hsession : recSession t = recSession s := by funext ch u; simp only [recSession, State.hdmNat, h]
  have hlength : recLength t = recLength s := by funext ch u; simp only [recLength, State.hdmNat, h]
  have hfault : recFault t = recFault s := by funext ch u r; simp only [recFault, hlength]
  induction fuel generalizing unit room with
  | zero => rfl
  | succ fuel ih => simp only [scanRecords, hfault, hlength, hsession, ih]

/-- A channel to which a doorbell has announced a tail, its records eligible from tick `at_`. -/
def tailAnnounced (value at_ : Nat) (k : Channel) : Channel :=
  { k with sqTail := value, elig := if value = k.sqTail then k.elig else k.elig ++ [(value, at_)] }

section
variable {ch value : Nat} {s : State}

/-- The channel takes doorbells: the chip serves, HDM is reached, and the channel is not stopped. -/
def TakesDoorbell (ch : Nat) (s : State) : Prop :=
  1 ≤ ch ∧ ch < 64 ∧ s.serving = true ∧ s.hdmUp = true ∧ (s.chan ch).ringFault = false

theorem takesDoorbell_iff : ¬(ch = 0 ∨ 64 ≤ ch ∨ s.serving = false ∨ s.hdmUp = false ∨ (s.chan ch).ringFault = true) ↔ TakesDoorbell ch s := by
  simp only [TakesDoorbell, not_or, not_le, Bool.not_eq_false, Bool.not_eq_true, Nat.one_le_iff_ne_zero, ne_eq]

theorem takesDoorbell_useIde (h : TakesDoorbell ch s) : TakesDoorbell ch (useIde s) := by
  simpa only [TakesDoorbell, useIde_serving, useIde_hdmUp, useIde_chan] using h

/-- A tail beyond the ring is a ring fault at SQ_HEAD. -/
theorem doorbell_beyond (h : TakesDoorbell ch s) (hbeyond : 4095 < value) :
    doorbell ch value s = ringFault ch 1 ((s.chan ch).headShown.getD (s.chan ch).sqHead) s :=
  (if_neg (takesDoorbell_iff.mpr h)).trans (if_pos hbeyond)

/-- On a channel with an open session, or without sessions, the tail is announced. -/
theorem doorbell_announces (h : TakesDoorbell ch s) (hsound : value ≤ 4095) (hopen : ch < 3 ∨ (s.chan ch).isOpen = true) :
    doorbell ch value s = s.onChan ch (tailAnnounced value (s.now + 1)) := by
  refine (if_neg (takesDoorbell_iff.mpr h)).trans ((if_neg (Nat.not_lt.mpr hsound)).trans (if_neg ?_))
  rintro ⟨hsessions, hshut, -⟩
  rcases hopen with hlow | hset
  · omega
  · exact Bool.false_ne_true (hshut.symm.trans hset)

section
variable (h : TakesDoorbell ch s) (hsound : value ≤ 4095) (hsessions : 3 ≤ ch) (hshut : (s.chan ch).isOpen = false)
  (hmoves : (s.chan ch).sqTail ≠ value)
include h hsound

/-- Where no session is open, the tail counts if a record announced names session 0. -/
theorem doorbell_opens (hseen : (scanRecords s ch 4096 (s.chan ch).sqHead (unitsTo (s.chan ch).sqHead value)).2 = true) :
    doorbell ch value s = s.onChan ch (tailAnnounced value (s.now + 1)) := by
  refine (if_neg (takesDoorbell_iff.mpr h)).trans ((if_neg (Nat.not_lt.mpr hsound)).trans (if_neg ?_))
  rintro ⟨-, -, -, hunseen⟩
  exact Bool.false_ne_true (hunseen.symm.trans hseen)

include hsessions hshut hmoves

/-- Where none does, the first faulty record is a ring fault. -/
theorem doorbell_faulty {cause unit : Nat} (hseen : scanRecords s ch 4096 (s.chan ch).sqHead (unitsTo (s.chan ch).sqHead value) =
    (some (cause, unit), false)) : doorbell ch value s = ringFault ch cause unit s := by
  refine (if_neg (takesDoorbell_iff.mpr h)).trans ((if_neg (Nat.not_lt.mpr hsound)).trans ((if_pos ?_).trans ?_))
  · exact ⟨hsessions, hshut, hmoves, by rw [hseen]⟩
  · rw [hseen]

theorem doorbell_sound (hseen : scanRecords s ch 4096 (s.chan ch).sqHead (unitsTo (s.chan ch).sqHead value) = (none, false)) :
    doorbell ch value s = s := by
  refine (if_neg (takesDoorbell_iff.mpr h)).trans ((if_neg (Nat.not_lt.mpr hsound)).trans ((if_pos ?_).trans ?_))
  · exact ⟨hsessions, hshut, hmoves, by rw [hseen]⟩
  · rw [hseen]

end

end

/-! ### Registers (R60, R62, R63) -/

section
variable {off : Nat} {d : List Byte} {s : State}

theorem registerWrite_down {space : RegSpace} (h : s.host.link = .down ∨ s.dev = .off) : registerWrite space off d s = s := if_pos h

theorem registerWrite_bar0 (hlink : s.host.link ≠ .down) (hdev : s.dev ≠ .off) :
    registerWrite .bar0 off d s = bar0Write off d (useIde s) :=
  if_neg (not_or.mpr ⟨hlink, hdev⟩)

theorem registerWrite_bar2 (hlink : s.host.link ≠ .down) (hdev : s.dev ≠ .off) :
    registerWrite .bar2 off d s = (useIde s).onHost fun h => { h with bar2 := memWrite h.bar2 (off % 65536) d } :=
  if_neg (not_or.mpr ⟨hlink, hdev⟩)

theorem registerWrite_config (hlink : s.host.link ≠ .down) (hdev : s.dev ≠ .off) :
    registerWrite .config off d s = (useIde s).onHost fun h => { h with config := memWrite h.config (off % 4096) d } :=
  if_neg (not_or.mpr ⟨hlink, hdev⟩)

/-- BAR0 takes no access but one of 4 or 8 aligned bytes. -/
theorem bar0Write_unaligned (h : (d.length ≠ 4 ∧ d.length ≠ 8) ∨ off % d.length ≠ 0) : bar0Write off d s = s := if_pos h

section
variable (hsize : d.length = 4 ∨ d.length = 8) (haligned : off % d.length = 0)
include hsize haligned

/-- An aligned access of BAR0, by the register that its offset names. -/
theorem bar0Write_aligned : bar0Write off d s =
    if 0x0080 ≤ off ∧ off < 0x0088 then
      s.onHost fun h => { h with scratch := leNat (memRead (memWrite (memWrite [] 0 (toLe 8 h.scratch)) (off - 0x80) d) 0 8) }
    else if 0x0800 ≤ off ∧ off < 0x0820 then s.onHost fun h => { h with ddHeader := memWrite h.ddHeader (off - 0x800) d }
    else if off = 0x0840 then (if leNat d % 2 = 1 then commitStaged s else s)
    else if 0x0100 ≤ off ∧ off < 0x0300 ∧ off % 8 = 0 then doorbell ((off - 0x100) / 8) (leNat (d.take 2)) s
    else if 0x1000 ≤ off ∧ off < 0x2000 then s.onHost fun h => { h with ddPayload := memWrite h.ddPayload (off - 0x1000) d }
    else if 0x2000 ≤ off ∧ off < 0x2400 then sendUnmasked (msixWrite s (off - 0x2000) d)
    else s :=
  if_neg (by omega)

theorem bar0Write_header (hlow : 0x0800 ≤ off) (hhigh : off < 0x0820) :
    bar0Write off d s = s.onHost fun h => { h with ddHeader := memWrite h.ddHeader (off - 0x800) d } := by
  rw [bar0Write_aligned hsize haligned, if_neg (by omega), if_pos ⟨hlow, hhigh⟩]

theorem bar0Write_commit (hoff : off = 0x0840) : bar0Write off d s = if leNat d % 2 = 1 then commitStaged s else s := by
  rw [bar0Write_aligned hsize haligned, if_neg (by omega), if_neg (by omega), if_pos hoff]

theorem bar0Write_doorbell (hlow : 0x0100 ≤ off) (hhigh : off < 0x0300) (height : off % 8 = 0) :
    bar0Write off d s = doorbell ((off - 0x100) / 8) (leNat (d.take 2)) s := by
  rw [bar0Write_aligned hsize haligned, if_neg (by omega), if_neg (by omega), if_neg (by omega), if_pos ⟨hlow, hhigh, height⟩]

theorem bar0Write_payload (hlow : 0x1000 ≤ off) (hhigh : off < 0x2000) :
    bar0Write off d s = s.onHost fun h => { h with ddPayload := memWrite h.ddPayload (off - 0x1000) d } := by
  rw [bar0Write_aligned hsize haligned, if_neg (by omega), if_neg (by omega), if_neg (by omega), if_neg (by omega), if_pos ⟨hlow, hhigh⟩]

theorem bar0Write_msix (hlow : 0x2000 ≤ off) (hhigh : off < 0x2400) :
    bar0Write off d s = sendUnmasked (msixWrite s (off - 0x2000) d) := by
  rw [bar0Write_aligned hsize haligned, if_neg (by omega), if_neg (by omega), if_neg (by omega), if_neg (by omega), if_neg (by omega),
    if_pos ⟨hlow, hhigh⟩]

end

/-- An offset that BAR0 does not list takes nothing. -/
theorem bar0Write_unlisted (h : off < 0x0080 ∨ (0x0088 ≤ off ∧ off < 0x0100) ∨ (0x0300 ≤ off ∧ off < 0x0800) ∨ (0x0820 ≤ off ∧ off < 0x0840) ∨
      (0x0848 ≤ off ∧ off < 0x1000) ∨ 0x2400 ≤ off) : bar0Write off d s = s := by
  by_cases hshape : (d.length ≠ 4 ∧ d.length ≠ 8) ∨ off % d.length ≠ 0
  · exact bar0Write_unaligned hshape
  · rw [bar0Write_aligned (by omega) (by omega), if_neg (by omega), if_neg (by omega), if_neg (by omega), if_neg (by omega), if_neg (by omega),
      if_neg (by omega)]

/-- Eight bytes written to SCRATCH are its new value. -/
theorem bar0Write_scratch (hsize : d.length = 8) : bar0Write 0x0080 d s = s.onHost fun h => { h with scratch := leNat d } := by
  have hread : ∀ n, memRead (memWrite (memWrite [] 0 (toLe 8 n)) 0 d) 0 8 = d := by
    intro n
    rw [← hsize]
    exact memRead_memWrite (memWrite_wf rfl)
  rw [bar0Write_aligned (.inr hsize) (by rw [hsize]), if_pos (by omega)]
  simp only [Nat.sub_self, hread]

end

/-! ### Timers of channels and rings (R70, R71, R90, R91) -/

section
variable {ch r head i : Nat} {s : State}

theorem leaseExpiry_due (hopen : (s.chan ch).isOpen = true) (hleased : (s.chan ch).leaseMs ≠ 0)
    (hdue : msTicks (s.chan ch).leaseMs ≤ (s.chan ch).leaseAge) :
    leaseExpiry ch s = closeChannel ch (raise 0x0182 1 ch (s.chan ch).session s) :=
  if_pos ⟨hopen, hleased, hdue⟩

theorem leaseExpiry_early (hearly : (s.chan ch).leaseAge < msTicks (s.chan ch).leaseMs) : leaseExpiry ch s = s :=
  if_neg fun ⟨_, _, hdue⟩ => Nat.not_lt.mpr hdue hearly

theorem eventSpace_reached (h : s.hdmUp = true) :
    eventSpace r head s = ringCatchUp r (s.hdmWrite (ringBase r + 0x40) (toLe 4 head)) :=
  if_pos h

theorem moderationTimeout_completions (h : ((s.chIrq i).prune (cqUnread s i)).timedOut s.elapsed = true) :
    moderationTimeout false i s = s.onChan i fun c => { c with irq := { (s.chIrq i).prune (cqUnread s i) with ready := true } } :=
  if_pos h

theorem moderationTimeout_events (h : ((s.ringIrq i).prune (eqUnread s i)).timedOut s.elapsed = true) :
    moderationTimeout true i s = s.onRing i fun c => { c with irq := { (s.ringIrq i).prune (eqUnread s i) with ready := true } } :=
  if_pos h

theorem drainChannel_drained (hdraining : (s.chan ch).draining = true) (hnone : openCommands s ch = 0) : drainChannel ch s = resetRings ch s :=
  if_pos ⟨hdraining, hnone⟩

theorem drainChannel_waits (h : (s.chan ch).draining = false ∨ openCommands s ch ≠ 0) : drainChannel ch s = s := by
  refine if_neg ?_
  rintro ⟨hdraining, hnone⟩
  rcases h with hshut | hsome
  · exact Bool.false_ne_true (hshut.symm.trans hdraining)
  · exact hsome hnone

end

/-! ### The statement -/

/-- Settles O13: a doorbell is judged by its channel and tail, a register write by its space and offset, and a timer by what has run out. -/
theorem doorbellsAndRegistersAndTimers : Obligations.DoorbellsAndRegistersAndTimers := by
  refine ⟨⟨?announced, ?shut, ?beyond, ?untaken⟩, ⟨?scratch, ?listed, ?ignored, ?spaces, fun _ _ _ _ h => answers_of_eq (registerWrite_down h)⟩,
    fun _ _ hopen hleased hdue => answers_of_eq (leaseExpiry_due hopen hleased hdue), fun _ _ _ hearly => answers_of_eq (leaseExpiry_early hearly),
    fun _ _ _ h => answers_of_eq (eventSpace_reached h), fun _ _ h => answers_of_eq (moderationTimeout_completions h),
    fun _ _ h => answers_of_eq (moderationTimeout_events h),
    fun _ _ hdraining hnone => answers_of_eq (drainChannel_drained hdraining hnone), fun _ _ h => answers_of_eq (drainChannel_waits h)⟩
  case announced =>
    intro ch value s hlow hhigh hserving hup hfault hsound hopen
    have htakes : TakesDoorbell ch (useIde s) := takesDoorbell_useIde ⟨hlow, hhigh, hserving, hup, hfault⟩
    rw [← useIde_chan s] at hopen
    refine answers_of_eq (u := doorbell ch value (useIde s)) ?_
    rw [doorbell_announces htakes hsound hopen, useIde_now]
    rfl
  case shut =>
    intro ch value s hlow hhigh hserving hup hfault hsound hshut hmoves seen
    have htakes : TakesDoorbell ch (useIde s) := takesDoorbell_useIde ⟨by omega, hhigh, hserving, hup, hfault⟩
    have hscan : scanRecords (useIde s) ch 4096 ((useIde s).chan ch).sqHead (unitsTo ((useIde s).chan ch).sqHead value) = seen := by
      rw [useIde_chan, scanRecords_congr (useIde_hdm s)]
    rw [← useIde_chan s] at hshut hmoves
    clear_value seen
    obtain ⟨fault, named⟩ := seen
    cases named with
    | true =>
      refine answers_of_eq (u := doorbell ch value (useIde s)) ?_
      rw [doorbell_opens htakes hsound (by rw [hscan]), useIde_now, if_pos rfl]
      exact onChan_congr (by rw [tailAnnounced, if_neg (Ne.symm hmoves)])
    | false =>
      cases fault with
      | some record => exact answers_of_eq (doorbell_faulty htakes hsound hlow hshut hmoves hscan)
      | none => exact answers_of_eq (doorbell_sound htakes hsound hlow hshut hmoves hscan)
  case beyond =>
    intro ch value s hlow hhigh hserving hup hfault hbeyond
    have htakes : TakesDoorbell ch (useIde s) := takesDoorbell_useIde ⟨hlow, hhigh, hserving, hup, hfault⟩
    rw [← useIde_chan s]
    exact answers_of_eq (doorbell_beyond htakes hbeyond)
  case untaken =>
    intro ch value s h
    rw [← useIde_serving s, ← useIde_hdmUp s, ← useIde_chan s] at h
    exact answers_of_eq (doorbell_ignored h)
  case scratch =>
    intro d s hlink hdev hsize
    exact answers_of_eq ((registerWrite_bar0 hlink hdev).trans (bar0Write_scratch hsize))
  case listed =>
    intro off d s hlink hdev hsize haligned
    have hbar0 : registerWrite .bar0 off d s = bar0Write off d (useIde s) := registerWrite_bar0 hlink hdev
    refine ⟨fun hlow hhigh => answers_of_eq (hbar0.trans (bar0Write_header hsize haligned hlow hhigh)),
      fun hlow hhigh => answers_of_eq (hbar0.trans (bar0Write_payload hsize haligned hlow hhigh)),
      fun hoff hset => answers_of_eq (hbar0.trans ((bar0Write_commit hsize haligned hoff).trans (if_pos hset))),
      fun hoff hclear => answers_of_eq (hbar0.trans ((bar0Write_commit hsize haligned hoff).trans (if_neg (by omega)))),
      fun hlow hhigh height => answers_of_eq (hbar0.trans (bar0Write_doorbell hsize haligned hlow hhigh height)),
      fun hlow hhigh => answers_of_eq (hbar0.trans (bar0Write_msix hsize haligned hlow hhigh))⟩
  case ignored =>
    intro off d s hlink hdev h
    refine answers_of_eq ((registerWrite_bar0 hlink hdev).trans ?_)
    rcases h with hsize | haligned | hunlisted
    · exact bar0Write_unaligned (.inl hsize)
    · exact bar0Write_unaligned (.inr haligned)
    · exact bar0Write_unlisted hunlisted
  case spaces =>
    intro off d s hlink hdev
    exact ⟨answers_of_eq (registerWrite_bar2 hlink hdev), answers_of_eq (registerWrite_config hlink hdev)⟩

end Sys2Proof.Proofs

/-! PROOFS.  Dry Dock's commands on channel 0, the management interface and the test access port (spec/16_keys_tamper_firmware.md, R505
and R514; spec/17_pins_package_electrical.md, R530 and R531). -/

namespace Sys2Proof.Proofs
open Sys2Proof Sys2Proof.Machine

/-! ### Commands on channel 0 (R63, R505) -/

section
variable {i : CmdInfo} {body : Cmd → State → Res} {c : Cmd} {s t : State} {detail : Nat}

/-- A record whose target tick has come, or that names none, does not wait. -/
theorem waitsTick_of_due {elig now : Nat} (h : c.atTick = true → c.targetTick ≤ now) : waitsTick c elig now = false := by
  refine Bool.eq_false_iff.mpr fun hwaits => ?_
  obtain ⟨hat, hlater, -⟩ := waitsTick_iff.mp hwaits
  exact Nat.not_lt.mpr (h hat) hlater

/-- Channel 0 runs a command that waits for no tick. -/
theorem runDock_now (hup : dockUp s = true) (hdue : c.atTick = true → c.targetTick ≤ s.now) :
    runDock i body c s = dockRun i body { c with ch := 0 } (dockTaken s) :=
  commitDock_runs hup (waitsTick_of_due hdue)

/-- A command of Dry Dock other than DD_RESTART that is DONE. -/
theorem dockRun_done (hcheck : checkCmd i c s = none) (hbody : body c s = okWith detail t) (hnow : t.now = s.now) (hop : i.opcode ≠ 0x0005) :
    dockRun i body c s = dockDone i c detail t := by
  rw [dockRun, judge_passed hcheck, hbody, ← hnow]
  exact (if_neg nofun).trans (if_neg fun ⟨h, _⟩ => hop h)

/-- A command of Dry Dock that goes on keeps channel 0 busy. -/
theorem dockRun_queued {k : JobKind} (hcheck : checkCmd i c s = none) (hbody : body c s = queued k t) :
    dockRun i body c s = t.onHost fun h => { h with ddCmd := some (i.opcode, c) } := by
  rw [dockRun, judge_passed hcheck, hbody]
  exact if_pos rfl

/-- A command that a check refuses ends with its status. -/
theorem dockRun_refused {st : Status} (hcheck : checkCmd i c s = some (st, detail)) (hqueued : st ≠ .queued) (hdone : st ≠ .done) :
    dockRun i body c s = complete 0 c.tag i.opcode c.session false st s.now 0 0 detail s := by
  rw [dockRun, judge_refused hcheck]
  exact (if_neg hqueued).trans (if_neg fun ⟨_, h⟩ => hdone h)

/-- DD_RESTART is followed by the cold start that it asks for. -/
theorem dockRun_restart (hcheck : checkCmd ddRestartInfo c s = none) (hdock : s.dev = .dryDock) :
    dockRun ddRestartInfo ddRestart c s = beginStart false 1 (dockDone ddRestartInfo c 0 s) := by
  have hbody : ddRestart c s = ok s := if_pos hdock
  rw [dockRun, judge_passed hcheck, hbody]
  exact (if_neg nofun).trans (if_pos ⟨rfl, rfl⟩)

/-- Outside Dry Dock every command but DD_STATUS is refused (R505). -/
theorem checkCmd_outsideDock (hrange : i.opcode / 256 = 0) (hdock : i.dock = true) (hch : c.ch = 0) (hlength : c.length = i.length c)
    (hsession : c.session = 0) (hlock : s.keys.lock = false) (hdev : s.dev ≠ .dryDock) : checkCmd i c s = some (.state, 0xFFFF) := by
  refine checkCmd_role hlength ?_ ?_ ?_ hlock (.inr ⟨hdock, hdev⟩)
  · simp [acceptedOn, hch, hrange]
  · simp [sessionOk, hch, hsession]
  · simp [privOk, hch]

theorem commitDock_busy {op : Nat} {run : Cmd → State → State} (hreached : dockReached s = true) (hbusy : s.host.ddBusy = true) :
    commitDock op c run s = s.onHost fun h => { h with ddOverrun := true } := by
  simp only [commitDock, hreached, hbusy, Bool.not_true, Bool.false_eq_true, if_false, if_true]

end

/-! ### The commands' effects (R514) -/

section
variable {c : Cmd} {s : State}

theorem ddBegin_done (hdock : s.dev = .dryDock) (hslots : c.u8 4 ≤ 2) :
    ddBegin c s = okWith 0 (s.onFw fun f => { f with ddLength := c.u32 0, ddSlots := c.u8 4, ddHave := [], ddBytes := [] }) :=
  (if_pos hdock).trans (if_neg (by omega))

theorem ddChunk_done (hdock : s.dev = .dryDock) (hone : 1 ≤ c.u32 4) (hmost : c.u32 4 ≤ 4088) (hend : c.u32 0 + c.u32 4 ≤ s.fw.ddLength) :
    ddChunk c s = okWith 0 (s.onFw fun f => { f with ddHave := addRange (c.u32 0) (c.u32 0 + c.u32 4) f.ddHave,
                                                     ddBytes := memWrite f.ddBytes (c.u32 0) (c.bytes 8 (c.u32 4)) }) :=
  (if_pos hdock).trans (if_neg (by omega))

theorem ddFinish_queued (hdock : s.dev = .dryDock) (hretired : s.keys.retired = false) (hbank : s.keys.bank.isSome = true)
    (hcomplete : ddComplete s = true) :
    ddFinish c s = queued .stageImage (s.onFw fun f =>
      { f with source := .dryDock, phase := .checking, target := if f.ddSlots = 1 then 1 else 0, both := decide (f.ddSlots = 2), job := none,
               hash := none }) := by
  refine (if_pos hdock).trans (if_neg ?_)
  simp [hretired, hcomplete, Option.isNone_eq_false_iff.mpr hbank]

end

/-! ### Management and the test access port (R469, R530, R531) -/

section
variable {s : State}

theorem mgmtWrite_offset {b : Byte} (h : mgmtUp s = true) : mgmtWrite [b] s = s.onPins fun p => { p with mgmtOffset := b.toNat % 16 } := if_pos h

theorem mgmtWrite_ignored {d : List Byte} (h : d.length ≠ 1 ∨ mgmtUp s = false) : mgmtWrite d s = s := by
  unfold mgmtWrite
  split
  · exact if_neg (Bool.eq_false_iff.mp (h.resolve_left fun hlength => hlength rfl))
  · rfl

theorem mgmtRead_bytes {n : Nat} (h : mgmtUp s = true) : mgmtRead n s = s.onPins fun p =>
    { p with mgmtData := (List.range n).map (fun i => (mgmtBytes s).getD ((s.pins.mgmtOffset + i) % 16) 0#8),
             mgmtOffset := (s.pins.mgmtOffset + n) % 16 } :=
  if_pos h

theorem mgmtRead_down {n : Nat} (h : mgmtUp s = false) : mgmtRead n s = s := if_neg (Bool.eq_false_iff.mp h)

theorem extestOk_iff : extestOk s = true ↔ s.dev = .off ∨ s.dev = .dryDock ∨ s.dev = .fatalD ∨ s.pins.perstN = false := by
  simp [extestOk, or_assoc]

theorem extest_taken (h : extestOk s = true) : extest s = s.onPins fun p => { p with tap := tapExtest } := if_pos h

theorem extest_refused (h : ¬extestOk s = true) :
    extest s = report { code := 0x0503, subject := 6 } (s.onPins fun p => { p with tap := tapBypass, tapReg := 0 }) :=
  if_neg h

section
variable {k i b n ms : Nat} {w : Bool}

/-- The port arms an injection that is in range and not armed already, with debug access (R469). -/
theorem jtagInject_arms (hdev : s.dev ≠ .off) (hdebug : s.keys.debug = true) (hkind : injectable k = true) (hinst : i < instanceLimit k)
    (hbits : b = 1 ∨ b = 2) (hone : 1 ≤ n) (hmost : n ≤ 255) (hms : 1 ≤ ms) (hlong : ms ≤ 60000) (hfree : injectionArmed k i w s = false) :
    jtagInject k w i b n ms s = (s.onPins fun p => { p with tap := tapInject }).onFaults fun f => { f with injects := f.injects ++
      [{ kind := k, west := w, inst := i, bits := b, left := n, done := 0, ticks := msTicks ms, job := 0 }] } := by
  refine if_neg ?_
  simp only [hdebug, hkind, hfree, hdev, Bool.not_true, Bool.true_eq_false, Bool.false_eq_true, false_or, or_false]
  omega

theorem jtagInject_ignored (h : s.dev = .off ∨ s.keys.debug = false ∨ injectable k = false ∨ instanceLimit k ≤ i ∨ (b ≠ 1 ∧ b ≠ 2) ∨ n = 0 ∨
      255 < n ∨ ms = 0 ∨ 60000 < ms ∨ injectionArmed k i w s = true) : jtagInject k w i b n ms s = s := by
  refine if_pos ?_
  have hbits : ¬(b = 1 ∨ b = 2) ↔ b ≠ 1 ∧ b ≠ 2 := not_or
  have hcount : ¬(1 ≤ n ∧ n ≤ 255) ↔ n = 0 ∨ 255 < n := by omega
  have htime : ¬(1 ≤ ms ∧ ms ≤ 60000) ↔ ms = 0 ∨ 60000 < ms := by omega
  simpa only [hbits, hcount, htime, Bool.not_eq_true', or_assoc] using h

end
end

/-! ### The statement -/

/-- Settles O12: channel 0 runs its command at once, and the ports answer by the state that they find. -/
theorem dryDockAndPinRowsComplete : Obligations.DryDockAndPinRowsComplete := by
  refine ⟨⟨?begins, ?chunk, ?finish, ?restart, fun _ _ _ _ hreached hbusy => commitDock_busy hreached hbusy, fun _ => answers_of_eq rfl⟩,
    ⟨?status, ?outside⟩, fun _ _ h => answers_of_eq (mgmtWrite_offset h), fun _ _ h => answers_of_eq (mgmtWrite_ignored h),
    fun _ _ h => answers_of_eq (mgmtRead_bytes h), fun _ _ h => answers_of_eq (mgmtRead_down h), fun _ => answers_of_eq rfl,
    fun _ h => answers_of_eq (extest_taken (extestOk_iff.mpr h)), ?refused,
    fun _ _ _ _ _ _ _ hdev hdebug hkind hinst hbits hone hmost hms hlong hfree =>
      answers_of_eq (jtagInject_arms hdev hdebug hkind hinst hbits hone hmost hms hlong hfree),
    fun _ _ _ _ _ _ _ h => answers_of_eq (jtagInject_ignored h)⟩
  case begins =>
    intro c s ⟨hup, hdock, hdue, hcheck⟩ hslots
    exact answers_of_eq ((runDock_now hup hdue).trans (dockRun_done hcheck (ddBegin_done hdock hslots) rfl (by decide)))
  case chunk =>
    intro c s ⟨hup, hdock, hdue, hcheck⟩ hone hmost hend
    exact answers_of_eq ((runDock_now hup hdue).trans (dockRun_done hcheck (ddChunk_done hdock hone hmost hend) rfl (by decide)))
  case finish =>
    intro c s ⟨hup, hdock, hdue, hcheck⟩ hretired hbank hcomplete
    exact answers_of_eq ((runDock_now hup hdue).trans (dockRun_queued hcheck (ddFinish_queued hdock hretired hbank hcomplete)))
  case restart =>
    intro c s ⟨hup, hdock, hdue, hcheck⟩
    exact answers_of_eq ((runDock_now hup hdue).trans (dockRun_restart hcheck hdock))
  case status =>
    intro c s hup hdue hcheck
    exact answers_of_eq ((runDock_now hup hdue).trans (dockRun_done hcheck rfl rfl (by decide)))
  case outside =>
    intro i body c s hmem hup hdev hlength hsession hlock hnow
    have hinfo : i.opcode / 256 = 0 ∧ i.dock = true ∧ i.length { c with ch := 0 } = i.length c := by
      simp only [List.mem_cons, Prod.mk.injEq, List.not_mem_nil, or_false] at hmem
      obtain ⟨rfl, -⟩ | ⟨rfl, -⟩ | ⟨rfl, -⟩ | ⟨rfl, -⟩ := hmem
      all_goals exact ⟨rfl, rfl, rfl⟩
    obtain ⟨hrange, hdock, hsame⟩ := hinfo
    rw [runDock_now hup fun hat => Nat.not_lt.mp fun hlater => hnow ⟨hat, hlater⟩]
    exact dockRun_refused (checkCmd_outsideDock hrange hdock rfl (hlength.trans hsame.symm) hsession hlock hdev) (by decide) (by decide)
  case refused =>
    intro s hoff hdock hfatal hperst
    refine answers_of_eq (extest_refused fun hok => ?_)
    obtain h | h | h | h := extestOk_iff.mp hok
    · exact hoff h
    · exact hdock h
    · exact hfatal h
    · exact Bool.false_ne_true (h.symm.trans hperst)

end Sys2Proof.Proofs

/-! PROOFS.  SET_TRIM, the policies of twin, power, journal and faults, and CLEAR_FIRST_FAULT (spec/03_mailboxes_and_cxl.md, R99; R22, R392,
R417, R443, R472, R473). -/

namespace Sys2Proof.Proofs
open Sys2Proof Sys2Proof.Machine

/-! ### Jobs that end leave the objects alone (R80) -/

/-- What each step of a fold keeps, the fold keeps. -/
theorem foldl_keeps {α β : Type} (get : State → β) {step : State → α → State} (hstep : ∀ s x, get (step s x) = get s) (l : List α) (s : State) :
    get (l.foldl step s) = get s := by
  induction l generalizing s with
  | nil => rfl
  | cons x r ih => rw [List.foldl_cons, ih, hstep]

@[simp] theorem finishJob_obj (id : Nat) (st : Status) (tick gen detail : Nat) (s : State) : (finishJob id st tick gen detail s).obj = s.obj := by
  unfold finishJob
  split
  · rfl
  · dsimp only
    split
    · rw [(drainChannel_endsOnly _ _).obj, complete_obj, State.onMbox_obj]
    · rfl

@[simp] theorem finish_obj (id : Nat) (st : Status) (detail : Nat) (s : State) : (finish id st detail s).obj = s.obj := by
  unfold finish
  split
  · rfl
  · exact finishJob_obj _ _ _ _ _ _

@[simp] theorem supersedeTrim_obj (k : JobKind) (c : Cmd) (s : State) : (supersedeTrim k c s).obj = s.obj :=
  foldl_keeps State.obj (fun _ _ => finish_obj _ _ _ _) _ s

/-! ### The trims (R22, R23, R99) -/

@[simp] theorem putTrims_trims (f : TrimSet → TrimSet) (s : State) :
    (putTrims f s).obj.trims = { f s.obj.trims with gen := genNext s.obj.trims.gen } := rfl

section
variable {c : Cmd} {v : Bool} {s : State}

/-- The trim and its value are in range. -/
theorem trimFields_ok (htrim : c.u8 0 ≤ 3) (hvalue : c.u8 1 ≤ 1) : firstBad [(decide (c.u8 0 ≤ 3), 0x20), (decide (c.u8 1 ≤ 1), 0x21)] = none := by
  simp only [firstBad, htrim, hvalue, decide_true, if_true]

/-- A trim in force again changes nothing. -/
theorem setTrim_same (htrim : c.u8 0 ≤ 3) (hvalue : c.u8 1 ≤ 1) (hsame : trimValue s (c.u8 0) = decide (c.u8 1 = 1)) : setTrim c s = ok s := by
  simp only [setTrim, trimFields_ok htrim hvalue]
  exact if_pos hsame

/-- A trim that takes another value, by its number. -/
theorem setTrim_changes (htrim : c.u8 0 ≤ 3) (hvalue : c.u8 1 ≤ 1) (hother : trimValue s (c.u8 0) ≠ decide (c.u8 1 = 1)) :
    setTrim c s = if c.u8 0 = 0 then trimStowage (decide (c.u8 1 = 1)) s else if c.u8 0 = 1 then trimComposer c (decide (c.u8 1 = 1)) s
      else if c.u8 0 = 2 then trimPower c (decide (c.u8 1 = 1)) s else trimLatency c (decide (c.u8 1 = 1)) s := by
  simp only [setTrim, trimFields_ok htrim hvalue]
  exact if_neg hother

theorem setTrim_stowage (htrim : c.u8 0 = 0) (hvalue : c.u8 1 ≤ 1) (hother : s.obj.trims.shallow ≠ decide (c.u8 1 = 1)) :
    setTrim c s = trimStowage (decide (c.u8 1 = 1)) s := by
  rw [setTrim_changes (by omega) hvalue (by rw [htrim]; exact hother), if_pos htrim]

theorem setTrim_composer (htrim : c.u8 0 = 1) (hvalue : c.u8 1 ≤ 1) (hother : s.obj.trims.legacy ≠ decide (c.u8 1 = 1)) :
    setTrim c s = trimComposer c (decide (c.u8 1 = 1)) s := by
  rw [setTrim_changes (by omega) hvalue (by rw [htrim]; exact hother), if_neg (by omega), if_pos htrim]

theorem setTrim_power (htrim : c.u8 0 = 2) (hvalue : c.u8 1 ≤ 1) (hother : s.obj.trims.eco ≠ decide (c.u8 1 = 1)) :
    setTrim c s = trimPower c (decide (c.u8 1 = 1)) s := by
  rw [setTrim_changes (by omega) hvalue (by rw [htrim]; exact hother), if_neg (by omega), if_neg (by omega), if_pos htrim]

theorem setTrim_latency (htrim : c.u8 0 = 3) (hvalue : c.u8 1 ≤ 1) (hother : s.obj.trims.syncAll ≠ decide (c.u8 1 = 1)) :
    setTrim c s = trimLatency c (decide (c.u8 1 = 1)) s := by
  rw [setTrim_changes (by omega) hvalue (by rw [htrim]; exact hother), if_neg (by omega), if_neg (by omega), if_neg (by omega)]

theorem setTrim_outOfRange {off : Nat} (h : firstBad [(decide (c.u8 0 ≤ 3), 0x20), (decide (c.u8 1 ≤ 1), 0x21)] = some off) :
    setTrim c s = rej .range off s := by
  simp only [setTrim, h]

theorem trimStowage_empty (h : ∀ e ∈ s.wharf.berths, e.2.pages = 0) : trimStowage v s = ok (putTrims (fun t => { t with shallow := v }) s) := by
  refine if_neg fun hany => ?_
  obtain ⟨e, he, hpages⟩ := List.any_eq_true.mp hany
  exact of_decide_eq_true hpages (h e he)

theorem trimStowage_used (h : ∃ e ∈ s.wharf.berths, e.2.pages ≠ 0) : trimStowage v s = rej .state 0xFFFF s := by
  obtain ⟨e, he, hpages⟩ := h
  exact if_pos (List.any_eq_true.mpr ⟨e, he, decide_eq_true hpages⟩)

theorem trimPower_on : trimPower c true s = ok (retimeScrub true (putTrims (fun t => { t with eco := true }) s)) := rfl

theorem trimPower_off : trimPower c false s = ok (wakeTrimmed (byCommand c)
    ((retimeScrub false (putTrims (fun t => { t with eco := false }) s)).onHeads fun t => t.map fun e => (e.1, { e.2 with gated := false }))) := rfl

/-- A command that is QUEUED or DONE on the same state. -/
theorem queued_or_ok {p : Bool} {k : JobKind} {t : State} :
    let r := if p then queued k t else ok t
    (r.status = .done ∨ r.status = .queued) ∧ r.s = t := by
  cases p
  · exact ⟨.inl rfl, rfl⟩
  · exact ⟨.inr rfl, rfl⟩

theorem trimComposer_answers : (trimComposer c v s).status = .done ∨ (trimComposer c v s).status = .queued := by
  unfold trimComposer
  exact queued_or_ok.1

/-- The Composer trim has its new value at once. -/
theorem trimComposer_trims : (trimComposer c v s).s.obj.trims = { s.obj.trims with legacy := v, gen := genNext s.obj.trims.gen } := by
  have hobj : (trimComposer c v s).s.obj = (putTrims (fun t => { t with legacy := v }) s).obj := by
    rw [trimComposer, queued_or_ok.2]
    refine (foldl_keeps State.obj ?heads _ _).trans (supersedeTrim_obj _ _ _)
    case heads => exact fun _ _ => rfl
  rw [hobj, putTrims_trims]

theorem trimLatency_answers {t : State} (h : (if v then syncBerths (byCommand c) (liveInputs s) s else some s) = some t) :
    (trimLatency c v s).status = .done ∨ (trimLatency c v s).status = .queued := by
  simp only [trimLatency, h]
  exact queued_or_ok.1

theorem trimLatency_full (h : syncBerths (byCommand c) (liveInputs s) s = none) : trimLatency c true s = rej .capacity 0xFFFF s := by
  simp only [trimLatency, if_true, h]

end

/-! ### Policies (R392, R417, R443, R472, R473) -/

section
variable {c : Cmd} {s : State}

/-- A field that is zero selects its default. -/
def defaulted (d n : Nat) : Nat := if n = 0 then d else n

/-- The policy that a SET_TWIN_POLICY record gives (R392). -/
def twinPolicyOf (c : Cmd) (gen : Nat) : TwinPolObj :=
  { autoResync := c.u8 0 = 1, sealCheck := c.u8 1 = 1, retryS := defaulted 10 (c.u16 4), gen := gen }

/-- The policy that a SET_POWER_POLICY record gives (R417). -/
def powerPolicyOf (c : Cmd) (gen : Nat) : PowerPolObj :=
  { throttleC := defaulted 100 (c.u8 0), preferAnvil := c.u8 1, stepMs := defaulted 100 (c.u16 2), gen := gen }

/-- The policy that a SET_FAULT_POLICY record gives (R472). -/
def faultPolicyOf (c : Cmd) (gen : Nat) : FaultPolObj := { autoResetMs := defaulted 1000 (c.u32 0), rateLimit := defaulted 100 (c.u16 4), gen := gen }

theorem setTwinPolicy_eq (hauto : c.u8 0 ≤ 1) (hseal : c.u8 1 ≤ 1) (hretry : c.u16 4 ≤ 600) :
    setTwinPolicy c s = if twinPolicyOf c s.obj.twinPol.gen = s.obj.twinPol then ok s
      else ok ((s.onObj fun x => { x with twinPol := twinPolicyOf c (genNext s.obj.twinPol.gen) }).touch 0x0C 0) := by
  simp only [setTwinPolicy, firstBad, hauto, hseal, hretry, decide_true, if_true]
  rfl

theorem setPowerPolicy_eq (hthrottle : c.u8 0 = 0 ∨ (85 ≤ c.u8 0 ∧ c.u8 0 ≤ 100)) (hanvil : c.u8 1 ≤ 2)
    (hstep : c.u16 2 = 0 ∨ (10 ≤ c.u16 2 ∧ c.u16 2 ≤ 10000)) :
    setPowerPolicy c s = if powerPolicyOf c s.obj.powerPol.gen = s.obj.powerPol then ok s
      else ok ((s.onObj fun x => { x with powerPol := powerPolicyOf c (genNext s.obj.powerPol.gen) }).touch 0x0D 0) := by
  have hthrottle' : 85 ≤ (if c.u8 0 = 0 then 100 else c.u8 0) ∧ (if c.u8 0 = 0 then 100 else c.u8 0) ≤ 100 := by split <;> omega
  have hstep' : 10 ≤ (if c.u16 2 = 0 then 100 else c.u16 2) ∧ (if c.u16 2 = 0 then 100 else c.u16 2) ≤ 10000 := by split <;> omega
  simp only [setPowerPolicy, firstBad, hthrottle', hanvil, hstep', and_self, decide_true, if_true]
  rfl

theorem setFaultPolicy_eq (hreset : c.u32 0 = 0 ∨ (100 ≤ c.u32 0 ∧ c.u32 0 ≤ 60000)) :
    setFaultPolicy c s = if faultPolicyOf c s.obj.faultPol.gen = s.obj.faultPol then ok s
      else ok ((s.onObj fun x => { x with faultPol := faultPolicyOf c (genNext s.obj.faultPol.gen) }).touch 0x0F 0) := by
  have hreset' : ¬((if c.u32 0 = 0 then 1000 else c.u32 0) < 100 ∨ 60000 < if c.u32 0 = 0 then 1000 else c.u32 0) := by split <;> omega
  exact if_neg hreset'

theorem setJournalPolicy_eq (hbase : defaulted 100 (c.u16 0) ∈ [100, 200, 500, 1000]) (hmost : defaulted 1000 (c.u16 2) ∈ [100, 200, 500, 1000])
    (horder : defaulted 100 (c.u16 0) ≤ defaulted 1000 (c.u16 2)) :
    setJournalPolicy c s =
      if s.obj.journalPol.baseMs = defaulted 100 (c.u16 0) ∧ s.obj.journalPol.maxMs = defaulted 1000 (c.u16 2) then ok s
      else ok (setInterval (min (defaulted 1000 (c.u16 2)) (max (defaulted 100 (c.u16 0)) s.journal.interval))
        ((s.onObj fun x => { x with journalPol :=
          { baseMs := defaulted 100 (c.u16 0), maxMs := defaulted 1000 (c.u16 2), gen := genNext s.obj.journalPol.gen } }).touch 0x0E 0)) := by
  simp only [defaulted] at hbase hmost horder
  simp only [setJournalPolicy, intervalOk, firstBad, hbase, hmost, horder, decide_true, Bool.and_self, if_true]
  rfl

end

/-! ### The statement -/

/-- Settles O24: SET_TRIM by the trim and its value, each policy by whether its setting is the one in force. -/
theorem trimsAndPoliciesAreSet : Obligations.TrimsAndPoliciesAreSet := by
  refine ⟨?trims, ?policies⟩
  case trims =>
    intro val
    refine ⟨carries_of_effect fun c s ⟨htrim, hvalue, hsame⟩ => setTrim_same htrim hvalue hsame,
      carries_of_effect fun c s ⟨htrim, hvalue, hother, hempty⟩ => (setTrim_stowage htrim hvalue hother).trans (trimStowage_empty hempty),
      carries_of_effect fun c s ⟨htrim, hvalue, hother, hused⟩ => (setTrim_stowage htrim hvalue hother).trans (trimStowage_used hused),
      carries_of_effect fun c s ⟨htrim, hvalue, heco⟩ => ?on, carries_of_effect fun c s ⟨htrim, hvalue, heco⟩ => ?off,
      carries_of_effect fun c s ⟨htrim, hvalue, hother⟩ => setTrim_composer htrim hvalue hother,
      carries_of_effect fun c s ⟨htrim, hvalue, hother⟩ => setTrim_latency htrim hvalue hother,
      fun c v s => ⟨trimComposer_answers, trimComposer_trims⟩, fun c s => trimLatency_answers rfl, fun c s => ⟨fun hfits => ?fits, trimLatency_full⟩,
      fun c off s h => setTrim_outOfRange h⟩
    case on =>
      have hset : decide (c.u8 1 = 1) = true := decide_eq_true hvalue
      rw [setTrim_power htrim (by omega) (by rw [heco, hset]; decide), hset, trimPower_on]
    case off =>
      have hclear : decide (c.u8 1 = 1) = false := decide_eq_false (by omega)
      rw [setTrim_power htrim (by omega) (by rw [heco, hclear]; decide), hclear, trimPower_off]
    case fits =>
      obtain ⟨t, ht⟩ := Option.isSome_iff_exists.mp hfits
      exact trimLatency_answers ht
  case policies =>
    intro dflt twin power base most fault twinOk powerOk journalOk faultOk
    exact ⟨carries_of_effect fun c s ⟨⟨hauto, hseal, hretry⟩, hnew⟩ => (setTwinPolicy_eq hauto hseal hretry).trans (if_neg hnew),
      carries_of_effect fun c s ⟨⟨hauto, hseal, hretry⟩, hsame⟩ => (setTwinPolicy_eq hauto hseal hretry).trans (if_pos hsame),
      carries_of_effect fun c s ⟨⟨hthrottle, hanvil, hstep⟩, hnew⟩ => (setPowerPolicy_eq hthrottle hanvil hstep).trans (if_neg hnew),
      carries_of_effect fun c s ⟨⟨hthrottle, hanvil, hstep⟩, hsame⟩ => (setPowerPolicy_eq hthrottle hanvil hstep).trans (if_pos hsame),
      carries_of_effect fun c s ⟨⟨hbase, hmost, horder⟩, hnew⟩ => (setJournalPolicy_eq hbase hmost horder).trans (if_neg hnew),
      carries_of_effect fun c s ⟨⟨hbase, hmost, horder⟩, hsame⟩ => (setJournalPolicy_eq hbase hmost horder).trans (if_pos hsame),
      carries_of_effect fun c s ⟨hreset, hnew⟩ => (setFaultPolicy_eq hreset).trans (if_neg hnew),
      carries_of_effect fun c s ⟨hreset, hsame⟩ => (setFaultPolicy_eq hreset).trans (if_pos hsame),
      carries_of_effect fun c s hsame => if_neg (not_not.mpr hsame), carries_of_effect fun c s hother => if_pos hother⟩

end Sys2Proof.Proofs

/-! PROOFS.  The rows of a tick (spec/03_mailboxes_and_cxl.md, R76; spec/04_tick_and_timing_planes.md, R111 to R119; R238, R242, R467): each
acts where it is due, and changes nothing where it is not. -/

namespace Sys2Proof.Proofs
open Sys2Proof Sys2Proof.Machine

/-! ### The release of a held command (R76) -/

section
variable {ch op : Nat} {c : Cmd} {s : State}

theorem releaseHeld_none (h : (s.chan ch).held = none) : releaseHeld ch s = s := by
  simp only [releaseHeld, h]

/-- A command held on a ring's channel runs once its tick has come and its channel can take it. -/
theorem releaseHeld_ring (hch : ch ≠ 0) (hheld : (s.chan ch).held = some (op, c)) :
    releaseHeld ch s = if s.now < c.targetTick ∨ gate c (s.onChan ch fun k => { k with held := none }) = false then s
      else armGate s (runOpcode op c (s.onChan ch fun k => { k with held := none })) := by
  simp only [releaseHeld, hheld, if_neg hch]

/-- A command held on channel 0 runs as a Dry Dock command once its tick has come. -/
theorem releaseHeld_dock (hheld : (s.chan 0).held = some (op, c)) :
    releaseHeld 0 s = if s.now < c.targetTick then s else dockNow op c (s.onChan 0 fun k => { k with held := none }) := by
  simp only [releaseHeld, hheld, if_true]

theorem releaseHeld_early (hheld : (s.chan ch).held = some (op, c)) (hearly : s.now < c.targetTick) : releaseHeld ch s = s := by
  by_cases hch : ch = 0
  · subst hch
    exact (releaseHeld_dock hheld).trans (if_pos hearly)
  · exact (releaseHeld_ring hch hheld).trans (if_pos (.inl hearly))

end

/-! ### Adoption and frames (R86, R111, R238) -/

section
variable {p : Nat} {s : State}

theorem adoptionTick_notDue (h : s.serving = false ∨ adoptionDue s p = false) : adoptionTick p s = s := by
  refine if_pos ?_
  rcases h with h | h
  · exact .inl (by rw [h]; rfl)
  · exact .inr (by rw [h]; rfl)

/-- An adoption that is due, of the grid in force or of another. -/
theorem adoptionTick_due (hserving : s.serving = true) (hdue : adoptionDue s p = true) :
    adoptionTick p s = if sameGrid s p then adoptSwitch p none (adoptGrid p s)
      else
        let m := (s.planeRt p).frame
        let k := ((adoptGrid p s).planeRt p).nextFrame
        let due : Option (Nat × Int) → Option (Nat × Int) := fun x => x.map fun e => if e.1 = p then (e.1, rearmed m k e.2) else e
        let s2 := (adoptGrid p s).onStreams fun t => t.map fun e => (e.1, { e.2 with effAt := due e.2.effAt, fillAt := due e.2.fillAt })
        rearmTrims p m k (rearmForms p m k (rearmHeads p m k (rearmChans p m k (rearmTakes p m k (adoptSwitch p (some k) s2))))) := by
  refine if_neg ?_
  rw [hserving, hdue]
  exact not_or.mpr ⟨Bool.false_ne_true, Bool.false_ne_true⟩

theorem planeFrame_notDue (h : s.serving = false ∨ frameNow s p = false ∨ (s.planeRt p).pubFrame = some (s.planeRt p).frame) : planeFrame p s = s := by
  refine if_pos ?_
  rcases h with h | h | h
  · exact .inl (by rw [h]; rfl)
  · exact .inr (.inl (by rw [h]; rfl))
  · exact .inr (.inr h)

theorem planeFrame_due (hserving : s.serving = true) (hnow : frameNow s p = true) (hnew : (s.planeRt p).pubFrame ≠ some (s.planeRt p).frame) :
    let s1 := ((s.streams.filter fun e => e.2.effAt.isSome || e.2.fillAt.isSome).map Prod.fst).foldl (streamDue p (s.planeRt p).frame) s
    planeFrame p s = settleTrims (publishPlane p (headFrames p (channelsDue p (generatorsDue p (genCompletes p (fillFrames p s1)))))) := by
  refine if_neg ?_
  rw [hserving, hnow]
  exact not_or.mpr ⟨Bool.false_ne_true, not_or.mpr ⟨Bool.false_ne_true, hnew⟩⟩

end

/-! ### ALIVE and the Chart (R242, R467) -/

section
variable {s : State}

theorem not_serving_of_dryDock (h : s.dev = .dryDock) : s.serving = false := by
  rw [State.serving, h]
  rfl

theorem aliveToggle_serving (h : s.serving = true) :
    aliveToggle s = if s.now % 24 = 0 ∧ s.faults.aliveAt ≠ some s.elapsed then aliveEdge s else s :=
  if_pos h

theorem aliveToggle_notServing (h : s.serving = false) :
    aliveToggle s = if s.dev = .dryDock ∧ (s.faults.aliveAt.all fun t => decide (t + 2400 ≤ s.elapsed)) = true then aliveEdge s else s :=
  if_neg (Bool.eq_false_iff.mp h)

theorem aliveToggle_same (hserving : s.serving = true) (h : s.now % 24 ≠ 0 ∨ s.faults.aliveAt = some s.elapsed) : aliveToggle s = s := by
  refine (aliveToggle_serving hserving).trans (if_neg ?_)
  rintro ⟨htick, hnew⟩
  rcases h with h | h
  · exact h htick
  · exact hnew h

theorem aliveToggle_holds (hserving : s.serving = false)
    (h : s.dev ≠ .dryDock ∨ (s.faults.aliveAt.all fun t => decide (t + 2400 ≤ s.elapsed)) = false) : aliveToggle s = s := by
  refine (aliveToggle_notServing hserving).trans (if_neg ?_)
  rintro ⟨hdock, hpassed⟩
  rcases h with h | h
  · exact h hdock
  · exact Bool.false_ne_true (h.symm.trans hpassed)

theorem chartPublish_due (hready : s.dev.ready = true) (htick : s.now % 48 = 0) (hnew : s.time.published ≠ some s.elapsed) :
    chartPublish s = publishBlocks s :=
  if_pos ⟨hready, htick, hnew⟩

theorem chartPublish_notDue (h : s.dev.ready = false ∨ s.now % 48 ≠ 0 ∨ s.time.published = some s.elapsed) : chartPublish s = s := by
  refine if_neg ?_
  rintro ⟨hready, htick, hnew⟩
  rcases h with h | h | h
  · exact Bool.false_ne_true (h.symm.trans hready)
  · exact h htick
  · exact hnew h

end

/-! ### The background window (R119) -/

/-- An event is a matter of the mailbox or of the start, never of the time. -/
theorem raise_time (code sev subject data : Nat) (s : State) : (raise code sev subject data s).time = s.time := by
  unfold raise
  dsimp only
  split
  · rfl
  · split
    · rfl
    · rfl

section
variable {s : State}

/-- The window's judgement: BACKGROUND_STARVED where the average is below 3.0 µs. -/
def windowJudged (s : State) : State :=
  if s.time.bgSum < 3000 * s.time.bgCount then raise 0x0382 2 0 (s.time.bgSum / s.time.bgCount) s else s

theorem backgroundWindow_open (h : s.time.bgCount < 48000) : backgroundWindow s = s := if_pos h

theorem backgroundWindow_ends (h : 48000 ≤ s.time.bgCount) :
    backgroundWindow s = (windowJudged s).onTime fun t => { t with bgSum := 0, bgCount := 0 } :=
  if_neg (Nat.not_lt.mpr h)

theorem windowJudged_time : (windowJudged s).time = s.time := by
  unfold windowJudged
  split
  · exact raise_time _ _ _ _ _
  · rfl

theorem windowJudged_fed (h : 3000 * s.time.bgCount ≤ s.time.bgSum) : windowJudged s = s := if_neg (Nat.not_lt.mpr h)

theorem windowJudged_starved (h : s.time.bgSum < 3000 * s.time.bgCount) :
    windowJudged s = raise 0x0382 2 0 (s.time.bgSum / s.time.bgCount) s :=
  if_pos h

end

/-! ### The statement -/

/-- Settles O43: each row's clauses are the branches of its meaning, by whether it is due. -/
theorem tickRowsComplete : Obligations.TickRowsComplete := by
  refine ⟨?released, ?dock, fun _ _ _ _ hheld hearly => answers_of_eq (releaseHeld_early hheld hearly), ?ungated,
    fun _ _ hnone => answers_of_eq (releaseHeld_none hnone), ?sameGrid, ?otherGrid, fun _ _ h => answers_of_eq (adoptionTick_notDue h),
    fun _ _ hserving hnow hnew => answers_of_eq (planeFrame_due hserving hnow hnew), fun _ _ h => answers_of_eq (planeFrame_notDue h),
    fun _ hserving htick hnew => answers_of_eq ((aliveToggle_serving hserving).trans (if_pos ⟨htick, hnew⟩)),
    fun _ hserving h => answers_of_eq (aliveToggle_same hserving h), ?docked, fun _ hserving h => answers_of_eq (aliveToggle_holds hserving h),
    fun _ hready htick hnew => answers_of_eq (chartPublish_due hready htick hnew), fun _ h => answers_of_eq (chartPublish_notDue h),
    fun _ h => answers_of_eq (backgroundWindow_open h), ?window⟩
  case released =>
    intro ch op c s hch hheld hdue hgate
    refine answers_of_eq ((releaseHeld_ring hch hheld).trans (if_neg ?_))
    exact not_or.mpr ⟨Nat.not_lt.mpr hdue, by simp [hgate]⟩
  case dock =>
    intro op c s hheld hdue
    exact answers_of_eq ((releaseHeld_dock hheld).trans (if_neg (Nat.not_lt.mpr hdue)))
  case ungated =>
    intro ch op c s hch hheld hgate
    exact answers_of_eq ((releaseHeld_ring hch hheld).trans (if_pos (.inr hgate)))
  case sameGrid =>
    intro p s hserving hdue hsame
    exact answers_of_eq ((adoptionTick_due hserving hdue).trans (if_pos hsame))
  case otherGrid =>
    intro p s hserving hdue hother
    exact answers_of_eq ((adoptionTick_due hserving hdue).trans (if_neg (Bool.eq_false_iff.mp hother)))
  case docked =>
    intro s hdock hpassed
    exact answers_of_eq ((aliveToggle_notServing (not_serving_of_dryDock hdock)).trans (if_pos ⟨hdock, hpassed⟩))
  case window =>
    intro s h
    refine ⟨_, answers_of_eq (backgroundWindow_ends h), rfl, rfl, ?fgMax, ?fgWin, ?fed, ?starved⟩
    case fgMax => rw [State.onTime_time, windowJudged_time]
    case fgWin => rw [State.onTime_time, windowJudged_time]
    case fed => exact fun hfed => by rw [State.onTime_mbox, windowJudged_fed hfed]
    case starved => exact fun hstarved => by rw [State.onTime_mbox, windowJudged_starved hstarved]

end Sys2Proof.Proofs

/-! PROOFS.  Frame grids (spec/04_tick_and_timing_planes.md, R108, R109, R116): the frame starts of a grid and the frames of its ticks are the two
sides of one rounding. -/

namespace Sys2Proof.Proofs
open Sys2Proof Sys2Proof.Machine

/-! ### The rates (R110) -/

/-- Every rate's five frame lengths are a whole number of ticks. -/
theorem rateND_divides (rate : Nat) : (rateND rate).1 ∣ 5 * 48000 * (rateND rate).2 := by
  unfold rateND
  split <;> decide

theorem rateND_pos (rate : Nat) : 0 < (rateND rate).1 ∧ 0 < (rateND rate).2 := by
  unfold rateND
  split <;> decide

/-! ### Starts and their numerators (R109) -/

/-- A frame length over N × 2^32. -/
def frameLenNum (rate : Nat) : Int := (48000 * (rateND rate).2 * frac : Nat)

theorem frameLenNum_pos (rate : Nat) : 0 < frameLenNum rate :=
  Int.natCast_pos.mpr (Nat.mul_pos (Nat.mul_pos (by decide) (rateND_pos rate).2) (by decide))

theorem frameDen_pos (rate : Nat) : 0 < frameDen rate :=
  Int.natCast_pos.mpr (Nat.mul_pos (rateND_pos rate).1 (by decide))

section
variable {rate phase : Nat} {e n m num t : Int}

theorem frameNum_add (k : Int) : frameNum rate phase e (n + k) = frameNum rate phase e n + k * frameLenNum rate := by
  simp only [frameNum, frameLenNum]
  ring

theorem frameNum_le (h : n ≤ m) : frameNum rate phase e n ≤ frameNum rate phase e m := by
  have hlen : 0 ≤ (m - n) * frameLenNum rate := Int.mul_nonneg (by omega) (frameLenNum_pos rate).le
  have hadd : frameNum rate phase e m = frameNum rate phase e n + (m - n) * frameLenNum rate := by
    rw [← frameNum_add, add_sub_cancel]
  omega

/-- `frameAtNum` is the smallest frame whose start is at or after an instant. -/
theorem frameAtNum_le_iff : frameAtNum rate phase e num ≤ n ↔ num ≤ frameNum rate phase e n :=
  calc frameAtNum rate phase e num ≤ n
      ↔ -n ≤ -(num - (phase * (rateND rate).1 : Nat) + e * ((rateND rate).1 : Nat)) / frameLenNum rate := neg_le
    _ ↔ -n * frameLenNum rate ≤ -(num - (phase * (rateND rate).1 : Nat) + e * ((rateND rate).1 : Nat)) := Int.le_ediv_iff_mul_le (frameLenNum_pos rate)
    _ ↔ num ≤ frameNum rate phase e n := by
      have hnum : frameNum rate phase e n = n * frameLenNum rate + (phase * (rateND rate).1 : Nat) - e * ((rateND rate).1 : Nat) := rfl
      rw [hnum, Int.neg_mul]
      constructor <;> intro h <;> linarith

/-- Five frame lengths are a whole number of divisors. -/
theorem five_frameLenNum : 5 * frameLenNum rate = ((5 * 48000 * (rateND rate).2 / (rateND rate).1 : Nat) : Int) * frameDen rate := by
  have hlen : 5 * (48000 * (rateND rate).2 * frac) = 5 * 48000 * (rateND rate).2 / (rateND rate).1 * ((rateND rate).1 * frac) :=
    calc 5 * (48000 * (rateND rate).2 * frac)
        = 5 * 48000 * (rateND rate).2 * frac := by ring
      _ = 5 * 48000 * (rateND rate).2 / (rateND rate).1 * (rateND rate).1 * frac := by rw [Nat.div_mul_cancel (rateND_divides rate)]
      _ = 5 * 48000 * (rateND rate).2 / (rateND rate).1 * ((rateND rate).1 * frac) := Nat.mul_assoc _ _ _
  rw [frameLenNum, frameDen]
  exact_mod_cast hlen

end

/-! ### The statement -/

/-- Settles O40: starts round down and frames round up by the same numerators, and five frame lengths divide evenly. -/
theorem frameGrid : Obligations.FrameGrid := by
  refine ⟨?agree, ?rise, ?five⟩
  case agree =>
    intro rate phase e t n
    calc t ≤ gridTick rate phase e n
        ↔ t * frameDen rate ≤ frameNum rate phase e n := Int.le_ediv_iff_mul_le (frameDen_pos rate)
      _ ↔ frameAtTick rate phase e t ≤ n := frameAtNum_le_iff.symm
  case rise =>
    intro rate phase e n m h
    exact Int.ediv_le_ediv (frameDen_pos rate) (frameNum_le h)
  case five =>
    intro rate phase e n
    rw [gridTick, frameNum_add, five_frameLenNum, Int.add_mul_ediv_right _ _ (frameDen_pos rate).ne', gridTick]

end Sys2Proof.Proofs

/-! PROOFS.  Commits and the execution of takes (spec/04_tick_and_timing_planes.md, R117; spec/06_basin_and_lockkeeper.md, R153, R159): what a
take's execution does to the routes. -/

namespace Sys2Proof.Proofs
open Sys2Proof Sys2Proof.Machine

/-! ### Routes as a table -/

/-- What a destination's route reads after a route is changed. -/
theorem onRoute_route {s : State} {d k : Nat} {f : RouteObj → RouteObj} (h : tableOk ({} : RouteObj) s.obj.routes = true) :
    (s.onRoute d f).route k = if k = d then f (s.route d) else s.route k :=
  tget_tset h

theorem route_congr {s t : State} (h : t.obj.routes = s.obj.routes) (k : Nat) : t.route k = s.route k := by
  rw [State.route, State.route, h]

/-! ### What events, crossfades and completions leave alone -/

/-- What neither a start's notes nor the mailbox holds, an event leaves alone. -/
theorem raise_keeps {α : Type} (get : State → α) (hstart : ∀ s f, get (s.onStart f) = get s) (hmbox : ∀ s f, get (s.onMbox f) = get s)
    (code sev subject data : Nat) (s : State) : get (raise code sev subject data s) = get s := by
  unfold raise
  dsimp only
  split
  · rfl
  · split
    · exact hstart _ _
    · exact hmbox _ _

@[simp] theorem raise_obj (code sev subject data : Nat) (s : State) : (raise code sev subject data s).obj = s.obj :=
  raise_keeps State.obj State.onStart_obj State.onMbox_obj _ _ _ _ _

theorem raise_log (code sev subject data : Nat) (s : State) : (raise code sev subject data s).log = s.log :=
  raise_keeps State.log State.onStart_log State.onMbox_log _ _ _ _ _

@[simp] theorem takeOut_obj (d : Nat) (e : Entry) (s : State) : (takeOut d e s).obj = s.obj := rfl

@[simp] theorem makeCut_obj (d : Nat) (e : Entry) (s : State) : (makeCut d e s).obj = s.obj := by
  unfold makeCut
  dsimp only
  split
  · rfl
  · split
    · rfl
    · split <;> split <;> rfl

@[simp] theorem countRough_obj (d : Nat) (e : Entry) (s : State) : (countRough d e s).obj = s.obj := by
  unfold countRough
  split
  · rw [raise_obj]; rfl
  · rfl

/-- A crossfade is a matter of the sound in service. -/
@[simp] theorem refade_obj (taken : Bool) (n : Nat) (s : State) (ch : Nat) : (refade taken n s ch).obj = s.obj := by
  unfold refade
  dsimp only
  split <;> rfl

@[simp] theorem routeFade_obj (xfade : Option Nat) (s : State) (ch : Nat) : (routeFade xfade s ch).obj = s.obj := refade_obj _ _ _ _

@[simp] theorem refollow_obj (d : Nat) (s : State) : (refollow d s).obj = s.obj :=
  foldl_keeps State.obj (fun _ _ => refade_obj _ _ _ _) _ s

@[simp] theorem judgeMatch_obj (s : State) (d : Nat) : (judgeMatch s d).obj = s.obj := by
  unfold judgeMatch
  split
  · split
    · rw [refollow_obj, raise_obj]; rfl
    · rfl
  · rfl

@[simp] theorem salvoDone_obj (id total a b lost : Nat) (last : Int) (tag ch : Nat) (s : State) : (salvoDone id total a b lost last tag ch s).obj = s.obj := by
  unfold salvoDone
  split
  · rfl
  · split
    · exact finish_obj _ _ _ _
    · split <;> exact finish_obj _ _ _ _

@[simp] theorem settleSalvo_obj (id : Nat) (s : State) : (settleSalvo id s).obj = s.obj := by
  unfold settleSalvo
  split
  · split
    · exact salvoDone_obj _ _ _ _ _ _ _ _ _
    · rfl
  · rfl

@[simp] theorem executedTake_obj (e : Entry) (f : Int) (gen : Nat) (s : State) : (executedTake e f gen s).obj = s.obj := by
  unfold executedTake
  split
  · rfl
  · split
    · exact settleSalvo_obj _ _
    · exact finishJob_obj _ _ _ _ _ _

/-! ### What follows a take -/

/-- The sound and layers that follow a take may change a channel's setting, and no route. -/
@[simp] theorem takeFollows_routes (d : Nat) (e : Entry) (s : State) : (takeFollows d e s).obj.routes = s.obj.routes := by
  unfold takeFollows
  split
  · exact congrArg Objects.routes (foldl_keeps State.obj (fun _ _ => routeFade_obj _ _ _) _ s)
  · dsimp only
    split
    · rw [routeFade_obj, routeFade_obj]; rfl
    · rw [routeFade_obj]; rfl
  · rfl
  · rfl

/-- A take's route: its source, the generation advanced. -/
def routed (e : Entry) (r : RouteObj) : RouteObj := { r with source := e.source, gen := genNext r.gen }

/-- Executing a take at a live destination changes its route alone. -/
theorem executeTake_routes {d : Nat} {e : Entry} {s : State} (h : destLive s d = true) :
    (executeTake d e s).obj.routes = (s.onRoute d (routed e)).obj.routes := by
  have hroute : ∀ t : State, (takeRoute d e t).obj.routes = tmod {} t.obj.routes d (routed e) := fun _ => rfl
  rw [executeTake, if_pos h, executedTake_obj, judgeMatch_obj, takeFollows_routes, hroute, countRough_obj, makeCut_obj, takeOut_obj]
  rfl

theorem executeTake_route {d k : Nat} {e : Entry} {s : State} (htable : tableOk ({} : RouteObj) s.obj.routes = true) (h : destLive s d = true) :
    (executeTake d e s).route k = if k = d then routed e (s.route d) else s.route k := by
  rw [route_congr (executeTake_routes h), onRoute_route htable]

/-! ### Commit deadlines (R117) -/

theorem commitDeadline_due {p : Nat} {s : State} (hserving : s.serving = true) (hdue : commitDue s p = true) :
    commitDeadline p s = if (enabledPlanes (commitPlane s.now p s)).any (commitDue (commitPlane s.now p s)) then commitPlane s.now p s
      else sendRecord false (commitLimit s p s.now) (commitPlane s.now p s) := by
  refine if_neg ?_
  rw [hserving, hdue]
  exact not_or.mpr ⟨Bool.false_ne_true, Bool.false_ne_true⟩

/-! ### The statement -/

/-- Settles O29: a due deadline commits its plane; a switch point folds the takes that are due, each of which writes its destination's route alone. -/
theorem takesCommitAndExecute : Obligations.TakesCommitAndExecute := by
  refine ⟨fun _ _ hserving hdue => answers_of_eq (commitDeadline_due hserving hdue), fun _ _ => answers_of_eq rfl, ?routes⟩
  case routes =>
    intro d e s htable hlive
    have hdest : (executeTake d e s).route d = routed e (s.route d) := (executeTake_route htable hlive).trans (if_pos rfl)
    exact ⟨congrArg RouteObj.source hdest, congrArg RouteObj.gen hdest, fun k hk => (executeTake_route htable hlive).trans (if_neg hk)⟩

end Sys2Proof.Proofs

/-! PROOFS.  SET_PLANE, SET_REFERENCE and SET_SELECTION_POLICY (spec/04_tick_and_timing_planes.md, R121, R122; spec/05_references.md, R147 to R149):
each by its checks and by whether the setting is the one in force. -/

namespace Sys2Proof.Proofs
open Sys2Proof Sys2Proof.Machine

/-! ### SET_PLANE (R121, R122) -/

section
variable {c : Cmd} {s : State}

/-- The rate that a SET_PLANE record gives: none where it disables the plane. -/
def planeRate (c : Cmd) : Option Nat := if c.u8 1 = 255 then none else some (c.u8 1)

/-- A SET_PLANE record's fields are in range. -/
def PlaneFieldsOk (c : Cmd) : Prop := (c.u8 0 < 8 ∧ c.u8 1 ≤ 12 ∧ phaseOk (c.u8 1) (c.u64 8) = true) ∨ (c.u8 0 < 8 ∧ c.u8 1 = 255)

theorem planeRate_enables (h : c.u8 0 < 8 ∧ c.u8 1 ≤ 12 ∧ phaseOk (c.u8 1) (c.u64 8) = true) : c.u8 1 ≠ 255 ∧ planeRate c = some (c.u8 1) := by
  obtain ⟨-, hrate, -⟩ := h
  have hon : c.u8 1 ≠ 255 := by omega
  exact ⟨hon, if_neg hon⟩

theorem planeRate_disables (h : c.u8 1 = 255) : planeRate c = none := if_pos h

/-- SET_PLANE of a record in range, by its rate, its phase and the plane's use. -/
theorem setPlane_eq (h : PlaneFieldsOk c) :
    setPlane c s =
      if (s.plane (c.u8 0)).rate = planeRate c ∧ (c.u8 1 = 255 ∨ (s.plane (c.u8 0)).phase = c.u64 8) then ok s
      else if (s.plane (c.u8 0)).rate = planeRate c then
        queued (.plane (c.u8 0)) ((supersedePhase (c.u8 0) c (putPlane (c.u8 0) (planeRate c) (c.u64 8) s)).onPlaneRt (c.u8 0) fun q =>
          { q with job := some s.mbox.nextJob })
      else if (s.plane (c.u8 0)).rate.isSome ∧ planeNamed s (c.u8 0) = true then rej .state 0xFFFF s
      else if c.u8 1 = 255 then ok (disablePlane (c.u8 0) (supersedePhase (c.u8 0) c s))
      else ok (enablePlane (c.u8 0) (c.u8 1) (c.u64 8) (supersedePhase (c.u8 0) c s)) := by
  have hrange : firstBad [(decide (c.u8 0 < 8), 0x20), (decide (c.u8 1 = 255 ∨ c.u8 1 ≤ 12), 0x21),
      (decide (c.u8 1 = 255) || phaseOk (c.u8 1) (c.u64 8), 0x28)] = none := by
    rcases h with ⟨hplane, hrate, hphase⟩ | ⟨hplane, hrate⟩
    · simp [firstBad, hplane, hrate, hphase]
    · simp [firstBad, hplane, hrate]
  simp only [setPlane, hrange]
  rfl

/-- The setting in force again changes nothing. -/
theorem setPlane_same (h : PlaneFieldsOk c) (hrate : (s.plane (c.u8 0)).rate = planeRate c) (hphase : (s.plane (c.u8 0)).phase = c.u64 8) :
    setPlane c s = ok s :=
  (setPlane_eq h).trans (if_pos ⟨hrate, .inr hphase⟩)

theorem setPlane_rephased (h : PlaneFieldsOk c) (hrate : (s.plane (c.u8 0)).rate = planeRate c) (henabled : c.u8 1 ≠ 255)
    (hphase : (s.plane (c.u8 0)).phase ≠ c.u64 8) :
    setPlane c s = queued (.plane (c.u8 0)) ((supersedePhase (c.u8 0) c (putPlane (c.u8 0) (planeRate c) (c.u64 8) s)).onPlaneRt (c.u8 0) fun q =>
      { q with job := some s.mbox.nextJob }) := by
  rw [setPlane_eq h, if_neg (fun hsame => hsame.2.elim henabled hphase), if_pos hrate]

/-- A plane in use keeps its rate. -/
theorem setPlane_used (h : PlaneFieldsOk c) (hrate : (s.plane (c.u8 0)).rate ≠ planeRate c)
    (hused : (s.plane (c.u8 0)).rate.isSome = true ∧ planeNamed s (c.u8 0) = true) : setPlane c s = rej .state 0xFFFF s := by
  rw [setPlane_eq h, if_neg (fun hsame => hrate hsame.1), if_neg hrate, if_pos hused]

theorem setPlane_free (h : PlaneFieldsOk c) (hrate : (s.plane (c.u8 0)).rate ≠ planeRate c)
    (hfree : (s.plane (c.u8 0)).rate = none ∨ planeNamed s (c.u8 0) = false) :
    setPlane c s = if c.u8 1 = 255 then ok (disablePlane (c.u8 0) (supersedePhase (c.u8 0) c s))
      else ok (enablePlane (c.u8 0) (c.u8 1) (c.u64 8) (supersedePhase (c.u8 0) c s)) := by
  have hunused : ¬((s.plane (c.u8 0)).rate.isSome = true ∧ planeNamed s (c.u8 0) = true) := by
    rcases hfree with hnone | hunnamed
    · simp [hnone]
    · simp [hunnamed]
  rw [setPlane_eq h, if_neg (fun hsame => hrate hsame.1), if_neg hrate, if_neg hunused]

end

/-! ### SET_REFERENCE (R147, R148) -/

section
variable {c : Cmd} {s : State}

/-- The configuration that a SET_REFERENCE record gives its slot. -/
abbrev nextRef (c : Cmd) (s : State) : RefObj := refSetting c (s.refObj (c.u8 0)).gen

/-- What a slot's configuration names is free for it: a pin slot's plane is enabled, a beacon slot's lane is no other's. -/
def RefFree (c : Cmd) (s : State) : Prop :=
  if 8 ≤ c.u8 0 then (s.rate (nextRef c s).plane).isSome = true else laneNamed s (c.u8 0) (nextRef c s).lane = false

/-- The model's check of what a configuration names. -/
theorem refFree_iff :
    ((!isPin (c.u8 0) && laneNamed s (c.u8 0) (nextRef c s).lane) || (isPin (c.u8 0) && (s.rate (nextRef c s).plane).isNone)) = false ↔ RefFree c s := by
  unfold RefFree
  by_cases hpin : 8 ≤ c.u8 0 <;> simp [isPin, hpin]

theorem setReference_outOfRange {off : Nat} (h : firstBad (refRange c) = some off) : setReference c s = rej .range off s := by
  simp only [setReference, h]

theorem setReference_taken (hrange : firstBad (refRange c) = none) (h : ¬RefFree c s) : setReference c s = rej .state 0xFFFF s := by
  simp only [setReference, hrange]
  exact if_pos ((Bool.not_eq_false _).mp (mt refFree_iff.mp h))

theorem setReference_free (hrange : firstBad (refRange c) = none) (h : RefFree c s) :
    setReference c s = if nextRef c s = s.refObj (c.u8 0) then ok s
      else ok (applyRef (c.u8 0) (s.refObj (c.u8 0)) (nextRef c s)
        ((s.onObj fun o => { o with refs := tset {} o.refs (c.u8 0) (refSetting c (genNext (s.refObj (c.u8 0)).gen)) }).touch 0x04 (c.u8 0))) := by
  simp only [setReference, hrange]
  exact if_neg (Bool.eq_false_iff.mp (refFree_iff.mpr h))

end

/-! ### SET_SELECTION_POLICY (R149) -/

section
variable {c : Cmd} {s : State}

/-- The policy that a SET_SELECTION_POLICY record gives. -/
def selectionPolicyOf (c : Cmd) (gen : Nat) : PolicyObj :=
  { mode := if c.u8 0 = 0 then .auto else if c.u8 0 = 1 then .forceSlot else .forceHoldover, forced := c.u8 1, spreadPpb := c.u32 4, driftPpb := c.u32 8,
    offsetPpb := c.u32 0x0C, budgetNs := c.u32 0x10, gen := gen }

/-- A SET_SELECTION_POLICY record's fields are in range. -/
def SelectionFieldsOk (c : Cmd) : Prop :=
  c.u8 0 ≤ 2 ∧ c.u8 1 < 10 ∧ c.u32 4 ≤ 2500000 ∧ c.u32 8 ≤ 100000 ∧ c.u32 0x0C ≤ 10000 ∧ 1 ≤ c.u32 0x10 ∧ c.u32 0x10 ≤ 1000000000

/-- SET_SELECTION_POLICY of a record in range, by its spread and by whether the policy is the one in force. -/
theorem setSelectionPolicy_eq (h : SelectionFieldsOk c) :
    setSelectionPolicy c s =
      if c.u32 4 ≠ s.obj.policy.spreadPpb ∧ (s.time.tmState = .disciplined ∨ s.time.tmState = .holdover) then rej .state 0xFFFF s
      else if selectionPolicyOf c s.obj.policy.gen = s.obj.policy then ok s
      else ok (budgetCrossing ((s.onObj fun o => { o with policy := selectionPolicyOf c (genNext s.obj.policy.gen) }).touch 0x04 0x10000)) := by
  obtain ⟨hmode, hforced, hspread, hdrift, hoffset, hbudget⟩ := h
  simp only [setSelectionPolicy, firstBad, hmode, hforced, hspread, hdrift, hoffset, hbudget, and_self, decide_true, if_true]
  rfl

/-- The spread is the one in force, or the timing master is neither DISCIPLINED nor in HOLDOVER. -/
def SpreadFree (c : Cmd) (s : State) : Prop := c.u32 4 = s.obj.policy.spreadPpb ∨ (s.time.tmState ≠ .disciplined ∧ s.time.tmState ≠ .holdover)

theorem not_spreadFree_iff :
    ¬SpreadFree c s ↔ c.u32 4 ≠ s.obj.policy.spreadPpb ∧ (s.time.tmState = .disciplined ∨ s.time.tmState = .holdover) := by
  rw [SpreadFree, not_or, not_and_or, not_not, not_not]

theorem setSelectionPolicy_spread (h : SelectionFieldsOk c) (hspread : ¬SpreadFree c s) : setSelectionPolicy c s = rej .state 0xFFFF s :=
  (setSelectionPolicy_eq h).trans (if_pos (not_spreadFree_iff.mp hspread))

theorem setSelectionPolicy_free (h : SelectionFieldsOk c) (hspread : SpreadFree c s) :
    setSelectionPolicy c s = if selectionPolicyOf c s.obj.policy.gen = s.obj.policy then ok s
      else ok (budgetCrossing ((s.onObj fun o => { o with policy := selectionPolicyOf c (genNext s.obj.policy.gen) }).touch 0x04 0x10000)) :=
  (setSelectionPolicy_eq h).trans (if_neg fun hnew => not_spreadFree_iff.mpr hnew hspread)

/-- A policy in force again keeps its spread. -/
theorem spreadFree_of_same {gen : Nat} (h : selectionPolicyOf c gen = s.obj.policy) : SpreadFree c s := .inl (congrArg PolicyObj.spreadPpb h)

end

/-! ### The statement -/

/-- Settles O23: SET_PLANE by rate, phase and use; SET_REFERENCE by what its slot names; SET_SELECTION_POLICY by its spread. -/
theorem planesAndReferencesAreSet : Obligations.PlanesAndReferencesAreSet := by
  refine ⟨?planes, ?references⟩
  case planes =>
    intro good free
    refine ⟨carries_of_effect fun c s ⟨hgood, hrate, hfree⟩ => ?enabled, carries_of_effect fun c s ⟨hplane, hoff, hsome, hunnamed⟩ => ?disabled,
      carries_of_effect fun c s ⟨hgood, hrate, hphase⟩ => ?rephased, carries_of_effect fun c s ⟨hgood, hrate, hphase⟩ => ?same,
      carries_of_effect fun c s ⟨hfields, hrate, hused⟩ => setPlane_used hfields hrate hused⟩
    case enabled =>
      obtain ⟨hon, hnew⟩ := planeRate_enables hgood
      exact (setPlane_free (.inl hgood) (hnew ▸ hrate) hfree).trans (if_neg hon)
    case disabled =>
      have hnew : (s.plane (c.u8 0)).rate ≠ planeRate c := by
        rw [planeRate_disables hoff]
        exact Option.isSome_iff_ne_none.mp hsome
      exact (setPlane_free (.inr ⟨hplane, hoff⟩) hnew (.inr hunnamed)).trans (if_pos hoff)
    case rephased =>
      obtain ⟨hon, hnew⟩ := planeRate_enables hgood
      rw [← hnew]
      exact setPlane_rephased (.inl hgood) (hrate.trans hnew.symm) hon hphase
    case same => exact setPlane_same (.inl hgood) (hrate.trans (planeRate_enables hgood).2.symm) hphase
  case references =>
    intro next free policyOk policy spreads
    exact ⟨carries_of_effect fun c s ⟨hrange, hfree, hnew⟩ => (setReference_free hrange hfree).trans (if_neg hnew),
      carries_of_effect fun c s ⟨hrange, hfree, hsame⟩ => (setReference_free hrange hfree).trans (if_pos hsame),
      carries_of_effect fun c s ⟨hrange, htaken⟩ => setReference_taken hrange htaken,
      fun off => carries_of_effect fun c s hbad => setReference_outOfRange hbad,
      carries_of_effect fun c s ⟨hfields, hspread, hnew⟩ => (setSelectionPolicy_free hfields hspread).trans (if_neg hnew),
      carries_of_effect fun c s ⟨hfields, hsame⟩ => (setSelectionPolicy_free hfields (spreadFree_of_same hsame)).trans (if_pos hsame),
      carries_of_effect fun c s ⟨hfields, hspread⟩ => setSelectionPolicy_spread hfields hspread⟩

end Sys2Proof.Proofs

/-! PROOFS.  SAMPLE_TICK (spec/04_tick_and_timing_planes.md, R102, R118 to R120; R468, R541): what a tick is to a chip that is off, that does not
serve, and that serves; and what its parts count. -/

namespace Sys2Proof.Proofs
open Sys2Proof Sys2Proof.Machine

section
variable {fg bg : Nat} {e w : Bool} {s : State}

/-! ### The three kinds of tick -/

theorem not_serving_of_off (h : s.dev = .off) : s.serving = false := by
  rw [State.serving, h]
  rfl

theorem sampleTick_idle (h : s.serving = false) : sampleTick fg bg e w s = idleTick s := if_pos (by rw [h]; rfl)

theorem sampleTick_serving (h : s.serving = true) :
    sampleTick fg bg e w s =
      let s2 := judgeBeats (advanceTick (!(e && w) || slipsTick fg) (closeTick fg bg e w s))
      let s3 := tickLog (tickClocks (backgroundWindow (if e && w then noteSlip fg s2 else s2)))
      if s3.serving then openTick s3 else s3 :=
  if_neg (by rw [h]; exact Bool.false_ne_true)

theorem idleTick_off (h : s.dev = .off) : idleTick s = s.onTime fun t => { t with elapsed := t.elapsed + 1 } := if_pos h

/-- T runs on a powered chip that does not serve where a start has set it. -/
theorem timeRuns_notServing (h : s.serving = false) (hdev : s.dev ≠ .off) : timeRuns s = s.time.running := by
  simp [timeRuns, h, hdev]

theorem idleTick_powered (h : s.serving = false) (hdev : s.dev ≠ .off) :
    let s1 := (endTickMail s).onTime fun t => { t with elapsed := t.elapsed + 1, tick := if s.time.running then t.tick + 1 else t.tick }
    let s2 := if s.dev = .fatalD then s1.onFaults fun f => { f with waited := f.waited + 1 } else s1
    idleTick s = releaseHeld 0 (aliveToggle (tickLog (tickSpdm (tickClocks s2)))) := by
  rw [idleTick, if_neg hdev, timeRuns_notServing h hdev]

end

/-! ### What becomes eligible (R72, R118) -/

/-- A change of every entry that keeps the default is read key by key. -/
theorem tget_map {α : Type} {d : α} {g : α → α} (hd : g d = d) (t : List (Nat × α)) (k : Nat) :
    tget d (t.map fun e => (e.1, g e.2)) k = g (tget d t k) := by
  induction t with
  | nil => exact hd.symm
  | cons e r ih =>
    simp only [List.map_cons, tget]
    split
    · rfl
    · exact ih

/-- A channel as a tick finds it: the records announced before it are eligible. -/
def announcedEligible (k : Channel) : Channel := { k with eligible := k.sqTail }

theorem advanceTick_chan (slipped : Bool) (s : State) (ch : Nat) : (advanceTick slipped s).chan ch = announcedEligible (s.chan ch) :=
  tget_map (d := ({} : Channel)) (g := announcedEligible) rfl s.mbox.channels ch

/-! ### The budget (R120) -/

section
variable {fg : Nat} {s : State}

theorem noteSlip_inTime (h : slipsTick fg = false) : noteSlip fg s = s := if_neg (Bool.eq_false_iff.mp h)

theorem noteSlip_late (h : slipsTick fg = true) :
    noteSlip fg s = raise 0x0381 2 0 (min 0xFFFFFFFF ((3 * fg - 62500) / 3))
      ((s.onTime fun t => { t with slips := satAdd 32 t.slips 1 }).onLog fun l => { l with slips := inc l.slips }) :=
  if_pos h

end

/-! ### The statement -/

/-- Settles O41: a tick by the device's state, the time and channels by what advances them, the budget and heartbeats by what counts them. -/
theorem sampleTickRuns : Obligations.SampleTickRuns := by
  refine ⟨?off, ?idle, fun _ _ _ _ _ hserving => answers_of_eq (sampleTick_serving hserving), ?advance, fun _ _ h => noteSlip_inTime h, ?slip,
    fun _ _ _ => ⟨rfl, rfl⟩⟩
  case off =>
    intro fg bg e w s hoff
    exact answers_of_eq ((sampleTick_idle (not_serving_of_off hoff)).trans (idleTick_off hoff))
  case idle =>
    intro fg bg e w s hserving hdev
    exact answers_of_eq ((sampleTick_idle hserving).trans (idleTick_powered hserving hdev))
  case advance =>
    intro slipped s
    refine ⟨rfl, rfl, rfl, fun ch _ => ?_⟩
    rw [advanceTick_chan]
    exact ⟨rfl, rfl⟩
  case slip =>
    intro fg s h
    rw [noteSlip_late h]
    exact ⟨congrArg TimeRt.slips (raise_time _ _ _ _ _), congrArg LogRt.slips (raise_log _ _ _ _ _)⟩

end Sys2Proof.Proofs

/-! PROOFS.  The Tandem session and the phases of a resynchronisation (spec/12_twin_operation.md, R371, R388; R107, R307, R483). -/

namespace Sys2Proof.Proofs
open Sys2Proof Sys2Proof.Machine

/-! ### The session (R371, R483) -/

section
variable {o : TandemOffer} {n : Nat} {s : State}

theorem keyExchange_ignored (h : s.serving = false ∨ tandemDown s = true) : keyExchange o s = s := by
  refine if_pos ?_
  rcases h with h | h
  · exact .inl (by rw [h]; rfl)
  · exact .inr h

/-- The state with the session that a proof which holds makes. -/
def sessionMade (o : TandemOffer) (s : State) : State :=
  s.onTwin fun t =>
    { t with session := true, sessionKey := tandemKey o.own o.publicKey, sessionAge := 0, rekeyAt := none, orphaned := false,
             partnerSerial := o.serial % 2 ^ 64, partnerFw := o.fw % 2 ^ 32, partnerMin := o.fwMin % 2 ^ 32 }

/-- The state with a session whose versions refuse each other. -/
def sessionApart (o : TandemOffer) (s : State) : State := raise 0x0C8A 3 0 (o.fw % 2 ^ 32) (sessionMade o s)

/-- An exchange that takes place, by the proof, the versions, and the chip's role. -/
theorem keyExchange_taken (hserving : s.serving = true) (hup : tandemDown s = false) :
    keyExchange o s =
      if !proofHolds o s then proofFailed s
      else if versionsAgree o s then (if s.twin.st = .blocked ∧ s.twin.helm = false then beginResync (sessionMade o s) else sessionMade o s)
      else if s.twin.helm then (sessionApart o s).onTwin fun t => { t with st := .alone }
      else driveHealth (coast ((endResync (sessionApart o s)).onTwin fun t => { t with st := .blocked, east := [], west := [] })) := by
  refine if_neg ?_
  rw [hserving, hup]
  exact not_or.mpr ⟨Bool.false_ne_true, Bool.false_ne_true⟩

theorem keyExchange_unproved (hserving : s.serving = true) (hup : tandemDown s = false) (hproof : proofHolds o s = false) :
    keyExchange o s = proofFailed s := by
  rw [keyExchange_taken hserving hup, hproof]
  rfl

theorem keyExchange_agreed (hserving : s.serving = true) (hup : tandemDown s = false) (hproof : proofHolds o s = true)
    (hversions : versionsAgree o s = true) :
    keyExchange o s = if s.twin.st = .blocked ∧ s.twin.helm = false then beginResync (sessionMade o s) else sessionMade o s := by
  rw [keyExchange_taken hserving hup, hproof, hversions]
  rfl

theorem keyExchange_refused (hserving : s.serving = true) (hup : tandemDown s = false) (hproof : proofHolds o s = true)
    (hversions : versionsAgree o s = false) :
    keyExchange o s = if s.twin.helm then (sessionApart o s).onTwin fun t => { t with st := .alone }
      else driveHealth (coast ((endResync (sessionApart o s)).onTwin fun t => { t with st := .blocked, east := [], west := [] })) := by
  rw [keyExchange_taken hserving hup, hproof, hversions]
  rfl

theorem rekey_ignored (h : s.serving = false ∨ s.twin.session = false ∨ tandemDown s = true ∨ s.twin.sessionAge < 172800000) : rekey n o s = s := by
  refine if_pos ?_
  rcases h with h | h | h | h
  · exact .inl (by rw [h]; rfl)
  · exact .inr (.inl (by rw [h]; rfl))
  · exact .inr (.inr (.inl h))
  · exact .inr (.inr (.inr h))

theorem rekey_due (hserving : s.serving = true) (hsession : s.twin.session = true) (hup : tandemDown s = false) (hage : 172800000 ≤ s.twin.sessionAge) :
    rekey n o s = if proofHolds o s then s.onTwin fun t =>
        { t with rekeyAt := some (if t.helm then wrapAdd 32 t.lastRseq 64 else n % 2 ^ 32, tandemKey o.own o.publicKey), sessionAge := 0 }
      else proofFailed s := by
  have hdue : ¬(!s.serving ∨ !s.twin.session ∨ tandemDown s ∨ s.twin.sessionAge < 172800000) := by simp [hserving, hsession, hup, hage]
  rw [rekey, if_neg hdue]
  cases proofHolds o s <;> rfl

end

/-! ### The phases of a resynchronisation (R107, R388) -/

section
variable {x : Option Snapshot} {s : State}

theorem phaseComplete_idle (h : s.twin.helm = true ∨ s.twin.st ≠ .resyncing ∨ s.twin.phase = .none) : phaseComplete x s = s := by
  unfold phaseComplete
  split
  · rfl
  · next hruns =>
    have hphase : s.twin.phase = .none := by
      rw [← or_assoc] at h
      exact h.resolve_left hruns
    rw [hphase]

/-- What a standby that resynchronises does as a phase ends, by the phase. -/
def phaseEnd (x : Option Snapshot) (s : State) : RsPhase → State
  | .none => s
  | .session =>
    if partnerRefused s then driveHealth (coast ((endResync s).onTwin fun t => { t with st := .blocked, east := [], west := [] }))
    else if s.twin.session then s.onTwin fun t => { t with phase := .snapshot, phaseAge := 0 } else s
  | .snapshot => match x with
    | some y => applyKept y.time.tick (adoptSnapshot y s)
    | none => s
  | .graphics => (writePages ((x.map fun y => y.pages).getD []) s).onTwin fun t => { t with phase := .fill, phaseAge := 0 }
  | .fill =>
    if ringsFull s && allPrimed s then s.onTwin fun t => { t with phase := .check, phaseAge := 0, fillChecks := 0, checkSeq := s.tow.bargeSeq } else s
  | .check => if 1 ≤ s.twin.fillChecks then resyncDone s else s

theorem phaseComplete_runs {p : RsPhase} (hrole : s.twin.helm = false) (hst : s.twin.st = .resyncing) (hphase : s.twin.phase = p) :
    phaseComplete x s = phaseEnd x s p := by
  have hruns : ¬(s.twin.helm = true ∨ s.twin.st ≠ .resyncing) := by simp [hrole, hst]
  subst hphase
  unfold phaseComplete
  rw [if_neg hruns]
  rfl

/-- No session, no partner that refused it. -/
theorem partnerRefused_noSession (h : s.twin.session = false) : partnerRefused s = false := by
  rw [partnerRefused, h, Bool.false_and]

theorem phaseOverrun_late (hrole : s.twin.helm = false) (hst : s.twin.st = .resyncing) (hphase : s.twin.phase ≠ .none)
    (hage : phaseBound s < s.twin.phaseAge) :
    phaseOverrun s = raise 0x0C85 2 0 s.twin.phase.code (driveHealth (coast ((endResync s).onTwin fun t =>
      { t with st := .adrift, retryAge := some 0, resyncFails := inc t.resyncFails, east := [], west := [] }))) :=
  if_pos ⟨hrole, hst, hphase, hage⟩

theorem phaseOverrun_same (h : s.twin.helm = true ∨ s.twin.st ≠ .resyncing ∨ s.twin.phase = .none ∨ s.twin.phaseAge ≤ phaseBound s) :
    phaseOverrun s = s := by
  refine if_neg ?_
  rintro ⟨hrole, hst, hphase, hage⟩
  rcases h with h | h | h | h
  · exact Bool.false_ne_true (hrole.symm.trans h)
  · exact h hst
  · exact hphase h
  · exact Nat.not_le.mpr hage h

/-- A retry with none counted does nothing. -/
theorem resyncRetry_none (h : s.twin.retryAge = none) : resyncRetry s = s := by
  simp only [resyncRetry, h]

theorem resyncRetry_counted {a : Nat} (h : s.twin.retryAge = some a) :
    resyncRetry s = if s.serving ∧ s.twin.helm = false ∧ s.twin.st = .adrift ∧ s.obj.twinPol.autoResync ∧ s.obj.twinPol.retryS * 48000 ≤ a then beginResync s
      else s := by
  simp only [resyncRetry, h]

theorem resyncRetry_early {a : Nat} (h : s.twin.retryAge = some a) (hearly : a < s.obj.twinPol.retryS * 48000) : resyncRetry s = s := by
  refine (resyncRetry_counted h).trans (if_neg ?_)
  rintro ⟨-, -, -, -, hdue⟩
  exact Nat.not_le.mpr hearly hdue

theorem resyncRetry_barred
    (h : s.twin.retryAge = none ∨ s.serving = false ∨ s.twin.helm = true ∨ s.twin.st ≠ .adrift ∨ s.obj.twinPol.autoResync = false) :
    resyncRetry s = s := by
  rcases h with hnone | h
  · exact resyncRetry_none hnone
  cases hage : s.twin.retryAge with
  | none => exact resyncRetry_none hage
  | some a =>
    refine (resyncRetry_counted hage).trans (if_neg ?_)
    rintro ⟨hserving, hrole, hst, hauto, -⟩
    rcases h with h | h | h | h
    · exact Bool.false_ne_true (h.symm.trans hserving)
    · exact Bool.false_ne_true (hrole.symm.trans h)
    · exact h hst
    · exact Bool.false_ne_true (h.symm.trans hauto)

end

/-! ### Graphics that were still to come (R307) -/

section
variable {h p : Nat} {k : HeadCommit} {s : State}

theorem graphicsDone_waiting (hcommit : (s.head h).commit = some k) (hwaiting : k.waiting = true) (hplane : k.cfg.plane = some p) :
    graphicsDone h s = (s.onTwin fun t => { t with backlog := t.backlog.filter fun e => e.1 / 8 ≠ h }).onHead h fun r =>
      { r with commit := some { k with waiting := false, frame := armFrameAt s p (s.now + 1) } } := by
  simp only [graphicsDone, hcommit, hwaiting, hplane, if_true]

theorem graphicsDone_same (hcommit : ∀ k, (s.head h).commit = some k → k.waiting = false) : graphicsDone h s = s := by
  unfold graphicsDone
  split
  · next k hk => exact if_neg (Bool.eq_false_iff.mp (hcommit k hk))
  · rfl

end

/-! ### The statement -/

/-- Settles O60: the session by its proof and versions, each phase by its own condition, the overrun and the retry by their ages. -/
theorem resyncRowsComplete : Obligations.ResyncRowsComplete := by
  refine ⟨fun _ _ h => answers_of_eq (keyExchange_ignored h), ?exchange, fun _ _ _ h => answers_of_eq (rekey_ignored h),
    fun _ _ _ hserving hsession hup hage => answers_of_eq (rekey_due hserving hsession hup hage), fun _ _ h => answers_of_eq (phaseComplete_idle h),
    ?phases, fun _ hrole hst hphase hage => answers_of_eq (phaseOverrun_late hrole hst hphase hage), fun _ h => answers_of_eq (phaseOverrun_same h),
    ?retry, fun _ h => answers_of_eq (resyncRetry_barred h), fun _ _ hcounted hearly => answers_of_eq (resyncRetry_early hcounted hearly),
    fun _ _ _ _ hcommit hwaiting hplane => answers_of_eq (graphicsDone_waiting hcommit hwaiting hplane),
    fun _ _ hcommit => answers_of_eq (graphicsDone_same hcommit)⟩
  case exchange =>
    intro o s hserving hup ended made apart
    refine ⟨fun hproof => answers_of_eq (keyExchange_unproved hserving hup hproof), fun hproof hversions hrole => ?made,
      fun hproof hversions hblocked hrole => answers_of_eq ((keyExchange_agreed hserving hup hproof hversions).trans (if_pos ⟨hblocked, hrole⟩)),
      fun hproof hversions hrole => answers_of_eq ((keyExchange_refused hserving hup hproof hversions).trans (if_pos hrole)),
      fun hproof hversions hrole => answers_of_eq ((keyExchange_refused hserving hup hproof hversions).trans (if_neg (Bool.eq_false_iff.mp hrole)))⟩
    case made =>
      have hstays : ¬(s.twin.st = .blocked ∧ s.twin.helm = false) := by
        rintro ⟨hblocked, hstandby⟩
        exact hrole.elim (fun hst => hst hblocked) (fun hhelm => Bool.false_ne_true (hstandby.symm.trans hhelm))
      exact answers_of_eq ((keyExchange_agreed hserving hup hproof hversions).trans (if_neg hstays))
  case phases =>
    intro x s hrole hst
    refine ⟨fun hphase hrefused => answers_of_eq ((phaseComplete_runs hrole hst hphase).trans (if_pos hrefused)), ?established, ?unestablished, ?snapshot,
      ?noSnapshot, ?pages, ?noPages, ?full, ?filling, fun hphase hchecked => answers_of_eq ((phaseComplete_runs hrole hst hphase).trans (if_pos hchecked)),
      ?unchecked⟩
    case established =>
      intro hphase hrefused hsession
      exact answers_of_eq ((phaseComplete_runs hrole hst hphase).trans ((if_neg (Bool.eq_false_iff.mp hrefused)).trans (if_pos hsession)))
    case unestablished =>
      intro hphase hsession
      have hrefused := Bool.eq_false_iff.mp (partnerRefused_noSession hsession)
      exact answers_of_eq ((phaseComplete_runs hrole hst hphase).trans ((if_neg hrefused).trans (if_neg (Bool.eq_false_iff.mp hsession))))
    case snapshot =>
      rintro y hphase rfl
      exact answers_of_eq (phaseComplete_runs hrole hst hphase)
    case noSnapshot =>
      rintro hphase rfl
      exact answers_of_eq (phaseComplete_runs hrole hst hphase)
    case pages =>
      rintro y hphase rfl
      exact answers_of_eq (phaseComplete_runs hrole hst hphase)
    case noPages =>
      rintro hphase rfl
      exact answers_of_eq (phaseComplete_runs hrole hst hphase)
    case full =>
      intro hphase hrings hprimed
      exact answers_of_eq ((phaseComplete_runs hrole hst hphase).trans (if_pos (by rw [hrings, hprimed]; rfl)))
    case filling =>
      intro hphase hlacks
      have hnot : ¬(ringsFull s && allPrimed s) = true := by
        intro hall
        obtain ⟨hrings, hprimed⟩ := Bool.and_eq_true_iff.mp hall
        exact hlacks.elim (fun h => Bool.false_ne_true (h.symm.trans hrings)) (fun h => Bool.false_ne_true (h.symm.trans hprimed))
      exact answers_of_eq ((phaseComplete_runs hrole hst hphase).trans (if_neg hnot))
    case unchecked =>
      intro hphase hnone
      exact answers_of_eq ((phaseComplete_runs hrole hst hphase).trans (if_neg (by omega)))
  case retry =>
    intro a s hcounted hserving hrole hst hauto hdue
    exact answers_of_eq ((resyncRetry_counted hcounted).trans (if_pos ⟨hserving, hrole, hst, hauto, hdue⟩))

end Sys2Proof.Proofs

/-! PROOFS.  The rows of reference slots (spec/05_references.md, R127 to R135, R141, R143): what each does where it is due, and that it does nothing
elsewhere. -/

namespace Sys2Proof.Proofs
open Sys2Proof Sys2Proof.Machine

/-! ### Slots as a table (R132) -/

section
variable {r : Nat} {s : State}

theorem slot_congr {t : State} (h : t.refs.slots = s.refs.slots) (r : Nat) : t.slot r = s.slot r :=
  congrArg (fun x => tget ({} : SlotRt) x r) h

/-- A change that leaves a slot in service is read back, whether or not the table is canonical. -/
theorem onSlot_slot {f : SlotRt → SlotRt} (h : (f (s.slot r)).st ≠ .disabled) : (s.onSlot r f).slot r = f (s.slot r) :=
  tget_tset_of_ne (fun hunlisted => h (congrArg SlotRt.st hunlisted)) _ _

theorem raise_slots (code sev subject data : Nat) (s : State) : (raise code sev subject data s).refs.slots = s.refs.slots :=
  congrArg RefsRt.slots (raise_keeps State.refs State.onStart_refs State.onMbox_refs _ _ _ _ _)

theorem enterHoldover_slots (s : State) : (enterHoldover s).refs.slots = s.refs.slots := raise_slots _ _ _ _ _

/-- What follows when the selected slot leaves QUALIFIED is the selector's, not the slots'. -/
theorem deselect_slots (r : Nat) (s : State) : (deselect r s).refs.slots = s.refs.slots := by
  unfold deselect
  split
  · split
    · rfl
    · exact enterHoldover_slots s
  · rfl

end

/-! ### Disqualification and qualification (R133, R134) -/

section
variable {r : Nat} {s : State}

theorem disqualify_slot_st {cause : Nat} (h : (s.slot r).st ≠ .disabled) : ((disqualify r cause s).slot r).st = .unqualified := by
  have hdown : ((s.onSlot r fun x => { x with st := .unqualified, lastCause := cause, timer := 0, downAt := some s.elapsed }).slot r).st = .unqualified :=
    congrArg SlotRt.st (onSlot_slot RefSt.noConfusion)
  simp only [disqualify, if_neg h]
  split
  · exact hdown
  · rw [slot_congr (deselect_slots _ _), slot_congr (raise_slots _ _ _ _ _), hdown]

/-- Starting a timer keeps a slot in service. -/
theorem startTimer_slot_st (h : (s.slot r).st ≠ .disabled) : ((startTimer r s).slot r).st ≠ .disabled := by
  simp only [startTimer]
  split
  · rw [onSlot_slot RefSt.noConfusion]
    exact RefSt.noConfusion
  · exact h

theorem missing_silent (hst : (s.slot r).st ≠ .disabled) (hmissing : (s.slot r).missing = false) (hsilent : silentTooLong s r = true) :
    missing r s = disqualify r 1 (s.onSlot r fun x => { x.unmeasured with missing := true }) :=
  if_neg (by simp [hst, hmissing, hsilent])

theorem missing_same (h : (s.slot r).st = .disabled ∨ (s.slot r).missing = true ∨ silentTooLong s r = false) : missing r s = s := if_pos h

theorem qualify_served (hst : (s.slot r).st = .qualifying) (hclear : conditionOn s r = false) (hserved : timeServed s r = true) :
    qualify r s = raise 0x0481 1 r (qualityOf s r) (s.onSlot r fun x => { x with st := .qualified }) :=
  if_pos ⟨hst, hclear, hserved⟩

theorem qualify_same (h : (s.slot r).st ≠ .qualifying ∨ conditionOn s r = true ∨ timeServed s r = false) : qualify r s = s := by
  refine if_neg ?_
  rintro ⟨hst, hclear, hserved⟩
  rcases h with h | h | h
  · exact h hst
  · exact Bool.false_ne_true (hclear.symm.trans h)
  · exact Bool.false_ne_true (h.symm.trans hserved)

end

/-! ### Pulses (R129) -/

section
variable {pin w : Nat} {instant : Int} {s : State}

theorem filterPulse_wide (h : 25 ≤ w) : filterPulse w s = (true, s) := (if_neg (by omega)).trans (if_pos h)

theorem filterPulse_narrow (h : w < 20) : filterPulse w s = (false, s) := if_pos h

/-- Between its two widths the filter does what a free value says. -/
theorem filterPulse_between (hlow : 20 ≤ w) (hhigh : w < 25) : filterPulse w s = (decide (s.draw.1 % 2 = 0), s.draw.2) :=
  (if_neg (by omega)).trans (if_neg (by omega))

theorem pinPulse_enabled (hpin : pin ≤ 1) (hst : (s.slot (8 + pin)).st ≠ .disabled) :
    pinPulse pin instant w s =
      if (filterPulse w s).1 = true then validPulse (8 + pin) instant (filterPulse w s).2
      else (filterPulse w s).2.onSlot (8 + pin) fun x => { x with filtered := satAdd 16 x.filtered 1 } :=
  if_neg (not_or.mpr ⟨Nat.not_lt.mpr hpin, hst⟩)

theorem pinPulse_ignored (h : 1 < pin ∨ (s.slot (8 + pin)).st = .disabled) : pinPulse pin instant w s = s := if_pos h

theorem pinPulse_wide (hpin : pin ≤ 1) (hst : (s.slot (8 + pin)).st ≠ .disabled) (hw : 25 ≤ w) :
    pinPulse pin instant w s = validPulse (8 + pin) instant s := by
  rw [pinPulse_enabled hpin hst, filterPulse_wide hw, if_pos rfl]

theorem pinPulse_narrow (hpin : pin ≤ 1) (hst : (s.slot (8 + pin)).st ≠ .disabled) (hw : w < 20) :
    pinPulse pin instant w s = s.onSlot (8 + pin) fun x => { x with filtered := satAdd 16 x.filtered 1 } := by
  rw [pinPulse_enabled hpin hst, filterPulse_narrow hw, if_neg Bool.false_ne_true]

theorem pinPulse_between (hpin : pin ≤ 1) (hst : (s.slot (8 + pin)).st ≠ .disabled) (hlow : 20 ≤ w) (hhigh : w < 25) :
    pinPulse pin instant w s = if s.draw.1 % 2 = 0 then validPulse (8 + pin) instant s.draw.2
      else s.draw.2.onSlot (8 + pin) fun x => { x with filtered := satAdd 16 x.filtered 1 } := by
  simp only [pinPulse_enabled hpin hst, filterPulse_between hlow hhigh, decide_eq_true_eq]

/-- The first measurement of a pin has position 0. -/
theorem onGridPulse_first {r : Nat} (h : (s.slot r).meas = []) :
    onGridPulse r instant s = s.onSlot r fun x =>
      { x with pos := some instant, havePred := true, gridBad := false, measuredRate := if x.havePred then 0 else x.measuredRate,
               meas := addMeas instant 0 s.time.corr x.meas } := by
  simp only [onGridPulse, h]

end

/-! ### Beacons (R127, R128, R134, R137) -/

section
variable {r seq : Nat} {t phase : Int} {record : List Byte} {a : BeaconArrival} {s : State}

theorem jumpDue_none (h : (s.slot r).jump = none) : jumpDue seq r s = s := by
  simp only [jumpDue, h]

/-- A slot with its phase measured. -/
def withPhase (r : Nat) (t phase : Int) (s : State) : State :=
  s.onSlot r fun x => { x with pos := some phase, havePred := true, meas := addMeas t phase s.time.corr x.meas }

theorem withPhase_slot_st (h : (s.slot r).st ≠ .disabled) : ((withPhase r t phase s).slot r).st ≠ .disabled := by
  unfold withPhase
  rw [onSlot_slot h]
  exact h

theorem measurePhase_enabled (h : (s.slot r).st ≠ .disabled) :
    measurePhase r t phase s =
      if (s.slot r).havePred = true ∧ 1000 < (phase - (s.slot r).pos.getD phase).natAbs then disqualify r 3 (withPhase r t phase s)
      else startTimer r (withPhase r t phase s) :=
  if_neg h

/-- A slot in service is still in service once its beacon is measured: its record is read. -/
theorem measurePhase_slot_st (h : (s.slot r).st ≠ .disabled) : ((measurePhase r t phase s).slot r).st ≠ .disabled := by
  rw [measurePhase_enabled h]
  split
  · rw [disqualify_slot_st (withPhase_slot_st h)]
    exact RefSt.noConfusion
  · exact startTimer_slot_st (withPhase_slot_st h)

/-- A number of a beacon record. -/
abbrev beaconField (record : List Byte) (off n : Nat) : Nat := leNat ((record.drop off).take n)

theorem beaconRecord_enabled (h : (s.slot r).st ≠ .disabled) :
    beaconRecord r record seq s =
      let s1 := noteJump r (bitOf (beaconField record 1 1) 0) seq (beaconField record 8 4) (toInt 32 (beaconField record 0x0C 4)) (s.onSlot r fun x =>
        { x with missing := false, missedRun := 0, due := some (nextDue seq), seen := true, quality := beaconField record 0 1,
                 utcOffset := toInt 16 (beaconField record 2 2), sourceId := beaconField record 0x10 8 })
      if beaconField record 0 1 = 255 then disqualify r 7 s1 else startTimer r s1 :=
  if_neg h

theorem beacon_ignored (h : 8 ≤ r ∨ (s.slot r).st = .disabled ∨ (s.lane (s.refObj r).lane).rx ≠ .active) : beacon r record a s = s := if_pos h

/-- With no jump announced, a beacon is measured and then read. -/
theorem beacon_heard (hr : r < 8) (hst : (s.slot r).st ≠ .disabled) (hrx : (s.lane (s.refObj r).lane).rx = .active) (hjump : (s.slot r).jump = none) :
    beacon r record a s =
      let t := a.rxNs - eNs s
      beaconRecord r record (beaconField record 4 4)
        (measurePhase r t ((a.txSeconds * 1000000000 + a.txNanos : Nat) - (t - (s.refObj r).delayNs)) s) := by
  have hheard : ¬(8 ≤ r ∨ (s.slot r).st = .disabled ∨ (s.lane (s.refObj r).lane).rx ≠ .active) := by
    rintro (hpin | hoff | hdown)
    · exact Nat.not_le.mpr hr hpin
    · exact hst hoff
    · exact hdown hrx
  simp only [beacon, if_neg hheard, jumpDue_none hjump, beaconField]

end

/-! ### The 1 s window and the holdover budget (R134, R141, R143) -/

section
variable {within r : Nat} {f : Int} {s : State}

theorem frequencyWindow_running (h : s.refs.window < 48000) : frequencyWindow within s = s := if_pos h

theorem frequencyWindow_over (h : 48000 ≤ s.refs.window) :
    frequencyWindow within s =
      windowDispute (dropDispute ((List.range 10).foldl (fun s r => judgeFreqAt within r s) (s.onRefs fun x => { x with window := 0 }))) :=
  if_neg (Nat.not_lt.mpr h)

theorem judgeFreqAt_covered (hst : (s.slot r).st ≠ .disabled) (hcover : 48000 ≤ (s.slot r).cover)
    (hslope : slopeOf (slotRate s r) s.obj.policy.spreadPpb
      ((s.slot r).meas.filter fun e => decide ((s.now : Int) * 62500 + 3 * within ≤ (e.1 + 1000000000) * 3)) = some f) :
    judgeFreqAt within r s =
      let s1 := s.onSlot r fun x => { x with freq := f, freqJudged := true, freqBad := decide (10000000 < f.natAbs) }
      if 10000000 < f.natAbs ∧ (s.slot r).freqBad = false then disqualify r 2 s1 else s1 := by
  have hjudged : ¬((s.slot r).st = .disabled ∨ (s.slot r).cover < 48000) := not_or.mpr ⟨hst, Nat.not_lt.mpr hcover⟩
  simp only [judgeFreqAt, if_neg hjudged, hslope, decide_eq_true_eq]

theorem budgetCrossing_over (hhelm : s.isHelm = true) (hholdover : s.refs.holdover = true) (hfirst : s.refs.outOfSpec = false)
    (hover : overBudget s.obj.policy s.refs.holdAge = true) :
    budgetCrossing s = raise 0x0485 3 0 (estimateNs s) (s.onRefs fun x => { x with outOfSpec := true }) :=
  if_pos ⟨hhelm, hholdover, hfirst, hover⟩

theorem budgetCrossing_same
    (h : s.isHelm = false ∨ s.refs.holdover = false ∨ s.refs.outOfSpec = true ∨ overBudget s.obj.policy s.refs.holdAge = false) :
    budgetCrossing s = s := by
  refine if_neg ?_
  rintro ⟨hhelm, hholdover, hfirst, hover⟩
  rcases h with h | h | h | h
  · exact Bool.false_ne_true (h.symm.trans hhelm)
  · exact Bool.false_ne_true (h.symm.trans hholdover)
  · exact Bool.false_ne_true (hfirst.symm.trans h)
  · exact Bool.false_ne_true (h.symm.trans hover)

end

/-! ### The statement -/

/-- Settles O44: a pulse by its width, a beacon by its measurement and then its record, the other rows by their own conditions. -/
theorem referenceRowsComplete : Obligations.ReferenceRowsComplete := by
  refine ⟨fun _ _ _ _ hpin hst hw => answers_of_eq (pinPulse_wide hpin hst hw), fun _ _ _ hfirst => onGridPulse_first hfirst,
    fun _ _ _ _ hpin hst hw => answers_of_eq (pinPulse_narrow hpin hst hw),
    fun _ _ _ _ hpin hst hlow hhigh => answers_of_eq (pinPulse_between hpin hst hlow hhigh), fun _ _ _ _ h => answers_of_eq (pinPulse_ignored h),
    fun _ _ _ _ h => answers_of_eq (beacon_ignored h), ?beacon,
    fun _ _ hst hmissing hsilent => answers_of_eq (missing_silent hst hmissing hsilent), fun _ _ h => answers_of_eq (missing_same h),
    fun _ _ hst hclear hserved => answers_of_eq (qualify_served hst hclear hserved), fun _ _ h => answers_of_eq (qualify_same h),
    fun _ _ h => answers_of_eq (frequencyWindow_running h), fun _ _ h => answers_of_eq (frequencyWindow_over h),
    fun _ _ _ _ hst hcover hslope => judgeFreqAt_covered hst hcover hslope,
    fun _ hhelm hholdover hfirst hover => answers_of_eq (budgetCrossing_over hhelm hholdover hfirst hover),
    fun _ h => answers_of_eq (budgetCrossing_same h)⟩
  case beacon =>
    intro r record a s hr _ hst hrx hjump
    have hread := (beacon_heard (record := record) (a := a) hr hst hrx hjump).trans (beaconRecord_enabled (measurePhase_slot_st hst))
    rw [measurePhase_enabled hst] at hread
    exact answers_of_eq hread

end Sys2Proof.Proofs

/-! PROOFS.  The Lockkeeper's take queues (spec/06_basin_and_lockkeeper.md, R158 to R162): what a take that is dropped changes, what arming makes of a
queue, and the frame on which a take is placed. -/

namespace Sys2Proof.Proofs
open Sys2Proof Sys2Proof.Machine

/-! ### What the end of a command changes (R63, R70, R80) -/

/-- `t` is `s` but for the mailboxes, the host's port and HDM. -/
def ChangesMailOnly (s t : State) : Prop :=
  ∃ mbox host hdm, t = { s with mbox := mbox, host := host, hdm := hdm }

theorem ChangesMailOnly.refl (s : State) : ChangesMailOnly s s := ⟨_, _, _, rfl⟩

theorem ChangesMailOnly.trans {s t u : State} (h : ChangesMailOnly s t) (h' : ChangesMailOnly t u) : ChangesMailOnly s u := by
  obtain ⟨_, _, _, rfl⟩ := h
  obtain ⟨_, _, _, rfl⟩ := h'
  exact ⟨_, _, _, rfl⟩

theorem ChangesMailOnly.obj {s t : State} (h : ChangesMailOnly s t) : t.obj = s.obj := by
  obtain ⟨_, _, _, rfl⟩ := h
  rfl

theorem ChangesMailOnly.basin {s t : State} (h : ChangesMailOnly s t) : t.basin = s.basin := by
  obtain ⟨_, _, _, rfl⟩ := h
  rfl

theorem onMbox_mailOnly (f : Mbox → Mbox) (s : State) : ChangesMailOnly s (s.onMbox f) := ⟨_, _, _, rfl⟩

theorem onHost_mailOnly (f : HostPort → HostPort) (s : State) : ChangesMailOnly s (s.onHost f) := ⟨_, _, _, rfl⟩

theorem onHdm_mailOnly (f : List Host.Cell → List Host.Cell) (s : State) : ChangesMailOnly s (s.onHdm f) := ⟨_, _, _, rfl⟩

theorem syncChannel_mailOnly (ch : Nat) (s : State) : ChangesMailOnly s (syncChannel ch s) := by
  rw [syncChannel_eq]
  exact onHdm_mailOnly _ s

theorem complete_mailOnly (ch tag op session : Nat) (silent : Bool) (st : Status) (tick gen head detail : Nat) (s : State) :
    ChangesMailOnly s (complete ch tag op session silent st tick gen head detail s) := by
  by_cases hch : ch = 0
  · rw [complete, if_pos hch]
    exact onHost_mailOnly _ s
  · rw [complete_ring hch]
    exact (((onHdm_mailOnly _ s).trans (onMbox_mailOnly _ _)).trans (onMbox_mailOnly _ _)).trans (syncChannel_mailOnly ch _)

theorem drainChannel_mailOnly (ch : Nat) (s : State) : ChangesMailOnly s (drainChannel ch s) := by
  unfold drainChannel
  split
  · exact (onMbox_mailOnly ..).trans (syncChannel_mailOnly ..)
  · exact .refl s

theorem finishJob_mailOnly (id : Nat) (st : Status) (tick gen detail : Nat) (s : State) : ChangesMailOnly s (finishJob id st tick gen detail s) := by
  unfold finishJob
  split
  · exact .refl s
  · dsimp only
    split
    · exact ((onMbox_mailOnly ..).trans (complete_mailOnly ..)).trans (drainChannel_mailOnly ..)
    · exact onMbox_mailOnly ..

theorem finish_mailOnly (id : Nat) (st : Status) (detail : Nat) (s : State) : ChangesMailOnly s (finish id st detail s) := by
  unfold finish
  split
  · exact .refl s
  · exact finishJob_mailOnly ..

theorem salvoDone_mailOnly (id total a b lost : Nat) (last : Int) (tag ch : Nat) (s : State) :
    ChangesMailOnly s (salvoDone id total a b lost last tag ch s) := by
  unfold salvoDone
  split
  · exact .refl s
  · split
    · exact finish_mailOnly ..
    · split <;> exact finish_mailOnly ..

theorem settleSalvo_mailOnly (id : Nat) (s : State) : ChangesMailOnly s (settleSalvo id s) := by
  unfold settleSalvo
  split
  · split
    · exact salvoDone_mailOnly ..
    · exact .refl s
  · exact .refl s

/-- A take that is lost concerns its command alone. -/
theorem loseTake_mailOnly (e : Entry) (by_ : Nat) (s : State) : ChangesMailOnly s (loseTake e by_ s) := by
  unfold loseTake
  split
  · exact .refl s
  · split
    · exact (onMbox_mailOnly ..).trans (settleSalvo_mailOnly ..)
    · exact finishJob_mailOnly ..
    · exact finish_mailOnly ..

/-! ### Destinations in service as a table (R158) -/

/-- The table of destinations in service stands in its canonical form. -/
abbrev DestsOk (s : State) : Prop := tableOk ({} : RouteRt) s.basin.routes = true

section
variable {d k by_ : Nat} {e : Entry} {s t : State} {f : RouteRt → RouteRt}

theorem onRouteRt_destsOk (h : DestsOk s) : DestsOk (s.onRouteRt d f) := tableOk_tset h

/-- What a destination in service reads after one is changed. -/
theorem onRouteRt_routeRt (h : DestsOk s) : (s.onRouteRt d f).routeRt k = if k = d then f (s.routeRt d) else s.routeRt k :=
  tget_tset h

theorem routeRt_congr (h : t.basin = s.basin) (k : Nat) : t.routeRt k = s.routeRt k := by
  rw [State.routeRt, State.routeRt, h]

/-- A destination without an entry of its queue. -/
def withoutEntry (e : Entry) (r : RouteRt) : RouteRt := { r with queue := r.queue.filter fun q => q ≠ e }

theorem dropEntry_basin : (dropEntry d e by_ s).basin = (s.onRouteRt d (withoutEntry e)).basin :=
  (loseTake_mailOnly e by_ (takeOut d e s)).basin

theorem dropEntry_obj : (dropEntry d e by_ s).obj = s.obj :=
  (loseTake_mailOnly e by_ (takeOut d e s)).obj

theorem dropEntry_destsOk (h : DestsOk s) : DestsOk (dropEntry d e by_ s) := by
  rw [DestsOk, dropEntry_basin]
  exact onRouteRt_destsOk h

theorem dropEntry_routeRt (h : DestsOk s) : (dropEntry d e by_ s).routeRt k = if k = d then withoutEntry e (s.routeRt d) else s.routeRt k := by
  rw [routeRt_congr dropEntry_basin, onRouteRt_routeRt h]

theorem putIn_queue (h : DestsOk s) : ((putIn d e s).routeRt d).queue = insertEntry e (s.routeRt d).queue :=
  congrArg RouteRt.queue ((onRouteRt_routeRt h).trans (if_pos rfl))

end

/-! ### A queue in the order of its frames (R158) -/

/-- The frames of a queue rise, no two entries on one. -/
def FramesRise (l : List Entry) : Prop := (l.map Entry.frame).Pairwise (· < ·)

/-- A queue without the entries for a frame. -/
def offFrame (f : Int) (l : List Entry) : List Entry := l.filter fun q => q.frame ≠ f

section
variable {e q old : Entry} {f : Int} {l : List Entry}

@[simp] theorem mem_offFrame : q ∈ offFrame f l ↔ q ∈ l ∧ q.frame ≠ f := by simp [offFrame]

theorem framesRise_offFrame (h : FramesRise l) : FramesRise (offFrame f l) :=
  h.sublist (List.filter_sublist.map Entry.frame)

@[simp] theorem mem_insertEntry : q ∈ insertEntry e l ↔ q = e ∨ q ∈ l := by
  induction l with
  | nil => simp [insertEntry]
  | cons x r ih =>
    simp only [insertEntry]
    split
    · exact List.mem_cons
    · rw [List.mem_cons, ih, List.mem_cons, or_left_comm]

@[simp] theorem insertEntry_length (e : Entry) (l : List Entry) : (insertEntry e l).length = l.length + 1 := by
  induction l with
  | nil => rfl
  | cons x r ih =>
    simp only [insertEntry]
    split
    · rfl
    · rw [List.length_cons, ih, List.length_cons]

theorem framesRise_cons : FramesRise (q :: l) ↔ (∀ x ∈ l, q.frame < x.frame) ∧ FramesRise l := by
  simp [FramesRise]

/-- An entry goes into a queue that has none for its frame. -/
theorem framesRise_insertEntry (h : FramesRise l) (hnew : ∀ x ∈ l, x.frame ≠ e.frame) : FramesRise (insertEntry e l) := by
  induction l with
  | nil => exact List.pairwise_singleton _ _
  | cons q r ih =>
    obtain ⟨hfirst, hrest⟩ := framesRise_cons.mp h
    obtain ⟨hq, hr⟩ := List.forall_mem_cons.mp hnew
    simp only [insertEntry]
    split
    · next hlt => exact framesRise_cons.mpr ⟨List.forall_mem_cons.mpr ⟨hlt, fun x hx => hlt.trans (hfirst x hx)⟩, h⟩
    · next hge =>
      have hlt : q.frame < e.frame := lt_of_le_of_ne (not_lt.mp hge) hq
      refine framesRise_cons.mpr ⟨fun x hx => ?_, ih hrest hr⟩
      rcases mem_insertEntry.mp hx with rfl | hx
      · exact hlt
      · exact hfirst x hx

/-- In a queue whose frames rise, an entry is the only one for its frame. -/
theorem framesRise_unique (h : FramesRise l) (hold : old ∈ l) (hq : q ∈ l) (hframe : q.frame = old.frame) : q = old :=
  List.inj_on_of_nodup_map (h.imp ne_of_lt) hq hold hframe

theorem filter_ne_eq_offFrame (h : FramesRise l) (hold : old ∈ l) : (l.filter fun q => q ≠ old) = offFrame old.frame l :=
  List.filter_congr fun _ hq => decide_eq_decide.mpr (not_congr ⟨congrArg Entry.frame, framesRise_unique h hold hq⟩)

theorem offFrame_of_none (h : l.find? (fun q => q.frame = f) = none) : offFrame f l = l :=
  List.filter_eq_self.mpr fun q hq => by simpa using List.find?_eq_none.mp h q hq

end

/-! ### Arming (R158, R161, R162) -/

section
variable {d by_ : Nat} {e : Entry} {s t : State}

/-- Arming puts the entry among those of the other frames, of which there were three at most. -/
theorem armEntry_queue (htable : DestsOk s) (hrise : FramesRise (s.routeRt d).queue) (hfour : (s.routeRt d).queue.length ≤ 4)
    (h : armEntry d e by_ s = some t) :
    (t.routeRt d).queue = insertEntry e (offFrame e.frame (s.routeRt d).queue) ∧ (offFrame e.frame (s.routeRt d).queue).length < 4 := by
  unfold armEntry at h
  split at h
  · next old hold =>
    have hmem : old ∈ (s.routeRt d).queue := List.mem_of_find?_eq_some hold
    have hframe : old.frame = e.frame := by simpa using List.find?_some hold
    have hqueue : ((dropEntry d old by_ s).routeRt d).queue = offFrame e.frame (s.routeRt d).queue := by
      rw [dropEntry_routeRt htable, if_pos rfl, ← hframe, ← filter_ne_eq_offFrame hrise hmem, withoutEntry]
    have hfewer : (offFrame e.frame (s.routeRt d).queue).length < (s.routeRt d).queue.length :=
      List.length_filter_lt_length_iff_exists.mpr ⟨old, hmem, by simp [hframe]⟩
    obtain rfl := Option.some.inj h
    exact ⟨by rw [putIn_queue (dropEntry_destsOk htable), hqueue], hfewer.trans_le hfour⟩
  · next hnone =>
    split at h
    · next hroom =>
      obtain rfl := Option.some.inj h
      rw [offFrame_of_none hnone]
      exact ⟨putIn_queue htable, hroom⟩
    · cases h

theorem armEntry_full (hnone : openEntryAt s d e.frame = none) (hfull : 4 ≤ (s.routeRt d).queue.length) : armEntry d e by_ s = none := by
  simp only [armEntry, hnone, if_neg (Nat.not_lt.mpr hfull)]

end

/-- Settles O26: arming is an insertion among the entries of the other frames. -/
theorem queueKeepsFrames : Obligations.QueueKeepsFrames := by
  refine ⟨?armed, fun _ _ _ _ hnone hfull => armEntry_full hnone hfull⟩
  case armed =>
    intro d by_ e s t htable hrise hfour harm
    obtain ⟨hqueue, hroom⟩ := armEntry_queue htable hrise hfour harm
    dsimp only
    rw [hqueue]
    refine ⟨framesRise_insertEntry (framesRise_offFrame hrise) fun x hx => (mem_offFrame.mp hx).2, ?_, mem_insertEntry.mpr (.inl rfl),
      fun q hq => (mem_insertEntry.mp hq).imp_right fun hq => (mem_offFrame.mp hq).1,
      fun q hq hframe => mem_insertEntry.mpr (.inr (mem_offFrame.mpr ⟨hq, hframe⟩))⟩
    rw [insertEntry_length]
    exact hroom

/-! ### The frame found for a take (R161) -/

/-- `found` is the first frame from `f` on, of `fuel` looked at, that is open with room for `need` takes; `passed` are open frames before it. -/
structure FirstWithRoom (s : State) (p : Nat) (need : Int → Nat) (fuel : Nat) (f found : Int) (passed : List Int) : Prop where
  from_asked : f ≤ found
  within : found ≤ f + fuel
  none_before : ∀ g, f ≤ g → g < found → frameOpen s p g = false ∨ 4096 < armedFor s p g + need g
  passed_open : ∀ g ∈ passed, frameOpen s p g = true ∧ f ≤ g ∧ g < found
  room : found < f + fuel → frameOpen s p found = true ∧ armedFor s p found + need found ≤ 4096

section
variable {s : State} {p fuel : Nat} {need : Int → Nat} {f found : Int} {passed : List Int}

/-- A frame that is closed or has no room may be looked at before. -/
theorem FirstWithRoom.skip (h : FirstWithRoom s p need fuel (frameAfter f) found passed)
    (hf : frameOpen s p f = false ∨ 4096 < armedFor s p f + need f) : FirstWithRoom s p need (fuel + 1) f found passed := by
  obtain ⟨hlow, hhigh, hbefore, hpassed, hroom⟩ := h
  unfold frameAfter at hlow hhigh hbefore hpassed hroom
  refine ⟨by omega, by omega, fun g hfg hg => ?_, fun g hg => ?_, fun hlt => hroom (by omega)⟩
  · rcases eq_or_lt_of_le hfg with rfl | hlt
    · exact hf
    · exact hbefore g hlt hg
  · obtain ⟨hopen, hfg, hgf⟩ := hpassed g hg
    exact ⟨hopen, by omega, hgf⟩

/-- An open frame before the one found is passed. -/
theorem FirstWithRoom.pass (h : FirstWithRoom s p need fuel f found passed) (hopen : frameOpen s p f = true) (hlt : f < found) :
    FirstWithRoom s p need fuel f found (f :: passed) :=
  { h with passed_open := List.forall_mem_cons.mpr ⟨⟨hopen, le_refl f, hlt⟩, h.passed_open⟩ }

/-- A frame at which the search ends is the first. -/
theorem FirstWithRoom.here (h : f < f + fuel → frameOpen s p f = true ∧ armedFor s p f + need f ≤ 4096) : FirstWithRoom s p need fuel f f [] :=
  ⟨le_refl f, by omega, fun _ hlow hhigh => absurd hlow (not_le.mpr hhigh), fun _ hg => absurd hg List.not_mem_nil, h⟩

theorem findFrame_first (s : State) (p : Nat) (need : Int → Nat) (fuel : Nat) (f : Int) :
    FirstWithRoom s p need fuel f (findFrame s p need fuel f).1 (findFrame s p need fuel f).2 := by
  induction fuel generalizing f with
  | zero => exact .here fun h => absurd h (by simp)
  | succ fuel ih =>
    have hnext := ih (frameAfter f)
    rw [findFrame]
    split
    · next hclosed => exact hnext.skip (.inl hclosed)
    · next hopen =>
      rw [Bool.not_eq_false] at hopen
      split
      · next hroom => exact .here fun _ => ⟨hopen, hroom⟩
      · next hfull => exact (hnext.skip (.inr (not_le.mp hfull))).pass hopen (Int.lt_of_add_one_le hnext.from_asked)

end

/-- Settles O27: by induction on the frames still to be looked at. -/
theorem firstFrameWithRoom : Obligations.FirstFrameWithRoom := by
  intro s p fuel need f
  obtain ⟨hlow, hhigh, hbefore, hpassed, hroom⟩ := findFrame_first s p need fuel f
  exact ⟨hlow, hhigh, hbefore, hpassed, hroom⟩

end Sys2Proof.Proofs

/-! PROOFS.  TAKE and SALVO (spec/06_basin_and_lockkeeper.md, R161 to R168): the limit of a tick's takes, the checks in their order, and the takes armed. -/

namespace Sys2Proof.Proofs
open Sys2Proof Sys2Proof.Machine

/-! ### The limit of a tick's takes (R163) -/

/-- The row waits, and with it the tick's admission. -/
theorem armGate_of_full {s run : State} (h : 8192 < run.mbox.armed) : armGate s run = s.onMbox fun m => { m with admitted := 256 } := if_pos h

section
variable {row : Instr} {i : CmdInfo} {body : Cmd → State → Res} {c : Cmd} {s : State} {r : Res}

/-- An accepted record whose takes the tick has room for is concluded. -/
theorem armed_concluded (hexec : exec row s = answer (armGate s (runCmd i body c s))) (haccepts : accepts i c s) (hbody : body c (admittedAt c s) = r)
    (hroom : (conclude i c r).mbox.armed ≤ 8192) : exec row s = concluded i c r := by
  rw [hexec, runCmd_accepts haccepts, hbody, armGate_of_room hroom]
  rfl

/-- An accepted record whose takes the tick has no room for waits. -/
theorem armed_waits (hexec : exec row s = answer (armGate s (runCmd i body c s))) (haccepts : accepts i c s) (hbody : body c (admittedAt c s) = r)
    (hfull : 8192 < (conclude i c r).mbox.armed) : Answers row s (s.onMbox fun m => { m with admitted := 256 }) := by
  rw [Answers, hexec, runCmd_accepts haccepts, hbody, armGate_of_full hfull]
  rfl

end

/-! ### TAKE (R161, R165, R166) -/

section
variable {c : Cmd} {s t : State}

/-- Where a TAKE begins to look for its frame, and the frame at which it would be DONE. -/
def takeStarts (c : Cmd) (s : State) : Int × Int := takeFrames s (planeOf s (c.u16 0)) (bitOf (c.u16 6) 0) (toInt 64 (c.u64 8))

/-- The entry that a TAKE arms, its frame still to be found. -/
def takeArms (c : Cmd) (s : State) : Entry := newEntry s c (c.u16 0) (c.u16 2) (c.u16 4) (takeStarts c s).2

/-- The checks of a TAKE pass (R160, R166). -/
def TakeGood (c : Cmd) (s : State) : Prop :=
  takeFault s (c.u16 0) (c.u16 2) (c.u16 4) c.session = none ∧
    targetNear s (planeOf s (c.u16 0)) (bitOf (c.u16 6) 0) (toInt 64 (c.u64 8)) = true

/-- The TAKE's entry placed on its frame. -/
def takePlaced (c : Cmd) (s : State) : Option (State × Int) :=
  placeTake (c.u16 0) (takeArms c s) (takeStarts c s).1 (byCommand c) (takePrepares s (c.u16 0, takeArms c s))

theorem take_faulty {st : Status} {off : Nat} (h : takeFault s (c.u16 0) (c.u16 2) (c.u16 4) c.session = some (st, off)) :
    take c s = rej st (0x20 + off) s := by
  simp only [take, h]

theorem take_far (h : takeFault s (c.u16 0) (c.u16 2) (c.u16 4) c.session = none)
    (hfar : targetNear s (planeOf s (c.u16 0)) (bitOf (c.u16 6) 0) (toInt 64 (c.u64 8)) = false) : take c s = rej .range 0x28 s := by
  simp only [take, h, hfar, if_true]

theorem take_armed {n : Int} (h : TakeGood c s) (hplaced : takePlaced c s = some (t, n)) :
    take c s = { queued (.take (c.u16 0)) (countArmed 1 t) with detail := ofInt 64 n } := by
  obtain ⟨hfault, hnear⟩ := h
  simp only [takePlaced, takeArms, takeStarts] at hplaced
  simp only [take, hfault, hnear, Bool.true_eq_false, if_false, hplaced, queued]

theorem take_full (h : TakeGood c s) (hplaced : takePlaced c s = none) : take c s = rej .capacity 0x20 s := by
  obtain ⟨hfault, hnear⟩ := h
  simp only [takePlaced, takeArms, takeStarts] at hplaced
  simp only [take, hfault, hnear, Bool.true_eq_false, if_false, hplaced]

end

/-! ### SALVO (R167, R168) -/

section
variable {c : Cmd} {s t : State}

/-- The plane of a SALVO's first destination, on whose frames it is placed. -/
def salvoPlane (c : Cmd) (s : State) : Nat := (destPlane s (salvoEntry c 0).1).getD 0

/-- Where a SALVO begins to look for its frame, and the frame at which it would be DONE. -/
def salvoStarts (c : Cmd) (s : State) : Int × Int := takeFrames s (salvoPlane c s) (bitOf (c.u16 2) 1) (toInt 64 (c.u64 8))

/-- The entries that a SALVO arms, with their destinations. -/
def salvoArms (c : Cmd) (s : State) : List (Nat × Entry) := (List.range (c.u16 0)).map (salvoTake s c (salvoStarts c s).2)

/-- The SALVO's entries placed: each on its own with SPLIT, else together; or the place of the one that finds its queue full. -/
def salvoPlaced (c : Cmd) (s : State) : State × Int ⊕ Nat :=
  if bitOf (c.u16 2) 0 then placeSplit (salvoStarts c s).1 (byCommand c) 0 (salvoArms c s) none ((salvoArms c s).foldl takePrepares s)
  else placeWhole (salvoPlane c s) (salvoArms c s) (salvoStarts c s).1 (byCommand c) ((salvoArms c s).foldl takePrepares s)

/-- What a SALVO's job waits for, its first frame being `g`. -/
def salvoJob (c : Cmd) (s : State) (g : Int) : JobKind := .salvo (c.u16 0) 0 0 0 (salvoStarts c s).2 g 0 0

/-- What a SALVO answers to the placing of its entries. -/
def salvoAnswer (c : Cmd) (s : State) : State × Int ⊕ Nat → Res
  | .inr i => rej .capacity (0x30 + 6 * i) s
  | .inl (t, g) => { queued (salvoJob c s g) (countArmed (c.u16 0) t) with detail := ofInt 64 g }

/-- A SALVO names 1 to 512 entries and checks no generation. -/
def SalvoShape (c : Cmd) : Prop := c.checkGen = false ∧ 1 ≤ c.u16 0 ∧ c.u16 0 ≤ 512

theorem SalvoShape.counted (h : SalvoShape c) : ¬(c.u16 0 = 0 ∨ 512 < c.u16 0) := by
  obtain ⟨_, hone, hmost⟩ := h
  omega

/-- The first check of a SALVO's entries that fails. -/
def salvoBad (c : Cmd) (s : State) : Option (Status × Nat) := salvoFault c (destPlane s (salvoEntry c 0).1) [] (List.range (c.u16 0)) s

theorem salvo_faulty {st : Status} {off : Nat} (h : SalvoShape c) (hbad : salvoBad c s = some (st, off)) : salvo c s = rej st off s := by
  rw [salvoBad] at hbad
  simp only [salvo, h.1, Bool.false_eq_true, if_false, if_neg h.counted, hbad]

/-- A SALVO whose entries' checks pass is placed. -/
theorem salvo_good (h : SalvoShape c) (hbad : salvoBad c s = none) : salvo c s = salvoAnswer c s (salvoPlaced c s) := by
  rw [salvoBad] at hbad
  unfold salvo
  rw [h.1, if_neg Bool.false_ne_true, if_neg h.counted]
  dsimp only
  rw [hbad]
  rfl

theorem salvo_full {i : Nat} (h : SalvoShape c) (hbad : salvoBad c s = none) (hplaced : salvoPlaced c s = .inr i) :
    salvo c s = rej .capacity (0x30 + 6 * i) s := by
  rw [salvo_good h hbad, hplaced, salvoAnswer]

theorem salvo_armed {g : Int} (h : SalvoShape c) (hbad : salvoBad c s = none) (hplaced : salvoPlaced c s = .inl (t, g)) :
    salvo c s = { queued (salvoJob c s g) (countArmed (c.u16 0) t) with detail := ofInt 64 g } := by
  rw [salvo_good h hbad, hplaced, salvoAnswer]

/-- An entry that fails a take's check is named with its place. -/
theorem salvoFault_entry {p : Option Nat} {seen r : List Nat} {i : Nat} {st : Status} {off : Nat}
    (h : takeFault s (salvoEntry c i).1 (salvoEntry c i).2.1 (salvoEntry c i).2.2 c.session = some (st, off)) :
    salvoFault c p seen (i :: r) s = some (st, 0x30 + 6 * i + off) := by
  simp only [salvoFault, h]

end

/-! ### The statement -/

/-- Settles O25: each row is its command behind the limit of the tick's takes, and each command is its checks in their order, then the placing. -/
theorem takeAndSalvoArm : Obligations.TakeAndSalvoArm := by
  refine ⟨⟨?armed, ?waits, ?faulty, ?far, ?full⟩, ?salvoArmed, ?salvoFull, ?salvoFaulty, ?entry, ?salvoWaits⟩
  case armed => exact fun _ _ _ _ haccepts hgood hplaced hroom => armed_concluded rfl haccepts (take_armed hgood hplaced) hroom
  case waits => exact fun _ _ _ _ haccepts hgood hplaced hfull => armed_waits rfl haccepts (take_armed hgood hplaced) hfull
  case faulty => exact fun _ _ _ _ h => take_faulty h
  case far => exact fun _ _ h hfar => take_far h hfar
  case full => exact fun _ _ hgood hplaced => take_full hgood hplaced
  case salvoArmed =>
    intro c s t g haccepts ⟨hgen, hone, hmost, hbad⟩ hplaced
    exact armed_concluded rfl haccepts (salvo_armed ⟨hgen, hone, hmost⟩ hbad hplaced)
  case salvoFull => exact fun _ _ _ ⟨hgen, hone, hmost, hbad⟩ hplaced => salvo_full ⟨hgen, hone, hmost⟩ hbad hplaced
  case salvoFaulty => exact fun _ _ _ _ hgen hone hmost hbad => salvo_faulty ⟨hgen, hone, hmost⟩ hbad
  case entry => exact fun _ _ _ _ _ _ _ _ h => salvoFault_entry h
  case salvoWaits =>
    intro c s t g haccepts ⟨hgen, hone, hmost, hbad⟩ hplaced
    exact armed_waits rfl haccepts (salvo_armed ⟨hgen, hone, hmost⟩ hbad hplaced)

end Sys2Proof.Proofs

/-! PROOFS.  CANCEL, LOCK_DESTINATION and SET_GENERATOR (spec/06_basin_and_lockkeeper.md, R169 to R171, R180 to R182): the takes that are dropped, a
destination's lock and protection, and a generator's new setting. -/

namespace Sys2Proof.Proofs
open Sys2Proof Sys2Proof.Machine

/-! ### Entries dropped together (R169, R171) -/

/-- What a key reads other than the default stands in the table. -/
theorem mem_of_tget_ne {α : Type} {d : α} {t : List (Nat × α)} {k : Nat} (h : tget d t k ≠ d) : (k, tget d t k) ∈ t := by
  induction t with
  | nil => exact absurd rfl h
  | cons e r ih =>
    obtain ⟨j, v⟩ := e
    simp only [tget] at h ⊢
    split
    · next hj => exact hj ▸ List.mem_cons_self
    · next hj => exact List.mem_cons_of_mem _ (ih (by rwa [if_neg hj] at h))

section
variable {d by_ : Nat} {q : Entry} {l : List (Nat × Entry)} {p : Nat → Entry → Bool} {s : State}

/-- An uncommitted entry of a destination's queue is among those a command looks through. -/
theorem mem_openEntries (hq : q ∈ (s.routeRt d).queue) (hopen : q.committed = false) (hp : p d q = true) : (d, q) ∈ openEntries s p := by
  have hlisted : (d, s.routeRt d) ∈ s.basin.routes := by
    refine mem_of_tget_ne fun hdefault => ?_
    rw [State.routeRt, hdefault] at hq
    exact List.not_mem_nil hq
  exact List.mem_flatMap.mpr ⟨_, hlisted, List.mem_map.mpr ⟨q, List.mem_filter.mpr ⟨hq, by simp [hopen, hp]⟩, rfl⟩⟩

theorem dropEntries_obj (l : List (Nat × Entry)) (s : State) : (dropEntries by_ l s).obj = s.obj := by
  induction l generalizing s with
  | nil => rfl
  | cons x r ih => rw [dropEntries, ih, dropEntry_obj]

/-- Dropping entries leaves a destination's protection. -/
theorem dropEntries_protect (h : DestsOk s) : ((dropEntries by_ l s).routeRt d).protect = (s.routeRt d).protect := by
  induction l generalizing s with
  | nil => rfl
  | cons x r ih =>
    obtain ⟨k, e⟩ := x
    rw [dropEntries, ih (dropEntry_destsOk h), dropEntry_routeRt h]
    split
    · next hk => rw [hk]; rfl
    · rfl

/-- What is left in a queue stood in it and was not dropped. -/
theorem mem_dropEntries (h : DestsOk s) (hq : q ∈ ((dropEntries by_ l s).routeRt d).queue) : q ∈ (s.routeRt d).queue ∧ (d, q) ∉ l := by
  induction l generalizing s with
  | nil => exact ⟨hq, List.not_mem_nil⟩
  | cons x r ih =>
    obtain ⟨k, e⟩ := x
    obtain ⟨hleft, hr⟩ := ih (dropEntry_destsOk h) hq
    rw [dropEntry_routeRt h] at hleft
    by_cases hk : d = k
    · obtain ⟨hstood, hne⟩ : q ∈ (s.routeRt k).queue ∧ q ≠ e := by simpa [hk, withoutEntry] using hleft
      exact ⟨hk ▸ hstood, by simp [hne, hr]⟩
    · exact ⟨by rwa [if_neg hk] at hleft, by simp [hk, hr]⟩

end

/-! ### CANCEL (R169) -/

section
variable {c : Cmd} {s : State}

theorem cancel_outOfRange (h : 1 < c.u8 0) : cancel c s = rej .range 0x20 s := if_pos h

theorem cancel_none (h : c.u8 0 ≤ 1) (hnone : openEntries s (cancelReach c s) = []) :
    cancel c s = rej .state (if c.u8 0 = 0 then 0x21 else 0x24) s := by
  simp only [cancel, if_neg (Nat.not_lt.mpr h), hnone]

theorem cancel_some (h : c.u8 0 ≤ 1) (hsome : openEntries s (cancelReach c s) ≠ []) :
    cancel c s = okWith (openEntries s (cancelReach c s)).length (dropEntries (byCommand c) (openEntries s (cancelReach c s)) s) := by
  unfold cancel
  rw [if_neg (Nat.not_lt.mpr h)]
  split
  · next hnone => exact absurd hnone hsome
  · rfl

end

/-! ### LOCK_DESTINATION (R170, R171) -/

section
variable {c : Cmd} {s : State}

/-- The destinations that a LOCK_DESTINATION names are of one range, 4,096 at most. -/
abbrev LockSpanOk (c : Cmd) : Prop :=
  lockCount c ≤ 4096 ∧ c.u16 0 + lockCount c ≤ 65536 ∧ destRange (c.u16 0) = destRange (c.u16 0 + lockCount c - 1)

theorem lockCount_pos (c : Cmd) : 1 ≤ lockCount c := by
  unfold lockCount
  split <;> omega

/-- CHECK_GEN goes with one handle. -/
theorem checkGen_one_iff : ¬(c.checkGen = true ∧ 1 < lockCount c) ↔ (c.checkGen = true → lockCount c = 1) := by
  have hone := lockCount_pos c
  rw [not_and]
  exact imp_congr_right fun _ => by omega

/-- A LOCK_DESTINATION is judged by its count and span, then by its mode, then by what it can act on. -/
theorem lockDestination_eq :
    lockDestination c s = if (c.checkGen = true ∧ 1 < lockCount c) ∨ ¬LockSpanOk c then rej .range 0x22 s
      else if 2 < c.u8 4 then rej .range 0x24 s
      else if (span (c.u16 0) (lockCount c)).all (lockable s (c.u8 4) c.session) = true then ok ((span (c.u16 0) (lockCount c)).foldl (lockOne c) s)
      else rej .state 0x20 s := by
  unfold lockDestination
  dsimp only
  by_cases hgen : c.checkGen = true ∧ 1 < lockCount c
  · rw [if_pos hgen, if_pos (Or.inl hgen)]
  · by_cases hspan : LockSpanOk c
    · rw [if_neg hgen, if_neg (not_or.mpr ⟨hgen, not_not.mpr hspan⟩)]
      by_cases hmode : c.u8 4 ≤ 2
      · rw [if_neg (Nat.not_lt.mpr hmode)]
        simp only [firstBad, decide_eq_true hspan, decide_eq_true hmode, if_true]
      · rw [if_pos (Nat.lt_of_not_le hmode)]
        simp only [firstBad, decide_eq_true hspan, decide_eq_false hmode, if_true, Bool.false_eq_true, if_false]
    · rw [if_neg hgen, if_pos (Or.inr hspan)]
      simp only [firstBad, decide_eq_false hspan, Bool.false_eq_true, if_false]

/-- The fields of a LOCK_DESTINATION are in range. -/
def LockFieldsOk (c : Cmd) : Prop := ¬((c.checkGen = true ∧ 1 < lockCount c) ∨ ¬LockSpanOk c) ∧ c.u8 4 ≤ 2

theorem lockDestination_acts (h : LockFieldsOk c) (hall : ∀ d ∈ span (c.u16 0) (lockCount c), lockable s (c.u8 4) c.session d = true) :
    lockDestination c s = ok ((span (c.u16 0) (lockCount c)).foldl (lockOne c) s) := by
  rw [lockDestination_eq, if_neg h.1, if_neg (Nat.not_lt.mpr h.2), if_pos (List.all_eq_true.mpr hall)]

theorem lockDestination_refused (h : LockFieldsOk c) (hsome : ∃ d ∈ span (c.u16 0) (lockCount c), lockable s (c.u8 4) c.session d = false) :
    lockDestination c s = rej .state 0x20 s := by
  have hnot : ¬(span (c.u16 0) (lockCount c)).all (lockable s (c.u8 4) c.session) = true := by
    rw [Bool.not_eq_true]
    simpa [List.all_eq_false] using hsome
  rw [lockDestination_eq, if_neg h.1, if_neg (Nat.not_lt.mpr h.2), if_neg hnot]

theorem lockDestination_outOfRange (h : ¬LockFieldsOk c) :
    lockDestination c s = rej .range (if (c.checkGen = true ∧ 1 < lockCount c) ∨ ¬LockSpanOk c then 0x22 else 0x24) s := by
  rw [lockDestination_eq]
  by_cases hspan : (c.checkGen = true ∧ 1 < lockCount c) ∨ ¬LockSpanOk c
  · rw [if_pos hspan, if_pos hspan]
  · have hmode : 2 < c.u8 4 := Nat.lt_of_not_le fun hmode => h ⟨hspan, hmode⟩
    rw [if_neg hspan, if_neg hspan, if_pos hmode]

/-- The fields' conditions as the statement groups them. -/
theorem lockFieldsOk_iff : LockFieldsOk c ↔ (c.checkGen = true → lockCount c = 1) ∧ lockCount c ≤ 4096 ∧ c.u16 0 + lockCount c ≤ 65536 ∧
    destRange (c.u16 0) = destRange (c.u16 0 + lockCount c - 1) ∧ c.u8 4 ≤ 2 := by
  rw [LockFieldsOk, not_or, not_not, checkGen_one_iff, LockSpanOk]
  simp only [and_assoc]

end

/-! ### One handle's lock (R171) -/

section
variable {c : Cmd} {d : Nat} {s : State}

/-- The session that a LOCK_DESTINATION leaves protecting a handle, 0 none. -/
def lockProtect (c : Cmd) : Nat := if c.u8 4 = 1 then c.session else 0

/-- The handle stands as the command asks. -/
def LockStands (c : Cmd) (s : State) (d : Nat) : Prop := (s.route d).locked = decide (c.u8 4 = 2) ∧ (s.routeRt d).protect = lockProtect c

/-- The handle's lock and protection written. -/
def lockWritten (c : Cmd) (s : State) (d : Nat) : State :=
  ((s.onRoute d fun r => { r with locked := decide (c.u8 4 = 2), lockGen := genNext r.lockGen }).touch 0x05 (0x10000 + d)).onRouteRt d fun r =>
    { r with protect := lockProtect c }

/-- The uncommitted takes that a lock or a protection drops: all of the handle, or those of other sessions. -/
def lockDrops (c : Cmd) (d : Nat) (x : Nat) (e : Entry) : Bool := decide (x = d) && (decide (c.u8 4 = 2) || decide (e.session ≠ c.session))

theorem lockOne_stands (h : LockStands c s d) : lockOne c s d = s := if_pos h

theorem lockOne_written (h : ¬LockStands c s d) :
    lockOne c s d = if c.u8 4 = 0 then lockWritten c s d
      else dropEntries (byCommand c) (openEntries (lockWritten c s d) (lockDrops c d)) (lockWritten c s d) :=
  if_neg h

/-- Whatever the mode, the handle is written and then takes are dropped, or none. -/
theorem lockOne_drops (h : ¬LockStands c s d) : ∃ l, lockOne c s d = dropEntries (byCommand c) l (lockWritten c s d) := by
  rw [lockOne_written h]
  split
  · exact ⟨[], rfl⟩
  · exact ⟨_, rfl⟩

theorem lockWritten_destsOk (h : DestsOk s) : DestsOk (lockWritten c s d) := tableOk_tset h

theorem lockOne_locked (h : tableOk ({} : RouteObj) s.obj.routes = true) : ((lockOne c s d).route d).locked = decide (c.u8 4 = 2) := by
  by_cases hstands : LockStands c s d
  · rw [lockOne_stands hstands, hstands.1]
  · obtain ⟨l, hl⟩ := lockOne_drops hstands
    have hroutes : (lockOne c s d).obj.routes = (s.onRoute d fun r => { r with locked := decide (c.u8 4 = 2), lockGen := genNext r.lockGen }).obj.routes := by
      rw [hl, dropEntries_obj]
      rfl
    rw [route_congr hroutes, onRoute_route h, if_pos rfl]

theorem lockOne_protect (h : DestsOk s) : ((lockOne c s d).routeRt d).protect = lockProtect c := by
  by_cases hstands : LockStands c s d
  · rw [lockOne_stands hstands, hstands.2]
  · obtain ⟨l, hl⟩ := lockOne_drops hstands
    have hwritten : ((lockWritten c s d).routeRt d).protect = lockProtect c := congrArg RouteRt.protect ((onRouteRt_routeRt h).trans (if_pos rfl))
    rw [hl, dropEntries_protect (lockWritten_destsOk h), hwritten]

/-- A lock that is new to a handle leaves it its committed takes alone. -/
theorem lockOne_committed (h : DestsOk s) (hmode : c.u8 4 = 2) (hnew : ¬LockStands c s d) {e : Entry} (he : e ∈ ((lockOne c s d).routeRt d).queue) :
    e.committed = true := by
  rw [lockOne_written hnew, if_neg (by omega)] at he
  obtain ⟨hstood, hkept⟩ := mem_dropEntries (lockWritten_destsOk h) he
  by_contra hopen
  exact hkept (mem_openEntries hstood (Bool.eq_false_iff.mpr hopen) (by simp [lockDrops, hmode]))

theorem not_lockStands (hmode : c.u8 4 = 2) (h : (s.route d).locked = false ∨ (s.routeRt d).protect ≠ 0) : ¬LockStands c s d := by
  rintro ⟨hlocked, hprotect⟩
  have hzero : lockProtect c = 0 := if_neg (by omega)
  rcases h with h | h
  · simp [h, hmode] at hlocked
  · exact h (hprotect.trans hzero)

end

/-! ### Takes on a destination that is locked or protected (R166, R171) -/

section
variable {d src fl session : Nat} {s : State}

/-- A check that comes first does not take back a later refusal. -/
theorem ite_some_ne_none {α : Type} {p : Prop} [Decidable p] {a : α} {x : Option α} (h : x ≠ none) : (if p then some a else x) ≠ none := by
  split
  · exact Option.some_ne_none a
  · exact h

/-- A destination that takes no take of the session refuses one, if not by an earlier check. -/
theorem takeFault_shut (h : unlocked s d session = false) : takeFault s d src fl session ≠ none := by
  refine ite_some_ne_none (ite_some_ne_none (ite_some_ne_none (ite_some_ne_none (ite_some_ne_none ?_))))
  split
  · exact Option.some_ne_none _
  · rw [h]
    exact Option.some_ne_none _

theorem unlocked_of_locked (h : (s.route d).locked = true) : unlocked s d session = false := by
  simp [unlocked, h]

theorem unlocked_of_protected (hprotect : (s.routeRt d).protect ≠ 0) (hother : (s.routeRt d).protect ≠ session) : unlocked s d session = false := by
  simp [unlocked, hprotect, hother]

end

/-! ### SET_GENERATOR (R180 to R182) -/

section
variable {c : Cmd} {s : State}

/-- The fields of a SET_GENERATOR are in range, its width that of a serial interface. -/
def GenFieldsOk (c : Cmd) : Prop :=
  c.u8 0 < 16 ∧ (c.u8 1 < 8 ∨ c.u8 1 = 255) ∧ c.u8 2 ∈ [1, 2, 4, 8] ∧ c.u8 3 ≤ 5 ∧ c.u8 6 ≤ 1 ∧ (c.u8 7 = 1 ∨ c.u8 7 = 2) ∧
    c.u16 8 < 1024 ∧ c.u16 0x0A < 1024 ∧ c.u16 0x0C < 1024

/-- The plane named is enabled, or none is named. -/
def GenPlaneOk (c : Cmd) (s : State) : Prop := c.u8 1 = 255 ∨ (s.rate (c.u8 1)).isSome = true

/-- The format is a serial one of the width, and of the plane's rate. -/
def GenFits (c : Cmd) (s : State) : Prop := serialIn (c.u8 2) (c.u16 4) = true ∧ (c.u8 1 = 255 ∨ s.rate (c.u8 1) = some (fmtRate (c.u16 4)))

/-- The rate of the plane named. -/
def genRate (c : Cmd) (s : State) : Option Nat := if c.u8 1 = 255 then none else s.rate (c.u8 1)

/-- The setting that the record gives, at the generation in force. -/
def genAsked (c : Cmd) (s : State) : GenObj := genSetting c (s.gen (c.u8 0)).gen

/-- The setting changes the shape of the generator's output. -/
def genReshapes (c : Cmd) (s : State) : Bool := genReshaped (s.gen (c.u8 0)) (genAsked c s)

/-- The new setting written. -/
def genWritten (c : Cmd) (s : State) : State :=
  (s.onObj fun o => { o with gens := tset {} o.gens (c.u8 0) (genSetting c (genNext (s.gen (c.u8 0)).gen)) }).touch 0x05 (0x20000 + c.u8 0)

/-- What the generator goes on showing until its next frame start. -/
def genShows (g : Nat) (x : GenObj) (s : State) : State := s.onBasin fun b => { b with genPend := tset {} b.genPend g x }

/-- The generator with a setting other than that in force. -/
def genChanged (c : Cmd) (s : State) : State :=
  if genReshapes c s = true then genShows (c.u8 0) {} (genWritten c s)
  else if tget {} s.basin.genPend (c.u8 0) ≠ ({} : GenObj) then genWritten c s
  else genShows (c.u8 0) (s.gen (c.u8 0)) (genWritten c s)

/-- Once its fields are in range, a SET_GENERATOR is judged by its plane, its format, its use, and what it changes. -/
theorem setGenerator_eq (h : GenFieldsOk c) :
    setGenerator c s =
      if c.u8 1 ≠ 255 ∧ (genRate c s).isNone = true then rej .state 0xFFFF s
      else if serialIn (c.u8 2) (c.u16 4) = false ∨ ((genRate c s).isSome = true ∧ genRate c s ≠ some (fmtRate (c.u16 4))) then rej .format 0x24 s
      else if genReshapes c s = true ∧ genUsed s (c.u8 0) = true then rej .state 0xFFFF s
      else if genAsked c s = s.gen (c.u8 0) then ok s
      else ok (genChanged c s) := by
  obtain ⟨hgen, hplane, hwidth, hpattern, hcolour, hform, hy, hcb, hcr⟩ := h
  have hsome : c.u8 2 ∈ [1, 2, 4, 8, 16] := List.mem_append_left [16] hwidth
  have hserial : c.u8 2 ≠ 16 := by rintro h16; simp [h16] at hwidth
  unfold setGenerator
  simp only [firstBad, hgen, hplane, hsome, hpattern, hcolour, hform, hy, hcb, hcr, decide_true, if_true, hserial, if_false]
  unfold genChanged
  simp only [apply_ite ok]
  rfl

/-- What fits names an enabled plane or none. -/
theorem GenFits.plane (h : GenFits c s) : GenPlaneOk c s := h.2.imp_right fun hrate => by rw [hrate]; rfl

theorem genRate_known (h : GenPlaneOk c s) : ¬(c.u8 1 ≠ 255 ∧ (genRate c s).isNone = true) := by
  rintro ⟨hnamed, hnone⟩
  rw [genRate, if_neg hnamed, Option.isNone_iff_eq_none] at hnone
  rw [GenPlaneOk, hnone] at h
  exact h.elim hnamed Bool.false_ne_true

theorem genFits_iff (h : GenPlaneOk c s) :
    ¬(serialIn (c.u8 2) (c.u16 4) = false ∨ ((genRate c s).isSome = true ∧ genRate c s ≠ some (fmtRate (c.u16 4)))) ↔ GenFits c s := by
  unfold GenPlaneOk at h
  unfold genRate GenFits
  by_cases hnamed : c.u8 1 = 255
  · simp [hnamed]
  · simp [hnamed, h.resolve_left hnamed]

theorem setGenerator_disabled (h : GenFieldsOk c) (hplane : c.u8 1 < 8) (hnone : s.rate (c.u8 1) = none) :
    setGenerator c s = rej .state 0xFFFF s := by
  have hnamed : c.u8 1 ≠ 255 := by omega
  rw [setGenerator_eq h, if_pos ⟨hnamed, by rw [genRate, if_neg hnamed, hnone]; rfl⟩]

theorem setGenerator_unfit (h : GenFieldsOk c) (hplane : GenPlaneOk c s) (hfits : ¬GenFits c s) : setGenerator c s = rej .format 0x24 s := by
  rw [setGenerator_eq h, if_neg (genRate_known hplane), if_pos (not_not.mp (mt (genFits_iff hplane).mp hfits))]

theorem setGenerator_fits (h : GenFieldsOk c) (hfits : GenFits c s) :
    setGenerator c s = if genReshapes c s = true ∧ genUsed s (c.u8 0) = true then rej .state 0xFFFF s
      else if genAsked c s = s.gen (c.u8 0) then ok s else ok (genChanged c s) := by
  rw [setGenerator_eq h, if_neg (genRate_known hfits.plane), if_neg ((genFits_iff hfits.plane).mpr hfits)]

theorem setGenerator_used (h : GenFieldsOk c) (hfits : GenFits c s) (hshape : genReshapes c s = true) (hused : genUsed s (c.u8 0) = true) :
    setGenerator c s = rej .state 0xFFFF s := by
  rw [setGenerator_fits h hfits, if_pos ⟨hshape, hused⟩]

/-- The setting in force has the shape in force. -/
theorem genReshapes_same (h : genAsked c s = s.gen (c.u8 0)) : genReshapes c s = false := by
  simp [genReshapes, h, genReshaped]

theorem setGenerator_same (h : GenFieldsOk c) (hfits : GenFits c s) (hsame : genAsked c s = s.gen (c.u8 0)) : setGenerator c s = ok s := by
  rw [setGenerator_fits h hfits, genReshapes_same hsame, if_neg (fun hused => Bool.false_ne_true hused.1), if_pos hsame]

theorem setGenerator_changes (h : GenFieldsOk c) (hfits : GenFits c s) (hnew : genAsked c s ≠ s.gen (c.u8 0))
    (hfree : genReshapes c s = true → genUsed s (c.u8 0) = false) : setGenerator c s = ok (genChanged c s) := by
  have hfree' : ¬(genReshapes c s = true ∧ genUsed s (c.u8 0) = true) := fun hused => Bool.eq_false_iff.mp (hfree hused.1) hused.2
  rw [setGenerator_fits h hfits, if_neg hfree', if_neg hnew]

theorem genChanged_reshaped (h : genReshapes c s = true) : genChanged c s = genShows (c.u8 0) {} (genWritten c s) := if_pos h

theorem genChanged_showing (hshape : genReshapes c s = false) (hshown : tget {} s.basin.genPend (c.u8 0) ≠ ({} : GenObj)) :
    genChanged c s = genWritten c s := by
  rw [genChanged, if_neg (Bool.eq_false_iff.mp hshape), if_pos hshown]

theorem genChanged_next (hshape : genReshapes c s = false) (hshown : tget {} s.basin.genPend (c.u8 0) = ({} : GenObj)) :
    genChanged c s = genShows (c.u8 0) (s.gen (c.u8 0)) (genWritten c s) := by
  rw [genChanged, if_neg (Bool.eq_false_iff.mp hshape), if_neg (not_not.mpr hshown)]

end

/-! ### The statement -/

/-- Settles O28: CANCEL by what it reaches, a lock by its fields and then handle by handle, a generator by its plane, its format and what changes. -/
theorem basinCommandsComplete : Obligations.BasinCommandsComplete := by
  refine ⟨⟨?cancelSome, ?cancelNone, ?cancelRange, ?lockActs, ?lockRefused, ?lockRange, ?genShape, ?genShowing, ?genNext, ?genSame, ?genUsed,
    ?genDisabled, ?genUnfit⟩, ?takeLocked, ?takeProtected, ?lock, ?drops, ?protect, ?free⟩
  case cancelSome => exact carries_of_effect fun _ _ ⟨hmode, hsome⟩ => cancel_some hmode hsome
  case cancelNone => exact carries_of_effect fun _ _ ⟨hmode, hnone⟩ => cancel_none hmode hnone
  case cancelRange => exact carries_of_effect fun _ _ hmode => cancel_outOfRange hmode
  case lockActs => exact carries_of_effect fun _ _ ⟨hgood, hall⟩ => lockDestination_acts (lockFieldsOk_iff.mpr hgood) hall
  case lockRefused => exact carries_of_effect fun _ _ ⟨hgood, hsome⟩ => lockDestination_refused (lockFieldsOk_iff.mpr hgood) hsome
  case lockRange => exact carries_of_effect fun _ _ hbad => lockDestination_outOfRange (mt lockFieldsOk_iff.mp hbad)
  case genShape =>
    refine carries_of_effect fun _ _ ⟨hfields, hfits, hnew, hshape, hfree⟩ => ?_
    rw [setGenerator_changes hfields hfits hnew fun _ => hfree, genChanged_reshaped hshape]
    rfl
  case genShowing =>
    refine carries_of_effect fun c s ⟨hfields, hfits, hnew, hshape, hshown⟩ => ?_
    rw [setGenerator_changes hfields hfits hnew fun hreshapes => absurd hreshapes (Bool.eq_false_iff.mp hshape), genChanged_showing hshape hshown]
    rfl
  case genNext =>
    refine carries_of_effect fun c s ⟨hfields, hfits, hnew, hshape, hshown⟩ => ?_
    rw [setGenerator_changes hfields hfits hnew fun hreshapes => absurd hreshapes (Bool.eq_false_iff.mp hshape), genChanged_next hshape hshown]
    rfl
  case genSame => exact carries_of_effect fun _ _ ⟨hfields, hfits, hsame⟩ => setGenerator_same hfields hfits (not_not.mp hsame)
  case genUsed => exact carries_of_effect fun _ _ ⟨hfields, hfits, hshape, hused⟩ => setGenerator_used hfields hfits hshape hused
  case genDisabled => exact carries_of_effect fun _ _ ⟨hfields, hplane, hnone⟩ => setGenerator_disabled hfields hplane hnone
  case genUnfit => exact carries_of_effect fun _ _ ⟨hfields, hplane, hfits⟩ => setGenerator_unfit hfields hplane hfits
  case takeLocked => exact fun _ _ _ _ _ h => takeFault_shut (unlocked_of_locked h)
  case takeProtected => exact fun _ _ _ _ _ hprotect hother => takeFault_shut (unlocked_of_protected hprotect hother)
  case lock => exact fun _ _ _ hroutes hmode => by rw [lockOne_locked hroutes, hmode]; rfl
  case drops => exact fun _ _ _ hdests hmode h _ he => lockOne_committed hdests hmode (not_lockStands hmode h) he
  case protect =>
    intro c s d hroutes hdests hmode
    rw [lockOne_locked hroutes, lockOne_protect hdests, lockProtect, hmode]
    exact ⟨rfl, rfl⟩
  case free =>
    intro c s d hroutes hdests hmode
    rw [lockOne_locked hroutes, lockOne_protect hdests, lockProtect, hmode]
    exact ⟨rfl, rfl⟩

end Sys2Proof.Proofs

/-! PROOFS.  Patrol scrub, repairs and the rotation of pounds (spec/07_wharf.md, R208 to R211; spec/06_basin_and_lockkeeper.md, R183, R184): what each row
does where it is due, and that it does nothing else. -/

namespace Sys2Proof.Proofs
open Sys2Proof Sys2Proof.Machine

/-! ### Patrol scrub (R190, R208) -/

section
variable {k row n : Nat} {o : WordOwner} {cut : Bool} {found : ScrubFound} {s : State}

theorem scrubDue_shedding (h : s.shedding = true) : scrubDue s k = false := by
  simp [scrubDue, h]

theorem scrubRead_notDue (h : scrubDue s k = false) : scrubRead k found s = s := if_pos h

/-- The unit that the scrubber reads next is counted. -/
def unitRead (k : Nat) (s : State) : State := s.onStack k fun x => { x with unit := x.unit + 1 }

theorem scrubRead_clean (h : scrubDue s k = true) : scrubRead k .clean s = unitRead k s :=
  if_neg (by simp [h])

/-- What is read in error is judged by the symbols in error: none, one, or more. -/
theorem scrubRead_errors (h : scrubDue s k = true) :
    scrubRead k (.errors n row o cut) s = if n = 0 then unitRead k s
      else if n = 1 then scrubCorrected k (foundRow (s.stack k) row) cut (unitRead k s)
      else scrubUncorrectable k (foundRow (s.stack k) row) o (unitRead k s) :=
  if_neg (by simp [h])

theorem scrubRead_none (h : scrubDue s k = true) : scrubRead k (.errors 0 row o cut) s = unitRead k s := by
  rw [scrubRead_errors h, if_pos rfl]

theorem scrubRead_one (h : scrubDue s k = true) :
    scrubRead k (.errors 1 row o cut) s = scrubCorrected k (foundRow (s.stack k) row) cut (unitRead k s) := by
  rw [scrubRead_errors h, if_neg (by omega), if_pos rfl]

theorem scrubRead_more (h : scrubDue s k = true) (hn : 2 ≤ n) :
    scrubRead k (.errors n row o cut) s = scrubUncorrectable k (foundRow (s.stack k) row) o (unitRead k s) := by
  rw [scrubRead_errors h, if_neg (by omega), if_neg (by omega)]

theorem scrubPass_running (h : (s.stack k).unit < scrubUnits) : scrubPass k s = s := if_pos h

theorem scrubPass_over (h : scrubUnits ≤ (s.stack k).unit) :
    scrubPass k s = raise 0x0688 0 k (s.stack k).passCorrected (s.onStack k fun x =>
      { x with unit := 0, passes := inc x.passes, passCorrected := 0, passStart := s.elapsed, hours := s.obj.wharfPol.scrubHours }) :=
  if_neg (Nat.not_lt.mpr h)

end

/-! ### Repairs and the spare (R210, R211) -/

section
variable {k row pc : Nat} {s : State}

theorem softRepaired_none (h : (s.stack k).repairing = none) : softRepaired k s = s := by
  simp only [softRepaired, h]

/-- The row out of use, kept in the store, and told. -/
def rowRepaired (k row : Nat) (s : State) : State :=
  raise 0x0684 1 k row (((s.onStack k fun x =>
    { x with repairing := none, repaired := setAdd x.repaired row, softRows := satAdd 16 x.softRows 1, used := min 1536 (x.used + 1),
             toRepair := [] }).onObj fun o => { o with repairRows := o.repairRows ++ [(k, row)] }).touch 0x06 (0x20000 + k))

/-- The budget of repairs is told once as it runs low. -/
def budgetTold (k : Nat) (s : State) : State :=
  if 1152 ≤ (s.stack k).used ∧ (s.stack k).budgetLow = false then
    raise 0x0686 2 k (1536 - (s.stack k).used) (s.onStack k fun x => { x with budgetLow := true })
  else s

/-- The sixty-fourth repair of a pseudo-channel, as `s` counts them, calls for the spare. -/
def spareCalled (k row : Nat) (s t : State) : State :=
  if 64 ≤ ((s.stack k).repaired.filter fun r => rowPc r = rowPc row).length then sparePc k (rowPc row) t else t

theorem softRepaired_some (h : (s.stack k).repairing = some row) :
    softRepaired k s = (s.stack k).toRepair.foldl (fun s r => repairRow k r s)
      (spareCalled k row (rowRepaired k row s) (budgetTold k (rowRepaired k row s))) := by
  unfold softRepaired
  rw [h]
  rfl

theorem spareCopied_none (h : (s.stack k).copying = none) : spareCopied k s = s := by
  simp only [spareCopied, h]

theorem spareCopied_some (h : (s.stack k).copying = some pc) :
    spareCopied k s = raise 0x0685 2 k pc (s.onStack k fun x => { x with copying := none, spareUsed := true, spared := some pc }) := by
  simp only [spareCopied, h]

end

/-! ### The rotation of pounds (R183, R184, R414) -/

section
variable {die k new n : Nat} {a b : List Byte} {s : State}

/-- A rotation of the die's pounds may begin. -/
def RotationFree (die : Nat) (s : State) : Prop :=
  (s.pounds die).spare.isSome = true ∧ (s.pounds die).shadow = none ∧ (s.pounds die).testing = false ∧ (s.pounds die).failed = false ∧
    s.shedding = false ∧ (s.pounds die).rotAt + 480000 ≤ s.elapsed

theorem rotationFree_iff :
    RotationFree die s ↔ ¬((s.pounds die).spare.isNone = true ∨ (s.pounds die).shadow.isSome = true ∨ (s.pounds die).testing = true ∨
      (s.pounds die).failed = true ∨ s.shedding = true ∨ s.elapsed < (s.pounds die).rotAt + 480000) := by
  simp [RotationFree, Option.isSome_iff_ne_none]

theorem poundRotation_begins (h : RotationFree die s) :
    poundRotation die s = s.onPounds die fun p => { p with shadow := some p.nextSlice, barges := 0, mismatch := false, rotAt := s.elapsed } :=
  if_neg (rotationFree_iff.mp h)

theorem poundRotation_none (h : ¬RotationFree die s) : poundRotation die s = s := if_pos (not_not.mp (mt rotationFree_iff.mpr h))

/-- Slice `k` has been carried in shadow by the spare, pound `new`, for its 16 barges. -/
def ShadowCarried (die k new : Nat) (s : State) : Prop :=
  (s.pounds die).shadow = some k ∧ (s.pounds die).spare = some new ∧ 16 ≤ (s.pounds die).barges

/-- The slice's traffic moved to the former spare, the outgoing pound in self-test. -/
def trafficMoved (die k new : Nat) (s : State) : State := s.onPounds die fun p =>
  { p with traffic := p.traffic.set k new, spare := some ((s.pounds die).traffic.getD k 0), nextSlice := (k + 1) % 8, shadow := none, barges := 0,
           mismatch := false, testing := true, testAt := s.elapsed }

theorem poundMove_carried (h : ShadowCarried die k new s) :
    poundMove die a b s = if (s.pounds die).mismatch = true ∨ a ≠ b then
        tellMismatch die ((s.pounds die).traffic.getD k 0) (s.pounds die).mismatch (trafficMoved die k new s)
      else trafficMoved die k new s := by
  obtain ⟨hshadow, hspare, hbarges⟩ := h
  simp only [poundMove, hshadow, hspare, if_neg (Nat.not_lt.mpr hbarges), trafficMoved]

theorem poundMove_agreed (h : ShadowCarried die k new s) (hsame : (s.pounds die).mismatch = false) :
    poundMove die a a s = trafficMoved die k new s := by
  rw [poundMove_carried h, if_neg (by simp [hsame])]

theorem poundMove_mismatch (h : ShadowCarried die k new s) (hdiffer : (s.pounds die).mismatch = true ∨ a ≠ b) :
    poundMove die a b s = tellMismatch die ((s.pounds die).traffic.getD k 0) (s.pounds die).mismatch (trafficMoved die k new s) := by
  rw [poundMove_carried h, if_pos hdiffer]

theorem poundMove_notDue (h : (s.pounds die).shadow = none ∨ (s.pounds die).spare = none ∨ (s.pounds die).barges < 16) : poundMove die a b s = s := by
  unfold poundMove
  dsimp only
  split
  · next hshadow hspare => exact if_pos ((h.resolve_left (by simp [hshadow])).resolve_left (by simp [hspare]))
  · rfl

theorem poundTested_passed (hspare : (s.pounds die).spare = some n) (htesting : (s.pounds die).testing = true) :
    poundTested die true s = s.onPounds die fun p => { p with testing := false } := by
  simp only [poundTested, hspare, htesting, Bool.not_true, Bool.false_eq_true, if_false, if_true]

theorem poundTested_failed (hspare : (s.pounds die).spare = some n) (htesting : (s.pounds die).testing = true) :
    poundTested die false s = raise 0x0586 3 (n + 256 * die) 0 (report { code := 0x0402, west := decide (die = 1), subject := n }
      (s.onPounds die fun p => { p with testing := false, spare := none, retired := setAdd p.retired n, failed := true })) := by
  simp only [poundTested, hspare, htesting, Bool.not_true, Bool.false_eq_true, if_false]

end

/-! ### The statement -/

/-- Settles O47: a read by the symbols in error, a pass by its count, a repair and a copy by what is under way, a rotation by what it finds of the die. -/
theorem repairAndPoundRowsComplete : Obligations.RepairAndPoundRowsComplete :=
  ⟨⟨fun _ _ _ h => answers_of_eq (scrubRead_notDue h), fun _ _ h => answers_of_eq (scrubRead_clean h),
      fun _ _ _ _ _ h => answers_of_eq (scrubRead_none h), fun _ _ _ _ _ h => answers_of_eq (scrubRead_one h),
      fun _ _ _ _ _ _ h hn => answers_of_eq (scrubRead_more h hn), fun _ _ h => scrubDue_shedding h,
      fun _ _ h => answers_of_eq (scrubPass_over h), fun _ _ h => answers_of_eq (scrubPass_running h),
      fun _ _ h => answers_of_eq (softRepaired_none h), fun _ _ _ h => answers_of_eq (softRepaired_some h),
      fun _ _ _ h => answers_of_eq (spareCopied_some h), fun _ _ h => answers_of_eq (spareCopied_none h)⟩,
    fun _ _ h => answers_of_eq (poundRotation_begins h), fun _ _ h => answers_of_eq (poundRotation_none h),
    fun _ _ _ _ _ h hsame => answers_of_eq (poundMove_agreed h hsame), fun _ _ _ _ _ _ h hdiffer => answers_of_eq (poundMove_mismatch h hdiffer),
    fun _ _ _ _ h => answers_of_eq (poundMove_notDue h), fun _ _ _ hspare htesting => answers_of_eq (poundTested_passed hspare htesting),
    fun _ _ _ hspare htesting => answers_of_eq (poundTested_failed hspare htesting)⟩

end Sys2Proof.Proofs

/-! PROOFS.  The machine at reset (spec/07_wharf.md, R212, R215; R362, R392, R417, R419, R443, R472; log entries 1 and 4): every table of objects is
empty, so each object reads as its first value. -/

namespace Sys2Proof.Proofs
open Sys2Proof Sys2Proof.Machine

@[simp] theorem reset_lanePol (lane : Nat) : State.reset.lanePol lane = {} := rfl

@[simp] theorem reset_route (d : Nat) : State.reset.route d = {} := rfl

@[simp] theorem reset_stream (k : Nat) : State.reset.stream k = {} := rfl

/-- No memory cell is listed at reset, which is the canonical form of cleared HDM (log entry 4). -/
theorem reset_hdmCanonical : hdmCanonical State.reset := by
  have hdm : State.reset.hdm = [] := rfl
  rw [hdmCanonical, hdm]
  rfl

theorem reset_not_serving : State.reset.serving = false := by
  have hoff : State.reset.dev = .off := rfl
  rw [State.serving, hoff]
  rfl

/-- Settles O2: the policies are fields of the objects at reset, the lanes, routes and streams entries of tables that are empty. -/
theorem resetHoldsFirstValues : Obligations.ResetHoldsFirstValues := by
  refine ⟨reset_hdmCanonical, rfl, rfl, rfl, reset_not_serving, rfl, fun lane => ?lanes, rfl, rfl, rfl, rfl, fun d => ?routes, fun k => ?streams⟩
  case lanes =>
    rw [reset_lanePol]
    exact ⟨rfl, rfl, rfl, rfl⟩
  case routes =>
    rw [reset_route]
    exact ⟨rfl, rfl⟩
  case streams => rw [reset_stream]

end Sys2Proof.Proofs

/-! PROOFS.  SET_FRAME_SYNC and SET_WHARF_POLICY (spec/07_wharf.md, R213 to R215): the checks of a frame synchronizer in their order, its berth held,
freed or left, and the policy's fields. -/

namespace Sys2Proof.Proofs
open Sys2Proof Sys2Proof.Machine

/-! ### Streams that stand (R40) -/

/-- The stream is DEFINED or LIVE. -/
def StreamStands (x : StreamObj) : Prop := x.st = .defined ∨ x.st = .live

/-- A stream that does not stand is undefined or RELEASING. -/
theorem not_streamStands_iff {x : StreamObj} : ¬StreamStands x ↔ x.st = .undef ∨ x.st = .releasing := by
  unfold StreamStands
  cases x.st <;> simp

/-! ### SET_FRAME_SYNC (R213, R214) -/

section
variable {c : Cmd} {s : State}

/-- The stream that a record sets the frame synchronizer of. -/
abbrev syncStream (c : Cmd) (s : State) : StreamObj := s.stream (c.u16 0)

/-- The setting that the record gives, at the generation in force. -/
abbrev syncAsked (c : Cmd) (s : State) : FsyncObj := fsyncSetting c (s.fsync (c.u16 0)).gen

/-- The plane that the setting reads on: the one named, or the stream's own. -/
abbrev syncPlane (c : Cmd) (s : State) : Nat := if c.u8 3 = 255 then (syncStream c s).plane else c.u8 3

/-- The fields of a SET_FRAME_SYNC are in range. -/
def SyncFieldsOk (c : Cmd) : Prop :=
  c.u16 0 < 8192 ∧ c.u8 2 ≤ 1 ∧ (c.u8 3 < 8 ∨ c.u8 3 = 255) ∧ c.u8 4 ≤ 60 ∧ c.u8 5 ≤ 1 ∧ c.u8 6 < 16 ∧ (c.u32 8 ≤ 600000 ∨ c.u32 8 = 0xFFFFFFFF)

/-- The stream stands, with pictures to synchronise. -/
def SyncStreamOk (c : Cmd) (s : State) : Prop := StreamStands (syncStream c s) ∧ (syncStream c s).form ≠ 3

/-- The plane to read on is enabled, at the rate of the stream's own. -/
def SyncTimed (c : Cmd) (s : State) : Prop := (s.rate (syncPlane c s)).isSome = true ∧ s.rate (syncPlane c s) = s.rate (syncStream c s).plane

/-- No destination holds the berth to another plane. -/
def SyncPlaneFree (c : Cmd) (s : State) : Prop := syncPlane c s = readPlane s (c.u16 0) ∨ (berthDests s (c.u16 0)).isEmpty = true

/-- The setting written on `t`, its berth held. -/
def syncHeld (c : Cmd) (s t : State) : State := writeFsync (c.u16 0) (syncAsked c s) (keepBerth (c.u16 0) (byCommand c) t)

/-- ENABLE 1: the berth held, where its memory fits. -/
def syncEnabled (c : Cmd) (s : State) : Res :=
  match fitBerth (c.u16 0) (syncAsked c s) s with
  | some t => ok (syncHeld c s t)
  | none => rej .capacity 0xFFFF s

/-- ENABLE 0: a berth without destinations freed, one with destinations freed once they have left it. -/
def syncDisabled (c : Cmd) (s : State) : Res :=
  if berthed s (c.u16 0) = false then ok (writeFsync (c.u16 0) (syncAsked c s) s)
  else if (berthDests s (c.u16 0)).isEmpty = true then ok (freeBerth (c.u16 0) (writeFsync (c.u16 0) (syncAsked c s) s))
  else queued (.frameSync (c.u16 0)) ((syncHeld c s s).onBerth (c.u16 0) fun b => { b with freeing := some s.mbox.nextJob })

/-- Once its fields are in range, a SET_FRAME_SYNC is judged by its stream, its plane, SYNC-ALL and its destinations. -/
theorem setFrameSync_eq (h : SyncFieldsOk c) :
    setFrameSync c s =
      if (syncStream c s).st = .undef ∨ (syncStream c s).st = .releasing then rej .state 0xFFFF s
      else if (syncStream c s).form = 3 then rej .format 0x20 s
      else if (s.rate (syncPlane c s)).isSome = true ∧ s.rate (syncPlane c s) ≠ s.rate (syncStream c s).plane then rej .format 0x23 s
      else if (s.rate (syncPlane c s)).isNone = true then rej .state 0xFFFF s
      else if c.u8 2 ≠ 1 ∧ s.obj.trims.syncAll = true then rej .state 0xFFFF s
      else if syncPlane c s ≠ readPlane s (c.u16 0) ∧ (berthDests s (c.u16 0)).isEmpty = false then rej .state 0xFFFF s
      else if c.u8 2 = 1 then syncEnabled c s else syncDisabled c s := by
  obtain ⟨hbay, henable, hplane, hdelay, hfill, hgen, hhold⟩ := h
  simp only [setFrameSync, firstBad, hbay, henable, hplane, hdelay, hfill, hgen, hhold, decide_true, if_true, fsyncSetting, Bool.not_eq_true',
    decide_eq_false_iff_not, decide_eq_true_eq]
  rfl

theorem setFrameSync_gone (h : SyncFieldsOk c) (hgone : ¬StreamStands (syncStream c s)) : setFrameSync c s = rej .state 0xFFFF s := by
  rw [setFrameSync_eq h, if_pos (not_streamStands_iff.mp hgone)]

theorem setFrameSync_audioOnly (h : SyncFieldsOk c) (hstands : StreamStands (syncStream c s)) (haudio : (syncStream c s).form = 3) :
    setFrameSync c s = rej .format 0x20 s := by
  rw [setFrameSync_eq h, if_neg (mt not_streamStands_iff.mpr (not_not.mpr hstands)), if_pos haudio]

/-- A stream with pictures is judged by its plane next. -/
theorem setFrameSync_ofStream (h : SyncFieldsOk c) (hstream : SyncStreamOk c s) :
    setFrameSync c s =
      if (s.rate (syncPlane c s)).isSome = true ∧ s.rate (syncPlane c s) ≠ s.rate (syncStream c s).plane then rej .format 0x23 s
      else if (s.rate (syncPlane c s)).isNone = true then rej .state 0xFFFF s
      else if c.u8 2 ≠ 1 ∧ s.obj.trims.syncAll = true then rej .state 0xFFFF s
      else if syncPlane c s ≠ readPlane s (c.u16 0) ∧ (berthDests s (c.u16 0)).isEmpty = false then rej .state 0xFFFF s
      else if c.u8 2 = 1 then syncEnabled c s else syncDisabled c s := by
  obtain ⟨hstands, hpicture⟩ := hstream
  rw [setFrameSync_eq h, if_neg (mt not_streamStands_iff.mpr (not_not.mpr hstands)), if_neg hpicture]

theorem setFrameSync_otherRate (h : SyncFieldsOk c) (hstream : SyncStreamOk c s) (henabled : (s.rate (syncPlane c s)).isSome = true)
    (hrate : s.rate (syncPlane c s) ≠ s.rate (syncStream c s).plane) : setFrameSync c s = rej .format 0x23 s := by
  rw [setFrameSync_ofStream h hstream, if_pos ⟨henabled, hrate⟩]

theorem setFrameSync_disabledPlane (h : SyncFieldsOk c) (hstream : SyncStreamOk c s) (hnone : s.rate (syncPlane c s) = none) :
    setFrameSync c s = rej .state 0xFFFF s := by
  rw [setFrameSync_ofStream h hstream, if_neg (by simp [hnone]), if_pos (by simp [hnone])]

/-- On a plane of the stream's rate it is judged by SYNC-ALL and its destinations. -/
theorem setFrameSync_ofPlane (h : SyncFieldsOk c) (hstream : SyncStreamOk c s) (htimed : SyncTimed c s) :
    setFrameSync c s =
      if c.u8 2 ≠ 1 ∧ s.obj.trims.syncAll = true then rej .state 0xFFFF s
      else if syncPlane c s ≠ readPlane s (c.u16 0) ∧ (berthDests s (c.u16 0)).isEmpty = false then rej .state 0xFFFF s
      else if c.u8 2 = 1 then syncEnabled c s else syncDisabled c s := by
  obtain ⟨henabled, hrate⟩ := htimed
  rw [setFrameSync_ofStream h hstream, if_neg (fun hother => hother.2 hrate), if_neg (by simp [Option.isSome_iff_ne_none.mp henabled])]

theorem setFrameSync_syncAll (h : SyncFieldsOk c) (hstream : SyncStreamOk c s) (htimed : SyncTimed c s) (hoff : c.u8 2 = 0)
    (hall : s.obj.trims.syncAll = true) : setFrameSync c s = rej .state 0xFFFF s := by
  rw [setFrameSync_ofPlane h hstream htimed, if_pos ⟨by omega, hall⟩]

/-- The model's check of the destinations. -/
theorem not_syncPlaneFree_iff :
    ¬SyncPlaneFree c s ↔ syncPlane c s ≠ readPlane s (c.u16 0) ∧ (berthDests s (c.u16 0)).isEmpty = false := by
  rw [SyncPlaneFree, not_or, Bool.not_eq_true]

theorem setFrameSync_planeHeld (h : SyncFieldsOk c) (hstream : SyncStreamOk c s) (htimed : SyncTimed c s) (hheld : ¬SyncPlaneFree c s) :
    setFrameSync c s = rej .state 0xFFFF s := by
  rw [setFrameSync_ofPlane h hstream htimed, if_pos (not_syncPlaneFree_iff.mp hheld), ite_self]

/-- No check but that of memory refuses an enabled synchronizer. -/
def SyncGood (c : Cmd) (s : State) : Prop :=
  SyncFieldsOk c ∧ StreamStands (syncStream c s) ∧ (syncStream c s).form ≠ 3 ∧ SyncTimed c s ∧ SyncPlaneFree c s

theorem setFrameSync_enables (h : SyncGood c s) (hon : c.u8 2 = 1) : setFrameSync c s = syncEnabled c s := by
  obtain ⟨hfields, hstands, hpicture, htimed, hfree⟩ := h
  rw [setFrameSync_ofPlane hfields ⟨hstands, hpicture⟩ htimed, if_neg (fun hoff => hoff.1 hon),
    if_neg (mt not_syncPlaneFree_iff.mpr (not_not.mpr hfree)), if_pos hon]

theorem setFrameSync_disables (h : SyncGood c s) (hoff : c.u8 2 = 0) (hall : s.obj.trims.syncAll = false) :
    setFrameSync c s = syncDisabled c s := by
  obtain ⟨hfields, hstands, hpicture, htimed, hfree⟩ := h
  rw [setFrameSync_ofPlane hfields ⟨hstands, hpicture⟩ htimed, if_neg (fun hset => Bool.eq_false_iff.mp hall hset.2),
    if_neg (mt not_syncPlaneFree_iff.mpr (not_not.mpr hfree)), if_neg (by omega)]

theorem syncEnabled_fits {t : State} (h : fitBerth (c.u16 0) (syncAsked c s) s = some t) : syncEnabled c s = ok (syncHeld c s t) := by
  simp only [syncEnabled, h]

theorem syncEnabled_full (h : fitBerth (c.u16 0) (syncAsked c s) s = none) : syncEnabled c s = rej .capacity 0xFFFF s := by
  simp only [syncEnabled, h]

theorem syncDisabled_unberthed (h : berthed s (c.u16 0) = false) : syncDisabled c s = ok (writeFsync (c.u16 0) (syncAsked c s) s) := if_pos h

theorem syncDisabled_idle (h : berthed s (c.u16 0) = true) (hidle : (berthDests s (c.u16 0)).isEmpty = true) :
    syncDisabled c s = ok (freeBerth (c.u16 0) (writeFsync (c.u16 0) (syncAsked c s) s)) := by
  rw [syncDisabled, if_neg (by simp [h]), if_pos hidle]

theorem syncDisabled_used (h : berthed s (c.u16 0) = true) (hused : (berthDests s (c.u16 0)).isEmpty = false) :
    syncDisabled c s =
      queued (.frameSync (c.u16 0)) ((syncHeld c s s).onBerth (c.u16 0) fun b => { b with freeing := some s.mbox.nextJob }) := by
  rw [syncDisabled, if_neg (by simp [h]), if_neg (by simp [hused])]

end

/-! ### SET_WHARF_POLICY (R215) -/

section
variable {c : Cmd} {s : State}

/-- The policy that a SET_WHARF_POLICY record gives. -/
def wharfPolicyOf (c : Cmd) (gen : Nat) : WharfPolObj := { scrubHours := defaulted 24 (c.u16 0), hardRepair := decide (c.u8 2 = 1), gen := gen }

/-- The scrub period is in range, or 0 for the default. -/
abbrev ScrubHoursOk (c : Cmd) : Prop := c.u16 0 = 0 ∨ (12 ≤ c.u16 0 ∧ c.u16 0 ≤ 168)

theorem scrubHoursOk_iff : (12 ≤ (if c.u16 0 = 0 then 24 else c.u16 0) ∧ (if c.u16 0 = 0 then 24 else c.u16 0) ≤ 168) ↔ ScrubHoursOk c := by
  unfold ScrubHoursOk
  split <;> omega

theorem setWharfPolicy_inRange (hhours : ScrubHoursOk c) (hrepair : c.u8 2 ≤ 1) :
    setWharfPolicy c s = if wharfPolicyOf c s.obj.wharfPol.gen = s.obj.wharfPol then ok s
      else ok ((s.onObj fun o => { o with wharfPol := wharfPolicyOf c (genNext s.obj.wharfPol.gen) }).touch 0x06 0x10000) := by
  simp only [setWharfPolicy, firstBad, scrubHoursOk_iff.mpr hhours, hrepair, and_self, decide_true, if_true]
  rfl

theorem setWharfPolicy_badHours (hhours : ¬ScrubHoursOk c) : setWharfPolicy c s = rej .range 0x20 s := by
  simp only [setWharfPolicy, firstBad, mt scrubHoursOk_iff.mp hhours, decide_false, Bool.false_eq_true, if_false]

theorem setWharfPolicy_badRepair (hhours : ScrubHoursOk c) (hrepair : ¬c.u8 2 ≤ 1) : setWharfPolicy c s = rej .range 0x22 s := by
  simp only [setWharfPolicy, firstBad, scrubHoursOk_iff.mpr hhours, hrepair, and_self, decide_true, decide_false, Bool.false_eq_true,
    if_true, if_false]

end

end Sys2Proof.Proofs

/-! PROOFS.  SET_DESTINATION_FORM and SET_ANC_DESTINATION (spec/08_bridging_and_measurement.md, R236, R237): the stream that owns a destination, what
suits it, and the frame from which a new setting is in force; with it the statement about the settings of the Wharf and of destinations. -/

namespace Sys2Proof.Proofs
open Sys2Proof Sys2Proof.Machine

/-! ### Checks in their order (R83) -/

/-- A list of checks finds nothing exactly where every check passes. -/
theorem firstBad_eq_none_iff {l : List (Bool × Nat)} : firstBad l = none ↔ ∀ e ∈ l, e.1 = true := by
  induction l with
  | nil => simp [firstBad]
  | cons e r ih =>
    obtain ⟨good, off⟩ := e
    cases good <;> simp [firstBad, ih]

/-! ### SET_DESTINATION_FORM (R236) -/

section
variable {c : Cmd} {s : State}

/-- The output stream that a record sets the form of. -/
abbrev formStream (c : Cmd) (s : State) : StreamObj := s.stream (streamKey 1 (c.u16 0))

/-- The form that a SET_DESTINATION_FORM record gives. -/
def destFormOf (c : Cmd) (gen : Nat) : DestFormObj :=
  { level := c.u8 2, tcMode := c.u8 3, pidMode := c.u8 4, dropFrame := bitOf (c.u8 5) 0, tcOffset := c.i32 8, gen := gen }

/-- The fields of a SET_DESTINATION_FORM are in range. -/
def FormFieldsOk (c : Cmd) : Prop := c.u16 0 < 8192 ∧ c.u8 2 ≤ 1 ∧ c.u8 3 ≤ 2 ∧ c.u8 4 ≤ 1 ∧ -86400 ≤ c.i32 8 ∧ c.i32 8 ≤ 86400

/-- The form suits its stream: LEVEL B, generated timecode and what an audio-only stream cannot carry. -/
def FormSuits (c : Cmd) (x : StreamObj) : Prop :=
  (c.u8 2 = 0 ∨ (x.form = 1 ∧ x.width = 2)) ∧ (c.u8 3 ≠ 2 ∨ (x.form ≠ 3 ∧ fmtRate x.format < 10)) ∧ (x.form ≠ 3 ∨ (c.u8 3 = 0 ∧ c.u8 4 = 0))

/-- What R236 checks of a form against its stream, with the fields at fault. -/
def formChecks (c : Cmd) (x : StreamObj) : List (Bool × Nat) :=
  [(decide (c.u8 2 = 0 ∨ (x.form = 1 ∧ x.width = 2)), 0x22), (decide (c.u8 3 ≠ 2 ∨ (x.form ≠ 3 ∧ fmtRate x.format < 10)), 0x23),
    (decide (x.form ≠ 3 ∨ c.u8 3 = 0), 0x23), (decide (x.form ≠ 3 ∨ c.u8 4 = 0), 0x24)]

theorem formChecks_pass_iff {x : StreamObj} : firstBad (formChecks c x) = none ↔ FormSuits c x := by
  simp only [firstBad_eq_none_iff, formChecks, FormSuits, List.forall_mem_cons, List.not_mem_nil, false_imp_iff, implies_true, and_true,
    decide_eq_true_eq, or_and_left]

/-- The new form written; a destination whose frame to come is known keeps the form in force until that frame. -/
def formChanged (c : Cmd) (s : State) : State :=
  let new := destFormOf c (genNext (s.destForm (c.u16 0)).gen)
  let t := (s.onObj fun y => { y with destForm := tset {} y.destForm (c.u16 0) new }).touch 0x07 (c.u16 0)
  match dueFrame s (c.u16 0) with
  | some n => t.onRouteRt (c.u16 0) fun r => { r with formCur := some (formInForce s (c.u16 0)), formDue := r.formDue ++ [(n, new)] }
  | none => t

/-- The answer to a form in range for a stream that stands: it must suit the stream, and is written where it is not the one in force. -/
def formAnswer (c : Cmd) (s : State) : Res :=
  match firstBad (formChecks c (formStream c s)) with
  | some off => rej .format off s
  | none => if destFormOf c (s.destForm (c.u16 0)).gen = s.destForm (c.u16 0) then ok s else ok (formChanged c s)

theorem setDestinationForm_eq (h : FormFieldsOk c) :
    setDestinationForm c s =
      if (formStream c s).st = .undef ∨ (formStream c s).st = .releasing then rej .state 0xFFFF s else formAnswer c s := by
  obtain ⟨hbay, hlevel, htc, hpid, hoffset⟩ := h
  unfold setDestinationForm
  dsimp only
  rw [firstBad_eq_none_iff.mpr (by simp [hbay, hlevel, htc, hpid, hoffset])]
  rfl

theorem setDestinationForm_gone (h : FormFieldsOk c) (hgone : ¬StreamStands (formStream c s)) : setDestinationForm c s = rej .state 0xFFFF s := by
  rw [setDestinationForm_eq h, if_pos (not_streamStands_iff.mp hgone)]

theorem setDestinationForm_stands (h : FormFieldsOk c) (hstands : StreamStands (formStream c s)) : setDestinationForm c s = formAnswer c s := by
  rw [setDestinationForm_eq h, if_neg (mt not_streamStands_iff.mpr (not_not.mpr hstands))]

theorem formAnswer_unsuited (h : ¬FormSuits c (formStream c s)) : ∃ off, formAnswer c s = rej .format off s := by
  obtain ⟨off, hoff⟩ := Option.ne_none_iff_exists'.mp (mt formChecks_pass_iff.mp h)
  exact ⟨off, by simp only [formAnswer, hoff]⟩

theorem formAnswer_suits (h : FormSuits c (formStream c s)) :
    formAnswer c s = if destFormOf c (s.destForm (c.u16 0)).gen = s.destForm (c.u16 0) then ok s else ok (formChanged c s) := by
  simp only [formAnswer, formChecks_pass_iff.mpr h]

theorem setDestinationForm_suits (h : FormFieldsOk c) (hstands : StreamStands (formStream c s)) (hsuits : FormSuits c (formStream c s)) :
    setDestinationForm c s = if destFormOf c (s.destForm (c.u16 0)).gen = s.destForm (c.u16 0) then ok s else ok (formChanged c s) :=
  (setDestinationForm_stands h hstands).trans (formAnswer_suits hsuits)

end

/-! ### SET_ANC_DESTINATION (R227, R237) -/

section
variable {c : Cmd} {s : State} {x : StreamObj}

/-- The setting that a SET_ANC_DESTINATION record gives. -/
def ancOf (c : Cmd) (gen : Nat) : AncObj := { mode := c.u8 2, did := c.u8 3, sdid := c.u8 4, line := c.u16 6, gen := gen }

/-- The fields of a SET_ANC_DESTINATION are in range, its packets neither audio nor payload identification. -/
def AncFieldsOk (c : Cmd) : Prop :=
  0xF000 ≤ c.u16 0 ∧ c.u8 2 ≤ 2 ∧ audioDid (c.u8 3) = false ∧ (c.u8 3 ≠ 0x41 ∨ c.u8 4 ≠ 1) ∧ (c.u16 6 = 0 ∨ (9 ≤ c.u16 6 ∧ c.u16 6 ≤ 1125))

/-- The line is that of the source, or a vertical ancillary one of the stream (log entry 62). -/
def AncLineOk (c : Cmd) (x : StreamObj) : Prop := c.u16 6 = 0 ∨ verticalAnc x (c.u16 6) = true

/-- The new setting written; a destination whose frame to come is known keeps the setting in force until that frame. -/
def ancChanged (c : Cmd) (s : State) : State :=
  let new := ancOf c (genNext (s.anc (c.u16 0)).gen)
  let t := (s.onObj fun y => { y with anc := tset {} y.anc (c.u16 0) new }).touch 0x07 (c.u16 0)
  match dueFrame s (c.u16 0) with
  | some n => t.onRouteRt (c.u16 0) fun r => { r with ancCur := some (ancInForce s (c.u16 0)), ancDue := r.ancDue ++ [(n, new)] }
  | none => t

/-- The answer to a setting in range, by the stream that owns the destination. -/
def ancAnswer (c : Cmd) (s : State) : Res :=
  match ancDefined s (c.u16 0) with
  | none => rej .state 0xFFFF s
  | some x =>
    if c.u16 6 ≠ 0 ∧ verticalAnc x (c.u16 6) = false then rej .range 0x26 s
    else if ancOf c (s.anc (c.u16 0)).gen = s.anc (c.u16 0) then ok s
    else ok (ancChanged c s)

theorem setAncDestination_inRange (h : AncFieldsOk c) : setAncDestination c s = ancAnswer c s := by
  obtain ⟨hhandle, hmode, haudio, hpid, hline⟩ := h
  unfold setAncDestination
  dsimp only
  rw [firstBad_eq_none_iff.mpr (by simpa [hhandle, hmode, haudio, hline] using hpid)]
  rfl

/-- An audio packet or a payload identification is no ANC destination's. -/
theorem setAncDestination_foreign (hhandle : 0xF000 ≤ c.u16 0) (hmode : c.u8 2 ≤ 2)
    (hforeign : audioDid (c.u8 3) = true ∨ (c.u8 3 = 0x41 ∧ c.u8 4 = 1)) : setAncDestination c s = rej .range 0x23 s := by
  have hbad : (!audioDid (c.u8 3) && !(decide (c.u8 3 = 0x41) && decide (c.u8 4 = 1))) = false := by
    rcases hforeign with haudio | ⟨hdid, hsdid⟩
    · simp [haudio]
    · simp [hdid, hsdid]
  simp only [setAncDestination, firstBad, hhandle, hmode, hbad, decide_true, Bool.false_eq_true, if_true, if_false]

theorem ancAnswer_unowned (h : ancDefined s (c.u16 0) = none) : ancAnswer c s = rej .state 0xFFFF s := by
  simp only [ancAnswer, h]

theorem not_ancLineOk_iff : ¬AncLineOk c x ↔ c.u16 6 ≠ 0 ∧ verticalAnc x (c.u16 6) = false := by
  rw [AncLineOk, not_or, Bool.not_eq_true]

theorem ancAnswer_badLine (h : ancDefined s (c.u16 0) = some x) (hline : ¬AncLineOk c x) : ancAnswer c s = rej .range 0x26 s := by
  simp only [ancAnswer, h]
  exact if_pos (not_ancLineOk_iff.mp hline)

theorem ancAnswer_goodLine (h : ancDefined s (c.u16 0) = some x) (hline : AncLineOk c x) :
    ancAnswer c s = if ancOf c (s.anc (c.u16 0)).gen = s.anc (c.u16 0) then ok s else ok (ancChanged c s) := by
  simp only [ancAnswer, h]
  exact if_neg (mt not_ancLineOk_iff.mpr (not_not.mpr hline))

theorem setAncDestination_owned (h : AncFieldsOk c) (hline : AncLineOk c x) (howned : ancDefined s (c.u16 0) = some x) :
    setAncDestination c s = if ancOf c (s.anc (c.u16 0)).gen = s.anc (c.u16 0) then ok s else ok (ancChanged c s) :=
  (setAncDestination_inRange h).trans (ancAnswer_goodLine howned hline)

end

/-! ### The statement -/

/-- Settles O30: a frame synchronizer by the first check that refuses it and then by its berth, the other settings by their fields, by the stream that
owns the destination, and by whether they are the ones in force. -/
theorem wharfAndDestinationSettings : Obligations.WharfAndDestinationSettings := by
  refine ⟨?wharf, ?destinations⟩
  case wharf =>
    intro set plane fields stands timed free good policy policyOk
    refine ⟨fun t => carries_of_effect fun c s ⟨hgood, hon, hfits⟩ => (setFrameSync_enables hgood hon).trans (syncEnabled_fits hfits),
      carries_of_effect fun c s ⟨hgood, hon, hfull⟩ => (setFrameSync_enables hgood hon).trans (syncEnabled_full hfull),
      carries_of_effect fun c s ⟨hgood, hoff, hall, hberth, hidle⟩ => (setFrameSync_disables hgood hoff hall).trans (syncDisabled_idle hberth hidle),
      carries_of_effect fun c s ⟨hgood, hoff, hall, hberth, hused⟩ => (setFrameSync_disables hgood hoff hall).trans (syncDisabled_used hberth hused),
      carries_of_effect fun c s ⟨hgood, hoff, hall, hnone⟩ => (setFrameSync_disables hgood hoff hall).trans (syncDisabled_unberthed hnone),
      carries_of_effect fun c s ⟨hfields, hgone⟩ => setFrameSync_gone hfields hgone,
      carries_of_effect fun c s ⟨hfields, hstands, haudio⟩ => setFrameSync_audioOnly hfields hstands haudio,
      carries_of_effect fun c s ⟨hfields, hstands, hpicture, henabled, hrate⟩ => setFrameSync_otherRate hfields ⟨hstands, hpicture⟩ henabled hrate,
      carries_of_effect fun c s ⟨hfields, hstands, hpicture, hrefused⟩ => ?refused,
      carries_of_effect fun c s ⟨⟨hhours, hrepair⟩, hnew⟩ => (setWharfPolicy_inRange hhours hrepair).trans (if_neg hnew),
      carries_of_effect fun c s ⟨⟨hhours, hrepair⟩, hsame⟩ => (setWharfPolicy_inRange hhours hrepair).trans (if_pos hsame),
      carries_of_effect fun c s hbad => ?policyRange⟩
    case refused =>
      rcases hrefused with hnone | ⟨htimed, ⟨hoff, hall⟩ | hheld⟩
      · exact setFrameSync_disabledPlane hfields ⟨hstands, hpicture⟩ hnone
      · exact setFrameSync_syncAll hfields ⟨hstands, hpicture⟩ htimed hoff hall
      · exact setFrameSync_planeHeld hfields ⟨hstands, hpicture⟩ htimed hheld
    case policyRange =>
      by_cases hhours : ScrubHoursOk c
      · rw [setWharfPolicy_badRepair hhours fun hrepair => hbad ⟨hhours, hrepair⟩, if_pos hhours]
      · rw [setWharfPolicy_badHours hhours, if_neg hhours]
  case destinations =>
    intro form anc out fields stands suits ancFields
    refine ⟨carries_of_effect fun c s ⟨hfields, hstands, hsuits, hnew⟩ => (setDestinationForm_suits hfields hstands hsuits).trans (if_neg hnew),
      carries_of_effect fun c s ⟨hfields, hstands, hsuits, hsame⟩ => (setDestinationForm_suits hfields hstands hsuits).trans (if_pos hsame),
      carries_of_effect fun c s ⟨hfields, hgone⟩ => setDestinationForm_gone hfields hgone,
      fun c s hfields hstands hunsuited => ?unsuited,
      fun x => carries_of_effect fun c s ⟨hfields, hline, howned, hnew⟩ => (setAncDestination_owned hfields hline howned).trans (if_neg hnew),
      fun x => carries_of_effect fun c s ⟨hfields, hline, howned, hsame⟩ => (setAncDestination_owned hfields hline howned).trans (if_pos hsame),
      fun x => carries_of_effect fun c s ⟨hfields, hnamed, hline, howned⟩ =>
        (setAncDestination_inRange hfields).trans (ancAnswer_badLine howned (not_ancLineOk_iff.mpr ⟨hnamed, hline⟩)),
      carries_of_effect fun c s ⟨hfields, hnone⟩ => (setAncDestination_inRange hfields).trans (ancAnswer_unowned hnone),
      carries_of_effect fun c s ⟨hhandle, hmode, hforeign⟩ => setAncDestination_foreign hhandle hmode hforeign⟩
    case unsuited =>
      rw [setDestinationForm_stands hfields hstands]
      exact formAnswer_unsuited hunsuited

end Sys2Proof.Proofs

/-! PROOFS.  SET_DETECTORS and SET_LOUDNESS_GROUP (spec/08_bridging_and_measurement.md, R248, R249; log entries 14 and 64): the fields, the stream or the
channels that a setting is for, and whether it is the one in force. -/

namespace Sys2Proof.Proofs
open Sys2Proof Sys2Proof.Machine

/-! ### SET_DETECTORS (R248) -/

section
variable {c : Cmd} {s : State}

/-- The detectors that a SET_DETECTORS record sets. -/
def detectorsOf (c : Cmd) (gen : Nat) : DetObj :=
  { enable := c.u8 2 % 16, tcSource := c.u8 3, blackLevel := c.u16 4, blackArea := c.u16 6, blackFrames := c.u16 8, freezeFrames := c.u16 0x0A,
    freezeLimit := c.u32 0x0C, silenceDb := c.i16 0x10, silenceMs := c.u32 0x14, gen := gen }

/-- The fields of a SET_DETECTORS are in range. -/
def DetectorFieldsOk (c : Cmd) : Prop :=
  c.u16 0 < 8192 ∧ c.u8 3 ≤ 1 ∧ c.u16 4 ≤ 1023 ∧ 1 ≤ c.u16 6 ∧ c.u16 6 ≤ 1000 ∧ 1 ≤ c.u16 8 ∧ 1 ≤ c.u16 0x0A ∧
    c.u32 0x0C ≤ 2 ^ 31 ∧ -12000 ≤ c.i16 0x10 ∧ c.i16 0x10 ≤ 0 ∧ 100 ≤ c.u32 0x14 ∧ c.u32 0x14 ≤ 3600000

/-- A picture's detectors are for a stream with pictures. -/
def DetectorsSuit (c : Cmd) (x : StreamObj) : Prop := x.form ≠ 3 ∨ c.u8 2 % 8 = 0

theorem not_detectorsSuit_iff {x : StreamObj} : ¬DetectorsSuit c x ↔ x.form = 3 ∧ c.u8 2 % 8 ≠ 0 := by
  rw [DetectorsSuit, not_or, not_not]

/-- New detectors written, their generation advanced. -/
def detectorsChanged (c : Cmd) (s : State) : State :=
  (s.onObj fun y => { y with detectors := tset {} y.detectors (c.u16 0) (detectorsOf c (genNext (s.det (c.u16 0)).gen)) }).touch 0x08 (c.u16 0)

theorem setDetectors_eq (h : DetectorFieldsOk c) :
    setDetectors c s =
      if (s.stream (c.u16 0)).st = .undef ∨ (s.stream (c.u16 0)).st = .releasing then rej .state 0xFFFF s
      else if (s.stream (c.u16 0)).form = 3 ∧ c.u8 2 % 8 ≠ 0 then rej .format 0x22 s
      else if detectorsOf c (s.det (c.u16 0)).gen = s.det (c.u16 0) then ok s
      else ok (detectorsChanged c s) := by
  obtain ⟨hbay, hsource, hlevel, hareaLow, hareaHigh, hblack, hfreeze, hlimit, hdbLow, hdbHigh, hmsLow, hmsHigh⟩ := h
  unfold setDetectors
  dsimp only
  rw [firstBad_eq_none_iff.mpr (by simpa [hbay, hsource, hlevel, hareaLow, hareaHigh, hblack, hfreeze, hdbLow, hdbHigh, hmsLow, hmsHigh] using hlimit)]
  rfl

theorem setDetectors_gone (h : DetectorFieldsOk c) (hgone : ¬StreamStands (s.stream (c.u16 0))) : setDetectors c s = rej .state 0xFFFF s := by
  rw [setDetectors_eq h, if_pos (not_streamStands_iff.mp hgone)]

theorem setDetectors_stands (h : DetectorFieldsOk c) (hstands : StreamStands (s.stream (c.u16 0))) :
    setDetectors c s =
      if (s.stream (c.u16 0)).form = 3 ∧ c.u8 2 % 8 ≠ 0 then rej .format 0x22 s
      else if detectorsOf c (s.det (c.u16 0)).gen = s.det (c.u16 0) then ok s
      else ok (detectorsChanged c s) := by
  rw [setDetectors_eq h, if_neg (mt not_streamStands_iff.mpr (not_not.mpr hstands))]

theorem setDetectors_unsuited (h : DetectorFieldsOk c) (hstands : StreamStands (s.stream (c.u16 0)))
    (hunsuited : ¬DetectorsSuit c (s.stream (c.u16 0))) : setDetectors c s = rej .format 0x22 s := by
  rw [setDetectors_stands h hstands, if_pos (not_detectorsSuit_iff.mp hunsuited)]

theorem setDetectors_suits (h : DetectorFieldsOk c) (hstands : StreamStands (s.stream (c.u16 0))) (hsuits : DetectorsSuit c (s.stream (c.u16 0))) :
    setDetectors c s = if detectorsOf c (s.det (c.u16 0)).gen = s.det (c.u16 0) then ok s else ok (detectorsChanged c s) := by
  rw [setDetectors_stands h hstands, if_neg (mt not_detectorsSuit_iff.mpr (not_not.mpr hsuits))]

end

/-! ### SET_LOUDNESS_GROUP (R249) -/

section
variable {c : Cmd} {s : State}

/-- The group that a SET_LOUDNESS_GROUP record sets. -/
def loudGroupOf (c : Cmd) (gen : Nat) : LoudObj :=
  { channels := (List.range (c.u8 2)).map fun i => c.u16 (8 + 2 * i), weights := (List.range (c.u8 2)).map fun i => c.u8 (0x18 + i), gen := gen }

/-- The setting in force of the group that the record names. -/
abbrev loudGroup (c : Cmd) (s : State) : LoudObj := tget {} s.obj.loud (c.u16 0)

/-- The fields of a SET_LOUDNESS_GROUP are in range, no channel named twice. -/
def GroupListed (c : Cmd) : Prop :=
  c.u16 0 < 2048 ∧ c.u8 2 ≤ 8 ∧ badChannel [] 0 (loudGroupOf c 0).channels = none ∧ ∀ w ∈ (loudGroupOf c 0).weights, w ≤ 2

/-- An input stream holds the group's first channel, where it has one. -/
def GroupHeld (c : Cmd) (s : State) : Prop := c.u8 2 = 0 ∨ (rangeStream s 0 ((loudGroupOf c 0).channels.headD 0) 1).isSome = true

theorem not_groupHeld_iff : ¬GroupHeld c s ↔ c.u8 2 ≠ 0 ∧ (rangeStream s 0 ((loudGroupOf c 0).channels.headD 0) 1).isNone = true := by
  rw [GroupHeld, not_or, Bool.not_eq_true, Option.isSome_eq_false_iff]

/-- The group's gated measure begins again. -/
def gateRestarted (c : Cmd) (s : State) : State :=
  s.onMeas fun m => { m with loud := tmod {} m.loud (c.u16 0) fun l => { l with blocks := [], i := none, gated := 0, age := 0 } }

/-- A new setting written and its measure begun afresh; the record of a group without channels is cleared (log entry 64). -/
def groupChanged (c : Cmd) (s : State) : State :=
  let t := ((s.onObj fun y => { y with loud := tset {} y.loud (c.u16 0) (loudGroupOf c (genNext (loudGroup c s).gen)) }).touch
    0x08 (0x10000 + c.u16 0)).onMeas fun m => { m with loud := tset {} m.loud (c.u16 0) {} }
  if c.u8 2 = 0 then t.zeroRecord 32 (groupAddr (c.u16 0)) else t

theorem setLoudnessGroup_eq (h : GroupListed c) :
    setLoudnessGroup c s =
      if c.u8 2 ≠ 0 ∧ (rangeStream s 0 ((loudGroupOf c 0).channels.headD 0) 1).isNone = true then rej .state 0xFFFF s
      else if loudGroupOf c (loudGroup c s).gen = loudGroup c s then ok (if bitOf (c.u8 3) 0 = true then gateRestarted c s else s)
      else ok (groupChanged c s) := by
  obtain ⟨hgroup, hcount, hchannels, hweights⟩ := h
  have hfields : firstBad [(decide (c.u16 0 < 2048), 0x20), (decide (c.u8 2 ≤ 8), 0x22)] = none := firstBad_eq_none_iff.mpr (by simp [hgroup, hcount])
  have hnoWeight : (loudGroupOf c 0).weights.findIdx? (fun w => 2 < w) = none :=
    List.findIdx?_eq_none_iff.mpr fun w hw => decide_eq_false (not_lt.mpr (hweights w hw))
  unfold loudGroupOf at hchannels hnoWeight
  unfold setLoudnessGroup
  dsimp only at hchannels hnoWeight ⊢
  rw [hfields, hchannels, hnoWeight]
  rfl

theorem setLoudnessGroup_unheld (h : GroupListed c) (hunheld : ¬GroupHeld c s) : setLoudnessGroup c s = rej .state 0xFFFF s := by
  rw [setLoudnessGroup_eq h, if_pos (not_groupHeld_iff.mp hunheld)]

theorem setLoudnessGroup_held (h : GroupListed c) (hheld : GroupHeld c s) :
    setLoudnessGroup c s =
      if loudGroupOf c (loudGroup c s).gen = loudGroup c s then ok (if bitOf (c.u8 3) 0 = true then gateRestarted c s else s)
      else ok (groupChanged c s) := by
  rw [setLoudnessGroup_eq h, if_neg (mt not_groupHeld_iff.mpr (not_not.mpr hheld))]

theorem setLoudnessGroup_changes (h : GroupListed c) (hheld : GroupHeld c s) (hnew : loudGroupOf c (loudGroup c s).gen ≠ loudGroup c s) :
    setLoudnessGroup c s = ok (groupChanged c s) := by
  rw [setLoudnessGroup_held h hheld, if_neg hnew]

theorem setLoudnessGroup_restarts (h : GroupListed c) (hheld : GroupHeld c s) (hsame : loudGroupOf c (loudGroup c s).gen = loudGroup c s)
    (hrestart : bitOf (c.u8 3) 0 = true) : setLoudnessGroup c s = ok (gateRestarted c s) := by
  rw [setLoudnessGroup_held h hheld, if_pos hsame, if_pos hrestart]

theorem setLoudnessGroup_same (h : GroupListed c) (hheld : GroupHeld c s) (hsame : loudGroupOf c (loudGroup c s).gen = loudGroup c s)
    (hgoesOn : bitOf (c.u8 3) 0 = false) : setLoudnessGroup c s = ok s := by
  rw [setLoudnessGroup_held h hheld, if_pos hsame, if_neg (Bool.eq_false_iff.mp hgoesOn)]

end

end Sys2Proof.Proofs

/-! PROOFS.  SET_CHANNEL_GAIN, SET_CHANNEL_DELAY, SET_MIX and SET_CHANNEL_OPTIONS (spec/09_audio.md, R253, R277 to R280; log entries 18, 20 and 68): the
checks that a range of channels has in common, then those of each command; with it the statement about the settings of measurement and audio. -/

namespace Sys2Proof.Proofs
open Sys2Proof Sys2Proof.Machine

/-! ### A range of destination channels -/

/-- Checks that pass leave the answer to those behind them. -/
theorem firstBad_append {l r : List (Bool × Nat)} (h : firstBad l = none) : firstBad (l ++ r) = firstBad r := by
  induction l with
  | nil => rfl
  | cons e l ih =>
    obtain ⟨good, off⟩ := e
    cases good
    case false => simp [firstBad] at h
    case true => exact ih h

/-- A record with CHECK_GEN names one channel. -/
theorem oneChecked_iff {c : Cmd} {n : Nat} : (!c.checkGen || decide (n = 1)) = true ↔ (c.checkGen = true → n = 1) := by
  cases c.checkGen <;> simp

section
variable {c : Cmd} {s : State} {n k off : Nat} {x : StreamObj} {own : List (Bool × Nat)} {body : StreamObj → Res}

/-- The record names `n` destination channels of the output stream `x`, which part no pair. -/
def DestRange (c : Cmd) (n : Nat) (s : State) (k : Nat) (x : StreamObj) : Prop :=
  destChannels (c.u16 0) n = true ∧ 1 ≤ n ∧ n ≤ 64 ∧ (c.checkGen = true → n = 1) ∧ rangeStream s 1 (c.u16 0) n = some (k, x) ∧
    cutsPair s x (c.u16 0) = false

/-- The checks of a range's own fields pass. -/
theorem destRange_fields (h : DestRange c n s k x) :
    firstBad [(destChannels (c.u16 0) n, 0x20), (decide (1 ≤ n ∧ n ≤ 64), 0x22), (!c.checkGen || decide (n = 1), 0x22)] = none := by
  obtain ⟨hchannels, hlow, hhigh, hone, -, -⟩ := h
  exact firstBad_eq_none_iff.mpr (by simp [hchannels, hlow, hhigh, oneChecked_iff.mpr hone])

/-- Where the command's own fields are in range too, its effect follows. -/
theorem onRange_body (h : DestRange c n s k x) (hown : firstBad own = none) : onRange c n own s body = body x := by
  have hfields := destRange_fields h
  obtain ⟨-, -, -, -, hstream, hwhole⟩ := h
  unfold onRange
  dsimp only
  rw [firstBad_append hfields, hown, hstream]
  exact if_neg (Bool.eq_false_iff.mp hwhole)

theorem onRange_outOfRange (h : DestRange c n s k x) (hown : firstBad own = some off) : onRange c n own s body = rej .range off s := by
  unfold onRange
  dsimp only
  rw [firstBad_append (destRange_fields h), hown]

end

/-! ### SET_CHANNEL_GAIN and SET_CHANNEL_DELAY (R277, R278) -/

section
variable {c : Cmd} {s : State} {k : Nat} {x : StreamObj}

/-- A channel's gain as the record gives it, the least number standing for minus infinity (R267). -/
def gainSetting (c : Cmd) (o : ChanObj) : ChanObj :=
  { o with gainDb := if c.i32 4 = -2147483648 then 0 else c.i32 4, minusInf := decide (c.i32 4 = -2147483648), invert := bitOf (c.u8 3) 0 }

theorem setChannelGain_eq :
    setChannelGain c s = onRange c (c.u8 2) [(gainOk (c.i32 4), 0x24)] s fun x => ok (changeChans x (c.u16 0) (c.u8 2) (gainSetting c) s) := by
  simp only [setChannelGain, decide_eq_true_eq]
  rfl

theorem setChannelGain_sets (h : DestRange c (c.u8 2) s k x) (hgain : gainOk (c.i32 4) = true) :
    setChannelGain c s = ok (changeChans x (c.u16 0) (c.u8 2) (gainSetting c) s) := by
  rw [setChannelGain_eq, onRange_body h (by simp [firstBad, hgain])]

theorem setChannelGain_outOfRange (h : DestRange c (c.u8 2) s k x) (hgain : gainOk (c.i32 4) = false) : setChannelGain c s = rej .range 0x24 s :=
  setChannelGain_eq.trans (onRange_outOfRange h (by simp [firstBad, hgain]))

/-- The channels that the delay falls on: both of a linked pair (R253). -/
abbrev delayedChans (c : Cmd) (s : State) (x : StreamObj) : List Nat := (span (c.u16 0) (c.u8 2)).flatMap (settled s x)

/-- The delay written, the list of channels with long-delay memory changed. -/
def delayChanged (c : Cmd) (x : StreamObj) (longChans : List Nat → List Nat) (s : State) : State :=
  changeChans x (c.u16 0) (c.u8 2) (fun o => { o with delay := c.u32 4 }) (s.onWharf fun w => { w with longChans := longChans w.longChans })

theorem setChannelDelay_inRange (h : DestRange c (c.u8 2) s k x) (hdelay : c.u32 4 ≤ 96000) :
    setChannelDelay c s =
      if 12000 < c.u32 4 ∧ longFits s (delayedChans c s x) = false then rej .capacity 0x24 s
      else ok (delayChanged c x (fun l => if 12000 < c.u32 4 then (delayedChans c s x).foldl setAdd l else (delayedChans c s x).foldl setDel l) s) :=
  onRange_body h (by simp [firstBad, hdelay])

theorem setChannelDelay_outOfRange (h : DestRange c (c.u8 2) s k x) (hdelay : 96000 < c.u32 4) : setChannelDelay c s = rej .range 0x24 s :=
  onRange_outOfRange h (by simp [firstBad, not_le.mpr hdelay])

theorem setChannelDelay_short (h : DestRange c (c.u8 2) s k x) (hshort : c.u32 4 ≤ 12000) :
    setChannelDelay c s = ok (delayChanged c x (fun l => (delayedChans c s x).foldl setDel l) s) := by
  have hnotLong : ¬12000 < c.u32 4 := not_lt.mpr hshort
  rw [setChannelDelay_inRange h (by omega), if_neg (fun hfull => hnotLong hfull.1)]
  simp only [hnotLong, if_false]

theorem setChannelDelay_long (h : DestRange c (c.u8 2) s k x) (hlong : 12000 < c.u32 4) (hdelay : c.u32 4 ≤ 96000)
    (hfits : longFits s (delayedChans c s x) = true) :
    setChannelDelay c s = ok (delayChanged c x (fun l => (delayedChans c s x).foldl setAdd l) s) := by
  rw [setChannelDelay_inRange h hdelay, if_neg (fun hfull => Bool.eq_false_iff.mp hfull.2 hfits)]
  simp only [hlong, if_true]

theorem setChannelDelay_full (h : DestRange c (c.u8 2) s k x) (hlong : 12000 < c.u32 4) (hdelay : c.u32 4 ≤ 96000)
    (hfull : longFits s (delayedChans c s x) = false) : setChannelDelay c s = rej .capacity 0x24 s := by
  rw [setChannelDelay_inRange h hdelay, if_pos ⟨hlong, hfull⟩]

end

/-! ### SET_MIX (R279) -/

section
variable {c : Cmd} {s : State} {k : Nat} {x : StreamObj}

/-- The mix entry that a SET_MIX record gives. -/
def mixOf (c : Cmd) : MixEnt := { source := c.u16 4, invert := bitOf (c.u8 3) 1, gainDb := c.i32 8 }

/-- The entry's number and gain are in range. -/
def MixFieldsOk (c : Cmd) : Prop := 1 ≤ c.u8 2 ∧ c.u8 2 ≤ 3 ∧ gainOk (c.i32 8) = true

/-- The record adds an entry, of a kind of source that the destination takes. -/
def MixAdds (c : Cmd) : Prop := bitOf (c.u8 3) 0 = true ∧ sourceKindOk (c.u16 0) (c.u16 4) = true

/-- The mix entry of the channel put in or taken away. -/
def mixChanged (c : Cmd) (x : StreamObj) (m : Option MixEnt) (s : State) : State := changeChans x (c.u16 0) 1 (withMix (c.u8 2) m) s

/-- The source is judged where an entry is added (log entry 68). -/
theorem setMix_inRange (h : DestRange c 1 s k x) (hfields : MixFieldsOk c)
    (hkind : bitOf (c.u8 3) 0 = false ∨ sourceKindOk (c.u16 0) (c.u16 4) = true) :
    setMix c s =
      if bitOf (c.u8 3) 0 = true ∧ sourceLive s (c.u16 0) (c.u16 4) = false then rej .state 0x24 s
      else if bitOf (c.u8 3) 0 = true ∧ linkRule s (c.u16 0) (c.u16 4) = false then rej .format 0x24 s
      else ok (mixChanged c x (if bitOf (c.u8 3) 0 = true then some (mixOf c) else none) s) := by
  obtain ⟨hlow, hhigh, hgain⟩ := hfields
  exact onRange_body h (firstBad_eq_none_iff.mpr (by simp [hlow, hhigh, hgain, hkind]))

theorem setMix_takesAway (h : DestRange c 1 s k x) (hfields : MixFieldsOk c) (hoff : bitOf (c.u8 3) 0 = false) :
    setMix c s = ok (mixChanged c x none s) := by
  simp [setMix_inRange h hfields (.inl hoff), hoff]

theorem setMix_adds (h : DestRange c 1 s k x) (hfields : MixFieldsOk c) (hadds : MixAdds c) (hlive : sourceLive s (c.u16 0) (c.u16 4) = true)
    (hlink : linkRule s (c.u16 0) (c.u16 4) = true) : setMix c s = ok (mixChanged c x (some (mixOf c)) s) := by
  obtain ⟨hon, hkind⟩ := hadds
  simp [setMix_inRange h hfields (.inr hkind), hon, hlive, hlink]

theorem setMix_notLive (h : DestRange c 1 s k x) (hfields : MixFieldsOk c) (hadds : MixAdds c) (hlive : sourceLive s (c.u16 0) (c.u16 4) = false) :
    setMix c s = rej .state 0x24 s := by
  obtain ⟨hon, hkind⟩ := hadds
  rw [setMix_inRange h hfields (.inr hkind), if_pos ⟨hon, hlive⟩]

theorem setMix_breaksPair (h : DestRange c 1 s k x) (hfields : MixFieldsOk c) (hadds : MixAdds c) (hlive : sourceLive s (c.u16 0) (c.u16 4) = true)
    (hlink : linkRule s (c.u16 0) (c.u16 4) = false) : setMix c s = rej .format 0x24 s := by
  obtain ⟨hon, hkind⟩ := hadds
  rw [setMix_inRange h hfields (.inr hkind), if_neg (fun hdead => Bool.eq_false_iff.mp hdead.2 hlive), if_pos ⟨hon, hlink⟩]

end

/-! ### SET_CHANNEL_OPTIONS (R280) -/

/-- A channel in use would be linked or parted. -/
def RelinksUsed (linked inUse : Nat → Bool) (link : Bool) (l : List Nat) : Prop := ∃ d ∈ l, linked d ≠ link ∧ inUse d = true

theorem relinksUsed_iff {linked inUse : Nat → Bool} {link : Bool} {l : List Nat} :
    (l.any fun d => linked d ≠ link ∧ inUse d = true) = true ↔ RelinksUsed linked inUse link l := by
  simp only [List.any_eq_true, decide_eq_true_eq, RelinksUsed]

theorem not_relinksUsed_iff {linked inUse : Nat → Bool} {link : Bool} {l : List Nat} :
    ¬RelinksUsed linked inUse link l ↔ ∀ d ∈ l, linked d = link ∨ inUse d = false := by
  simp only [RelinksUsed, not_exists, not_and_or, not_not, Bool.not_eq_true, imp_iff_not_or]

section
variable {c : Cmd} {s : State} {k : Nat} {x : StreamObj}

/-- The record names whole pairs of its stream's channels. -/
def PairsWhole (c : Cmd) (x : StreamObj) : Prop := posIn x (c.u16 0) % 2 = 0 ∧ c.u8 2 % 2 = 0

theorem PairsWhole.not_odd (h : PairsWhole c x) : ¬(posIn x (c.u16 0) % 2 = 1 ∨ c.u8 2 % 2 = 1) := by
  obtain ⟨hpos, hcount⟩ := h
  omega

/-- A destination channel in use would be linked or parted. -/
abbrev RelinksDest (c : Cmd) (s : State) : Prop :=
  RelinksUsed (fun d => (s.chanObj d).linked) (destInUse s) (bitOf (c.u8 3) 3) (span (c.u16 0) (c.u8 2))

/-- A source channel in use would be linked or parted. -/
abbrev RelinksSource (c : Cmd) (s : State) : Prop :=
  RelinksUsed (fun h => (tget {} s.obj.srcLinks h : SrcLinkObj).linked) (srcInUse s) (bitOf (c.u8 3) 3) (span (c.u16 0) (c.u8 2))

theorem setChannelOptions_dest (hdest : optionsDest c s = true) (h : DestRange c (c.u8 2) s k x) (hfade : bitOf (c.u8 3) 4 = true → c.u16 4 ≤ 192) :
    setChannelOptions c s =
      if bitOf (c.u8 3) 2 = true ∧ (posIn x (c.u16 0) % 2 = 1 ∨ c.u8 2 % 2 = 1) then rej .range 0x20 s
      else if bitOf (c.u8 3) 2 = true ∧
        ((span (c.u16 0) (c.u8 2)).any fun d => (s.chanObj d).linked ≠ bitOf (c.u8 3) 3 ∧ destInUse s d = true) = true then rej .state 0x20 s
      else ok (changeChans x (c.u16 0) (c.u8 2) (optionSetting c) s) := by
  have hown : firstBad [(!bitOf (c.u8 3) 4 || decide (c.u16 4 ≤ 192), 0x24)] = none := by
    simpa [firstBad, imp_iff_not_or] using hfade
  rw [setChannelOptions, if_pos hdest]
  exact onRange_body h hown

theorem setChannelOptions_destSets (hdest : optionsDest c s = true) (h : DestRange c (c.u8 2) s k x)
    (hfade : bitOf (c.u8 3) 4 = true → c.u16 4 ≤ 192) (hlink : bitOf (c.u8 3) 2 = true → PairsWhole c x ∧ ¬RelinksDest c s) :
    setChannelOptions c s = ok (changeChans x (c.u16 0) (c.u8 2) (optionSetting c) s) := by
  rw [setChannelOptions_dest hdest h hfade, if_neg (fun hodd => (hlink hodd.1).1.not_odd hodd.2),
    if_neg (fun hused => (hlink hused.1).2 (relinksUsed_iff.mp hused.2))]

theorem setChannelOptions_destUsed (hdest : optionsDest c s = true) (h : DestRange c (c.u8 2) s k x)
    (hfade : bitOf (c.u8 3) 4 = true → c.u16 4 ≤ 192) (hlink : bitOf (c.u8 3) 2 = true) (hwhole : PairsWhole c x) (hused : RelinksDest c s) :
    setChannelOptions c s = rej .state 0x20 s := by
  rw [setChannelOptions_dest hdest h hfade, if_neg (fun hodd => hwhole.not_odd hodd.2), if_pos ⟨hlink, relinksUsed_iff.mpr hused⟩]

/-- The record names source channels of the input stream `x`, with the link as their one option. -/
def SourceRange (c : Cmd) (s : State) (k : Nat) (x : StreamObj) : Prop :=
  0x4000 ≤ c.u16 0 ∧ c.u16 0 + c.u8 2 ≤ 0x10000 ∧ 1 ≤ c.u8 2 ∧ c.u8 2 ≤ 64 ∧ (c.checkGen = true → c.u8 2 = 1) ∧ bitOf (c.u8 3) 0 = false ∧
    bitOf (c.u8 3) 4 = false ∧ rangeStream s 0 (c.u16 0) (c.u8 2) = some (k, x)

theorem setChannelOptions_source (hsource : optionsDest c s = false) (h : SourceRange c s k x) :
    setChannelOptions c s =
      if bitOf (c.u8 3) 2 = false then ok s
      else if posIn x (c.u16 0) % 2 = 1 ∨ c.u8 2 % 2 = 1 then rej .range 0x20 s
      else if ((span (c.u16 0) (c.u8 2)).any fun h =>
        (tget {} s.obj.srcLinks h : SrcLinkObj).linked ≠ bitOf (c.u8 3) 3 ∧ srcInUse s h = true) = true then rej .state 0x20 s
      else ok ((span (c.u16 0) (c.u8 2)).foldl (linkSources (bitOf (c.u8 3) 3)) s) := by
  obtain ⟨hfirst, hlast, hlow, hhigh, hone, hbroken, hfade, hstream⟩ := h
  rw [setChannelOptions, if_neg (Bool.eq_false_iff.mp hsource)]
  unfold srcOptions
  dsimp only
  rw [firstBad_eq_none_iff.mpr (by simp [hfirst, hlast, hlow, hhigh, hbroken, hfade, oneChecked_iff.mpr hone]), hstream]

theorem setChannelOptions_sourceSame (hsource : optionsDest c s = false) (h : SourceRange c s k x) (hno : bitOf (c.u8 3) 2 = false) :
    setChannelOptions c s = ok s := by
  rw [setChannelOptions_source hsource h, if_pos hno]

theorem setChannelOptions_sourceLinks (hsource : optionsDest c s = false) (h : SourceRange c s k x) (hlink : bitOf (c.u8 3) 2 = true)
    (hwhole : PairsWhole c x) (hfree : ¬RelinksSource c s) :
    setChannelOptions c s = ok ((span (c.u16 0) (c.u8 2)).foldl (linkSources (bitOf (c.u8 3) 3)) s) := by
  rw [setChannelOptions_source hsource h, if_neg (fun hno => Bool.eq_false_iff.mp hno hlink), if_neg hwhole.not_odd,
    if_neg (mt relinksUsed_iff.mp hfree)]

end

/-! ### The statement -/

/-- Settles O31: a measurement's setting by its fields, by the stream or channels that it is for, and by whether it is the one in force; a channel's by
the range that it names and then by the command's own checks. -/
theorem measurementAndAudioSettings : Obligations.MeasurementAndAudioSettings := by
  refine ⟨?measurement, ?audio⟩
  case measurement =>
    intro det group fields stands suits old listed held
    exact ⟨carries_of_effect fun c s ⟨hfields, hstands, hsuits, hnew⟩ => (setDetectors_suits hfields hstands hsuits).trans (if_neg hnew),
      carries_of_effect fun c s ⟨hfields, hstands, hsuits, hsame⟩ => (setDetectors_suits hfields hstands hsuits).trans (if_pos hsame),
      carries_of_effect fun c s ⟨hfields, hgone⟩ => setDetectors_gone hfields hgone,
      carries_of_effect fun c s ⟨hfields, hstands, hunsuited⟩ => setDetectors_unsuited hfields hstands hunsuited,
      carries_of_effect fun c s ⟨hlisted, hheld, hnew⟩ => setLoudnessGroup_changes hlisted hheld hnew,
      carries_of_effect fun c s ⟨hlisted, hheld, hsame, hrestart⟩ => setLoudnessGroup_restarts hlisted hheld hsame hrestart,
      carries_of_effect fun c s ⟨hlisted, hheld, hsame, hgoesOn⟩ => setLoudnessGroup_same hlisted hheld hsame hgoesOn,
      carries_of_effect fun c s ⟨hlisted, hunheld⟩ => setLoudnessGroup_unheld hlisted hunheld⟩
  case audio =>
    intro range srcRange whole named mixFields adds
    exact ⟨fun k x => carries_of_effect fun c s ⟨hrange, hgain⟩ => setChannelGain_sets hrange hgain,
      fun k x => carries_of_effect fun c s ⟨hrange, hgain⟩ => setChannelGain_outOfRange hrange hgain,
      fun k x => carries_of_effect fun c s ⟨hrange, hshort⟩ => setChannelDelay_short hrange hshort,
      fun k x => carries_of_effect fun c s ⟨hrange, hlong, hdelay, hfits⟩ => setChannelDelay_long hrange hlong hdelay hfits,
      fun k x => carries_of_effect fun c s ⟨hrange, hlong, hdelay, hfull⟩ => setChannelDelay_full hrange hlong hdelay hfull,
      fun k x => carries_of_effect fun c s ⟨hrange, hdelay⟩ => setChannelDelay_outOfRange hrange hdelay,
      fun k x => carries_of_effect fun c s ⟨hrange, hfields, hadds, hlive, hlink⟩ => setMix_adds hrange hfields hadds hlive hlink,
      fun k x => carries_of_effect fun c s ⟨hrange, hfields, hoff⟩ => setMix_takesAway hrange hfields hoff,
      fun k x => carries_of_effect fun c s ⟨hrange, hfields, hadds, hlive⟩ => setMix_notLive hrange hfields hadds hlive,
      fun k x => carries_of_effect fun c s ⟨hrange, hfields, hadds, hlive, hlink⟩ => setMix_breaksPair hrange hfields hadds hlive hlink,
      fun k x => carries_of_effect fun c s ⟨hdest, hrange, hfade, hlink⟩ =>
        setChannelOptions_destSets hdest hrange hfade fun hon => (hlink hon).imp_right not_relinksUsed_iff.mpr,
      fun k x => carries_of_effect fun c s ⟨hdest, hrange, hfade, hlink, hwhole, hused⟩ =>
        setChannelOptions_destUsed hdest hrange hfade hlink hwhole hused,
      fun k x => carries_of_effect fun c s ⟨hsource, hrange, hlink, hwhole, hfree⟩ =>
        setChannelOptions_sourceLinks hsource hrange hlink hwhole (not_relinksUsed_iff.mpr hfree),
      fun k x => carries_of_effect fun c s ⟨hsource, hrange, hno⟩ => setChannelOptions_sourceSame hsource hrange hno⟩

end Sys2Proof.Proofs

/-! PROOFS.  SET_HEAD, SET_LAYER, SET_COEFFICIENTS and SET_LUT (spec/10_pewter_composer.md, R288, R314 to R317; log entries 70, 71 and 74): what every
write to a head's pending copy checks, then the fields of each command. -/

namespace Sys2Proof.Proofs
open Sys2Proof Sys2Proof.Machine

/-! ### Writes to the pending copy (R288) -/

section
variable {c : Cmd} {s : State} {range : List (Bool × Nat)} {rest : List (Bool × Status × Nat)} {cfg : HeadCfg} {o : Nat}

/-- The record names a head whose pending copy no other session owns. -/
def HeadFree (c : Cmd) (s : State) : Prop := c.u8 0 < 32 ∧ ownedByOther c s = none

/-- A record in range for a free head is judged by the state and format checks. -/
theorem pendWrite_free (h : HeadFree c s) (hrange : firstBad range = none) :
    pendWrite c range rest cfg s = ((rest.find? fun x => !x.1).map fun x => rej x.2.1 x.2.2 s).getD (ok (writePend c cfg s)) := by
  obtain ⟨hhead, hfree⟩ := h
  simp only [pendWrite, firstBad, hhead, decide_true, if_true, hrange, hfree]
  cases rest.find? fun x => !x.1 <;> rfl

/-- A command without state and format checks writes at once. -/
theorem pendWrite_writes (h : HeadFree c s) (hrange : firstBad range = none) : pendWrite c range [] cfg s = ok (writePend c cfg s) :=
  pendWrite_free h hrange

theorem pendWrite_owned (hhead : c.u8 0 < 32) (hrange : firstBad range = none) (howned : ownedByOther c s = some o) :
    pendWrite c range rest cfg s = rej .busy o s := by
  simp only [pendWrite, firstBad, hhead, decide_true, if_true, hrange, howned]

/-- Checks in front that pass, with those behind that pass, find nothing. -/
theorem firstBad_append_none {l r : List (Bool × Nat)} (hl : firstBad l = none) (hr : firstBad r = none) : firstBad (l ++ r) = none :=
  (firstBad_append hl).trans hr

end

/-! ### SET_HEAD (R314, R423; log entries 70 and 71) -/

section
variable {c : Cmd} {s : State}

/-- The fields of a SET_HEAD are in range. -/
def HeadFieldsOk (c : Cmd) : Prop := (c.u8 1 < 8 ∨ c.u8 1 = 255) ∧ c.u8 2 ≤ 1 ∧ firstBad (matrixRange c 0x10) = none

/-- The head failed no start check, or the record is one that the helm admitted (R423). -/
def HeadInUse (c : Cmd) (s : State) : Prop := replaying s = true ∨ (s.head (c.u8 0)).retired = false

/-- The format suits the rate of the plane named (R285). -/
abbrev HeadFormatSuits (c : Cmd) (s : State) : Prop := headFormatOk (s.rate (c.u8 1)) (decide (c.u8 2 = 1)) (c.u16 4) = true

/-- The pending copy as a SET_HEAD record leaves it. -/
def headSetting (c : Cmd) (s : State) : HeadCfg :=
  { pendingCfg s (c.u8 0) with headSet := c.bytes 0 64, plane := if c.u8 1 = 255 then none else some (c.u8 1), split := decide (c.u8 2 = 1),
                               format := c.u16 4, background := c.u32 8 % 2 ^ 30, outMatrix := c.bytes 0x10 32 }

theorem not_headInUse_iff : ¬HeadInUse c s ↔ replaying s = false ∧ (s.head (c.u8 0)).retired = true := by
  simp only [HeadInUse, not_or, Bool.not_eq_true, Bool.not_eq_false]

/-- The checks of a SET_HEAD's fields pass. -/
theorem headFields_pass (h : HeadFieldsOk c) :
    firstBad ([(decide (c.u8 1 < 8 ∨ c.u8 1 = 255), 0x21), (decide (c.u8 2 ≤ 1), 0x22)] ++ matrixRange c 0x10) = none := by
  obtain ⟨hplane, hsplit, hmatrix⟩ := h
  exact firstBad_append_none (firstBad_eq_none_iff.mpr (by simp [hplane, hsplit])) hmatrix

theorem setHead_retired (h : HeadFree c s) (hfields : HeadFieldsOk c) (hretired : ¬HeadInUse c s) : setHead c s = rej .state 0xFFFF s := by
  obtain ⟨hlive, hretired⟩ := not_headInUse_iff.mp hretired
  refine (pendWrite_free h (headFields_pass hfields)).trans ?_
  simp [hlive, hretired]

/-- A head in use is judged by its plane and then by its format. -/
theorem setHead_inUse (h : HeadFree c s) (hfields : HeadFieldsOk c) (huse : HeadInUse c s) :
    setHead c s =
      if c.u8 1 ≠ 255 ∧ s.rate (c.u8 1) = none then rej .state 0x21 s
      else if c.u8 1 ≠ 255 ∧ ¬HeadFormatSuits c s then rej .format 0x24 s
      else ok (writePend c (headSetting c s) s) := by
  have hinUse : (replaying s || !(s.head (c.u8 0)).retired) = true := by simpa [HeadInUse] using huse
  refine (pendWrite_free h (headFields_pass hfields)).trans ?_
  rw [List.find?_cons_of_neg (by simp [hinUse])]
  by_cases hplane : c.u8 1 = 255
  · simp [hplane, headSetting]
  · by_cases hrate : s.rate (c.u8 1) = none
    · simp [hplane, hrate]
    · have henabled : (s.rate (c.u8 1)).isSome = true := Option.isSome_iff_ne_none.mpr hrate
      by_cases hsuits : HeadFormatSuits c s
      · simp [hplane, hrate, henabled, hsuits, headSetting]
      · simp [hplane, hrate, henabled, Bool.eq_false_iff.mpr hsuits]

theorem setHead_writes (h : HeadFree c s) (hfields : HeadFieldsOk c) (huse : HeadInUse c s)
    (hsuits : c.u8 1 = 255 ∨ ((s.rate (c.u8 1)).isSome = true ∧ HeadFormatSuits c s)) : setHead c s = ok (writePend c (headSetting c s) s) := by
  rw [setHead_inUse h hfields huse]
  rcases hsuits with hnoPlane | ⟨henabled, hformat⟩
  · rw [if_neg fun hoff => hoff.1 hnoPlane, if_neg fun hunsuited => hunsuited.1 hnoPlane]
  · rw [if_neg fun hoff => Option.isSome_iff_ne_none.mp henabled hoff.2, if_neg fun hunsuited => hunsuited.2 hformat]

theorem setHead_disabledPlane (h : HeadFree c s) (hfields : HeadFieldsOk c) (huse : HeadInUse c s) (hplane : c.u8 1 < 8)
    (hnone : s.rate (c.u8 1) = none) : setHead c s = rej .state 0x21 s := by
  rw [setHead_inUse h hfields huse, if_pos ⟨by omega, hnone⟩]

theorem setHead_unsuited (h : HeadFree c s) (hfields : HeadFieldsOk c) (huse : HeadInUse c s) (hplane : c.u8 1 < 8)
    (henabled : (s.rate (c.u8 1)).isSome = true) (hunsuited : ¬HeadFormatSuits c s) : setHead c s = rej .format 0x24 s := by
  rw [setHead_inUse h hfields huse, if_neg fun hoff => Option.isSome_iff_ne_none.mp henabled hoff.2, if_pos ⟨by omega, hunsuited⟩]

end

/-! ### SET_LAYER, SET_COEFFICIENTS and SET_LUT (R315 to R317; log entries 70 and 74) -/

section
variable {c : Cmd} {s : State}

/-- The fields of a SET_LAYER are in range. -/
def LayerFieldsOk (c : Cmd) (s : State) : Prop :=
  c.u8 1 < 128 ∧ c.u8 2 ≤ 2 ∧ (c.u8 2 = 2 → c.u8 3 < 4) ∧ c.u16 6 ≤ 1023 ∧
    (c.u8 2 = 0 ∨ rectOk (pendingCfg s (c.u8 0)) (c.bytes 0 64) = true) ∧ c.u8 0x18 < 16 ∧ c.u8 0x19 < 4 ∧ c.u8 0x1A ≤ 2 ∧
    (c.u8 2 = 1 → firstBad (matrixRange c 0x20) = none)

/-- The pending copy as a SET_LAYER record leaves it. -/
def layerSetting (c : Cmd) (s : State) : HeadCfg :=
  { pendingCfg s (c.u8 0) with layers := tset [] (pendingCfg s (c.u8 0)).layers (c.u8 1) (c.bytes 0 64) }

theorem setLayer_writes (h : HeadFree c s) (hfields : LayerFieldsOk c s) : setLayer c s = ok (writePend c (layerSetting c s) s) := by
  obtain ⟨hslot, hkind, hplane, hopacity, hrect, hcoefs, hlut, hfill, hmatrix⟩ := hfields
  refine pendWrite_writes h (firstBad_append_none (firstBad_eq_none_iff.mpr ?fields) ?matrix)
  case fields => simpa [hslot, hkind, hopacity, hcoefs, hlut, hfill, ← imp_iff_not_or] using ⟨hplane, hrect⟩
  case matrix =>
    split
    · exact hmatrix ‹_›
    · rfl

/-- The coefficients of a SET_COEFFICIENTS record, phase by phase. -/
def recordedBank (c : Cmd) : List Int := (List.range 64).flatMap fun p => (List.range 8).map (coefAt c p)

/-- The pending copy as a SET_COEFFICIENTS record leaves it. -/
def bankSetting (c : Cmd) (s : State) : HeadCfg :=
  { pendingCfg s (c.u8 0) with banks := tset [] (pendingCfg s (c.u8 0)).banks (c.u8 1 * 2 + c.u8 2) (recordedBank c) }

theorem setCoefficients_writes (h : HeadFree c s) (hbank : c.u8 1 < 16) (hset : c.u8 2 ≤ 1)
    (hphases : firstBad ((List.range 64).flatMap (phaseChecks c)) = none) :
    setCoefficients c s = ok (writePend c (bankSetting c s) s) :=
  pendWrite_writes h (firstBad_append_none (firstBad_eq_none_iff.mpr (by simp [hbank, hset])) hphases)

/-- The values that a SET_LUT record writes. -/
def lutValues (c : Cmd) : List Nat := (List.range (c.u16 6)).map fun i => c.u16 (0x10 + 2 * i)

/-- The fields of a SET_LUT are in range; those of table 4, the post-blend table, have ten bits. -/
def LutFieldsOk (c : Cmd) : Prop :=
  c.u8 1 ≤ 4 ∧ 1 ≤ c.u16 6 ∧ c.u16 6 ≤ 2040 ∧ c.u16 4 + c.u16 6 ≤ (if c.u8 1 = 4 then 4097 else 1024) ∧
    (c.u8 1 = 4 → ∀ v ∈ lutValues c, v ≤ 1023)

/-- Values of ten bits pass the checks of the post-blend table. -/
theorem lutValues_pass {l : List Nat} (h : ∀ v ∈ l, v ≤ 1023) : firstBad (l.mapIdx fun i v => (decide (v ≤ 1023), 0x30 + 2 * i)) = none := by
  refine firstBad_eq_none_iff.mpr fun e he => ?_
  obtain ⟨i, hi, rfl⟩ := List.mem_mapIdx.mp he
  exact decide_eq_true (h _ (List.getElem_mem hi))

/-- The record's table, with its values written over what the pending copy holds. -/
def rewrittenLut (c : Cmd) (s : State) : List (Nat × Nat) :=
  writeLut (c.u8 1) (tget [] (pendingCfg s (c.u8 0)).luts (c.u8 1)) (c.u16 4) (lutValues c)

/-- The pending copy as a SET_LUT record leaves it. -/
def lutSetting (c : Cmd) (s : State) : HeadCfg :=
  { pendingCfg s (c.u8 0) with luts := tset [] (pendingCfg s (c.u8 0)).luts (c.u8 1) (rewrittenLut c s) }

theorem setLut_writes (h : HeadFree c s) (hfields : LutFieldsOk c) : setLut c s = ok (writePend c (lutSetting c s) s) := by
  obtain ⟨hlut, hlow, hhigh, hfits, hvalues⟩ := hfields
  refine pendWrite_writes h (firstBad_append_none (firstBad_eq_none_iff.mpr (by simp [hlut, hlow, hhigh, hfits])) ?values)
  case values =>
    split
    · exact lutValues_pass (hvalues ‹_›)
    · rfl

end

end Sys2Proof.Proofs

/-! PROOFS.  COMMIT_HEAD and SET_ASSAY (spec/10_pewter_composer.md, R289, R307, R318, R321; log entries 70 and 75): a commit discarded, empty, refused,
applied at once or queued, and a region's setting; with it the statement about a head's pending copy, its commit and the Assay. -/

namespace Sys2Proof.Proofs
open Sys2Proof Sys2Proof.Machine

/-! ### COMMIT_HEAD (R289, R307, R321; log entry 70) -/

section
variable {c : Cmd} {s : State}

/-- The graphics planes whose buffers the record exchanges. -/
abbrev commitFlips (c : Cmd) : Nat := fieldOf (c.u8 1) 1 4

/-- A flip of the head still waits for its pages (R307). -/
abbrev flipWaits (c : Cmd) (s : State) : Bool := ((s.head (c.u8 0)).commit.map HeadCommit.waiting).getD false

/-- The record commits: to a free head, not discarding, with a pending copy or a flip. -/
def CommitActs (c : Cmd) (s : State) : Prop :=
  HeadFree c s ∧ bitOf (c.u8 1) 0 = false ∧ ((s.head (c.u8 0)).pend.isSome = true ∨ commitFlips c ≠ 0)

/-- A commit that has not applied is superseded, the head ungated. -/
def commitSuperseded (c : Cmd) (s : State) : State :=
  match (s.head (c.u8 0)).commit with
  | some j => finish j.job .superseded (byCommand c) (ungate (c.u8 0) s)
  | none => ungate (c.u8 0) s

theorem commitHead_discardsFlip (hhead : c.u8 0 < 32) (hdiscard : bitOf (c.u8 1) 0 = true) (hflips : commitFlips c ≠ 0) :
    commitHead c s = rej .range 0x21 s := by
  unfold commitHead
  dsimp only
  rw [if_neg (not_le.mpr hhead), if_pos ⟨hdiscard, hflips⟩]

theorem commitHead_discards (h : HeadFree c s) (hdiscard : bitOf (c.u8 1) 0 = true) (hflips : commitFlips c = 0) :
    commitHead c s = ok ((ungate (c.u8 0) s).onHead (c.u8 0) fun r => { r with pend := none, owner := 0 }) := by
  obtain ⟨hhead, hfree⟩ := h
  unfold commitHead
  dsimp only
  rw [if_neg (not_le.mpr hhead), if_neg fun hboth => hboth.2 hflips, hfree]
  exact if_pos hdiscard

theorem commitHead_nothing (h : HeadFree c s) (hkeeps : bitOf (c.u8 1) 0 = false) (hpend : (s.head (c.u8 0)).pend = none)
    (hflips : commitFlips c = 0) : commitHead c s = ok (ungate (c.u8 0) s) := by
  obtain ⟨hhead, hfree⟩ := h
  unfold commitHead
  dsimp only
  rw [if_neg (not_le.mpr hhead), if_neg fun hboth => hboth.2 hflips, hfree]
  exact (if_neg (Bool.eq_false_iff.mp hkeeps)).trans (if_pos ⟨Option.isNone_iff_eq_none.mpr hpend, hflips⟩)

/-- A commit that changes the head's shape, applied at once with the flips of the one that it supersedes. -/
def commitReshaped (c : Cmd) (s : State) : State :=
  let flips := Nat.lor (commitFlips c) (((s.head (c.u8 0)).commit.map HeadCommit.flips).getD 0)
  reshapeHead (c.u8 0) { flips := flips, cfg := pendingCfg s (c.u8 0) } (commitSuperseded c s)

/-- The answer to a commit that R289 does not refuse: by a flip that still waits, and then by whether it changes the head's shape. -/
def commitJudged (c : Cmd) (s : State) : Res :=
  if commitFlips c ≠ 0 ∧ flipWaits c s = true then rej .busy 0 s
  else if reshapes (s.headObj (c.u8 0)).cfg (pendingCfg s (c.u8 0)) = true then ok (commitReshaped c s)
  else queued (.commitHead (c.u8 0)) (queueCommit c (c.u8 0) (commitFlips c) (pendingCfg s (c.u8 0)) (ungate (c.u8 0) s))

/-- The answer to a record that commits: orders 1 to 4 of R289 come first. -/
def commitAnswer (c : Cmd) (s : State) : Res :=
  match commitFault s (c.u8 0) (pendingCfg s (c.u8 0)) with
  | some (st, d) => rej st d s
  | none => commitJudged c s

theorem commitHead_acts (h : CommitActs c s) : commitHead c s = commitAnswer c s := by
  obtain ⟨⟨hhead, hfree⟩, hkeeps, hacts⟩ := h
  have hsomething : ¬((s.head (c.u8 0)).pend.isNone = true ∧ commitFlips c = 0) := by
    rintro ⟨hpend, hflips⟩
    simp [Option.isNone_iff_eq_none.mp hpend, hflips] at hacts
  unfold commitHead
  dsimp only
  rw [if_neg (not_le.mpr hhead), if_neg fun hboth => Bool.eq_false_iff.mp hkeeps hboth.1, hfree]
  exact (if_neg (Bool.eq_false_iff.mp hkeeps)).trans (if_neg hsomething)

theorem commitAnswer_faulty {st : Status} {d : Nat} (h : commitFault s (c.u8 0) (pendingCfg s (c.u8 0)) = some (st, d)) :
    commitAnswer c s = rej st d s := by
  simp only [commitAnswer, h]

theorem commitAnswer_faultless (h : commitFault s (c.u8 0) (pendingCfg s (c.u8 0)) = none) : commitAnswer c s = commitJudged c s := by
  simp only [commitAnswer, h]

/-- No flip of the record meets one that waits. -/
theorem flips_free (h : commitFlips c = 0 ∨ flipWaits c s = false) : ¬(commitFlips c ≠ 0 ∧ flipWaits c s = true) := by
  rintro ⟨hflips, hwaits⟩
  exact h.elim hflips (Bool.eq_false_iff.mp · hwaits)

theorem commitJudged_flipWaits (hflips : commitFlips c ≠ 0) (hwaits : flipWaits c s = true) : commitJudged c s = rej .busy 0 s :=
  if_pos ⟨hflips, hwaits⟩

theorem commitJudged_reshapes (hfree : commitFlips c = 0 ∨ flipWaits c s = false)
    (hshape : reshapes (s.headObj (c.u8 0)).cfg (pendingCfg s (c.u8 0)) = true) : commitJudged c s = ok (commitReshaped c s) := by
  rw [commitJudged, if_neg (flips_free hfree), if_pos hshape]

theorem commitJudged_queues (hfree : commitFlips c = 0 ∨ flipWaits c s = false)
    (hshape : reshapes (s.headObj (c.u8 0)).cfg (pendingCfg s (c.u8 0)) = false) :
    commitJudged c s =
      queued (.commitHead (c.u8 0)) (queueCommit c (c.u8 0) (commitFlips c) (pendingCfg s (c.u8 0)) (ungate (c.u8 0) s)) := by
  rw [commitJudged, if_neg (flips_free hfree), if_neg (Bool.eq_false_iff.mp hshape)]

/-- A commit that R289 does not refuse is judged by its flips and what it changes. -/
theorem commitHead_faultless (h : CommitActs c s) (hgood : commitFault s (c.u8 0) (pendingCfg s (c.u8 0)) = none) :
    commitHead c s = commitJudged c s :=
  (commitHead_acts h).trans (commitAnswer_faultless hgood)

end

/-! ### SET_ASSAY (R318; log entry 75) -/

section
variable {c : Cmd} {s : State}

/-- The region's rectangle lies in the raster of the head's active configuration. -/
abbrev AssayInside (c : Cmd) (s : State) : Prop :=
  c.u16 8 + c.u16 0x0C ≤ rasterW (s.headObj (c.u8 0)).cfg ∧ c.u16 0x0A + c.u16 0x0E ≤ rasterH (s.headObj (c.u8 0)).cfg

/-- The record names a region of a head. -/
def AssayNamed (c : Cmd) : Prop := c.u8 0 < 32 ∧ c.u8 1 < 16

/-- The setting that a SET_ASSAY record gives its region. -/
def assaySetting (c : Cmd) (s : State) : AssayObj :=
  { mode := c.u8 2, frames := if c.u8 2 = 1 then c.u16 4 else 0, x := c.u16 8, y := c.u16 0x0A, w := c.u16 0x0C, h := c.u16 0x0E,
    expected := c.u32 0x10, gen := genNext (tget {} (s.headObj (c.u8 0)).assay (c.u8 1) : AssayObj).gen }

/-- A measurement that runs in the region is superseded. -/
def assaySuperseded (c : Cmd) (s : State) : State :=
  match (s.assayRt (c.u8 0) (c.u8 1)).job with
  | some id => finish id .superseded (byCommand c) s
  | none => s

/-- The region's new setting written, to be in force from the head's next frame on, for a measurement if there is one. -/
def assayWritten (c : Cmd) (s : State) (job : Option Nat) : State :=
  (((ungate (c.u8 0) (assaySuperseded c s)).onHeadObj (c.u8 0) fun x => { x with assay := tset {} x.assay (c.u8 1) (assaySetting c s) }).touch 0x0A
    (0x10000 + c.u8 0 * 16 + c.u8 1)).onAssay (c.u8 0) (c.u8 1) fun a =>
      { a with since := some (commitFrame s (s.headObj (c.u8 0)).cfg), job := job }

/-- The checks of a SET_ASSAY in their order, with the fields at fault. -/
def assayChecks (c : Cmd) (s : State) : List (Bool × Nat) :=
  [(decide (c.u8 0 < 32), 0x20), (decide (c.u8 1 < 16), 0x21), (decide (c.u8 2 ≤ 2), 0x22), (decide (c.u8 2 ≠ 1 ∨ 1 ≤ c.u16 4), 0x24),
    (decide (c.u8 2 = 0 ∨ AssayInside c s), 0x28)]

/-- The measurement that a setting of MODE 1 begins. -/
def assayJob (c : Cmd) (s : State) : Option Nat := if c.u8 2 = 1 then some s.mbox.nextJob else none

theorem setAssay_inRange (h : firstBad (assayChecks c s) = none) :
    setAssay c s =
      if c.u8 2 = 1 then queued (.assay (c.u8 0) (c.u8 1)) (assayWritten c s (assayJob c s)) else ok (assayWritten c s (assayJob c s)) := by
  unfold assayChecks at h
  unfold setAssay
  dsimp only
  rw [h]
  rfl

theorem setAssay_sets (h : AssayNamed c) (hmode : c.u8 2 = 0 ∨ (c.u8 2 = 2 ∧ AssayInside c s)) :
    setAssay c s = ok (assayWritten c s none) := by
  obtain ⟨hhead, hregion⟩ := h
  have hnotCounted : c.u8 2 ≠ 1 := by omega
  have hpass : firstBad (assayChecks c s) = none := by
    refine firstBad_eq_none_iff.mpr ?_
    rcases hmode with hoff | ⟨hon, hinside⟩
    · simp [assayChecks, hhead, hregion, hoff]
    · simpa [assayChecks, hhead, hregion, hon] using hinside
  rw [setAssay_inRange hpass, if_neg hnotCounted, assayJob, if_neg hnotCounted]

theorem setAssay_measures (h : AssayNamed c) (hmode : c.u8 2 = 1) (hframes : 1 ≤ c.u16 4) (hinside : AssayInside c s) :
    setAssay c s = queued (.assay (c.u8 0) (c.u8 1)) (assayWritten c s (some s.mbox.nextJob)) := by
  obtain ⟨hhead, hregion⟩ := h
  have hpass : firstBad (assayChecks c s) = none :=
    firstBad_eq_none_iff.mpr (by simpa [assayChecks, hhead, hregion, hmode, hframes] using hinside)
  rw [setAssay_inRange hpass, if_pos hmode, assayJob, if_pos hmode]

theorem setAssay_outside (h : AssayNamed c) (hmode : c.u8 2 = 2 ∨ (c.u8 2 = 1 ∧ 1 ≤ c.u16 4)) (houtside : ¬AssayInside c s) :
    setAssay c s = rej .range 0x28 s := by
  obtain ⟨hhead, hregion⟩ := h
  have hframes : c.u8 2 ≠ 1 ∨ 1 ≤ c.u16 4 := by omega
  have hfails : firstBad (assayChecks c s) = some 0x28 := by
    have hoff : ¬(c.u8 2 = 0 ∨ AssayInside c s) := not_or.mpr ⟨by omega, houtside⟩
    simp only [assayChecks, firstBad, hhead, hregion, hframes, hoff, show c.u8 2 ≤ 2 by omega, decide_true, decide_false, if_true,
      Bool.false_eq_true, if_false]
  unfold assayChecks at hfails
  unfold setAssay
  dsimp only
  rw [hfails]

end

/-! ### The statement -/

/-- Settles O32: a write to the pending copy by the head's owner, its fields and what the head is; a commit by what there is to commit, R289's refusals,
the flip that waits and the head's shape; a region of the Assay by its mode and its rectangle. -/
theorem headCommandsComplete : Obligations.HeadCommandsComplete := by
  refine ⟨?pending, ?commit, ?assay⟩
  case pending =>
    intro mine headFields inUse suits pend lutVals
    exact ⟨carries_of_effect fun c s ⟨hmine, hfields, huse, hsuits⟩ => setHead_writes hmine hfields huse hsuits,
      carries_of_effect fun c s ⟨hmine, hfields, hretired⟩ => setHead_retired hmine hfields hretired,
      carries_of_effect fun c s ⟨hmine, hfields, huse, hplane, hnone⟩ => setHead_disabledPlane hmine hfields huse hplane hnone,
      carries_of_effect fun c s ⟨hmine, hfields, huse, hplane, henabled, hunsuited⟩ => setHead_unsuited hmine hfields huse hplane henabled hunsuited,
      carries_of_effect fun c s ⟨hmine, hfields⟩ => setLayer_writes hmine hfields,
      carries_of_effect fun c s ⟨hmine, hbank, hset, hphases⟩ => setCoefficients_writes hmine hbank hset hphases,
      carries_of_effect fun c s ⟨hmine, hfields⟩ => setLut_writes hmine hfields,
      fun c s o range rest cfg hhead hrange howned => pendWrite_owned hhead hrange howned⟩
  case commit =>
    intro mine flips waits cfg acts past
    exact ⟨carries_of_effect fun c s ⟨hmine, hdiscard, hflips⟩ => commitHead_discards hmine hdiscard hflips,
      carries_of_effect fun c s ⟨hmine, hkeeps, hpend, hflips⟩ => commitHead_nothing hmine hkeeps hpend hflips,
      carries_of_effect fun c s ⟨hacts, hgood, hfree, hshape⟩ => (commitHead_faultless hacts hgood).trans (commitJudged_queues hfree hshape),
      carries_of_effect fun c s ⟨hacts, hgood, hfree, hshape⟩ => (commitHead_faultless hacts hgood).trans (commitJudged_reshapes hfree hshape),
      carries_of_effect fun c s ⟨hacts, hgood, hflips, hwaits⟩ => (commitHead_faultless hacts hgood).trans (commitJudged_flipWaits hflips hwaits),
      fun st d => carries_of_effect fun c s ⟨hacts, hfault⟩ => (commitHead_acts hacts).trans (commitAnswer_faulty hfault),
      carries_of_effect fun c s ⟨hhead, hdiscard, hflips⟩ => commitHead_discardsFlip hhead hdiscard hflips⟩
  case assay =>
    intro cfg region past wrote inside named
    exact ⟨carries_of_effect fun c s ⟨hnamed, hmode⟩ => setAssay_sets hnamed hmode,
      carries_of_effect fun c s ⟨hnamed, hmode, hframes, hinside⟩ => setAssay_measures hnamed hmode hframes hinside,
      carries_of_effect fun c s ⟨hnamed, hmode, houtside⟩ => setAssay_outside hnamed hmode houtside⟩

end Sys2Proof.Proofs

/-! PROOFS.  WRITE_HALLMARK and SET_HALLMARK_REGION (spec/10_pewter_composer.md, R309, R310, R319, R320; log entry 76): the MAC and the COUNTER that come
before everything else, and what an authenticated command then does; with it the statement about Hallmark commands. -/

namespace Sys2Proof.Proofs
open Sys2Proof Sys2Proof.Machine

/-! ### The key, the MAC and the COUNTER (R310; log entry 76) -/

section
variable {c : Cmd} {n : Nat} {s : State} {body : State → Res} {key : List Byte}

/-- The record names a head, and is not applied out of a Tandem record.  That the number of the next job is 0 there, and nowhere else, is how the model
tells the two apart (log entry 76). -/
def HallHosted (c : Cmd) (s : State) : Prop := c.u8 0 < 32 ∧ s.mbox.nextJob ≠ 0

theorem HallHosted.not_replaying (h : HallHosted c s) : ¬replaying s = true :=
  fun hreplays => h.2 (of_decide_eq_true hreplays)

/-- A host's record is judged by the key, its MAC and its COUNTER. -/
theorem hallAuth_keyed (h : HallHosted c s) (hkey : hallKey s = some key) :
    hallAuth c n s body =
      if macOf key (c.bytes 0 n) ≠ c.bytes n 48 then rej .auth (0x20 + n) (raise 0x0A84 3 (c.u8 0) 1 s)
      else if c.u64 0x10 ≤ s.obj.hallCounter then rej .auth 0x30 (raise 0x0A84 3 (c.u8 0) 2 s)
      else body s := by
  unfold hallAuth
  dsimp only
  rw [if_neg (not_le.mpr h.1), if_neg h.not_replaying, hkey]

theorem hallAuth_noKey (h : HallHosted c s) (hkey : hallKey s = none) : hallAuth c n s body = rej .state 0xFFFF s := by
  unfold hallAuth
  dsimp only
  rw [if_neg (not_le.mpr h.1), if_neg h.not_replaying, hkey]

theorem hallAuth_wrongMac (h : HallHosted c s) (hkey : hallKey s = some key) (hmac : macOf key (c.bytes 0 n) ≠ c.bytes n 48) :
    hallAuth c n s body = rej .auth (0x20 + n) (raise 0x0A84 3 (c.u8 0) 1 s) := by
  rw [hallAuth_keyed h hkey, if_pos hmac]

theorem hallAuth_oldCounter (h : HallHosted c s) (hkey : hallKey s = some key) (hmac : macOf key (c.bytes 0 n) = c.bytes n 48)
    (hcounter : c.u64 0x10 ≤ s.obj.hallCounter) : hallAuth c n s body = rej .auth 0x30 (raise 0x0A84 3 (c.u8 0) 2 s) := by
  rw [hallAuth_keyed h hkey, if_neg (not_not.mpr hmac), if_pos hcounter]

/-- The record's first `n` bytes bear a good MAC under the key in force, and its COUNTER is higher than the last one. -/
def HallSigned (c : Cmd) (n : Nat) (s : State) : Prop :=
  c.u8 0 < 32 ∧ s.mbox.nextJob ≠ 0 ∧ (∃ key, hallKey s = some key ∧ macOf key (c.bytes 0 n) = c.bytes n 48) ∧ s.obj.hallCounter < c.u64 0x10

/-- An authenticated record is carried out. -/
theorem hallAuth_signed (h : HallSigned c n s) : hallAuth c n s body = body s := by
  obtain ⟨hhead, hhost, ⟨key, hkey, hmac⟩, hcounter⟩ := h
  rw [hallAuth_keyed ⟨hhead, hhost⟩ hkey, if_neg (not_not.mpr hmac), if_neg (not_le.mpr hcounter)]

end

/-! ### WRITE_HALLMARK (R319; log entry 76) -/

section
variable {c : Cmd} {s : State}

/-- The region of the pending image that a WRITE_HALLMARK names. -/
abbrev hallRegion (c : Cmd) (s : State) : HallReg := tget {} (s.head (c.u8 0)).hallPend (c.u8 2)

/-- The region with the record's pixels, over those that stand or afresh. -/
def hallRewritten (c : Cmd) (s : State) : HallReg :=
  let base := if bitOf (c.u8 1) 1 then [] else (hallRegion c s).pixels
  let values := (List.range (c.u16 8 * c.u16 0x0A)).map fun i => c.u16 (0x18 + 2 * i)
  { hallRegion c s with pixels := writePixels (hallRegion c s).w (c.u16 4) (c.u16 6) (c.u16 8) base 0 values }

/-- The rectangle lies in an enabled region, and the record holds its pixels. -/
def HallFits (c : Cmd) (s : State) : Prop :=
  c.u8 2 < 8 ∧ (hallRegion c s).enable = true ∧ c.u16 8 * c.u16 0x0A ≤ 2000 ∧ c.u16 4 + c.u16 8 ≤ (hallRegion c s).w ∧
    c.u16 6 + c.u16 0x0A ≤ (hallRegion c s).h

/-- The record writes afresh, or writes a pixel. -/
abbrev HallFresh (c : Cmd) : Prop := bitOf (c.u8 1) 1 = true ∨ 0 < c.u16 8 * c.u16 0x0A

/-- With COMMIT, bit 0 of the flags, the pending image becomes active from the head's frame on. -/
def hallEnding (c : Cmd) (flags : Nat) (s : State) : State := if bitOf flags 0 = true then hallCommit (c.u8 0) s else s

/-- The record accepted and its pixels written into the pending image; a region cleared or written counts as newly written. -/
def hallWrote (c : Cmd) (s : State) : State :=
  (hallAccept c s).onHead (c.u8 0) fun r =>
    { r with hallPend := tset {} r.hallPend (c.u8 2) (hallRewritten c s),
             hallNew := if HallFresh c then setAdd r.hallNew (c.u8 2) else r.hallNew }

theorem writeHallmark_writes (h : HallSigned c 0xFD0 s) (hfits : HallFits c s) :
    writeHallmark c s = ok (hallEnding c (c.u8 1) (hallWrote c s)) := by
  obtain ⟨hregion, henabled, hcount, hwidth, hheight⟩ := hfits
  have hfresh (l m : List Nat) : (if (bitOf (c.u8 1) 1 || decide (0 < c.u16 8 * c.u16 0x0A)) = true then l else m) = if HallFresh c then l else m :=
    if_congr (by rw [Bool.or_eq_true, decide_eq_true_eq]) rfl rfl
  refine (hallAuth_signed h).trans ?_
  dsimp only
  rw [firstBad_eq_none_iff.mpr (by simp [hregion, henabled, hcount, hwidth, hheight])]
  simp only [hfresh]
  rfl

theorem writeHallmark_noRegion (h : HallSigned c 0xFD0 s) (hnone : ¬(c.u8 2 < 8 ∧ (hallRegion c s).enable = true)) :
    writeHallmark c s = rej .range 0x22 s := by
  have hfails : (decide (c.u8 2 < 8) && (hallRegion c s).enable) = false :=
    Bool.eq_false_iff.mpr fun hregion => hnone (by simpa using hregion)
  refine (hallAuth_signed h).trans ?_
  simp only [firstBad, hfails, Bool.false_eq_true, if_false]

end

/-! ### SET_HALLMARK_REGION (R309, R320; log entry 76) -/

section
variable {c : Cmd} {s : State}

/-- The region as a SET_HALLMARK_REGION record places it, its pixels cleared. -/
def hallPlace (c : Cmd) : HallReg := { enable := true, x := c.u16 4, y := c.u16 6, w := c.u16 8, h := c.u16 0x0A }

/-- The region placed may stand where it is put, among the other regions of the pending image. -/
abbrev hallPlaceFits (c : Cmd) (s : State) : Bool :=
  regionFits (s.headObj (c.u8 0)).cfg (s.head (c.u8 0)).hallPend (c.u8 1) (hallPlace c)

/-- The record accepted and the region `r` put into the pending image; a region redefined counts as newly written. -/
def hallPlaced (c : Cmd) (r : HallReg) (s : State) : State :=
  (hallAccept c s).onHead (c.u8 0) fun x => { x with hallPend := tset {} x.hallPend (c.u8 1) r, hallNew := setAdd x.hallNew (c.u8 1) }

theorem setHallmarkRegion_takesAway (h : HallSigned c 0x20 s) (hregion : c.u8 1 < 8) (hoff : c.u8 2 = 0) :
    setHallmarkRegion c s = ok (hallEnding c (c.u8 3) (hallPlaced c {} s)) := by
  refine (hallAuth_signed h).trans ?_
  dsimp only
  rw [firstBad_eq_none_iff.mpr (by simp [hregion, hoff])]
  simp only [hoff]
  rfl

theorem setHallmarkRegion_places (h : HallSigned c 0x20 s) (hregion : c.u8 1 < 8) (hon : c.u8 2 = 1) (hfits : hallPlaceFits c s = true) :
    setHallmarkRegion c s = ok (hallEnding c (c.u8 3) (hallPlaced c (hallPlace c) s)) := by
  refine (hallAuth_signed h).trans ?_
  unfold hallPlaceFits hallPlace at hfits
  simp only [firstBad, hregion, hon, hfits, le_refl, decide_true, Bool.or_true, if_true]
  rfl

theorem setHallmarkRegion_refused (h : HallSigned c 0x20 s) (hregion : c.u8 1 < 8) (hon : c.u8 2 = 1) (hfits : hallPlaceFits c s = false) :
    setHallmarkRegion c s = rej .range 0x24 s := by
  refine (hallAuth_signed h).trans ?_
  unfold hallPlaceFits hallPlace at hfits
  simp only [firstBad, hregion, hon, hfits, le_refl, decide_true, Bool.not_true, Bool.or_false, Bool.false_eq_true, if_true, if_false]

end

/-! ### The statement -/

/-- Settles O33: an authenticated record is its command's body, which its region's checks decide; any other is refused by the first of key, MAC and
COUNTER that fails. -/
theorem hallmarkCommandsAuthenticated : Obligations.HallmarkCommandsAuthenticated := by
  exact ⟨carries_of_effect fun c s ⟨hsigned, hfits⟩ => writeHallmark_writes hsigned hfits,
    carries_of_effect fun c s ⟨hsigned, hnone⟩ => writeHallmark_noRegion hsigned hnone,
    carries_of_effect fun c s ⟨hsigned, hregion, hoff⟩ => setHallmarkRegion_takesAway hsigned hregion hoff,
    carries_of_effect fun c s ⟨hsigned, hregion, hon, hfits⟩ => setHallmarkRegion_places hsigned hregion hon hfits,
    carries_of_effect fun c s ⟨hsigned, hregion, hon, hfits⟩ => setHallmarkRegion_refused hsigned hregion hon hfits,
    fun c n s body key hhead hhost hkey hmac => hallAuth_wrongMac ⟨hhead, hhost⟩ hkey hmac,
    fun c n s body key hhead hhost hkey hmac hcounter => hallAuth_oldCounter ⟨hhead, hhost⟩ hkey hmac hcounter,
    fun c n s body hhead hhost hkey => hallAuth_noKey ⟨hhead, hhost⟩ hkey⟩

end Sys2Proof.Proofs

/-! PROOFS.  Line coding (spec/11_towpath.md, R327, R329, R331): the receiver's inverse of precoding and of scrambling, the fields of a comma tail, and
the statement about them. -/

namespace Sys2Proof.Proofs
open Sys2Proof Sys2Proof.Machine

/-! ### Precoding and scrambling (R327, R331) -/

/-- The receiver adds, modulo 4, the value before that the transmitter took away; both go on from the value sent. -/
theorem unprecode_precode {p : Nat} {gs : List Nat} (hp : p < 4) (hgs : ∀ g ∈ gs, g < 4) : unprecode p (precode p gs) = gs := by
  induction gs generalizing p with
  | nil => rfl
  | cons g gs ih =>
    obtain ⟨hg, hrest⟩ := List.forall_mem_cons.mp hgs
    have hback : ((g + 4 - p) % 4 + p) % 4 = g := by omega
    simp only [precode, unprecode, hback, ih (Nat.mod_lt (g + 4 - p) (by decide)) hrest]

/-- The generator's outputs do not depend on the bits, so that a second pass takes away what the first one added. -/
theorem scramble_scramble (r : Nat) (bs : List Bool) : scramble r (scramble r bs) = bs := by
  induction bs generalizing r with
  | nil => rfl
  | cons b bs ih =>
    have hback : ((b != (prbsStep r).1) != (prbsStep r).1) = b := by rw [Bool.bne_assoc, bne_self_eq_false, Bool.bne_false]
    simp only [scramble, hback, ih]

/-! ### The fields of a comma tail (R329) -/

theorem kindCode_lt (k : KindSt) : k.code < 3 := by
  cases k <;> decide

@[simp] theorem commaTail_seq (seq kind : Nat) : commaTail seq kind % 65536 = seq % 65536 := by
  simp only [commaTail]; omega

section
variable {seq kind : Nat}

/-- The third byte holds KIND twice, in bits 1:0 and 3:2. -/
theorem commaTail_kinds (h : kind < 3) : commaTail seq kind / 65536 % 256 = kind + 4 * kind := by
  simp only [commaTail]; omega

/-- The second copy of KIND, as a part of the third byte. -/
theorem secondKind_eq (tail : Nat) : tail / 2 ^ 18 % 4 = tail / 65536 % 256 / 4 % 4 := by
  omega

/-- The fourth byte is the complement of the sum modulo 2 of the three before it. -/
theorem commaTail_check (h : kind < 3) :
    commaTail seq kind / 2 ^ 24 % 256 = 255 - Nat.xor (Nat.xor (seq % 65536 % 256) (seq % 65536 / 256)) (kind + 4 * kind) := by
  rw [commaTail, Nat.add_mul_div_left _ _ (by decide), Nat.div_eq_of_lt (by omega), Nat.zero_add, Nat.mod_eq_of_lt (by omega)]

theorem tailCheck_commaTail (h : kind < 3) : tailCheck (commaTail seq kind) = true := by
  have hlow : commaTail seq kind % 256 = seq % 65536 % 256 := by rw [← commaTail_seq seq kind]; omega
  have hhigh : commaTail seq kind / 256 % 256 = seq % 65536 / 256 := by rw [← commaTail_seq seq kind]; omega
  rw [tailCheck, commaTail_check h, commaTail_kinds h, hlow, hhigh, decide_eq_true rfl]

end

/-- A comma received without errors is accepted, and shows what was sent. -/
theorem commaOf_commaTail (seq : Nat) (k : KindSt) : commaOf (commaTail seq k.code) 0 = some (seq % 65536, k) := by
  have hcode := kindCode_lt k
  have hkinds := commaTail_kinds (seq := seq) hcode
  have hfirst : commaOf.t2 (commaTail seq k.code) = k.code := by rw [commaOf.t2]; omega
  have hcopy : (k.code + 4 * k.code) / 4 = k.code := by omega
  have hsecond : commaTail seq k.code / 2 ^ 18 % 4 = k.code := by rw [secondKind_eq, hkinds, hcopy, Nat.mod_eq_of_lt (by omega)]
  have hkind : (if k.code = 0 then .data else if k.code = 1 then .calibration else .training) = k := by cases k <;> rfl
  simp only [commaOf, tailCheck_commaTail hcode, hfirst, hsecond, hkind, commaTail_seq]
  exact if_neg (by simpa using hcode.ne)

/-- Settles O54: precoding and scrambling are undone value by value, and each field of a comma tail reads back. -/
theorem lineCodingRoundTrips : Obligations.LineCodingRoundTrips :=
  ⟨fun _ _ hp hgs => unprecode_precode hp hgs, scramble_scramble, commaOf_commaTail, fun _ _ hkind => tailCheck_commaTail hkind⟩

end Sys2Proof.Proofs

/-! PROOFS.  LANE_CONTROL and SET_LANE_POLICY (spec/11_towpath.md, R361, R362): what each does under the conditions of its clauses, and the statement
about them. -/

namespace Sys2Proof.Proofs
open Sys2Proof Sys2Proof.Machine

section
variable {c : Cmd} {s : State}

/-! ### The lanes that a record names -/

/-- LANE names a lane, or all of them; a record that checks a generation names one. -/
def LaneNamed (c : Cmd) : Prop := c.u8 0 < 128 ∨ (c.u8 0 = 0xFF ∧ c.checkGen = false)

theorem laneNamed_check (h : LaneNamed c) : (decide (c.u8 0 < 128) || (decide (c.u8 0 = 0xFF) && !c.checkGen)) = true := by
  simpa [LaneNamed] using h

theorem namedLanes_all : namedLanes 0xFF = List.range 128 := if_pos rfl

theorem namedLanes_one {n : Nat} (h : n < 128) : namedLanes n = [n] := if_neg (by omega)

/-! ### LANE_CONTROL (R361; log entry 80) -/

/-- The lanes that an action is carried out on: RETRAIN of all of them passes over those that are OFF or in TEST. -/
def actedLanes (c : Cmd) (s : State) : List Nat :=
  if c.u8 0 = 0xFF ∧ c.u8 1 = 2 then (namedLanes (c.u8 0)).filter fun l => !offOrTest s l else namedLanes (c.u8 0)

/-- FORCE is set, or no lane that the action is carried out on is in use. -/
def LaneForced (c : Cmd) (s : State) : Prop := bitOf (c.u8 2) 0 = true ∨ ∀ l ∈ actedLanes c s, laneInUse s l = false

/-- The action interrupts a lane: DISABLE, TEST, TEST_LOOPBACK, or a RETRAIN that is not of one lane that is OFF or in TEST. -/
def LaneInterrupts (c : Cmd) (s : State) : Prop :=
  c.u8 1 = 1 ∨ c.u8 1 = 5 ∨ c.u8 1 = 6 ∨ (c.u8 1 = 2 ∧ (c.u8 0 = 0xFF ∨ offOrTest s (c.u8 0) = false))

/-- RETRAIN names one lane that is OFF or in TEST. -/
abbrev RetrainsIdle (c : Cmd) (s : State) : Prop := c.u8 1 = 2 ∧ c.u8 0 ≠ 0xFF ∧ offOrTest s (c.u8 0) = true

/-- The action asks for FORCE, which is clear, and a lane that it would be carried out on is in use. -/
abbrev LaneHeld (c : Cmd) (s : State) : Prop :=
  (c.u8 1 = 1 ∨ c.u8 1 = 2 ∨ c.u8 1 = 5 ∨ c.u8 1 = 6) ∧ bitOf (c.u8 2) 0 = false ∧ (actedLanes c s).any (laneInUse s) = true

theorem not_laneForced_iff : ¬LaneForced c s ↔ bitOf (c.u8 2) 0 = false ∧ (actedLanes c s).any (laneInUse s) = true := by
  simp [LaneForced]

/-- What a record whose LANE and ACTION are in range does. -/
theorem laneControl_eq (hnamed : LaneNamed c) (haction : c.u8 1 ≤ 6) :
    laneControl c s =
      if RetrainsIdle c s then rej .state 0x21 s
      else if LaneHeld c s then rej .state 0x20 s
      else if c.u8 1 = 3 then moorLanes (namedLanes (c.u8 0)) s
      else if c.u8 1 = 4 then wakeLanes c (namedLanes (c.u8 0)) s
      else ok ((actedLanes c s).foldl (laneAction c) s) := by
  unfold laneControl
  dsimp only
  rw [firstBad_eq_none_iff.mpr (by simp [laneNamed_check hnamed, haction])]
  rfl

/-- Where neither refusal holds, the action decides. -/
theorem laneControl_free (hnamed : LaneNamed c) (haction : c.u8 1 ≤ 6) (hidle : ¬RetrainsIdle c s) (hheld : ¬LaneHeld c s) :
    laneControl c s =
      if c.u8 1 = 3 then moorLanes (namedLanes (c.u8 0)) s
      else if c.u8 1 = 4 then wakeLanes c (namedLanes (c.u8 0)) s
      else ok ((actedLanes c s).foldl (laneAction c) s) := by
  rw [laneControl_eq hnamed haction, if_neg hidle, if_neg hheld]

theorem laneControl_enables (hnamed : LaneNamed c) (haction : c.u8 1 = 0) : laneControl c s = ok ((actedLanes c s).foldl (laneAction c) s) := by
  rw [laneControl_free hnamed (by omega) (by omega) (by omega), if_neg (by omega), if_neg (by omega)]

theorem laneControl_moors (hnamed : LaneNamed c) (haction : c.u8 1 = 3) : laneControl c s = moorLanes (namedLanes (c.u8 0)) s := by
  rw [laneControl_free hnamed (by omega) (by omega) (by omega), if_pos haction]

theorem laneControl_wakes (hnamed : LaneNamed c) (haction : c.u8 1 = 4) : laneControl c s = wakeLanes c (namedLanes (c.u8 0)) s := by
  rw [laneControl_free hnamed (by omega) (by omega) (by omega), if_neg (by omega), if_pos haction]

theorem laneControl_retrainsIdle (hone : c.u8 0 < 128) (haction : c.u8 1 = 2) (hidle : offOrTest s (c.u8 0) = true) :
    laneControl c s = rej .state 0x21 s := by
  rw [laneControl_eq (.inl hone) (by omega), if_pos ⟨haction, by omega, hidle⟩]

theorem LaneInterrupts.not_retrainsIdle (h : LaneInterrupts c s) : ¬RetrainsIdle c s := by
  rintro ⟨haction, hone, hidle⟩
  simp [LaneInterrupts, haction, hone, hidle] at h

theorem LaneInterrupts.asksForce (h : LaneInterrupts c s) : c.u8 1 = 1 ∨ c.u8 1 = 2 ∨ c.u8 1 = 5 ∨ c.u8 1 = 6 := by
  unfold LaneInterrupts at h
  omega

theorem laneControl_interrupts (hnamed : LaneNamed c) (h : LaneInterrupts c s) (hforced : LaneForced c s) :
    laneControl c s = ok ((actedLanes c s).foldl (laneAction c) s) := by
  have haction := h.asksForce
  have hheld : ¬LaneHeld c s := fun hheld => not_laneForced_iff.mpr hheld.2 hforced
  rw [laneControl_free hnamed (by omega) h.not_retrainsIdle hheld, if_neg (by omega), if_neg (by omega)]

theorem laneControl_inUse (hnamed : LaneNamed c) (h : LaneInterrupts c s) (hforced : ¬LaneForced c s) : laneControl c s = rej .state 0x20 s := by
  have haction := h.asksForce
  rw [laneControl_eq hnamed (by omega), if_neg h.not_retrainsIdle, if_pos ⟨haction, not_laneForced_iff.mp hforced⟩]

theorem laneControl_outOfRange (hnamed : LaneNamed c) (haction : 6 < c.u8 1) : laneControl c s = rej .range 0x21 s := by
  simp only [laneControl, firstBad, laneNamed_check hnamed, decide_eq_false (Nat.not_le.mpr haction), if_true, Bool.false_eq_true, if_false]

/-! ### SET_LANE_POLICY (R362) -/

/-- The fields of a policy are each 0 or in range. -/
def PolicyFieldsOk (c : Cmd) : Prop :=
  c.u8 1 ≤ 2 ∧ (c.u16 2 = 0 ∨ (5 ≤ c.u16 2 ∧ c.u16 2 ≤ 100)) ∧ (c.u32 4 = 0 ∨ (1 ≤ c.u32 4 ∧ c.u32 4 ≤ 10000000)) ∧
    (c.u16 8 = 0 ∨ (1000 ≤ c.u16 8 ∧ c.u16 8 ≤ 3000)) ∧ (c.u16 0x0A = 0 ∨ (50 ≤ c.u16 0x0A ∧ c.u16 0x0A ≤ 600))

/-- One lane's policy is put, where it differs from the one in force. -/
def policyPut (c : Cmd) (t : State) (l : Nat) : State :=
  if policySetting c (t.lanePol l) = t.lanePol l then t
  else (t.onObj fun o => { o with lanes := tmod {} o.lanes l (policySetting c) }).touch 0x0B l

theorem setLanePolicy_puts (hnamed : LaneNamed c) (hfields : PolicyFieldsOk c) : setLanePolicy c s = ok ((namedLanes (c.u8 0)).foldl (policyPut c) s) := by
  obtain ⟨hprecode, hbound, hlimit, hsnr, hdrift⟩ := hfields
  unfold setLanePolicy
  dsimp only
  rw [firstBad_eq_none_iff.mpr (by simp [laneNamed_check hnamed, hprecode, hbound, hlimit, hsnr, hdrift])]
  rfl

end

/-! ### The statement -/

/-- Settles O34: LANE and ACTION in range, a record is refused for an idle lane or one in use, or its action is carried out; a policy in range is put on
each lane named. -/
theorem laneCommandsComplete : Obligations.LaneCommandsComplete :=
  ⟨carries_of_effect fun _ _ ⟨hnamed, haction⟩ => laneControl_enables hnamed haction,
    carries_of_effect fun _ _ ⟨hnamed, haction, hforced⟩ => laneControl_interrupts hnamed haction hforced,
    carries_of_effect fun _ _ ⟨hone, haction, hidle⟩ => laneControl_retrainsIdle hone haction hidle,
    carries_of_effect fun _ _ ⟨hnamed, haction, hforced⟩ => laneControl_inUse hnamed haction hforced,
    carries_of_effect fun _ _ ⟨hnamed, haction⟩ => laneControl_moors hnamed haction,
    carries_of_effect fun _ _ ⟨hnamed, haction⟩ => laneControl_wakes hnamed haction,
    carries_of_effect fun _ _ ⟨hnamed, haction⟩ => laneControl_outOfRange hnamed haction,
    carries_of_effect fun _ _ ⟨hnamed, hpolicy⟩ => setLanePolicy_puts hnamed hpolicy,
    namedLanes_all, fun _ hlane => namedLanes_one hlane⟩

end Sys2Proof.Proofs

/-! PROOFS.  What a lane sends (spec/11_towpath.md, R326, R332, R337, R353 to R355, R361): the running barge and the next, an idle transmitter, moors and
wakes, the ECO rule, and the statement about them. -/

namespace Sys2Proof.Proofs
open Sys2Proof Sys2Proof.Machine

section
variable {lane seq id q : Nat} {d : List Byte} {jobs : List Nat} {s : State}

/-! ### The running barge (R326, R332, R337) -/

@[simp] theorem poundBarge_tow (die : Nat) (s : State) : (poundBarge die s).tow = s.tow := by
  unfold poundBarge
  split <;> rfl

@[simp] theorem nextBarge_tow (s : State) : (nextBarge s).tow = { s.tow with bargeSeq := wrapAdd 32 s.tow.bargeSeq 1, sent := [] } := by
  simp only [nextBarge, poundBarge_tow, State.onTow_tow]

/-- A lane's sending of the running barge: the lane counts as having sent it, what the barge begins takes effect, and the barge goes out. -/
def sendsRunning (lane : Nat) (d : List Byte) (s : State) : State :=
  sendBarge lane s.tow.bargeSeq d (bargeStarts lane s.tow.bargeSeq (s.onTow fun t => { t with sent := setAdd t.sent lane }))

theorem bargeTransmit_noLane (h : 130 ≤ lane) : bargeTransmit lane d s = s := if_pos h

theorem bargeTransmit_running (hlane : lane < 130) (hsent : s.tow.sent.contains lane = false) : bargeTransmit lane d s = sendsRunning lane d s := by
  simp only [bargeTransmit, if_neg (Nat.not_le.mpr hlane), hsent, Bool.false_eq_true, if_false, sendsRunning]

theorem bargeTransmit_next (hlane : lane < 130) (hsent : s.tow.sent.contains lane = true) : bargeTransmit lane d s = sendsRunning lane d (nextBarge s) := by
  simp only [bargeTransmit, if_neg (Nat.not_le.mpr hlane), hsent, if_true, sendsRunning]

/-- A transmitter that is off, moored or held idle sends nothing. -/
theorem sendBarge_idle (h : (s.lane lane).tx = .off ∨ (s.lane lane).tx = .moored ∨ (s.lane lane).idleHold = true) :
    sendBarge lane seq d s = s.onLane lane fun l => { l with txIdle := true, txBytes := [] } :=
  if_pos h

/-! ### Moors (R353, R361) -/

theorem moorBarge_receive : moorBarge 0 lane s = moorReceive lane s := if_pos rfl

theorem moorBarge_transmit : moorBarge 1 lane s = moorTransmit lane s := if_neg one_ne_zero

theorem moorTransmit_announced (h : (s.lane lane).txMoor = some (q, id)) :
    moorTransmit lane s = settleLaneJob id
      ((setLane lane (s.lane lane).rx .moored s).onLane lane fun l => { l with txMoor := none, moors := inc l.moors, txIdle := true, idleFor := 0 }) := by
  simp only [moorTransmit, h]

theorem moorTransmit_none (h : (s.lane lane).txMoor = none) : moorTransmit lane s = s := by
  simp only [moorTransmit, h]

theorem moorReceive_announced (hrx : (s.lane lane).rx = .active) (hmoor : (s.lane lane).farMoor = some q) :
    moorReceive lane s =
      (setLane lane .moored (s.lane lane).tx s).onLane lane fun l =>
        { l with farMoor := none, moors := inc l.moors, waking := false, seals := [], adopt := true } :=
  if_pos ⟨hrx, by rw [hmoor]; rfl⟩

theorem moorReceive_none (h : (s.lane lane).rx ≠ .active ∨ (s.lane lane).farMoor = none) : moorReceive lane s = s := by
  refine if_neg fun ⟨hrx, hmoor⟩ => ?_
  rcases h with hother | hnone
  · exact hother hrx
  · simp [hnone] at hmoor

/-! ### Wakes (R354) -/

theorem signalWake_awake {e : Option Nat} (h : (s.lane lane).rx ≠ .moored) : signalWake lane e s = s := if_pos h

theorem signalWake_unacquired (h : (s.lane lane).rx = .moored) :
    signalWake lane none s = s.onLane lane fun l => { l with waking := true, since := s.elapsed } :=
  if_neg (not_not.mpr h)

theorem signalWake_acquired {e : Nat} (h : (s.lane lane).rx = .moored) : signalWake lane (some e) s = relocked lane (e % 256) s :=
  if_neg (not_not.mpr h)

theorem wakeComplete_none (h : (s.lane lane).txWake = none) : wakeComplete lane s = s := by
  simp only [wakeComplete, h]

/-- A wake that waits is complete in a transmitter that is MOORED or ACTIVE, and waits on in any other. -/
theorem wakeComplete_waking (h : (s.lane lane).txWake = some jobs) :
    wakeComplete lane s =
      if (s.lane lane).tx ≠ .moored ∧ (s.lane lane).tx ≠ .active then s
      else jobs.foldl (fun s id => settleLaneJob id s)
        ((setLane lane (s.lane lane).rx .active s).onLane lane fun l =>
          { l with txWake := none, holdOff := 0, txIdle := false, byTrim := false, idleFor := 0 }) := by
  simp only [wakeComplete, h]

theorem wakeComplete_carries (h : (s.lane lane).txWake = some jobs) (htx : (s.lane lane).tx = .moored ∨ (s.lane lane).tx = .active) :
    wakeComplete lane s = jobs.foldl (fun s id => settleLaneJob id s)
      ((setLane lane (s.lane lane).rx .active s).onLane lane fun l =>
        { l with txWake := none, holdOff := 0, txIdle := false, byTrim := false, idleFor := 0 }) := by
  rw [wakeComplete_waking h, if_neg fun ⟨hmoored, hactive⟩ => htx.elim hmoored hactive]

theorem wakeComplete_otherState (h : (s.lane lane).txWake = some jobs) (hmoored : (s.lane lane).tx ≠ .moored) (hactive : (s.lane lane).tx ≠ .active) :
    wakeComplete lane s = s := by
  rw [wakeComplete_waking h, if_pos ⟨hmoored, hactive⟩]

/-! ### The ECO rule (R355) -/

theorem ecoMoor_due (h : ecoDue s lane = true) :
    ecoMoor lane s = s.onLane lane fun l => { l with txMoor := some (wrapAdd 32 s.tow.bargeSeq 65, 0), byTrim := true } :=
  if_pos h

theorem ecoMoor_notDue (h : ecoDue s lane = false) : ecoMoor lane s = s := if_neg (Bool.eq_false_iff.mp h)

/-- With ECO off and the throttling below its third step, no lane is moored by itself. -/
theorem ecoDue_off (heco : s.obj.trims.eco = false) (hthrottle : s.clocks.throttle < 3) : ecoDue s lane = false := by
  simp [ecoDue, heco, Nat.not_le.mpr hthrottle]

end

/-! ### The statement -/

/-- Settles O56: each row is the branch of its meaning that its clause names. -/
theorem laneSendingComplete : Obligations.LaneSendingComplete := by
  refine ⟨fun lane d s hnone => answers_of_eq (bargeTransmit_noLane hnone),
    fun lane d s hlane hsent => answers_of_eq (bargeTransmit_running hlane hsent),
    fun lane d s hlane hsent => answers_of_eq (bargeTransmit_next hlane hsent),
    fun s => ?next,
    fun lane seq d s hidle => sendBarge_idle hidle,
    fun lane id q s hmoor => answers_of_eq (moorBarge_transmit.trans (moorTransmit_announced hmoor)),
    fun lane q s hrx hmoor => answers_of_eq (moorBarge_receive.trans (moorReceive_announced hrx hmoor)),
    fun lane s hnone => answers_of_eq (moorBarge_transmit.trans (moorTransmit_none hnone)),
    fun lane s hnone => answers_of_eq (moorBarge_receive.trans (moorReceive_none hnone)),
    fun lane e s hawake => answers_of_eq (signalWake_awake hawake),
    fun lane s hmoored => answers_of_eq (signalWake_unacquired hmoored),
    fun lane e s hmoored => answers_of_eq (signalWake_acquired hmoored),
    fun lane s hnone => answers_of_eq (wakeComplete_none hnone),
    fun lane jobs s hwake htx => answers_of_eq (wakeComplete_carries hwake htx),
    fun lane jobs s hwake hmoored hactive => answers_of_eq (wakeComplete_otherState hwake hmoored hactive),
    fun lane s hdue => answers_of_eq (ecoMoor_due hdue),
    fun lane s hdue => answers_of_eq (ecoMoor_notDue hdue),
    fun lane s heco hthrottle => ecoDue_off heco hthrottle⟩
  case next =>
    rw [nextBarge_tow]
    exact ⟨rfl, rfl, rfl⟩

end Sys2Proof.Proofs

/-! PROOFS.  RESYNC, YIELD_HELM, RESTART and INJECT_FAULT (spec/12_twin_operation.md, R393, R394; R442, R470; log entries 85, 98 and 103): what each does
where it is carried out, what refuses it, and the statement about them. -/

namespace Sys2Proof.Proofs
open Sys2Proof Sys2Proof.Machine

section
variable {c : Cmd} {s : State}

/-! ### RESYNC (R393; log entry 85) -/

/-- The command that runs, if one does, ends as superseded by a later one (R84). -/
def supersededBy (c : Cmd) (job : Option Nat) (s : State) : State :=
  match job with
  | some id => finish id .superseded (byCommand c) s
  | none => s

theorem resync_refused (h : s.twin.helm = true ∨ tandemDown s = true) : resync c s = rej .state 0xFFFF s := if_pos h

/-- A standby whose partner can be reached resynchronises, unless it is in step and FULL is clear. -/
theorem resync_standby (hrole : s.twin.helm = false) (hup : tandemDown s = false) :
    resync c s = if s.twin.st = .inStep ∧ bitOf (c.u8 0) 0 = false then ok s
      else queued .resync ((beginResync (supersededBy c s.twin.resyncJob s)).onTwin fun t => { t with resyncJob := some s.mbox.nextJob }) :=
  if_neg (by simp [hrole, hup])

theorem resync_inStep (hrole : s.twin.helm = false) (hup : tandemDown s = false) (hst : s.twin.st = .inStep) (hfull : bitOf (c.u8 0) 0 = false) :
    resync c s = ok s :=
  (resync_standby hrole hup).trans (if_pos ⟨hst, hfull⟩)

theorem resync_begins (hrole : s.twin.helm = false) (hup : tandemDown s = false) (h : s.twin.st ≠ .inStep ∨ bitOf (c.u8 0) 0 = true) :
    resync c s = queued .resync ((beginResync (supersededBy c s.twin.resyncJob s)).onTwin fun t => { t with resyncJob := some s.mbox.nextJob }) := by
  refine (resync_standby hrole hup).trans (if_neg fun ⟨hst, hfull⟩ => ?_)
  rcases h with hother | hset
  · exact hother hst
  · exact Bool.false_ne_true (hfull.symm.trans hset)

/-! ### YIELD_HELM (R394; log entry 85) -/

theorem yieldHelm_outOfRange (h : c.u16 0 = 0 ∨ 60000 < c.u16 0) : yieldHelm c s = rej .range 0x20 s := if_pos h

theorem yieldHelm_refused (hlow : 1 ≤ c.u16 0) (hhigh : c.u16 0 ≤ 60000) (h : s.twin.helm = false ∨ s.twin.st ≠ .paired) :
    yieldHelm c s = rej .state 0xFFFF s :=
  (if_neg (by omega)).trans (if_pos h)

theorem yieldHelm_begins (hlow : 1 ≤ c.u16 0) (hhigh : c.u16 0 ≤ 60000) (hrole : s.twin.helm = true) (hst : s.twin.st = .paired) :
    yieldHelm c s = queued .yieldHelm (driveHealth ((supersededBy c (s.twin.yield.map Prod.fst) s).onTwin fun t =>
      { t with yield := some (s.mbox.nextJob, c.u16 0), yieldAge := 0 })) := by
  unfold yieldHelm
  rw [if_neg (by omega), if_neg (by simp [hrole, hst])]
  cases s.twin.yield <;> rfl

/-! ### RESTART (R442; log entry 103) -/

/-- A firmware session checks or writes. -/
abbrev FwBusy (s : State) : Prop := s.fw.phase = .checking ∨ s.fw.phase = .writing

theorem restart_busy (htype : c.u8 0 ≤ 1) (hbusy : FwBusy s) : restart c s = rej .busy 0 s := (if_neg (by omega)).trans (if_pos hbusy)

/-- Beside no session that checks or writes, only a helm that runs ALONE is refused, without FORCE. -/
theorem restart_free (htype : c.u8 0 ≤ 1) (hfree : ¬FwBusy s) :
    restart c s = if s.twin.helm ∧ s.twin.st = .alone ∧ bitOf (c.u8 1) 0 = false then rej .state 0x21 s
      else ok (stopCommit (driveHealth (s.onStart fun r => { r with restart := some (decide (c.u8 0 = 0)) }))) :=
  (if_neg (by omega)).trans (if_neg hfree)

theorem restart_alone (htype : c.u8 0 ≤ 1) (hfree : ¬FwBusy s) (hrole : s.twin.helm = true) (hst : s.twin.st = .alone) (hforce : bitOf (c.u8 1) 0 = false) :
    restart c s = rej .state 0x21 s :=
  (restart_free htype hfree).trans (if_pos ⟨hrole, hst, hforce⟩)

theorem restart_ordered (htype : c.u8 0 ≤ 1) (hfree : ¬FwBusy s) (h : s.twin.helm = false ∨ s.twin.st ≠ .alone ∨ bitOf (c.u8 1) 0 = true) :
    restart c s = ok (stopCommit (driveHealth (s.onStart fun r => { r with restart := some (decide (c.u8 0 = 0)) }))) := by
  refine (restart_free htype hfree).trans (if_neg fun ⟨hrole, hst, hforce⟩ => ?_)
  rcases h with hstandby | hother | hset
  · exact Bool.false_ne_true (hstandby.symm.trans hrole)
  · exact hother hst
  · exact Bool.false_ne_true (hforce.symm.trans hset)

/-! ### INJECT_FAULT (R470; log entry 98) -/

/-- The fields of an injection are in range: its checker, its bits, its COUNT and its time. -/
def InjectionFields (c : Cmd) : Prop :=
  injectable (c.u8 0) = true ∧ c.u8 1 ≤ 1 ∧ c.u16 2 < instanceLimit (c.u8 0) ∧ (c.u8 4 = 1 ∨ c.u8 4 = 2) ∧ 1 ≤ c.u16 6 ∧
    c.u16 6 ≤ 255 ∧ 1 ≤ c.u32 8 ∧ c.u32 8 ≤ 60000

/-- The checker's detection is not fatal, or FATAL_OK is set. -/
def FatalAllowed (c : Cmd) : Prop := fatalChecker (c.u8 0) (c.u8 4) = false ∨ bitOf (c.u8 5) 0 = true

theorem not_fatalAllowed_iff : ¬FatalAllowed c ↔ fatalChecker (c.u8 0) (c.u8 4) = true ∧ bitOf (c.u8 5) 0 = false := by
  simp [FatalAllowed]

/-- The injection that a record describes, its job the command's. -/
def namedInjection (c : Cmd) (job : Nat) : Inject :=
  { kind := c.u8 0, west := decide (c.u8 1 = 1), inst := c.u16 2, bits := c.u8 4, left := c.u16 6, done := 0, ticks := msTicks (c.u32 8), job := job }

/-- An injection on the checker that a record names stands armed. -/
def checkerArmed (c : Cmd) (s : State) : Bool := injectionArmed (c.u8 0) (c.u16 2) (decide (c.u8 1 = 1)) s

/-- What a record whose fields are in range does. -/
theorem injectFault_eq (hfields : InjectionFields c) :
    injectFault c s =
      if fatalChecker (c.u8 0) (c.u8 4) ∧ bitOf (c.u8 5) 0 = false then rej .state 0x25 s
      else if checkerArmed c s then rej .busy 0 s
      else queued (.inject (c.u8 0)) (s.onFaults fun f => { f with injects := f.injects ++ [namedInjection c s.mbox.nextJob] }) := by
  obtain ⟨hkind, hdie, hinst, hbits, hcountLow, hcountHigh, htimeLow, htimeHigh⟩ := hfields
  unfold injectFault
  dsimp only
  rw [firstBad_eq_none_iff.mpr (by simp [hkind, hdie, hinst, hbits, hcountLow, hcountHigh, htimeLow, htimeHigh])]
  rfl

theorem injectFault_fatal (hfields : InjectionFields c) (hfatal : ¬FatalAllowed c) : injectFault c s = rej .state 0x25 s :=
  (injectFault_eq hfields).trans (if_pos (not_fatalAllowed_iff.mp hfatal))

theorem injectFault_busy (hfields : InjectionFields c) (hallowed : FatalAllowed c) (harmed : checkerArmed c s = true) :
    injectFault c s = rej .busy 0 s := by
  rw [injectFault_eq hfields, if_neg fun hfatal => not_fatalAllowed_iff.mpr hfatal hallowed, if_pos harmed]

theorem injectFault_arms (hfields : InjectionFields c) (hallowed : FatalAllowed c) (hfree : checkerArmed c s = false) :
    injectFault c s = queued (.inject (c.u8 0)) (s.onFaults fun f => { f with injects := f.injects ++ [namedInjection c s.mbox.nextJob] }) := by
  rw [injectFault_eq hfields, if_neg fun hfatal => not_fatalAllowed_iff.mpr hfatal hallowed, if_neg (Bool.eq_false_iff.mp hfree)]

end

/-! ### The statement -/

/-- Settles O35: RESYNC and YIELD_HELM by the role and the twin's state, RESTART by what runs beside it, an injection by its fields, FATAL_OK and what
stands armed. -/
theorem twinAndRestartCommandsComplete : Obligations.TwinAndRestartCommandsComplete :=
  ⟨carries_of_effect fun _ _ ⟨hrole, hup, h⟩ => resync_begins hrole hup h,
    carries_of_effect fun _ _ ⟨hrole, hup, hst, hfull⟩ => resync_inStep hrole hup hst hfull,
    carries_of_effect fun _ _ h => resync_refused h,
    carries_of_effect fun _ _ ⟨hlow, hhigh, hrole, hst⟩ => yieldHelm_begins hlow hhigh hrole hst,
    carries_of_effect fun _ _ ⟨hlow, hhigh, h⟩ => yieldHelm_refused hlow hhigh h,
    carries_of_effect fun _ _ h => yieldHelm_outOfRange h,
    carries_of_effect fun _ _ ⟨htype, hfree, h⟩ => restart_ordered htype hfree h,
    carries_of_effect fun _ _ ⟨htype, hbusy⟩ => restart_busy htype hbusy,
    carries_of_effect fun _ _ ⟨htype, hfree, hrole, hst, hforce⟩ => restart_alone htype hfree hrole hst hforce,
    carries_of_effect fun _ _ ⟨hfields, hallowed, hfree⟩ => injectFault_arms hfields hallowed hfree,
    carries_of_effect fun _ _ ⟨hfields, hfatal⟩ => injectFault_fatal hfields hfatal,
    carries_of_effect fun _ _ ⟨hfields, hallowed, harmed⟩ => injectFault_busy hfields hallowed harmed⟩

end Sys2Proof.Proofs

/-! PROOFS.  The helm grant, idle records and a yield that times out (spec/12_twin_operation.md, R364, R372 to R374, R385, R394; log entries 83, 85 and
86): what a record that is sent leaves of the twin's state, and the statement about these rows. -/

namespace Sys2Proof.Proofs
open Sys2Proof Sys2Proof.Machine

section
variable {idle : Bool} {n id ms : Nat} {s : State}

/-! ### The grant (R364, R385) -/

/-- The grant is noted as the pin shows it. -/
def grantNoted (held : Bool) (s : State) : State :=
  (s.onPins fun p => { p with grantN := !held }).onTwin fun t => { t with grant := held }

theorem grantAsserted_noted (h : s.twin.helm = true ∨ s.serving = false) : grantAsserted s = grantNoted true s := if_pos (by simpa using h)

theorem grantAsserted_taken (hrole : s.twin.helm = false) (hserving : s.serving = true) : grantAsserted s = becomeHelm (grantNoted true s) :=
  if_neg (by simp [hrole, hserving])

theorem grantDeasserted_noted (h : s.twin.helm = false ∨ s.serving = false) : grantDeasserted s = grantNoted false s := by
  refine if_neg fun ⟨hrole, hserving⟩ => ?_
  rcases h with hstandby | hstopped
  · exact Bool.false_ne_true (hstandby.symm.trans hrole)
  · exact Bool.false_ne_true (hstopped.symm.trans hserving)

theorem grantDeasserted_lost (hrole : s.twin.helm = true) (hserving : s.serving = true) : grantDeasserted s = loseHelm (grantNoted false s) :=
  if_pos ⟨hrole, hserving⟩

/-! ### What the sending of a record leaves of the twin's state (R371 to R374) -/

@[simp] theorem wakeTx_twin (lane job : Nat) (s : State) : (wakeTx lane job s).twin = s.twin := by
  unfold wakeTx
  split <;> rfl

/-- Epochs that are chosen are noted, and the records that wait for their acknowledgements stand. -/
theorem chooseEpochs_unacked (s : State) : (chooseEpochs s).twin.unacked = s.twin.unacked := by
  refine foldl_keeps (fun t => t.twin.unacked) (fun t e => ?_) _ s
  dsimp only
  rw [wakeTx_twin]
  rfl

@[simp] theorem useSession_twin (n : Nat) (s : State) : (useSession n s).twin = s.twin := by
  unfold useSession
  split <;> rfl

/-- A renewed key changes the session's key, and nothing else of the twin's state. -/
theorem renewKey_keeps {α : Type} (get : TwinRt → α)
    (hget : ∀ t k, get { t with sessionKey := k, rekeyAt := none, orphaned := false } = get t) (n : Nat) (s : State) :
    get (renewKey n s).twin = get s.twin := by
  unfold renewKey
  split
  · split
    · exact hget _ _
    · rfl
  · rfl

/-! ### Records sent (R372, R373; log entry 86) -/

/-- The record that a helm sends now, before it is cut into its halves. -/
def recordNow (idle : Bool) (limit : Nat) (s : State) : TandemRec :=
  { rseq := wrapAdd 32 s.twin.lastRseq 1, version := s.fw.image.tandem, idle := idle, claim := s.twin.grant, handover := decide (s.dev = .handover),
    tick := s.now, limit := limit, sections := sectionsNow (chooseEpochs s) }

theorem sendRecord_silent (h : s.twin.helm = false ∨ s.serving = false ∨ s.keys.lock = true) : sendRecord idle n s = s := if_pos (by simpa using h)

/-- A helm that serves sends both halves of the record that is due, and waits for their acknowledgements. -/
theorem sendRecord_sends (hrole : s.twin.helm = true) (hserving : s.serving = true) (hlock : s.keys.lock = false) :
    (sendRecord idle n s).twin.sent = some ((recordNow idle n s).half false) ∧
    (sendRecord idle n s).twin.sentWest = some ((recordNow idle n s).half true) ∧
    (sendRecord idle n s).twin.lastRseq = wrapAdd 32 s.twin.lastRseq 1 ∧ (sendRecord idle n s).twin.sinceRec = 0 ∧
    (sendRecord idle n s).twin.unacked = s.twin.unacked ++ [(wrapAdd 32 s.twin.lastRseq 1, n, 0, 0)] ∧
    (sendRecord idle n s).twin.cmds = if s.dev = .handover then s.twin.cmds else [] := by
  have hsends : sendRecord idle n s = _ := if_neg (by simp [hrole, hserving, hlock])
  have hunacked : (useSession 2 (renewKey (wrapAdd 32 s.twin.lastRseq 1) (chooseEpochs s))).twin.unacked = s.twin.unacked := by
    rw [useSession_twin, renewKey_keeps TwinRt.unacked fun _ _ => rfl, chooseEpochs_unacked]
  rw [hsends]
  exact ⟨rfl, rfl, rfl, rfl, congrArg (· ++ [_]) hunacked, rfl⟩

theorem idleRecord_due (hrole : s.twin.helm = true) (hage : 240 ≤ s.twin.sinceRec) : idleRecord s = sendRecord true (s.now + 7) s :=
  if_pos ⟨hrole, hage⟩

theorem idleRecord_notDue (h : s.twin.helm = false ∨ s.twin.sinceRec < 240) : idleRecord s = s := by
  refine if_neg fun ⟨hrole, hage⟩ => ?_
  rcases h with hstandby | hearly
  · exact Bool.false_ne_true (hstandby.symm.trans hrole)
  · exact Nat.not_le.mpr hearly hage

/-! ### A yield that times out (R394) -/

theorem yieldTimeout_none (h : s.twin.yield = none) : yieldTimeout s = s := by
  simp only [yieldTimeout, h]

theorem yieldTimeout_runs (h : s.twin.yield = some (id, ms)) :
    yieldTimeout s = if s.twin.helm ∧ msTicks ms ≤ s.twin.yieldAge then driveHealth (finish id .timedOut 0 (s.onTwin fun t => { t with yield := none }))
      else s := by
  simp only [yieldTimeout, h]

theorem yieldTimeout_waits (h : s.twin.yield = some (id, ms)) (hwaits : s.twin.helm = false ∨ s.twin.yieldAge < msTicks ms) : yieldTimeout s = s := by
  refine (yieldTimeout_runs h).trans (if_neg fun ⟨hrole, hage⟩ => ?_)
  rcases hwaits with hstandby | hearly
  · exact Bool.false_ne_true (hstandby.symm.trans hrole)
  · exact Nat.not_le.mpr hearly hage

end

/-! ### The statement -/

/-- Settles O57: the grant by the role and whether the chip serves, a record by who sends it, an idle one and a yield by their ages. -/
theorem helmRowsComplete : Obligations.HelmRowsComplete := by
  refine ⟨fun _ h => answers_of_eq (grantAsserted_noted h), fun _ hrole hserving => answers_of_eq (grantAsserted_taken hrole hserving),
    fun _ h => answers_of_eq (grantDeasserted_noted h), fun _ hrole hserving => answers_of_eq (grantDeasserted_lost hrole hserving),
    fun _ hrole hage => answers_of_eq (idleRecord_due hrole hage), fun _ h => answers_of_eq (idleRecord_notDue h), ?sends,
    fun _ _ _ h => sendRecord_silent h, fun _ _ _ hyield hrole hage => answers_of_eq ((yieldTimeout_runs hyield).trans (if_pos ⟨hrole, hage⟩)),
    fun _ h => answers_of_eq (yieldTimeout_none h), fun _ _ _ hyield h => answers_of_eq (yieldTimeout_waits hyield h)⟩
  case sends =>
    intro idle n s hrole hserving hlock hdev
    obtain ⟨heast, hwest, hlast, hsince, hunacked, hcmds⟩ := sendRecord_sends (idle := idle) (n := n) hrole hserving hlock
    exact ⟨recordNow idle n s, heast, hwest, rfl, rfl, rfl, rfl, rfl, decide_eq_false hdev, hlast, hsince, hunacked, hcmds.trans (if_neg hdev)⟩

end Sys2Proof.Proofs

/-! PROOFS.  Tandem records received, applied, missed and acknowledged (spec/12_twin_operation.md, R376 to R378, R384, R387; log entries 85 and 86): what
each row does in the role and state it is for, what becomes of a standby that goes adrift, and the statements about them. -/

namespace Sys2Proof.Proofs
open Sys2Proof Sys2Proof.Machine

section
variable {w ok : Bool} {k n b p : Nat} {r : TandemRec} {a : TandemAck} {s : State}

/-! ### Records received (R376, R387) -/

/-- A record half that came in by the session has used it, with the key that acts from its RSEQ. -/
def recordUsed (r : TandemRec) (s : State) : State := useSession 1 (renewKey r.rseq s)

theorem recordUsed_keeps {α : Type} (get : TwinRt → α)
    (hget : ∀ t k, get { t with sessionKey := k, rekeyAt := none, orphaned := false } = get t) (r : TandemRec) (s : State) :
    get (recordUsed r s).twin = get s.twin := by
  rw [recordUsed, useSession_twin, renewKey_keeps get hget]

/-- The halves kept of one die, with another: one of each RSEQ. -/
def keepHalf (r : TandemRec) (l : List TandemRec) : List TandemRec := if l.any fun q => q.rseq = r.rseq then l else l ++ [r]

theorem keepHalf_eq (r : TandemRec) (l : List TandemRec) : keepHalf r l = if ∀ q ∈ l, q.rseq ≠ r.rseq then l ++ [r] else l := by
  by_cases hnew : ∀ q ∈ l, q.rseq ≠ r.rseq
  · rw [if_pos hnew]
    exact if_neg (by simpa using hnew)
  · rw [if_neg hnew]
    exact if_pos (by simpa using hnew)

theorem recordReceived_ignored (h : s.serving = false ∨ s.twin.session = false ∨ tandemDown s = true) : recordReceived w ok r s = s :=
  if_pos (by simpa using h)

/-- A record half that comes in by the session, by the chip's role, what it keeps, the tag and the die. -/
theorem recordReceived_taken (hserving : s.serving = true) (hsession : s.twin.session = true) (hup : tandemDown s = false) :
    recordReceived w ok r s =
      if s.twin.helm then (if ok ∧ r.claim then dispute (recordUsed r s) else recordUsed r s)
      else if !keepsRecords s then recordUsed r s
      else if !ok then missRecord r.rseq (recordUsed r s)
      else if w then (recordUsed r s).onTwin fun t => { t with west := keepHalf r t.west }
      else (recordUsed r s).onTwin fun t => { t with east := keepHalf r t.east } :=
  if_neg (by simp [hserving, hsession, hup])

theorem recordReceived_disputed (hserving : s.serving = true) (hsession : s.twin.session = true) (hup : tandemDown s = false) (hrole : s.twin.helm = true)
    (hok : ok = true) (hclaim : r.claim = true) : recordReceived w ok r s = dispute (recordUsed r s) := by
  rw [recordReceived_taken hserving hsession hup, if_pos hrole, if_pos ⟨hok, hclaim⟩]

theorem recordReceived_helm (hserving : s.serving = true) (hsession : s.twin.session = true) (hup : tandemDown s = false) (hrole : s.twin.helm = true)
    (h : ok = false ∨ r.claim = false) : recordReceived w ok r s = recordUsed r s := by
  have hclaims : ¬(ok = true ∧ r.claim = true) := by
    rcases h with hbad | hnone
    · simp [hbad]
    · simp [hnone]
  rw [recordReceived_taken hserving hsession hup, if_pos hrole, if_neg hclaims]

theorem recordReceived_notKept (hserving : s.serving = true) (hsession : s.twin.session = true) (hup : tandemDown s = false) (hrole : s.twin.helm = false)
    (hkeeps : keepsRecords s = false) : recordReceived w ok r s = recordUsed r s := by
  rw [recordReceived_taken hserving hsession hup, hrole, hkeeps]
  rfl

theorem recordReceived_badTag (hserving : s.serving = true) (hsession : s.twin.session = true) (hup : tandemDown s = false) (hrole : s.twin.helm = false)
    (hkeeps : keepsRecords s = true) (hok : ok = false) : recordReceived w ok r s = missRecord r.rseq (recordUsed r s) := by
  rw [recordReceived_taken hserving hsession hup, hrole, hkeeps, hok]
  rfl

/-- A half is kept among those of its own die. -/
theorem recordReceived_kept (hserving : s.serving = true) (hsession : s.twin.session = true) (hup : tandemDown s = false) (hrole : s.twin.helm = false)
    (hkeeps : keepsRecords s = true) (hok : ok = true) :
    recordReceived w ok r s = (recordUsed r s).onTwin fun t =>
      { t with west := if w = true ∧ (∀ q ∈ s.twin.west, q.rseq ≠ r.rseq) then s.twin.west ++ [r] else s.twin.west,
               east := if w = false ∧ (∀ q ∈ s.twin.east, q.rseq ≠ r.rseq) then s.twin.east ++ [r] else s.twin.east } := by
  have hwest := recordUsed_keeps TwinRt.west (fun _ _ => rfl) r s
  have heast := recordUsed_keeps TwinRt.east (fun _ _ => rfl) r s
  rw [recordReceived_taken hserving hsession hup, hrole, hkeeps, hok, ← hwest, ← heast]
  cases w <;> simp only [true_and, reduceCtorEq, false_and, if_false, ← keepHalf_eq] <;> rfl

/-! ### Records missing (R376) -/

theorem missRecord_counts (happlies : appliesRecords s = true) (hnew : 0 ≤ seqAhead n (nextRseq s)) :
    missRecord n s = s.onTwin fun t =>
      { t with missing := inc t.missing, missRun := min 3 (t.missRun + 1), lastMissed := some n,
               east := t.east.filter (fun r => r.rseq ≠ n), west := t.west.filter fun r => r.rseq ≠ n } :=
  if_neg (by simp [happlies, hnew])

theorem missRecord_same (h : appliesRecords s = false ∨ seqAhead n (nextRseq s) < 0) : missRecord n s = s := if_pos (by simpa using h)

theorem recordMissing_inTime (h : ∃ r ∈ s.twin.east, r.rseq = n ∧ wholeRecord s r = true ∧ s.now ≤ r.limit) : recordMissing n s = s :=
  if_pos (by simpa [and_assoc] using h)

theorem recordMissing_late (h : ∀ r ∈ s.twin.east, r.rseq = n → wholeRecord s r = true → r.limit < s.now) : recordMissing n s = missRecord n s :=
  if_neg (by simpa [and_assoc] using h)

theorem recordMissing_same
    (h : appliesRecords s = false ∨ seqAhead n (nextRseq s) < 0 ∨ ∃ r ∈ s.twin.east, r.rseq = n ∧ wholeRecord s r = true ∧ s.now ≤ r.limit) :
    recordMissing n s = s := by
  rw [← or_assoc] at h
  rcases h with hsame | hwhole
  · rw [recordMissing, missRecord_same hsame, ite_self]
  · exact recordMissing_inTime hwhole

/-! ### Records applied (R376, R378) -/

theorem applyRecords_none (h : appliesRecords s = false ∨ dueRecord s = none) (k : Nat) : applyRecords k s = s := by
  cases k with
  | zero => rfl
  | succ k =>
    rw [applyRecords]
    rcases h with hidle | hnone
    · rw [hidle]
      rfl
    · rw [hnone]
      exact ite_self s

theorem recordApply_due (happlies : appliesRecords s = true) (hlength : s.twin.east.length = k + 1) (hdue : dueRecord s = some r) :
    recordApply s = applyRecords k (applyRecord r s) := by
  rw [recordApply, hlength, applyRecords, happlies, hdue]
  rfl

theorem applySections_nil (s : State) : applySections [] s = s := foldl_keeps id (fun _ _ => rfl) _ s

theorem joinHalves_nil {e w : TandemRec} (heast : e.sections = []) (hwest : w.sections = []) : joinHalves e w = [] := by
  rw [joinHalves, heast, hwest]
  rfl

/-- A record of no sections is applied all the same: no record is missing since, and its tick is the last one's. -/
theorem applyRecord_empty (heast : r.sections = []) (hwest : ∀ q ∈ s.twin.west, q.rseq = r.rseq → q.sections = []) :
    (applyRecord r s).twin.missRun = 0 ∧ (applyRecord r s).twin.sinceRec = 0 := by
  unfold applyRecord
  dsimp only
  split
  · next q hq =>
    have hrseq : q.rseq = r.rseq := by simpa using List.find?_some hq
    rw [joinHalves_nil heast (hwest q (List.mem_of_find?_eq_some hq) hrseq), applySections_nil]
    exact ⟨rfl, rfl⟩
  · rw [heast, applySections_nil]
    exact ⟨rfl, rfl⟩

/-! ### Acknowledgements (R377) -/

/-- An acknowledgement has come: the partner is there again. -/
def ackHeard (s : State) : State := s.onTwin fun t => { t with sinceAck := 0, st := if t.st = .alone then .paired else t.st }

theorem ackReceived_ignored (h : s.twin.helm = false ∨ s.serving = false ∨ s.twin.session = false ∨ tandemDown s = true) : ackReceived a s = s :=
  if_pos (by simpa using h)

/-- The acknowledgement of a record half is noted beside the record that waits for it. -/
theorem ackReceived_half (hrole : s.twin.helm = true) (hserving : s.serving = true) (hsession : s.twin.session = true) (hup : tandemDown s = false)
    (hpage : a.page = none) :
    ackReceived a s = (ackHeard s).onTwin fun t =>
      { t with lastAck := a.rseq,
               unacked := t.unacked.map fun u => if u.1 = a.rseq then (u.1, u.2.1, if a.west then u.2.2.1 else 1, if a.west then 1 else u.2.2.2) else u } := by
  rw [ackReceived, if_neg (by simp [hrole, hserving, hsession, hup])]
  simp only [hpage]
  rfl

/-- A page that the partner holds is struck from the backlog. -/
def pageStruck (b p : Nat) (s : State) : State := s.onTwin fun t => { t with backlog := tmod [] t.backlog b fun ps => setDel ps p }

/-- With its last page acknowledged, a head's graphics are done. -/
theorem ackReceived_page (hrole : s.twin.helm = true) (hserving : s.serving = true) (hsession : s.twin.session = true) (hup : tandemDown s = false)
    (hpage : a.page = some (b, p)) :
    ackReceived a s = if (pageStruck b p (ackHeard s)).twin.backlog.any (fun e => e.1 / 8 = b / 8) then pageStruck b p (ackHeard s)
      else graphicsDone (b / 8) (pageStruck b p (ackHeard s)) := by
  rw [ackReceived, if_neg (by simp [hrole, hserving, hsession, hup])]
  simp only [hpage]
  rfl

/-! ### The partner adrift (R377) -/

theorem partnerAdrift_late (hrole : s.twin.helm = true) (hst : s.twin.st = .paired) (hrun : 3 ≤ s.twin.lateRun) (hage : 480 ≤ s.twin.sinceAck) :
    partnerAdrift s = (waitingHeads s).foldl (fun s h => graphicsDone h s) (raise 0x0C82 2 0 s.twin.lastAck (s.onTwin fun t => { t with st := .alone })) :=
  if_pos ⟨hrole, hst, hrun, hage⟩

theorem partnerAdrift_same (h : s.twin.helm = false ∨ s.twin.st ≠ .paired ∨ s.twin.lateRun < 3 ∨ s.twin.sinceAck < 480) : partnerAdrift s = s := by
  refine if_neg fun ⟨hrole, hst, hrun, hage⟩ => ?_
  rcases h with hstandby | hother | hfew | hearly
  · exact Bool.false_ne_true (hstandby.symm.trans hrole)
  · exact hother hst
  · exact Nat.not_le.mpr hfew hrun
  · exact Nat.not_le.mpr hearly hage

/-! ### A standby adrift (R378) -/

/-- A standby adrift: no resynchronisation runs, its time coasts, and it holds no records. -/
def setAdrift (s : State) : State :=
  driveHealth (coast ((endResync s).onTwin fun t => { t with st := .adrift, retryAge := some 0, east := [], west := [] }))

theorem adrift_enters (happlies : appliesRecords s = true) (hrun : 3 ≤ s.twin.missRun) (hage : 480 ≤ s.twin.sinceRec) :
    adrift s = raise 0x0C83 2 0 s.twin.lastRseq (setAdrift s) :=
  if_pos ⟨happlies, hrun, hage⟩

theorem adrift_same (h : appliesRecords s = false ∨ s.twin.missRun < 3 ∨ s.twin.sinceRec < 480) : adrift s = s := by
  refine if_neg fun ⟨happlies, hrun, hage⟩ => ?_
  rcases h with hidle | hfew | hearly
  · exact Bool.false_ne_true (hidle.symm.trans happlies)
  · exact Nat.not_le.mpr hfew hrun
  · exact Nat.not_le.mpr hearly hage

theorem finish_twin (id : Nat) (st : Status) (detail : Nat) (s : State) : (finish id st detail s).twin = s.twin := by
  obtain ⟨_, _, _, h⟩ := finish_mailOnly id st detail s
  rw [h]

/-- Abandoning a resynchronisation leaves the role. -/
theorem endResync_helm (s : State) : (endResync s).twin.helm = s.twin.helm := by
  unfold endResync
  dsimp only [State.onTwin_twin]
  split
  · rw [finish_twin]
  · rfl

@[simp] theorem setAdrift_st (s : State) : (setAdrift s).twin.st = .adrift := rfl

@[simp] theorem setAdrift_helm (s : State) : (setAdrift s).twin.helm = s.twin.helm := endResync_helm s

@[simp] theorem raise_twin (code sev subject data : Nat) (s : State) : (raise code sev subject data s).twin = s.twin :=
  raise_keeps State.twin State.onStart_twin State.onMbox_twin _ _ _ _ _

theorem appliesRecords_adrift (h : s.twin.st = .adrift) : appliesRecords s = false := by
  simp [appliesRecords, h]

end

/-! ### The statements -/

/-- Settles O58: a record half by role, tag and die, a record by what is due or in time, an acknowledgement by what it is of, and going adrift by the run
and the age of either side. -/
theorem tandemRecordRowsComplete : Obligations.TandemRecordRowsComplete := by
  refine ⟨fun _ _ _ _ h => answers_of_eq (recordReceived_ignored h), ?received, fun s h => answers_of_eq (applyRecords_none h s.twin.east.length),
    fun _ _ _ happlies hlength hdue => answers_of_eq (recordApply_due happlies hlength hdue),
    fun _ _ hlate happlies hnew => answers_of_eq ((recordMissing_late hlate).trans (missRecord_counts happlies hnew)),
    fun _ _ h => answers_of_eq (recordMissing_same h), fun _ _ h => answers_of_eq (ackReceived_ignored h), ?acknowledged,
    fun _ hrole hst hrun hage => answers_of_eq (partnerAdrift_late hrole hst hrun hage), fun _ h => answers_of_eq (partnerAdrift_same h),
    fun _ happlies hrun hage => answers_of_eq (adrift_enters happlies hrun hage), fun _ h => answers_of_eq (adrift_same h)⟩
  case received =>
    intro w ok r s hserving hsession hup s1
    exact ⟨fun hrole hok hclaim => answers_of_eq (recordReceived_disputed hserving hsession hup hrole hok hclaim),
      fun hrole h => answers_of_eq (recordReceived_helm hserving hsession hup hrole h),
      fun hrole hkeeps => answers_of_eq (recordReceived_notKept hserving hsession hup hrole hkeeps),
      fun hrole hkeeps hok => answers_of_eq (recordReceived_badTag hserving hsession hup hrole hkeeps hok),
      fun hrole hkeeps hok => answers_of_eq (recordReceived_kept hserving hsession hup hrole hkeeps hok)⟩
  case acknowledged =>
    intro a s hrole hserving hsession hup s1
    exact ⟨fun hpage => answers_of_eq (ackReceived_half hrole hserving hsession hup hpage),
      fun _ _ hpage => answers_of_eq (ackReceived_page hrole hserving hsession hup hpage)⟩

/-- Settles O59: a standby goes adrift where the run of missing records and the age of the last one both stand, and in ADRIFT it applies none. -/
theorem adriftAtTheLaterOfTwo : Obligations.AdriftAtTheLaterOfTwo := by
  refine ⟨fun s happlies hrun hage => ⟨setAdrift s, answers_of_eq (adrift_enters happlies hrun hage), setAdrift_st s, setAdrift_helm s, ?_⟩,
    fun _ h => answers_of_eq (adrift_same (.inr h)), fun n s happlies hnew => ?_, fun _ _ heast hwest => applyRecord_empty heast hwest,
    fun s hst => answers_of_eq (applyRecords_none (.inl (appliesRecords_adrift hst)) s.twin.east.length)⟩
  · exact appliesRecords_adrift (by rw [raise_twin, setAdrift_st])
  · rw [missRecord_counts happlies hnew]
    rfl

end Sys2Proof.Proofs

/-! PROOFS.  Refclks, Anvils and the root; domains, supplies and heat (spec/13_clocks_and_power.md, R396 to R409, R412 to R415; log entries 90 and 91):
what each row does in the cases of its clauses, and the statement about them. -/

namespace Sys2Proof.Proofs
open Sys2Proof Sys2Proof.Machine

section
variable {a cause : Nat} {b w : Bool} {debt : Int} {s : State}

/-! ### Refclks and Anvils that are lost (R405, R406; log entry 90) -/

/-- A trip is counted. -/
def tripCounted (s : State) : State := s.onClocks fun c => { c with trips := inc c.trips }

/-- A refclk that is missing or off its frequency: told, but where PERST# accounts for the loss; its Anvils are unlocked. -/
def refclkLost (b : Bool) (cause : Nat) (s : State) : State :=
  let told := if cause = 1 ∧ s.pins.perstN = false then tripCounted s else raise 0x0D82 2 (bit b) cause (tripCounted s)
  dropAnvils b false (told.onClocks fun c => if b then { c with cleanB := false } else { c with cleanA := false })

theorem refclkFault_lost (hcause : cause ≠ 3) :
    refclkFault b cause s =
      if s.clocks.rooted = true ∧ s.clocks.rootB = b ∧ s.clocks.holdover = false then startHoldover (refclkLost b cause s) else refclkLost b cause s :=
  if_neg hcause

/-- Two refclks that disagree cost the other pair of Anvils their eligibility, not their lock. -/
theorem refclkFault_disagrees :
    refclkFault b 3 s = dropAnvils (!s.clocks.rootB) true ((raise 0x0D82 2 (bit b) 3 (tripCounted s)).onClocks fun c => { c with disagree := true }) :=
  rfl

theorem anvilUnlock_held (h : s.clocks.rooted = false ∨ s.clocks.holdover = true) : anvilUnlock s = dropAnvils s.clocks.rootB false (tripCounted s) := by
  refine if_neg fun ⟨hrooted, hholds⟩ => ?_
  rcases h with hunrooted | hholdover
  · exact Bool.false_ne_true (hunrooted.symm.trans hrooted)
  · exact Bool.false_ne_true (hholds.symm.trans hholdover)

theorem anvilUnlock_rooted (hrooted : s.clocks.rooted = true) (hholdover : s.clocks.holdover = false) :
    anvilUnlock s = startHoldover (dropAnvils s.clocks.rootB false (tripCounted s)) :=
  if_pos ⟨hrooted, hholdover⟩

/-! ### An Anvil that locks (R396, R406, R409) -/

/-- An Anvil is locked and eligible, and ANVIL_LOCKED told. -/
def anvilIn (a : Nat) (s : State) : State :=
  raise 0x0D84 0 (a % 2 + 256 * (a / 2)) 0 (s.onAnvil a fun x => { x with locked := true, eligible := true, eligFor := 0 })

theorem anvilLocked_barred (h : mayLock (decide (a % 2 = 1)) s = false) : anvilLocked a debt s = s := if_pos (by simp [h])

/-- An Anvil that may lock gives a start its root, ends a holdover of the other pair's, or only stands ready. -/
theorem anvilLocked_free (h : mayLock (decide (a % 2 = 1)) s = true) :
    anvilLocked a debt s =
      if (!s.clocks.rooted) = true ∧ bothEligible (decide (a % 2 = 1)) (anvilIn a s) = true then
        (anvilIn a s).onClocks fun c => { c with rooted := true, rootB := decide (a % 2 = 1) }
      else if s.clocks.holdover = true ∧ decide (a % 2 = 1) ≠ s.clocks.rootB ∧ bothEligible (decide (a % 2 = 1)) (anvilIn a s) = true then
        switchRoot (decide (a % 2 = 1)) true ((anvilIn a s).onClocks fun c =>
          { c with slewDebt := c.slewDebt + debt, marking := decide (360 ≤ (c.slewDebt + debt).natAbs) })
      else anvilIn a s :=
  if_neg (by simp [h])

theorem anvilLocked_roots (h : mayLock (decide (a % 2 = 1)) s = true) (hrooted : s.clocks.rooted = false)
    (hboth : bothEligible (decide (a % 2 = 1)) (anvilIn a s) = true) :
    anvilLocked a debt s = (anvilIn a s).onClocks fun c => { c with rooted := true, rootB := decide (a % 2 = 1) } :=
  (anvilLocked_free h).trans (if_pos ⟨by simp [hrooted], hboth⟩)

theorem anvilLocked_waits (h : mayLock (decide (a % 2 = 1)) s = true)
    (hwaits : bothEligible (decide (a % 2 = 1)) (anvilIn a s) = false ∨
      s.clocks.rooted = true ∧ (s.clocks.holdover = false ∨ decide (a % 2 = 1) = s.clocks.rootB)) : anvilLocked a debt s = anvilIn a s := by
  rw [anvilLocked_free h]
  rcases hwaits with hfew | ⟨hrooted, hholds | hown⟩
  · rw [if_neg (by simp [hfew]), if_neg (by simp [hfew])]
  · rw [if_neg (by simp [hrooted]), if_neg (by simp [hholds])]
  · rw [if_neg (by simp [hrooted]), if_neg (by simp [hown])]

theorem anvilLocked_ends_holdover (h : mayLock (decide (a % 2 = 1)) s = true) (hrooted : s.clocks.rooted = true) (hholdover : s.clocks.holdover = true)
    (hother : decide (a % 2 = 1) ≠ s.clocks.rootB) (hboth : bothEligible (decide (a % 2 = 1)) (anvilIn a s) = true) :
    anvilLocked a debt s = switchRoot (decide (a % 2 = 1)) true ((anvilIn a s).onClocks fun c =>
      { c with slewDebt := c.slewDebt + debt, marking := decide (360 ≤ (c.slewDebt + debt).natAbs) }) := by
  rw [anvilLocked_free h, if_neg (by simp [hrooted]), if_pos ⟨hholdover, hother, hboth⟩]

/-! ### Holdovers that last, and the preferred Anvil (R398, R406 to R408) -/

theorem holdoverTimeout_fatal (hholdover : s.clocks.holdover = true) (hb : bothEligible true s = false) (ha : bothEligible false s = false) :
    holdoverTimeout s = fatalD 0x0701 0 0 false false s :=
  if_pos ⟨hholdover, by simp [ha, hb]⟩

theorem holdoverTimeout_ended (h : s.clocks.holdover = false ∨ bothEligible true s = true ∨ bothEligible false s = true) : holdoverTimeout s = s := by
  refine if_neg fun ⟨hholdover, hnone⟩ => ?_
  rcases h with hends | hb | ha
  · exact Bool.false_ne_true (hends.symm.trans hholdover)
  · simp [hb] at hnone
  · simp [ha] at hnone

/-- The Anvils of the preferred refclk take the root back: they are not its holders, and both have been eligible for 1 s. -/
theorem preferredReturn_due (hpref : s.obj.powerPol.preferAnvil = 1 + bit b) (hrooted : s.clocks.rooted = true) (hholdover : s.clocks.holdover = false)
    (hother : s.clocks.rootB = !b) (hboth : bothEligible b s = true) (heast : 48000 ≤ (s.anvil (bit b)).eligFor)
    (hwest : 48000 ≤ (s.anvil (2 + bit b)).eligFor) : preferredReturn s = switchRoot b false s := by
  have hside : decide (s.obj.powerPol.preferAnvil = 2) = b := by
    rw [hpref]
    cases b <;> rfl
  have hnamed : s.obj.powerPol.preferAnvil = 1 ∨ s.obj.powerPol.preferAnvil = 2 := by
    rw [hpref]
    cases b <;> simp [bit]
  unfold preferredReturn
  dsimp only
  rw [hside, if_pos ⟨hnamed, hrooted, hholdover, by simp [hother], hboth, heast, hwest⟩]

theorem preferredReturn_not_due (hside : b = decide (s.obj.powerPol.preferAnvil = 2))
    (h : (s.obj.powerPol.preferAnvil ≠ 1 ∧ s.obj.powerPol.preferAnvil ≠ 2) ∨ s.clocks.rooted = false ∨ s.clocks.holdover = true ∨ s.clocks.rootB = b ∨
      bothEligible b s = false ∨ (s.anvil (bit b)).eligFor < 48000 ∨ (s.anvil (2 + bit b)).eligFor < 48000) : preferredReturn s = s := by
  subst hside
  refine if_neg fun ⟨hnamed, hrooted, hholdover, hother, hboth, heast, hwest⟩ => ?_
  rcases h with ⟨hnotA, hnotB⟩ | hunrooted | hholds | hown | hfew | hearly | hearly
  · exact hnamed.elim hnotA hnotB
  · exact Bool.false_ne_true (hunrooted.symm.trans hrooted)
  · exact Bool.false_ne_true (hholdover.symm.trans hholds)
  · exact hother hown
  · exact Bool.false_ne_true (hfew.symm.trans hboth)
  · exact Nat.not_le.mpr hearly heast
  · exact Nat.not_le.mpr hearly hwest

theorem slewCleared_held (h : s.clocks.holdover = true) : slewCleared s = s := if_pos h

theorem slewCleared_paid (h : s.clocks.holdover = false) :
    slewCleared s = s.onClocks fun c => { c with marking := false, slewDebt := clampI (-359) 359 c.slewDebt } :=
  if_neg (Bool.eq_false_iff.mp h)

end

section
variable {d m mv k mw : Nat} {t : Int} {ts : List Int} {s : State}

/-! ### Domains and their ports (R400, R403, R404) -/

/-- A port may begin to close, or goes on draining. -/
def Closes (d : Nat) (s : State) : Prop :=
  (s.domain d).port = .opened ∧ gateable d s = true ∧ (s.domain d).retryAfter ≤ s.elapsed ∨ (s.domain d).port = .draining

theorem quiesce_closes (h : Closes d s) :
    quiesce d true s = if outstandingAt d s = 0 then s.onDomain d fun x => { x with port := .stopping, ramping := true, upward := false }
      else s.onDomain d fun x => { x with port := .draining } :=
  if_pos h

theorem quiesce_stays (hdrains : (s.domain d).port ≠ .draining)
    (h : (s.domain d).port ≠ .opened ∨ gateable d s = false ∨ s.elapsed < (s.domain d).retryAfter) : quiesce d true s = s := by
  refine if_neg ?_
  rintro (⟨hopen, hgate, hretry⟩ | hdraining)
  · rcases h with hclosed | hbusy | hearly
    · exact hclosed hopen
    · exact Bool.false_ne_true (hbusy.symm.trans hgate)
    · exact Nat.not_le.mpr hearly hretry
  · exact hdrains hdraining

theorem quiesce_opens (h : (s.domain d).port = .gated) :
    quiesce d false s = (s.onDomain d fun x => { x with port := .starting, ramping := true, upward := true, running := true }).onFaults fun f =>
      { f with targets := tmod {} f.targets ((if 32 ≤ d then 256 else 0) + d) fun t => { t with hung := false, times := [] } } :=
  if_pos h

theorem quiesce_not_gated (h : (s.domain d).port ≠ .gated) : quiesce d false s = s := if_neg h

theorem quiesceAbandoned_reopens (h : (s.domain d).port = .draining) (hD : s.dev ≠ .fatalD) (hS : s.dev ≠ .fatalS) :
    quiesceAbandoned d s = raise 0x0D85 1 d (outstandingAt d s)
      ((s.onDomain d fun x => { x with port := .opened, retryAfter := s.elapsed + 48000 }).onClocks fun c => { c with abandoned := inc c.abandoned }) :=
  if_pos ⟨h, hD, hS⟩

theorem quiesceAbandoned_fatal (h : s.dev = .fatalD ∨ s.dev = .fatalS) : quiesceAbandoned d s = s :=
  if_neg fun ⟨_, hD, hS⟩ => h.elim hD hS

theorem quiesceAbandoned_not_draining (h : (s.domain d).port ≠ .draining) : quiesceAbandoned d s = s := if_neg fun ⟨hdraining, _⟩ => h hdraining

theorem forcedGateRow_not_draining (h : (s.domain d).port ≠ .draining) : forcedGateRow d s = s := if_neg fun ⟨hdraining, _⟩ => h hdraining

theorem forcedGateRow_gates (h : (s.domain d).port = .draining) (hforced : s.dev = .fatalS ∨ (s.dev = .fatalD ∧ s.faults.thermal = true)) :
    forcedGateRow d s = forceGate d s :=
  if_pos ⟨h, hforced⟩

theorem forcedGateRow_unforced (hS : s.dev ≠ .fatalS) (hD : s.dev ≠ .fatalD ∨ s.faults.thermal = false) : forcedGateRow d s = s := by
  refine if_neg ?_
  rintro ⟨-, hfatalS | ⟨hfatalD, hthermal⟩⟩
  · exact hS hfatalS
  · rcases hD with hother | hcool
    · exact hother hfatalD
    · exact Bool.false_ne_true (hcool.symm.trans hthermal)

theorem rampComplete_none (h : (s.domain d).ramping = false) : rampComplete d s = s := if_pos (by simp [h])

/-- A ramp that ends leaves the port gated, open, or as it was. -/
theorem rampComplete_ends (h : (s.domain d).ramping = true) :
    rampComplete d s =
      if (s.domain d).port = .stopping then s.onDomain d fun x => { x with ramping := false, rampFor := 0, running := false, port := .gated }
      else if (s.domain d).port = .starting then s.onDomain d fun x => { x with ramping := false, rampFor := 0, running := true, port := .opened }
      else s.onDomain d fun x => { x with ramping := false, rampFor := 0 } :=
  if_neg (by simp [h])

theorem rampComplete_stopped (h : (s.domain d).ramping = true) (hport : (s.domain d).port = .stopping) :
    rampComplete d s = s.onDomain d fun x => { x with ramping := false, rampFor := 0, running := false, port := .gated } :=
  (rampComplete_ends h).trans (if_pos hport)

theorem rampComplete_started (h : (s.domain d).ramping = true) (hport : (s.domain d).port = .starting) :
    rampComplete d s = s.onDomain d fun x => { x with ramping := false, rampFor := 0, running := true, port := .opened } := by
  rw [rampComplete_ends h, if_neg (by simp [hport]), if_pos hport]

theorem rampComplete_retimed (h : (s.domain d).ramping = true) (hstop : (s.domain d).port ≠ .stopping) (hstart : (s.domain d).port ≠ .starting) :
    rampComplete d s = s.onDomain d fun x => { x with ramping := false, rampFor := 0 } := by
  rw [rampComplete_ends h, if_neg hstop, if_neg hstart]

/-! ### Supplies (R412) -/

theorem supplyLow_again (hlow : mv * 100 < nominalMv m * 96) (h : s.clocks.lowRails.contains m = true) : supplyLow m mv s = noteRail m mv s :=
  (if_pos hlow).trans (if_pos h)

theorem supplyLow_first (hlow : mv * 100 < nominalMv m * 96) (h : s.clocks.lowRails.contains m = false) :
    supplyLow m mv s = raise 0x0D89 2 m mv ((noteRail m mv s).onClocks fun c => { c with lowRails := setAdd c.lowRails m }) :=
  (if_pos hlow).trans (if_neg (Bool.eq_false_iff.mp h))

theorem supplyLow_ends (h : nominalMv m * 96 ≤ mv * 100) :
    supplyLow m mv s = (noteRail m mv s).onClocks fun c => { c with lowRails := setDel c.lowRails m } :=
  if_neg (Nat.not_lt.mpr h)

/-! ### Heat (R414, R415; log entry 91) -/

theorem thermalTrip_below (h : t < 1150) : thermalTrip k t s = s := if_pos h

theorem thermalTrip_fatal (h : 1150 ≤ t) :
    thermalTrip k t s = ((List.range 59).filter fun d => !tripKeeps d).foldl beginForcedGate
      ((fatalD 0x0801 k (ofInt 64 t) (decide (24 ≤ k)) false (s.onClocks fun c => { c with throttle := 4 })).onFaults fun f => { f with thermal := true }) :=
  if_neg (not_lt.mpr h)

/-- The first hot reading is noted; the second in a row sets the throttle's first step. -/
theorem throttleNext_first (hhot : 10 * s.obj.powerPol.throttleC ≤ t) (hold : s.clocks.throttle = 0) :
    throttleNext t s = if 1 ≤ s.clocks.hot then 1 else 0 := by
  simp [throttleNext, hhot, hold]

theorem throttleNext_hot (hhot : 10 * s.obj.powerPol.throttleC ≤ t) (hlow : 1 ≤ s.clocks.throttle) (hhigh : s.clocks.throttle < 3) :
    throttleNext t s = if msTicks s.obj.powerPol.stepMs ≤ s.clocks.inStep + 48 then s.clocks.throttle + 1 else s.clocks.throttle := by
  simp [throttleNext, hhot, hhigh, Nat.ne_of_gt hlow]

theorem throttleNext_cool (hcool : t < 10 * s.obj.powerPol.throttleC - 50) (hlow : 1 ≤ s.clocks.throttle) (hhigh : s.clocks.throttle ≤ 3) :
    throttleNext t s = if 48000 ≤ s.clocks.coolFor + 48 then s.clocks.throttle - 1 else s.clocks.throttle := by
  have hbelow : ¬(10 * (s.obj.powerPol.throttleC : Int) ≤ t) := by omega
  simp [throttleNext, hbelow, hcool, hhigh, Nat.lt_of_succ_le hlow]

theorem throttleNext_idle (hcool : t < 10 * s.obj.powerPol.throttleC - 50) (hold : s.clocks.throttle = 0) : throttleNext t s = 0 := by
  have hbelow : ¬(10 * (s.obj.powerPol.throttleC : Int) ≤ t) := by omega
  simp [throttleNext, hbelow, hold]

/-- A cool reading with the throttle off: only the readings and the times are kept. -/
theorem thermalSample_idle (hcool : hottest ts < 10 * s.obj.powerPol.throttleC - 50) (hold : s.clocks.throttle = 0) :
    thermalSample ts mw s =
      (s.onClocks fun c => { c with temps := ts, powerMw := mw, throttle := 0, hot := 0, inStep := c.inStep + 48, coolFor := c.coolFor + 48 }).onLog fun l =>
        thermalCycle (hottest ts) { l with tempMax := max l.tempMax (hottest ts) } := by
  have hbelow : ¬(10 * (s.obj.powerPol.throttleC : Int) ≤ hottest ts) := by omega
  unfold thermalSample
  simp [throttleNext_idle hcool hold, hold, hcool, hbelow]

end

/-! ### The statement -/

/-- Settles O50: each clause is one equation of its row: clocks by the root, the holdover and what is eligible, domains by their port, heat by the
throttle's next step. -/
theorem clockAndPowerRowsComplete : Obligations.ClockAndPowerRowsComplete := by
  refine ⟨⟨fun _ _ _ hcause => answers_of_eq (refclkFault_lost hcause), fun _ _ => answers_of_eq refclkFault_disagrees,
    fun _ h => answers_of_eq (anvilUnlock_held h), fun _ hrooted hholdover => answers_of_eq (anvilUnlock_rooted hrooted hholdover), fun _ _ => rfl,
    fun _ _ _ h => answers_of_eq (anvilLocked_barred h), ?locks, fun _ hholdover hb ha => answers_of_eq (holdoverTimeout_fatal hholdover hb ha),
    fun _ h => answers_of_eq (holdoverTimeout_ended h), fun _ _ => rfl,
    fun _ hpref hrooted hholdover hother hboth heast hwest =>
      answers_of_eq (preferredReturn_due (b := true) hpref hrooted hholdover hother hboth heast hwest),
    fun _ hpref hrooted hholdover hother hboth heast hwest =>
      answers_of_eq (preferredReturn_due (b := false) hpref hrooted hholdover hother hboth heast hwest),
    fun _ h => answers_of_eq (preferredReturn_not_due rfl h), fun _ h => answers_of_eq (slewCleared_held h),
    fun _ h => answers_of_eq (slewCleared_paid h)⟩,
    ⟨fun _ _ h => answers_of_eq (quiesce_closes h), fun _ _ hdrains h => answers_of_eq (quiesce_stays hdrains h),
      fun _ _ h => answers_of_eq (quiesce_opens h), fun _ _ h => answers_of_eq (quiesce_not_gated h),
      fun _ _ h hD hS => answers_of_eq (quiesceAbandoned_reopens h hD hS), fun _ _ h => answers_of_eq (quiesceAbandoned_fatal h),
      fun _ _ h => ⟨answers_of_eq (quiesceAbandoned_not_draining h), answers_of_eq (forcedGateRow_not_draining h)⟩,
      fun _ _ h hforced => answers_of_eq (forcedGateRow_gates h hforced), fun _ _ hS hD => answers_of_eq (forcedGateRow_unforced hS hD),
      fun _ _ h => answers_of_eq (rampComplete_none h), fun _ _ h hport => answers_of_eq (rampComplete_stopped h hport),
      fun _ _ h hport => answers_of_eq (rampComplete_started h hport), fun _ _ h hstop hstart => answers_of_eq (rampComplete_retimed h hstop hstart),
      fun _ _ _ hlow h => answers_of_eq (supplyLow_again hlow h), fun _ _ _ hlow h => answers_of_eq (supplyLow_first hlow h),
      fun _ _ _ h => answers_of_eq (supplyLow_ends h), fun _ _ _ h => answers_of_eq (thermalTrip_below h),
      fun _ _ _ h => answers_of_eq (thermalTrip_fatal h), fun _ _ _ hcool hold => answers_of_eq (thermalSample_idle hcool hold), fun _ _ _ => rfl,
      fun _ _ hhot hold => throttleNext_first hhot hold, fun _ _ hhot hlow hhigh => throttleNext_hot hhot hlow hhigh,
      fun _ _ hcool hlow hhigh => throttleNext_cool hcool hlow hhigh⟩⟩
  case locks =>
    intro a debt s hfree b s1
    exact ⟨fun hrooted hholds => answers_of_eq (anvilLocked_waits hfree (.inr ⟨hrooted, .inl hholds⟩)),
      fun hrooted hboth => answers_of_eq (anvilLocked_roots hfree hrooted hboth), fun hfew => answers_of_eq (anvilLocked_waits hfree (.inl hfew)),
      fun hrooted _ hown => answers_of_eq (anvilLocked_waits hfree (.inr ⟨hrooted, .inr hown⟩)),
      fun hrooted hholdover hother hboth => answers_of_eq (anvilLocked_ends_holdover hfree hrooted hholdover hother hboth)⟩

end Sys2Proof.Proofs

/-! PROOFS.  Journal cuts, durable commits, the interval's review, checkpoints and the patrol of the NOR devices (spec/14_starts_stops_logbook.md, R431 to
R438; R440, R495; log entries 94, 95, 105 and 107): what each row does where it is due, what a stored commit and a checkpoint hold, and the statement. -/

namespace Sys2Proof.Proofs
open Sys2Proof Sys2Proof.Machine

section
variable {ok0 ok1 : Bool} {bad0 bad1 causeA causeB d bad : Nat} {c : CutRec} {r : List CutRec} {s : State}

/-! ### Regular cuts (R434) -/

/-- The chip cuts: it serves, its supply stands, and its journal is written. -/
def Cuts (s : State) : Prop := s.dev.ready = true ∧ s.start.powerFail = false ∧ s.journal.writes = true

theorem regularCut_stopped (h : s.dev.ready = false ∨ s.start.powerFail = true ∨ s.journal.writes = false) : regularCut true s = s :=
  if_pos (by simpa using h)

/-- What a tick's cut does of a chip that cuts: nothing where none is due or waits, and no commit without changes. -/
theorem regularCut_cuts (h : Cuts s) :
    regularCut true s =
      if cutDue s = true ∨ s.journal.starved = true then
        let s1 := s.onJournal fun j => { j with regular := if cutDue s then some s.elapsed else j.regular }
        if s.journal.pending = [] then s1.onJournal fun j => { j with starved := false, waited := 0 } else cutNow .regular s1
      else s := by
  obtain ⟨hready, hpower, hwrites⟩ := h
  exact if_neg (by simp [hready, hpower, hwrites])

theorem regularCut_due (h : Cuts s) (hdue : cutDue s = true) (hpending : s.journal.pending ≠ []) :
    regularCut true s = cutNow .regular (s.onJournal fun j => { j with regular := some s.elapsed }) := by
  rw [regularCut_cuts h, if_pos (.inl hdue), hdue]
  exact if_neg hpending

theorem regularCut_waited (h : Cuts s) (hdue : cutDue s = false) (hstarved : s.journal.starved = true) (hpending : s.journal.pending ≠ []) :
    regularCut true s = cutNow .regular s := by
  rw [regularCut_cuts h, if_pos (.inr hstarved), hdue]
  exact if_neg hpending

theorem regularCut_unchanged (h : Cuts s) (hdue : cutDue s = true) (hpending : s.journal.pending = []) :
    regularCut true s = (s.onJournal fun j => { j with regular := some s.elapsed }).onJournal fun j => { j with starved := false, waited := 0 } := by
  rw [regularCut_cuts h, if_pos (.inl hdue), hdue]
  exact if_pos hpending

theorem regularCut_not_due (hdue : cutDue s = false) (hstarved : s.journal.starved = false) : regularCut true s = s := by
  by_cases hstopped : s.dev.ready = false ∨ s.start.powerFail = true ∨ s.journal.writes = false
  · exact regularCut_stopped hstopped
  · rw [regularCut_cuts (by simpa [Cuts] using hstopped), if_neg (by simp [hdue, hstarved])]

/-! ### Commits that end (R431, R437; log entry 94) -/

/-- The oldest commit has left the writing, and a device that did not take it has failed. -/
def commitTried (ok0 ok1 : Bool) (r : List CutRec) (s : State) : State :=
  let s0 := s.onJournal fun j => { j with writing := r }
  let s1 := if ok0 then s0 else norFails 0 s0
  if ok1 then s1 else norFails 1 s1

theorem commitEnds_nothing (h : s.journal.writing = []) : commitEnds ok0 ok1 s = (s, none) := by simp only [commitEnds, h]

theorem commitEnds_oldest (h : s.journal.writing = c :: r) :
    commitEnds ok0 ok1 s =
      if (commitTried ok0 ok1 r s).journal.good0 = true ∨ (commitTried ok0 ok1 r s).journal.good1 = true then
        (storeCommit c (commitTried ok0 ok1 r s), some c)
      else ((commitTried ok0 ok1 r s).onJournal fun j => { j with writing := [] }, none) := by
  unfold commitEnds
  rw [h]
  rfl

theorem commitDurable_nothing (h : s.journal.writing = []) : commitDurable ok0 ok1 s = s := by rw [commitDurable, commitEnds_nothing h]

/-- A commit that both devices took, one of them good, is durable; what the ring's head comes to is carried forward. -/
theorem commitDurable_stored (h : s.journal.writing = c :: r) (hkind : c.kind ≠ .trial) (hgood : s.journal.good0 = true ∨ s.journal.good1 = true) :
    commitDurable true true s = carryForward (storeCommit c (s.onJournal fun j => { j with writing := r })) := by
  have hends : commitEnds true true s = (storeCommit c (commitTried true true r s), some c) := (commitEnds_oldest h).trans (if_pos hgood)
  rw [commitDurable, hends]
  exact congrArg carryForward (if_neg hkind)

theorem commitDurable_lost (h : s.journal.writing = c :: r) (h0 : (commitTried ok0 ok1 r s).journal.good0 = false)
    (h1 : (commitTried ok0 ok1 r s).journal.good1 = false) :
    commitDurable ok0 ok1 s = (commitTried ok0 ok1 r s).onJournal fun j => { j with writing := [] } := by
  rw [commitDurable, commitEnds_oldest h, if_neg (by simp [h0, h1])]

/-- The journal with a commit stored, before the wear of its devices is counted. -/
def storedJournal (c : CutRec) (s : State) : JournalRt :=
  { s.journal with
    durable := c.obj, seq := c.seq, cutTick := c.tick, commits := inc s.journal.commits, final := decide (c.kind = .final),
    bytes := (s.journal.bytes.filter fun b => s.elapsed < b.1 + 2880000) ++ [(s.elapsed, c.size)], bytesDay := s.journal.bytesDay + c.size,
    places := c.keys.foldl (fun t k => tset 0 t k (ringHead s.journal)) s.journal.places }

/-- The wear of a good device is a matter of its head and its erases alone (R436). -/
theorem wearDevice_keeps {α : Type} (get : JournalRt → α) (hget : ∀ j h e, get { j with headBytes := h, erases := e } = get j) (good : Bool) (d n : Nat)
    (j : JournalRt) : get (if good then wearDevice d n j else j) = get j := by
  cases good
  · rfl
  · exact hget _ _ _

theorem storeCommit_keeps {α : Type} (get : JournalRt → α) (hget : ∀ j h e, get { j with headBytes := h, erases := e } = get j) (c : CutRec) (s : State) :
    get (storeCommit c s).journal = get (storedJournal c s) :=
  (wearDevice_keeps get hget _ 1 c.size _).trans (wearDevice_keeps get hget _ 0 c.size _)

/-! ### The interval (R435) -/

theorem reviewInterval_longer (hrate : 14336 < writeRate s) (hage : 2880000 ≤ s.journal.sinceUp) (hmax : s.journal.interval < s.obj.journalPol.maxMs) :
    reviewInterval s = setInterval (min (longer s.journal.interval) s.obj.journalPol.maxMs) s :=
  if_pos ⟨hrate, hage, hmax⟩

theorem reviewInterval_shorter (hrate : writeRate s < 3584) (hage : 28800000 ≤ s.journal.lowFor) (hbase : s.obj.journalPol.baseMs < s.journal.interval) :
    reviewInterval s = setInterval (max (shorter s.journal.interval) s.obj.journalPol.baseMs) s :=
  (if_neg (by omega)).trans (if_pos ⟨hrate, hage, hbase⟩)

theorem reviewInterval_stays (hlow : 3584 ≤ writeRate s) (hhigh : writeRate s ≤ 14336) : reviewInterval s = s :=
  (if_neg (by omega)).trans (if_neg (by omega))

/-! ### Checkpoints (R438, R440; log entry 95) -/

theorem hourlyCheckpoint_due (hready : s.dev.ready = true) (hage : 172800000 ≤ s.log.age) : hourlyCheckpoint s = checkpoint s := if_pos ⟨hready, hage⟩

theorem hourlyCheckpoint_early (h : s.log.age < 172800000) : hourlyCheckpoint s = s := if_neg fun ⟨_, hage⟩ => Nat.not_le.mpr h hage

/-- The logbook as a checkpoint writes it. -/
def checkpointLog (s : State) : State := (logRepairs s).onLog fun l => { l with checkpoints := inc l.checkpoints, lastTick := s.now, age := 0 }

@[simp] theorem logbookBytes_length (s : State) : (logbookBytes s).length = 4096 := recordBytes_length _ _

/-- The wear of the logbook's rings is a matter of the erases alone (R438). -/
theorem wearLog_keeps {α : Type} (get : JournalRt → α) (hget : ∀ j e, get { j with erases := e } = get j) (n : Nat) (j : JournalRt) :
    get (wearLog n j) = get j := by
  unfold wearLog
  split
  · exact hget _ _
  · rfl

/-- The journal beside a checkpoint: its record joins those that the logbook's rings hold. -/
def checkpointJournal (s : State) : JournalRt :=
  { s.journal with
    book := (checkpointLog s).log, records := (s.journal.records ++ [logbookBytes (checkpointLog s)]).drop (s.journal.records.length + 1 - 512) }

theorem checkpoint_eq (s : State) :
    checkpoint s = ((checkpointLog s).onJournal fun _ => wearLog (checkpointLog s).log.checkpoints (checkpointJournal s)).hdmWrite 0x10000000
      (logbookBytes (checkpointLog s)) := rfl

theorem checkpoint_journal (s : State) : (checkpoint s).journal = wearLog (checkpointLog s).log.checkpoints (checkpointJournal s) := rfl

theorem checkpoint_log (s : State) : (checkpoint s).log = (checkpointLog s).log := rfl

theorem checkpoint_obj (s : State) : (checkpoint s).obj = s.obj := by
  have hkept : (checkpointLog s).obj = s.obj := rfl
  rw [checkpoint_eq, hdmWrite_obj, State.onJournal_obj, hkept]

theorem checkpoint_hdm (s : State) : (checkpoint s).hdm = memWrite s.hdm 0x10000000 (logbookBytes (checkpointLog s)) := by
  have hkept : (checkpointLog s).hdm = s.hdm := rfl
  rw [checkpoint_eq, hdmWrite_hdm, State.onJournal_hdm, hkept]

theorem checkpoint_records (s : State) :
    (checkpoint s).journal.records = (s.journal.records ++ [logbookBytes (checkpointLog s)]).drop (s.journal.records.length + 1 - 512) := by
  rw [checkpoint_journal, wearLog_keeps JournalRt.records fun _ _ => rfl, checkpointJournal]

theorem checkpoint_pending (s : State) : (checkpoint s).journal.pending = s.journal.pending := by
  rw [checkpoint_journal, wearLog_keeps JournalRt.pending fun _ _ => rfl, checkpointJournal]

/-! ### The patrol (R440, R495; log entry 105) -/

/-- The patrol has read both devices: one that cannot be read has failed, and what fails is rewritten from the other. -/
def patrolRead (ok0 ok1 : Bool) (bad0 bad1 : Nat) (s : State) : State :=
  let s1 := s.onJournal fun j => { j with patrolAge := 0 }
  let s2 := if ok0 then s1 else norFails 0 s1
  rewriteSectors 1 bad1 (rewriteSectors 0 bad0 (if ok1 then s2 else norFails 1 s2))

theorem norPatrol_due (hready : s.dev.ready = true) (hage : 29030400000 ≤ s.journal.patrolAge) :
    norPatrol ⟨ok0, bad0⟩ ⟨ok1, bad1⟩ causeA causeB s =
      let s4 := if (s.fwSlot 0).st = 1 ∧ causeA ≠ 0 then raise 0x1187 3 0 causeA (patrolRead ok0 ok1 bad0 bad1 s) else patrolRead ok0 ok1 bad0 bad1 s
      if (s.fwSlot 1).st = 1 ∧ causeB ≠ 0 then raise 0x1187 3 1 causeB s4 else s4 :=
  if_neg (by simp [hready, hage])

theorem norPatrol_not_due (h : s.dev.ready = false ∨ s.journal.patrolAge < 29030400000) :
    norPatrol ⟨ok0, bad0⟩ ⟨ok1, bad1⟩ causeA causeB s = s :=
  if_pos (by simpa using h)

theorem rewriteSectors_rewrites (hbad : 0 < bad) (h0 : s.journal.good0 = true) (h1 : s.journal.good1 = true) :
    rewriteSectors d bad s = s.onJournal fun j => { j with erases := tmod 0 j.erases d fun e => satAdd 64 e bad } := by
  simp [rewriteSectors, h0, h1, Nat.ne_of_gt hbad]

end

/-! ### The statement -/

/-- Settles O46: a cut by what is due and what has changed, a commit by the devices that took it, the interval by the write rate, a checkpoint and the
patrol by their ages. -/
theorem journalRowsComplete : Obligations.JournalRowsComplete := by
  refine ⟨fun _ hready hpower hwrites hdue hpending => answers_of_eq (regularCut_due ⟨hready, hpower, hwrites⟩ hdue hpending),
    fun _ hready hpower hwrites hdue hstarved hpending => answers_of_eq (regularCut_waited ⟨hready, hpower, hwrites⟩ hdue hstarved hpending),
    fun _ hdue hstarved => answers_of_eq (regularCut_not_due hdue hstarved),
    fun _ hready hpower hwrites hdue hpending => answers_of_eq (regularCut_unchanged ⟨hready, hpower, hwrites⟩ hdue hpending),
    fun _ h => answers_of_eq (regularCut_stopped h), fun _ _ _ h hkind hgood => answers_of_eq (commitDurable_stored h hkind hgood),
    fun _ _ _ _ _ h h0 h1 => answers_of_eq (commitDurable_lost h h0 h1), ?stored, fun _ _ _ h => answers_of_eq (commitDurable_nothing h),
    fun _ hrate hage hmax => answers_of_eq (reviewInterval_longer hrate hage hmax),
    fun _ hrate hage hbase => answers_of_eq (reviewInterval_shorter hrate hage hbase), fun _ hlow hhigh => answers_of_eq (reviewInterval_stays hlow hhigh),
    fun _ hready hage => answers_of_eq (hourlyCheckpoint_due hready hage), fun _ h => answers_of_eq (hourlyCheckpoint_early h), ?checkpoint,
    fun _ _ _ _ _ _ _ hready hage => answers_of_eq (norPatrol_due hready hage), fun _ _ _ hbad h0 h1 => rewriteSectors_rewrites hbad h0 h1,
    fun _ _ _ _ _ _ _ h => answers_of_eq (norPatrol_not_due h)⟩
  case stored =>
    intro c s
    exact ⟨storeCommit_keeps JournalRt.durable (fun _ _ _ => rfl) c s, storeCommit_keeps JournalRt.seq (fun _ _ _ => rfl) c s,
      storeCommit_keeps JournalRt.cutTick (fun _ _ _ => rfl) c s, storeCommit_keeps JournalRt.commits (fun _ _ _ => rfl) c s,
      storeCommit_keeps JournalRt.writing (fun _ _ _ => rfl) c s, storeCommit_keeps JournalRt.pending (fun _ _ _ => rfl) c s, rfl, rfl⟩
  case checkpoint =>
    exact fun s => ⟨rfl, rfl, rfl, checkpoint_obj s, checkpoint_pending s, logbookBytes (checkpointLog s), logbookBytes_length _, checkpoint_hdm s,
      checkpoint_records s⟩

end Sys2Proof.Proofs

/-! PROOFS.  What the steps of a start leave alone (spec/14_starts_stops_logbook.md, R421, R446): events, completions and lanes that go to DETECT keep the
step's number, and the end of a start keeps the device state. -/

namespace Sys2Proof.Proofs
open Sys2Proof Sys2Proof.Machine

/-! ### The number of the step -/

/-- An event changes nothing of a start but the events that wait for its end (R446). -/
theorem raise_start (code sev subject data : Nat) (s : State) : ∃ es, (raise code sev subject data s).start = { s.start with events := es } := by
  unfold raise
  dsimp only
  split
  · exact ⟨_, rfl⟩
  · split
    · exact ⟨_, rfl⟩
    · exact ⟨_, rfl⟩

@[simp] theorem raise_stepNo (code sev subject data : Nat) (s : State) : (raise code sev subject data s).start.stepNo = s.start.stepNo := by
  obtain ⟨_, h⟩ := raise_start code sev subject data s
  rw [h]

@[simp] theorem raise_running (code sev subject data : Nat) (s : State) : (raise code sev subject data s).start.running = s.start.running := by
  obtain ⟨_, h⟩ := raise_start code sev subject data s
  rw [h]

@[simp] theorem raise_dev (code sev subject data : Nat) (s : State) : (raise code sev subject data s).dev = s.dev :=
  raise_keeps State.dev State.onStart_dev State.onMbox_dev _ _ _ _ _

@[simp] theorem finish_start (id : Nat) (st : Status) (detail : Nat) (s : State) : (finish id st detail s).start = s.start := by
  obtain ⟨_, _, _, h⟩ := finish_mailOnly id st detail s
  rw [h]

@[simp] theorem deselect_stepNo (r : Nat) (s : State) : (deselect r s).start.stepNo = s.start.stepNo := by
  unfold deselect
  split
  · split
    · rfl
    · exact raise_stepNo _ _ _ _ _
  · rfl

@[simp] theorem disqualify_stepNo (r cause : Nat) (s : State) : (disqualify r cause s).start.stepNo = s.start.stepNo := by
  unfold disqualify
  dsimp only
  split
  · rfl
  · split
    · rfl
    · rw [deselect_stepNo, raise_stepNo]
      rfl

@[simp] theorem watchLane_stepNo (r : Nat) (s : State) : (watchLane r s).start.stepNo = s.start.stepNo := by
  unfold watchLane
  dsimp only
  split_ifs
  · rfl
  · rfl
  · rfl
  · rfl
  · rw [disqualify_stepNo]
    rfl

@[simp] theorem laneMoved_stepNo (lane : Nat) (s : State) : (laneMoved lane s).start.stepNo = s.start.stepNo := by
  unfold laneMoved
  refine foldl_keeps (fun t => t.start.stepNo) (fun t r => ?_) _ _
  split
  · exact watchLane_stepNo r t
  · rfl

@[simp] theorem tandemLost_stepNo (lane : Nat) (s : State) : (tandemLost lane s).start.stepNo = s.start.stepNo := by
  unfold tandemLost
  dsimp only
  split
  · rw [State.onTwin_start, raise_stepNo]
  · exact raise_stepNo _ _ _ _ _

@[simp] theorem setLane_stepNo (lane : Nat) (rx tx : LaneSt) (s : State) : (setLane lane rx tx s).start.stepNo = s.start.stepNo := by
  unfold setLane
  dsimp only
  split_ifs
  · rfl
  · exact raise_stepNo _ _ _ _ _
  · exact (tandemLost_stepNo _ _).trans (raise_stepNo _ _ _ _ _)
  · exact raise_stepNo _ _ _ _ _
  · exact (laneMoved_stepNo _ _).trans (raise_stepNo _ _ _ _ _)

@[simp] theorem withdrawMoor_start (lane by_ : Nat) (s : State) : (withdrawMoor lane by_ s).start = s.start := by
  unfold withdrawMoor
  split
  · rfl
  · exact finish_start _ _ _ _

@[simp] theorem toDetect_stepNo (lane by_ : Nat) (s : State) : (toDetect lane by_ s).start.stepNo = s.start.stepNo := by
  refine (setLane_stepNo lane .detect .detect (dropMoor lane by_ s)).trans ?_
  rw [dropMoor, withdrawMoor_start]

@[simp] theorem stepLanes_stepNo (lanes : List Nat) (s : State) : (stepLanes lanes s).start.stepNo = s.start.stepNo := by
  unfold stepLanes
  exact foldl_keeps (fun t => t.start.stepNo) (fun t l => toDetect_stepNo l 0 (t.onLane l _)) _ s

/-- The step after the running one: a warm start leaves out steps 6, 7 and 9 (R420). -/
def nextStepNo (s : State) : Nat :=
  if s.start.warm then (if s.start.stepNo + 1 = 6 then 8 else if s.start.stepNo + 1 = 9 then 10 else s.start.stepNo + 1) else s.start.stepNo + 1

theorem nextStep_stepNo (s : State) : (nextStep s).start.stepNo = nextStepNo s := by
  unfold nextStep
  extract_lets n m s1
  split_ifs
  · rfl
  · exact stepLanes_stepNo _ _
  · exact stepLanes_stepNo _ _
  · rfl

theorem nextStepNo_cold {s : State} (h : s.start.warm = false) : nextStepNo s = s.start.stepNo + 1 := by simp [nextStepNo, h]

theorem nextStepNo_warm {s : State} (h : s.start.warm = true) :
    nextStepNo s = if s.start.stepNo = 5 then 8 else if s.start.stepNo = 8 then 10 else s.start.stepNo + 1 := by
  simp [nextStepNo, h]

/-! ### The end of a start -/

/-- The state as step 14 makes it READY, its events not yet raised. -/
def madeReady (s : State) : State :=
  ({ (if s.start.kind = StartKind.warm then resetAllRings s else resetEventRings (resetAllRings s)) with
      dev := if s.twin.helm then .readyHelm else .readyStandby }).onStart fun r => { r with running := false, stepNo := 14, events := [], readyTick := s.now }

/-- What step 14 does after `madeReady` keeps whatever events, the partner's session, the service and the collector's level do not touch. -/
theorem stepReady_keeps {α : Type} (get : State → α) (hraise : ∀ c v x d s, get (raise c v x d s) = get s) (hmbox : ∀ s f, get (s.onMbox f) = get s)
    (htime : ∀ s f, get (s.onTime f) = get s) (htwin : ∀ s f, get (s.onTwin f) = get s) (hfaults : ∀ s f, get (s.onFaults f) = get s)
    (hclocks : ∀ s f, get (s.onClocks f) = get s) (s : State) : get (stepReady s) = get (madeReady s) := by
  have htold : ∀ (c : Prop) [Decidable c] (t : State) (code sev subject data : Nat), get (if c then raise code sev subject data t else t) = get t := by
    intro c _ t code sev subject data
    split
    · exact hraise _ _ _ _ _
    · rfl
  have hresync : ∀ (c : Prop) [Decidable c] (t : State), get (if c then t else beginResync t) = get t := by
    intro c _ t
    split
    · rfl
    · unfold beginResync driveHealth coast
      rw [htwin, htime, htwin]
  unfold stepReady
  extract_lets held s1 s2 s3 s4 s5 s6
  calc get (driveHealth (((if s6.twin.helm then s6 else beginResync s6).onFaults fun f => { f with alive := 1 }).onClocks fun c => { c with railOut := false }))
      = get (if s6.twin.helm then s6 else beginResync s6) := (htwin _ _).trans ((hclocks _ _).trans (hfaults _ _))
    _ = get s6 := hresync _ _
    _ = get s5 := hraise _ _ _ _ _
    _ = get s4 := htold _ _ _ _ _ _
    _ = get s3 := htold _ _ _ _ _ _
    _ = get s2 := foldl_keeps get (fun _ _ => hmbox _ _) _ _
    _ = get (madeReady s) := rfl

theorem stepReady_dev (s : State) : (stepReady s).dev = if s.twin.helm then .readyHelm else .readyStandby :=
  stepReady_keeps State.dev raise_dev (fun _ _ => rfl) (fun _ _ => rfl) (fun _ _ => rfl) (fun _ _ => rfl) (fun _ _ => rfl) s

theorem stepReady_running (s : State) : (stepReady s).start.running = false :=
  stepReady_keeps (fun t => t.start.running) raise_running (fun _ _ => rfl) (fun _ _ => rfl) (fun _ _ => rfl) (fun _ _ => rfl) (fun _ _ => rfl) s

end Sys2Proof.Proofs

/-! PROOFS.  Power on and off, supplies, power warnings, and the steps of a start (spec/14_starts_stops_logbook.md, R411, R412, R419 to R430, R442; log
entries 92 and 93): what each row does in the cases of its clauses, and the statement about them. -/

namespace Sys2Proof.Proofs
open Sys2Proof Sys2Proof.Machine

section
variable {m mv id : Nat} {w : Bool} {s : State}

/-! ### Power and supplies (R411, R412, R419, R430) -/

theorem powerOn_off (h : s.dev = .off) :
    powerOn s = beginStart false (if s.start.cause = 3 then 3 else 0) (s.onClocks fun c => { c with railsUp := true, aoUp := true, lowRails := [] }) :=
  if_neg (not_not.mpr h)

theorem powerOn_running (h : s.dev ≠ .off) : powerOn s = s := if_pos h

/-- The always-on island lives on through a supply reset, and records it. -/
def islandLives (m mv : Nat) : Bool := decide (m ≠ 7) || decide (700 < mv)

/-- A monitored core supply below −8 % of its nominal takes the power down. -/
theorem supplyReset_trips (hdev : s.dev ≠ .off) (hlow : mv * 100 < nominalMv m * 92) (hm : m < 4 ∨ m = 7) :
    supplyReset m mv s =
      powerDown (islandLives m mv) (if islandLives m mv then captureFirst 0x0901 3 mv (decide (m = 1 ∨ m = 3)) false s else s) :=
  if_neg (by simp [hdev, hlow, hm])

theorem supplyReset_core (hdev : s.dev ≠ .off) (hlow : mv * 100 < nominalMv m * 92) (hm : m < 4) :
    supplyReset m mv s = powerDown true (captureFirst 0x0901 3 mv (decide (m = 1 ∨ m = 3)) false s) := by
  have hlives : islandLives m mv = true := by simp [islandLives, show m ≠ 7 by omega]
  rw [supplyReset_trips hdev hlow (.inl hm), hlives]
  rfl

theorem supplyReset_island_dies (hdev : s.dev ≠ .off) (hmv : mv ≤ 700) : supplyReset 7 mv s = powerDown false s := by
  have hdies : islandLives 7 mv = false := by simp [islandLives, hmv]
  rw [supplyReset_trips hdev (by simp only [nominalMv]; omega) (.inr rfl), hdies]
  rfl

theorem supplyReset_island_low (hdev : s.dev ≠ .off) (hlives : 700 < mv) (hlow : mv < 736) :
    supplyReset 7 mv s = powerDown true (captureFirst 0x0901 3 mv false false s) := by
  have hisland : islandLives 7 mv = true := by simp [islandLives, hlives]
  rw [supplyReset_trips hdev (by simp only [nominalMv]; omega) (.inr rfl), hisland]
  rfl

theorem supplyReset_stands (h : s.dev = .off ∨ nominalMv m * 92 ≤ mv * 100 ∨ 4 ≤ m ∧ m ≠ 7) : supplyReset m mv s = s := by
  refine if_pos ?_
  rcases h with hoff | hstands | ⟨hm, hnot⟩
  · exact .inl hoff
  · exact .inr (.inl hstands)
  · exact .inr (.inr (by omega))

/-! ### Power warnings (R427, R429; log entry 93) -/

/-- PWR_FAIL# is low. -/
def warningPin (s : State) : State := s.onPins fun p => { p with pwrFailN := false }

/-- A power warning is counted, the health driven, and the host told where its link is up. -/
def powerWarned (s : State) : State :=
  let t := driveHealth (((warningPin s).onStart fun r => { r with powerFail := true }).onLog fun l => { l with warned := inc l.warned })
  if s.host.link = .down then t else raise 0x0E84 3 0 (pendingBytes s) t

theorem pwrFailAsserted_noted (h : s.serving = false ∨ s.start.powerFail = true) : pwrFailAsserted s = warningPin s := if_pos (by simpa using h)

/-- A chip that serves stops at a warning, and a slot being written is given up first. -/
theorem pwrFailAsserted_stops (hserving : s.serving = true) (hfirst : s.start.powerFail = false) :
    pwrFailAsserted s = stopCommit (if s.fw.phase = .writing then
      raise 0x1182 2 s.fw.source.code 0 (dropSession (match s.fw.job with
        | some id => finish id .state 0xFFFF (powerWarned s)
        | none => powerWarned s)) else powerWarned s) :=
  if_neg (by simp [hserving, hfirst])

theorem pwrFailAsserted_idle (hserving : s.serving = true) (hfirst : s.start.powerFail = false) (hphase : s.fw.phase ≠ .writing) :
    pwrFailAsserted s = stopCommit (powerWarned s) := by
  rw [pwrFailAsserted_stops hserving hfirst, if_neg hphase]

theorem pwrFailAsserted_writing_job (hserving : s.serving = true) (hfirst : s.start.powerFail = false) (hphase : s.fw.phase = .writing)
    (hjob : s.fw.job = some id) :
    pwrFailAsserted s = stopCommit (raise 0x1182 2 s.fw.source.code 0 (dropSession (finish id .state 0xFFFF (powerWarned s)))) := by
  rw [pwrFailAsserted_stops hserving hfirst, if_pos hphase, hjob]

theorem pwrFailAsserted_writing (hserving : s.serving = true) (hfirst : s.start.powerFail = false) (hphase : s.fw.phase = .writing)
    (hjob : s.fw.job = none) : pwrFailAsserted s = stopCommit (raise 0x1182 2 s.fw.source.code 0 (dropSession (powerWarned s))) := by
  rw [pwrFailAsserted_stops hserving hfirst, if_pos hphase, hjob]

theorem pwrFailWithdrawn_resumes (h : s.start.powerFail = true) :
    pwrFailWithdrawn s = driveHealth ((s.onPins fun p => { p with pwrFailN := true }).onStart fun r => { r with powerFail := false }) :=
  if_pos h

theorem pwrFailWithdrawn_idle (h : s.start.powerFail = false) : pwrFailWithdrawn s = s.onPins fun p => { p with pwrFailN := true } :=
  if_neg (Bool.eq_false_iff.mp h)

/-! ### RESTART's start (R442) -/

theorem restartStart_begins (hordered : s.start.restart = some w) (hwritten : s.journal.writing = []) (hready : s.dev.ready = true) :
    restartStart s = beginStart w 1 s := by
  simp only [restartStart, hordered]
  exact if_pos ⟨hwritten, hready⟩

theorem restartStart_waits (h : s.start.restart = none ∨ s.journal.writing ≠ [] ∨ s.dev.ready = false) : restartStart s = s := by
  unfold restartStart
  split
  next w hordered =>
    refine if_neg fun ⟨hwritten, hready⟩ => ?_
    rcases h with hnone | hwriting | hbusy
    · exact Option.some_ne_none w (hordered.symm.trans hnone)
    · exact hwriting hwritten
    · exact Bool.false_ne_true (hbusy.symm.trans hready)
  next => rfl

end

section
variable {ms : Nat} {f : StepFound} {s : State}

/-! ### A step's end (R421, R425; log entry 92) -/

theorem stepComplete_idle (h : s.start.running = false) : stepComplete ms f s = s := if_pos (by simp [h])

theorem stepTimeout_idle (h : s.start.running = false) : stepTimeout ms s = s := if_pos (by simp [h])

theorem stepTimeout_running (h : s.start.running = true) :
    stepTimeout ms s = if s.start.stepNo = 9 ∨ s.start.stepNo = 11 then nextStep (clockStep ms s) else failAttempt (clockStep ms s) :=
  if_neg (by simp [h])

theorem stepTimeout_goes_on (h : s.start.running = true) (hstep : s.start.stepNo = 9 ∨ s.start.stepNo = 11) :
    stepTimeout ms s = nextStep (clockStep ms s) :=
  (stepTimeout_running h).trans (if_pos hstep)

theorem stepTimeout_fails (h : s.start.running = true) (h9 : s.start.stepNo ≠ 9) (h11 : s.start.stepNo ≠ 11) :
    stepTimeout ms s = failAttempt (clockStep ms s) :=
  (stepTimeout_running h).trans (if_neg fun hstep => hstep.elim h9 h11)

theorem stepComplete_late (h : s.start.running = true) (hlate : stepBound s < ms) :
    stepComplete ms f s =
      if s.start.stepNo = 9 ∨ s.start.stepNo = 11 then nextStep (clockStep (stepBound s) s) else failAttempt (clockStep (stepBound s) s) :=
  (if_neg (by simp [h])).trans ((if_pos hlate).trans (stepTimeout_running h))

theorem stepComplete_failed (h : s.start.running = true) (hintime : ms ≤ stepBound s) (hok : f.ok = false) :
    stepComplete ms f s = failAttempt (clockStep ms s) :=
  (if_neg (by simp [h])).trans ((if_neg (Nat.not_lt.mpr hintime)).trans (if_neg (Bool.eq_false_iff.mp hok)))

theorem stepComplete_done (h : s.start.running = true) (hintime : ms ≤ stepBound s) (hok : f.ok = true) :
    stepComplete ms f s = doStep f (clockStep ms s) :=
  (if_neg (by simp [h])).trans ((if_neg (Nat.not_lt.mpr hintime)).trans (if_pos hok))

/-! ### The work of each step (R421 to R424) -/

theorem doStep_passes (h : s.start.stepNo ∈ [1, 5, 9, 10, 11]) : doStep f s = nextStep s := by
  simp only [List.mem_cons, List.not_mem_nil, or_false] at h
  rcases h with h | h | h | h | h <;> simp [doStep, h]

theorem doStep_clocks (h : s.start.stepNo = 2) : doStep f s = if s.clocks.rooted = true then nextStep (releaseDividers s) else failAttempt s := by
  simp [doStep, h]

theorem doStep_vault_docks (h : s.start.stepNo = 3) (hgone : (stepVault s).keys.retired = true ∨ s.start.postScuttle = true) :
    doStep f s = enterDock 3 ((stepVault s).onStart fun r => { r with postScuttle := false }) := by
  simp [doStep, h, hgone]

theorem doStep_vault (h : s.start.stepNo = 3) (hkeys : (stepVault s).keys.retired = false) (hpost : s.start.postScuttle = false) :
    doStep f s = nextStep (stepVault s) := by
  simp [doStep, h, hkeys, hpost]

theorem doStep_image (h : s.start.stepNo = 4) : doStep f s = stepImage f s := by simp [doStep, h]

theorem shipImage_start (s : State) : (shipImage s).start = s.start := by
  unfold shipImage
  split
  · rfl
  · rfl

theorem doStep_image_warm (h : s.start.stepNo = 4) (hwarm : s.start.warm = true) :
    doStep f s =
      if warmHolds f (shipImage s) = true then nextStep (runSlot (bootSlot (shipImage s)) (shipImage s)) else becomeCold (shipImage s) := by
  rw [doStep_image h, stepImage]
  simp [shipImage_start, hwarm]

theorem doStep_image_cold (h : s.start.stepNo = 4) (hwarm : s.start.warm = false) :
    doStep f s =
      if bootable (shipImage s) (bit s.start.slotB) = false ∨ ((shipImage s).fwSlot (bit s.start.slotB)).security < (shipImage s).keys.secCounter ∨
          f.imageCause ≠ 0 then abandonSlot (shipImage s)
      else nextStep (runSlot (bit s.start.slotB) (shipImage s)) := by
  rw [doStep_image h, stepImage]
  simp [shipImage_start, hwarm]

theorem doStep_params (h : s.start.stepNo = 6) : doStep f s = nextStep (s.onStart fun r => { r with hbmParams := true }) := by simp [doStep, h]

theorem doStep_hbm (h : s.start.stepNo = 7) : doStep f s = nextStep (stepHbm s) := by simp [doStep, h]

theorem doStep_journal (h : s.start.stepNo = 8) : doStep f s = nextStep (stepJournal f s) := by simp [doStep, h]

theorem doStep_selfTest (h : s.start.stepNo = 12) :
    doStep f s = if dieHasPound f 0 = true ∧ dieHasPound f 1 = true then nextStep (stepSelfTest f s) else failAttempt s := by
  simp [doStep, h]

theorem doStep_state (h : s.start.stepNo = 13) : doStep f s = nextStep (stepState f s) := by simp [doStep, h]

theorem doStep_ready (h : s.start.stepNo = 14) : doStep f s = stepReady s := by simp [doStep, h]

/-! ### Failed attempts (R425) -/

/-- The dies before the next attempt, which is cold: an attempt more on its slot, or the slot among those tried. -/
def retryReset (s : State) : State :=
  let s1 := coldReset (s.onStart fun r =>
    { r with tried := if s.start.attempt < 3 then r.tried else setAdd r.tried (bit s.start.slotB), startMs := satAdd 32 r.startMs 100, hbmParams := false })
  if s.start.warm then { s1 with dev := .coldStart, start := { s1.start with warm := false, becameCold := true, kind := .cold, cause := 4 } } else s1

theorem startRetry_idle (h : s.start.waiting = false) : startRetry s = s := if_pos (by simp [h])

/-- The same slot again, then the other, then Dry Dock. -/
theorem startRetry_waiting (h : s.start.waiting = true) :
    startRetry s =
      if s.start.attempt < 3 ∧ (!s.start.tried.contains (bit s.start.slotB)) = true then
        beginAttempt ((retryReset s).onStart fun r => { r with attempt := r.attempt + 1 })
      else if (!(retryReset s).start.tried.contains (1 - bit s.start.slotB)) = true then
        beginAttempt ((retryReset s).onStart fun r => { r with attempt := 1, slotB := !r.slotB, fellBack := true })
      else enterDock 1 (retryReset s) :=
  if_neg (by simp [h])

theorem startRetry_same_slot (h : s.start.waiting = true) (hfew : s.start.attempt < 3) (hfresh : s.start.tried.contains (bit s.start.slotB) = false) :
    startRetry s = beginAttempt ((retryReset s).onStart fun r => { r with attempt := r.attempt + 1 }) :=
  (startRetry_waiting h).trans (if_pos ⟨hfew, by rw [hfresh]; rfl⟩)

/-- No further attempt is left on the slot. -/
theorem slot_used_up (h : 3 ≤ s.start.attempt ∨ s.start.tried.contains (bit s.start.slotB) = true) :
    ¬(s.start.attempt < 3 ∧ (!s.start.tried.contains (bit s.start.slotB)) = true) := by
  rintro ⟨hfew, hfresh⟩
  rcases h with hmany | htried
  · exact Nat.not_lt.mpr hmany hfew
  · rw [htried] at hfresh
    exact Bool.false_ne_true hfresh

theorem startRetry_other_slot (h : s.start.waiting = true) (hused : 3 ≤ s.start.attempt ∨ s.start.tried.contains (bit s.start.slotB) = true)
    (hother : (retryReset s).start.tried.contains (1 - bit s.start.slotB) = false) :
    startRetry s = beginAttempt ((retryReset s).onStart fun r => { r with attempt := 1, slotB := !r.slotB, fellBack := true }) := by
  rw [startRetry_waiting h, if_neg (slot_used_up hused), if_pos (by rw [hother]; rfl)]

theorem startRetry_docks (h : s.start.waiting = true) (hused : 3 ≤ s.start.attempt ∨ s.start.tried.contains (bit s.start.slotB) = true)
    (hother : (retryReset s).start.tried.contains (1 - bit s.start.slotB) = true) : startRetry s = enterDock 1 (retryReset s) := by
  rw [startRetry_waiting h, if_neg (slot_used_up hused), if_neg (by rw [hother]; exact Bool.false_ne_true)]

end

/-! ### The statement -/

/-- Settles O53: power and warnings by the device state and the supply, a step by its time and its number, a retry by what the attempt leaves. -/
theorem supplyAndStartRowsComplete : Obligations.SupplyAndStartRowsComplete := by
  refine ⟨⟨fun _ h => answers_of_eq (powerOn_off h), fun _ h => answers_of_eq (powerOn_running h), ?loss,
    fun _ _ _ hdev hlow hm => answers_of_eq (supplyReset_core hdev hlow hm), fun _ _ hdev hmv => answers_of_eq (supplyReset_island_dies hdev hmv),
    fun _ _ hdev hlives hlow => answers_of_eq (supplyReset_island_low hdev hlives hlow), fun _ _ _ h => answers_of_eq (supplyReset_stands h),
    fun _ h => answers_of_eq (pwrFailAsserted_noted (.inl h)), fun _ h => answers_of_eq (pwrFailAsserted_noted (.inr h)), ?warned,
    fun _ h => answers_of_eq (pwrFailWithdrawn_resumes h), fun _ h => answers_of_eq (pwrFailWithdrawn_idle h),
    fun _ _ hordered hwritten hready => answers_of_eq (restartStart_begins hordered hwritten hready), fun _ h => answers_of_eq (restartStart_waits h)⟩,
    ⟨fun _ _ _ h => ⟨answers_of_eq (stepComplete_idle h), answers_of_eq (stepTimeout_idle h)⟩,
      fun _ _ _ h hlate => answers_of_eq (stepComplete_late h hlate), fun _ _ _ h hintime hok => answers_of_eq (stepComplete_failed h hintime hok), ?steps,
      fun _ _ h hstep => answers_of_eq (stepTimeout_goes_on h hstep), fun _ _ h h9 h11 => answers_of_eq (stepTimeout_fails h h9 h11),
      fun s hcold _ => (nextStep_stepNo s).trans (nextStepNo_cold hcold), fun s hwarm => (nextStep_stepNo s).trans (nextStepNo_warm hwarm),
      fun s => ⟨stepReady_dev s, stepReady_running s⟩, fun _ h => answers_of_eq (startRetry_idle h), ?retries⟩⟩
  case loss => exact fun s => ⟨powerLoss s, rfl, rfl, rfl, rfl, rfl, rfl, rfl, rfl, rfl, rfl, rfl, rfl⟩
  case warned =>
    exact fun s hserving hfirst => ⟨fun hphase => answers_of_eq (pwrFailAsserted_idle hserving hfirst hphase),
      fun _ hphase hjob => answers_of_eq (pwrFailAsserted_writing_job hserving hfirst hphase hjob),
      fun hphase hjob => answers_of_eq (pwrFailAsserted_writing hserving hfirst hphase hjob)⟩
  case steps =>
    intro ms f s h hintime hok s1
    have hdone : ∀ {t : State}, doStep f (clockStep ms s) = t → Answers (.startStepComplete ms f) s t := fun hstep =>
      answers_of_eq ((stepComplete_done h hintime hok).trans hstep)
    exact ⟨fun hn => hdone (doStep_passes hn), fun hn => hdone (doStep_clocks hn), fun hn hgone => hdone (doStep_vault_docks hn hgone),
      fun hn hkeys hpost => hdone (doStep_vault hn hkeys hpost), fun hn hwarm => hdone (doStep_image_warm hn hwarm),
      fun hn hcold => hdone (doStep_image_cold hn hcold), fun hn => hdone (doStep_params hn), fun hn => hdone (doStep_hbm hn),
      fun hn => hdone (doStep_journal hn), fun hn => hdone (doStep_selfTest hn), fun hn => hdone (doStep_state hn), fun hn => hdone (doStep_ready hn)⟩
  case retries =>
    exact fun s h => ⟨fun hfew hfresh => answers_of_eq (startRetry_same_slot h hfew hfresh),
      fun hused hother => answers_of_eq (startRetry_other_slot h hused hother), fun hused hother => answers_of_eq (startRetry_docks h hused hother)⟩

end Sys2Proof.Proofs

/-! PROOFS.  The fault collector's own operations (spec/15_fabric_and_faults.md, R458 to R466, R475): what a captured fault, a history entry and a
contained report change, and the state that a Fatal-D fault leaves. -/

namespace Sys2Proof.Proofs
open Sys2Proof Sys2Proof.Machine

section
variable {code cls subject detail count : Nat} {west injected : Bool} {r : FaultRep} {s : State}

/-! ### Records and the history (R463 to R466) -/

theorem captureFirst_eq (code cls detail : Nat) (west lowPower : Bool) (s : State) :
    ∃ first, captureFirst code cls detail west lowPower s = { s with faults := { s.faults with first := first } } := by
  by_cases hvalid : s.faults.first.valid = true
  · exact ⟨_, congrArg (fun f => { s with faults := f }) (if_pos hvalid)⟩
  · exact ⟨_, congrArg (fun f => { s with faults := f }) (if_neg hvalid)⟩

/-- Writes to HDM change HDM alone. -/
theorem foldl_hdmWrite {α : Type} (a : α → Nat) (b : α → List Byte) (l : List α) (s : State) :
    ∃ hdm, l.foldl (fun t x => t.hdmWrite (a x) (b x)) s = { s with hdm := hdm } := by
  induction l generalizing s with
  | nil => exact ⟨_, rfl⟩
  | cons x l ih =>
    obtain ⟨hdm, h⟩ := ih (s.hdmWrite (a x) (b x))
    exact ⟨hdm, h⟩

theorem mirrorHistory_eq (s : State) : ∃ hdm, mirrorHistory s = { s with hdm := hdm } := by
  obtain ⟨hdm, h⟩ := foldl_hdmWrite (fun e : HistEntry => 0x18000100 + (e.seq + 31) % 32 * 32) histBytes s.faults.hist
    (s.hdmWrite 0x18000000 (toLe 4 s.faults.head ++ toLe 4 s.faults.hseq))
  exact ⟨hdm, h⟩

/-- An entry in the history changes the history and its view in HDM. -/
theorem addHistory_eq (code cls subject detail count : Nat) (west injected : Bool) (s : State) :
    ∃ hist hseq head hdm, addHistory code cls subject detail count west injected s =
      { s with faults := { s.faults with hist := hist, hseq := hseq, head := head }, hdm := hdm } := by
  unfold addHistory
  extract_lets t q e s1
  have hentry : ∃ hist hseq head, s1 = { s with faults := { s.faults with hist := hist, hseq := hseq, head := head } } := by
    unfold s1
    split
    · exact ⟨_, _, _, rfl⟩
    · exact ⟨_, _, _, rfl⟩
  obtain ⟨hist, hseq, head, h⟩ := hentry
  obtain ⟨hdm, hmirror⟩ := mirrorHistory_eq s1
  exact ⟨hist, hseq, head, hdm, by rw [hmirror, h]⟩

theorem raiseCount_faults (code sev subject data count : Nat) (s : State) : (raiseCount code sev subject data count s).faults = s.faults := by
  unfold raiseCount
  dsimp only
  split_ifs
  · rfl
  · rfl
  · rfl

/-- A contained report is told or merged; the collector keeps the rest. -/
theorem raiseContained_faults (r : FaultRep) (s : State) :
    ∃ at_ merged, (raiseContained r s).faults = { s.faults with containedAt := at_, merged := merged } := by
  unfold raiseContained
  split
  · exact ⟨_, _, raiseCount_faults _ _ _ _ _ _⟩
  · exact ⟨_, _, rfl⟩

/-! ### Fatal-D (R460; log entry 97) -/

/-- A Fatal-D fault of a chip that is in no fatal state stops the service: the collector counts the entry, and objects and time stand. -/
theorem fatalD_stops (hD : s.dev ≠ .fatalD) (hS : s.dev ≠ .fatalS) :
    let t := fatalD code subject detail west injected s
    t.dev = .fatalD ∧ t.serving = false ∧ t.twin.health = false ∧ t.faults.entries = inc s.faults.entries ∧ t.faults.waited = 0 ∧ t.obj = s.obj ∧ t.time = s.time := by
  obtain ⟨first, hfirst⟩ := captureFirst_eq code 3 detail west false s
  obtain ⟨hist, hseq, head, hdm, hhistory⟩ := addHistory_eq code 3 subject detail 1 west injected (captureFirst code 3 detail west false s)
  rw [fatalD, if_neg hS, if_neg hD, hhistory, hfirst]
  exact ⟨rfl, rfl, rfl, rfl, rfl, rfl, rfl⟩

/-! ### Reports by their class (R458, R459, R469; log entry 99) -/

/-- A report that no armed injection made is the checker's own. -/
theorem report_own (h : r.injected = false ∨ injectionOf r s = none) : report r s = reportByClass { r with injected := false } s := by
  cases hinjected : r.injected with
  | false =>
    have hown : ({ r with injected := false } : FaultRep) = r := by rw [← hinjected]
    rw [hown, report, hinjected]
    rfl
  | true =>
    have hnone : injectionOf r s = none := h.resolve_left (by simp [hinjected])
    rw [report, hinjected, hnone]
    rfl

theorem report_injected {i : Inject} (h : r.injected = true) (hinjection : injectionOf r s = some i) :
    report r s = reportByClass r (chargeInjection i r s) := by
  rw [report, h, hinjection]
  rfl

theorem reportByClass_unlisted (h : faultClass r.code = 0) : reportByClass r s = s := by simp only [reportByClass, h]

theorem reportByClass_corrected (h : faultClass r.code = 1) : reportByClass r s = reportCorrected r s := by simp only [reportByClass, h]

theorem reportByClass_contained (h : faultClass r.code = 2) :
    reportByClass r s =
      raiseContained r (addHistory r.code 2 r.subject r.detail 1 r.west r.injected (onKind r.code (fun k => { k with contained := inc k.contained }) s)) := by
  simp only [reportByClass, h]

theorem reportByClass_fatalD (h : faultClass r.code = 3) (hcode : r.code ≠ 0x0901) :
    reportByClass r s = fatalD r.code r.subject r.detail r.west r.injected s := by
  simp only [reportByClass, h, if_neg hcode]

theorem reportByClass_supply (h : r.code = 0x0901) : reportByClass r s = captureFirst r.code 3 r.detail r.west false s := by
  have hclass : faultClass r.code = 3 := by
    rw [h]
    rfl
  simp only [reportByClass, hclass, if_pos h]

theorem reportByClass_fatalS (h : faultClass r.code = 4) : reportByClass r s = fatalS r.code r.subject r.detail r.west s := by simp only [reportByClass, h]

theorem reportByClass_tamper (h : faultClass r.code = 5) :
    reportByClass r s = addHistory r.code 5 r.subject r.detail 1 r.west false (captureFirst r.code 5 r.detail r.west false s) := by
  simp only [reportByClass, h]

/-- A report that no checker's data goes with brings nothing beside its class. -/
theorem containFault_plain (hhallmark : r.hallmark = none) (hline : r.line = false) (hholds : r.holds = []) (hcode : r.code ≠ 0x0401) :
    containFault r s = s := by
  simp only [containFault, hhallmark, hline, hholds, if_neg hcode, Bool.false_eq_true, false_and, if_false]
  rfl

/-! ### Watchdog, injections and the automatic reset (R461, R468, R470) -/

/-- The consecutive ticks that a die has missed. -/
abbrev missedTicks (west : Bool) (s : State) : Nat := if west then s.time.missedWest else s.time.missedEast

theorem watchdog_fatal (hserving : s.serving = true) (hmissed : 48 ≤ missedTicks west s) :
    watchdog west s = fatalD 0x0604 (bit west) (missedTicks west s) west false s :=
  if_pos ⟨hserving, hmissed⟩

theorem watchdog_alive (h : missedTicks west s < 48 ∨ s.serving = false) : watchdog west s = s := by
  refine if_neg fun ⟨hserving, hmissed⟩ => ?_
  rcases h with hfew | hidle
  · exact Nat.not_le.mpr hfew hmissed
  · exact Bool.false_ne_true (hidle.symm.trans hserving)

/-- The injection armed on a checker. -/
abbrev armedOn (kind inst : Nat) (west : Bool) (s : State) : Option Inject :=
  s.faults.injects.find? fun i => i.kind = kind ∧ i.west = west ∧ i.inst = inst

theorem injectionTimeout_ends {kind inst : Nat} {i : Inject} (h : armedOn kind inst west s = some i) :
    Answers (.injectionTimeout kind west inst) s (injectionTimeout i s) := by
  change execInjectionTimeout kind west inst s = _
  simp only [execInjectionTimeout, h]
  rfl

theorem injectionTimeout_none {kind inst : Nat} (h : armedOn kind inst west s = none) : Answers (.injectionTimeout kind west inst) s s := by
  change execInjectionTimeout kind west inst s = _
  simp only [execInjectionTimeout, h]
  rfl

/-- In FATAL_D the wait is over. -/
theorem autoReset_waited (hdev : s.dev = .fatalD) (hwaited : msTicks s.faults.waitMs ≤ s.faults.waited) :
    autoReset s = if s.faults.thermal = true ∧ 10 * (s.obj.powerPol.throttleC : Int) - 50 ≤ hottest s.clocks.temps then s.onFaults fun f => { f with waited := 0 }
      else beginStart true 2 s :=
  if_neg (by simp [hdev, hwaited])

theorem autoReset_starts (hdev : s.dev = .fatalD) (hwaited : msTicks s.faults.waitMs ≤ s.faults.waited)
    (hcool : s.faults.thermal = false ∨ hottest s.clocks.temps < 10 * (s.obj.powerPol.throttleC : Int) - 50) : autoReset s = beginStart true 2 s := by
  refine (autoReset_waited hdev hwaited).trans (if_neg fun ⟨hthermal, hhot⟩ => ?_)
  rcases hcool with hother | hbelow
  · exact Bool.false_ne_true (hother.symm.trans hthermal)
  · exact not_le.mpr hbelow hhot

theorem autoReset_hot (hdev : s.dev = .fatalD) (hwaited : msTicks s.faults.waitMs ≤ s.faults.waited) (hthermal : s.faults.thermal = true)
    (hhot : 10 * (s.obj.powerPol.throttleC : Int) - 50 ≤ hottest s.clocks.temps) : autoReset s = s.onFaults fun f => { f with waited := 0 } :=
  (autoReset_waited hdev hwaited).trans (if_pos ⟨hthermal, hhot⟩)

theorem autoReset_waits (h : s.dev ≠ .fatalD ∨ s.faults.waited < msTicks s.faults.waitMs) : autoReset s = s := if_pos h

end

end Sys2Proof.Proofs

/-! PROOFS.  The control fabric, and the statements about it and about reports (spec/15_fabric_and_faults.md, R448 to R456; log entry 96): a request by its
target, its beats and what stands before it, a target that does not answer, and a master that is reset. -/

namespace Sys2Proof.Proofs
open Sys2Proof Sys2Proof.Machine

/-! ### Requests (R448 to R451) -/

/-- A request is of 1 to 16 beats, the first and the last byte of which lie in one 4 KiB page. -/
theorem requestFits_iff {addr beats : Nat} : requestFits addr beats = true ↔ 1 ≤ beats ∧ beats ≤ 16 ∧ addr / 4096 = (addr + 32 * beats - 1) / 4096 := by
  simp only [requestFits, Bool.and_eq_true, decide_eq_true_eq]
  omega

section
variable {q : FabricReq} {d k : Nat} {t : Txn} {s : State}

/-- A master's port once the answers that have come since are delivered. -/
abbrev portAnswered (q : FabricReq) (s : State) : State := answerTxns q.die (q.die * 8 + q.master) q.earlier s

theorem fabricRequest_undecoded (h : q.target = none) : fabricRequest q s = deliver (q.die * 8 + q.master) (requested q 255) 2 (portAnswered q s) := by
  simp only [fabricRequest, h]
  rfl

theorem fabricRequest_decoded (h : q.target = some d) :
    fabricRequest q s =
      if (!requestFits q.addr q.beats || !mayReach (portAnswered q s) q.master d) = true then
        deliver (q.die * 8 + q.master) (requested q d) 2 (portAnswered q s)
      else if heldBack ((portAnswered q s).master (q.die * 8 + q.master)) (requested q d) = true then
        (portAnswered q s).onMaster (q.die * 8 + q.master) fun m => { m with waiting := m.waiting ++ [requested q d], holdBacks := inc m.holdBacks }
      else if queuedBehind ((portAnswered q s).master (q.die * 8 + q.master)) (requested q d) = true then
        (portAnswered q s).onMaster (q.die * 8 + q.master) fun m => { m with waiting := m.waiting ++ [requested q d] }
      else retryHeld q.die (q.die * 8 + q.master) (issue q.die (q.die * 8 + q.master) (requested q d) (portAnswered q s)) := by
  simp only [fabricRequest, h]
  rfl

theorem fabricRequest_refused (h : q.target = some d) (hbad : requestFits q.addr q.beats = false ∨ mayReach (portAnswered q s) q.master d = false) :
    fabricRequest q s = deliver (q.die * 8 + q.master) (requested q d) 2 (portAnswered q s) :=
  (fabricRequest_decoded h).trans (if_pos (by simpa using hbad))

section
variable (h : q.target = some d) (hfits : requestFits q.addr q.beats = true) (hreach : mayReach (portAnswered q s) q.master d = true)
include h hfits hreach

theorem fabricRequest_held (hheld : heldBack ((portAnswered q s).master (q.die * 8 + q.master)) (requested q d) = true) :
    fabricRequest q s =
      (portAnswered q s).onMaster (q.die * 8 + q.master) fun m => { m with waiting := m.waiting ++ [requested q d], holdBacks := inc m.holdBacks } := by
  rw [fabricRequest_decoded h, if_neg (by simp [hfits, hreach]), if_pos hheld]

theorem fabricRequest_queued (hheld : heldBack ((portAnswered q s).master (q.die * 8 + q.master)) (requested q d) = false)
    (hqueued : queuedBehind ((portAnswered q s).master (q.die * 8 + q.master)) (requested q d) = true) :
    fabricRequest q s = (portAnswered q s).onMaster (q.die * 8 + q.master) fun m => { m with waiting := m.waiting ++ [requested q d] } := by
  rw [fabricRequest_decoded h, if_neg (by simp [hfits, hreach]), if_neg (by simp [hheld]), if_pos hqueued]

theorem fabricRequest_issued (hheld : heldBack ((portAnswered q s).master (q.die * 8 + q.master)) (requested q d) = false)
    (hqueued : queuedBehind ((portAnswered q s).master (q.die * 8 + q.master)) (requested q d) = false) :
    fabricRequest q s = retryHeld q.die (q.die * 8 + q.master) (issue q.die (q.die * 8 + q.master) (requested q d) (portAnswered q s)) := by
  rw [fabricRequest_decoded h, if_neg (by simp [hfits, hreach]), if_neg (by simp [hheld]), if_neg (by simp [hqueued])]

end

/-! ### Responses (R454) -/

theorem deliver_okay (h : t.behalf = false) :
    deliver k t 0 s = s.onMaster k fun m =>
      { m with total := satAdd 64 m.total 1, lastResp := 0, lastData := if t.write = true then List.replicate (32 * t.beats) 0#8 else t.data } := by
  cases hwrite : t.write <;> simp [deliver, h, hwrite]

/-- What DECODE_ERROR shows its master: the error counted, and no data. -/
def decodeErrorShown (t : Txn) (m : MasterRt) : MasterRt :=
  { m with total := satAdd 64 m.total 1, errors := inc m.errors, lastResp := if t.behalf then m.lastResp else 2,
           lastData := if t.behalf then m.lastData else List.replicate (32 * t.beats) 0#8 }

/-- Beside what it shows its master, DECODE_ERROR is reported as a contained fault, which leaves masters and targets alone. -/
theorem deliver_decodeError : (deliver k t 2 s).faults.masters = (s.onMaster k (decodeErrorShown t)).faults.masters ∧
    (deliver k t 2 s).faults.targets = s.faults.targets := by
  let rep : FaultRep := { code := 0x0503, west := decide (8 ≤ k), subject := k % 8, detail := t.addr }
  let counted := onKind rep.code (fun x => { x with contained := inc x.contained }) (s.onMaster k (decodeErrorShown t))
  have hreport : deliver k t 2 s = raiseContained rep (addHistory rep.code 2 rep.subject rep.detail 1 rep.west rep.injected counted) :=
    reportByClass_contained (r := rep) (s := s.onMaster k (decodeErrorShown t)) rfl
  obtain ⟨at_, merged, hcontained⟩ := raiseContained_faults rep (addHistory rep.code 2 rep.subject rep.detail 1 rep.west rep.injected counted)
  obtain ⟨hist, hseq, head, hdm, hhistory⟩ := addHistory_eq rep.code 2 rep.subject rep.detail 1 rep.west rep.injected counted
  rw [hreport, hcontained, hhistory]
  exact ⟨rfl, rfl⟩

/-- The master that DECODE_ERROR answers is the one that made the request. -/
theorem deliver_decodeError_master (h : tableOk ({} : MasterRt) s.faults.masters = true) : (deliver k t 2 s).master k = decodeErrorShown t (s.master k) := by
  rw [State.master, deliver_decodeError.1]
  exact (tget_tset h).trans (if_pos rfl)

end

/-! ### Targets that do not answer (R455) -/

section
variable {die m st : Nat} {t : Txn} {s : State}

/-- The oldest unanswered request of a stream. -/
abbrev unanswered (k st : Nat) (s : State) : Option Txn := (s.master k).txns.find? fun t => t.stream = st ∧ t.done = false

theorem targetTimeout_none (h : unanswered (die * 8 + m) st s = none) : targetTimeout die m st s = s := by simp only [targetTimeout, h]

/-- The timeouts of a target in the last second, the present one the last. -/
def timeoutTimes (k : Nat) (s : State) : List Nat := ((s.target k).times.filter fun x => s.elapsed < x + 48000) ++ [s.elapsed]

/-- A target is hung, and its master has TIMEOUT and what was held behind it. -/
def targetHung (die m st target : Nat) (s : State) : State :=
  let tk := die * 256 + target
  let s1 := s.onFaults fun f => { f with targets := tmod {} f.targets tk fun x => { x with hung := true, times := timeoutTimes tk s } }
  retryHeld die (die * 8 + m) (drainMaster (die * 8 + m) 65 (s1.onMaster (die * 8 + m) fun x => { x with txns := answerFirst st 4 [] x.txns }))

theorem targetTimeout_hangs (h : unanswered (die * 8 + m) st s = some t) :
    targetTimeout die m st s =
      if 3 ≤ (timeoutTimes (die * 256 + t.target) s).length then fatalD 0x0504 t.target t.addr (decide (die = 1)) false (targetHung die m st t.target s)
      else report { code := 0x0504, west := decide (die = 1), subject := t.target, detail := t.addr } (targetHung die m st t.target s) := by
  simp only [targetTimeout, h]
  rfl

end

/-! ### The statements -/

/-- Settles O51: a request by its target and what stands before it, a timeout by the request it answers, a report by its class and the injection it comes
from. -/
theorem fabricAndFaultRowsComplete : Obligations.FabricAndFaultRowsComplete := by
  refine ⟨⟨?requests, fun _ _ _ h => deliver_okay h, fun _ _ _ _ h => answers_of_eq (targetTimeout_none h),
    fun _ _ _ _ _ h => answers_of_eq (targetTimeout_hangs h), fun _ _ _ => rfl⟩, ⟨?reports, ?injected,
    fun _ _ hhallmark hline hholds hcode => containFault_plain hhallmark hline hholds hcode, fun _ _ => rfl, fun _ _ _ _ _ _ hD hS => fatalD_stops hD hS,
    fun _ _ hserving hmissed => answers_of_eq (watchdog_fatal hserving hmissed), fun _ _ h => answers_of_eq (watchdog_alive (.inl h)),
    fun _ _ h => answers_of_eq (watchdog_alive (.inr h)), fun _ _ _ _ _ h => injectionTimeout_ends h, fun _ _ _ _ h => injectionTimeout_none h,
    fun _ hdev hwaited hcool => answers_of_eq (autoReset_starts hdev hwaited hcool),
    fun _ hdev hwaited hthermal hhot => answers_of_eq (autoReset_hot hdev hwaited hthermal hhot), fun _ h => answers_of_eq (autoReset_waits h)⟩⟩
  case requests =>
    exact fun q s => ⟨fun h => answers_of_eq (fabricRequest_undecoded h), fun _ h hbad => answers_of_eq (fabricRequest_refused h hbad),
      fun _ h hfits hreach => ⟨fun hheld => answers_of_eq (fabricRequest_held h hfits hreach hheld),
        fun hheld hqueued => answers_of_eq (fabricRequest_queued h hfits hreach hheld hqueued),
        fun hheld hqueued => answers_of_eq (fabricRequest_issued h hfits hreach hheld hqueued)⟩⟩
  case reports =>
    intro r s hown q
    have hreported : ∀ {t : State}, reportByClass q s = t → Answers (.faultReport r) s (containFault r t) := fun h =>
      answers_of_eq (congrArg (containFault r) ((report_own hown).trans h))
    exact ⟨fun h => hreported (reportByClass_unlisted (r := q) h), fun h => hreported (reportByClass_corrected (r := q) h),
      fun h => hreported (reportByClass_contained (r := q) h), fun h hcode => hreported (reportByClass_fatalD (r := q) h hcode),
      fun h => hreported (reportByClass_supply (r := q) h), fun h => hreported (reportByClass_fatalS (r := q) h),
      fun h => hreported (reportByClass_tamper (r := q) h)⟩
  case injected => exact fun r i s h hinjection => answers_of_eq (congrArg (containFault r) (report_injected h hinjection))

/-- Settles O52: a request outside R449 is refused whole, and DECODE_ERROR changes what its master last saw and counted, and nothing at a target. -/
theorem crossingRequestsRefused : Obligations.CrossingRequestsRefused := by
  refine ⟨fun _ _ => requestFits_iff, fun _ _ _ h hbad => answers_of_eq (fabricRequest_refused h (.inl hbad)), ?_⟩
  intro k q d s hok t
  have hmaster : t.master k = decodeErrorShown (requested q d) (s.master k) := deliver_decodeError_master hok
  rw [hmaster]
  exact ⟨rfl, rfl, rfl, deliver_decodeError.2⟩

end Sys2Proof.Proofs

/-! PROOFS.  INSTALL_KEY, SWAP_KEY, INVALIDATE_KEY and SCUTTLE (spec/16_keys_tamper_firmware.md, R480 to R482, R506 to R511; log entries 100 and 101): the
authentication that comes first, the keys that a good record leaves, and what is refused. -/

namespace Sys2Proof.Proofs
open Sys2Proof Sys2Proof.Machine

section
variable {op n : Nat} {c : Cmd} {s : State} {body : State → Res} {key : List Byte}

/-! ### Authentication (R506; log entry 100) -/

theorem keyAuth_secretless (h : (s.keySlot 1).current = none) : keyAuth op c n s body = rej .state 0xFFFF s := by simp only [keyAuth, h]

theorem keyAuth_badMac (h : (s.keySlot 1).current = some key) (hmac : macOf key (c.bytes 0 n) ≠ c.bytes n 48) :
    keyAuth op c n s body = rej .auth (0x20 + n) (raise 0x1086 3 op 1 s) := by
  simp only [keyAuth, h, if_pos hmac]

theorem keyAuth_oldCounter (h : (s.keySlot 1).current = some key) (hmac : macOf key (c.bytes 0 n) = c.bytes n 48) (hcounter : c.u64 8 ≤ s.obj.keyCounter) :
    keyAuth op c n s body = rej .auth 0x28 (raise 0x1086 3 op 2 s) := by
  simp only [keyAuth, h, if_neg (not_not.mpr hmac), if_pos hcounter]

/-- The record's MAC over its first `n` payload bytes is good under the attestation secret, and its COUNTER is higher. -/
def Signed (c : Cmd) (n : Nat) (s : State) : Prop :=
  (∃ key, (s.keySlot 1).current = some key ∧ macOf key (c.bytes 0 n) = c.bytes n 48) ∧ s.obj.keyCounter < c.u64 8

theorem keyAuth_signed (h : Signed c n s) : keyAuth op c n s body = body s := by
  obtain ⟨⟨key, hkey, hmac⟩, hcounter⟩ := h
  simp only [keyAuth, hkey, if_neg (not_not.mpr hmac), if_neg (Nat.not_le.mpr hcounter)]

/-- KIND names the attestation secret or the other installed key. -/
abbrev KindOk (c : Cmd) : Prop := c.u8 0 = 1 ∨ c.u8 0 = 2

theorem kindOk_iff : ¬(c.u8 0 ≠ 1 ∧ c.u8 0 ≠ 2) ↔ KindOk c := by omega

/-! ### INSTALL_KEY (R481, R482, R508) -/

/-- The key that a record carries, as its wrapping gives it. -/
abbrev givenKey (c : Cmd) (s : State) : Option (List Byte) :=
  unwrapKey (s.keys.bank.getD 0) (c.u8 0) (c.bytes 0x10 96) (c.bytes 0x70 12) (c.bytes 0 16) (c.bytes 0x80 48) (c.bytes 0xB0 16)

theorem install_wrapped {provision : Bool} (h : givenKey c s = none) : install provision c s = rej .auth 0xD0 s := by simp only [install, h]

theorem install_misnamed {provision : Bool} (h : givenKey c s = some key) (hcheck : kcvOf key ≠ c.u32 4) : install provision c s = rej .auth 0x24 s := by
  simp only [install, h, if_pos hcheck]

theorem install_next (h : givenKey c s = some key) (hcheck : kcvOf key = c.u32 4) :
    install false c s = okWith (kcvOf key) (raise 0x1083 1 (c.u8 0) (kcvOf key)
      (onKeySlot (c.u8 0) (fun k => { k with next := some key, kcvNext := kcvOf key }) (acceptCounter c s))) := by
  simp only [install, h, if_neg (not_not.mpr hcheck)]
  rfl

theorem install_provisions (h : givenKey c s = some key) (hcheck : kcvOf key = c.u32 4) :
    install true c s = okWith (kcvOf key) (raise 0x1084 1 (c.u8 0) (kcvOf key) (raise 0x1083 1 (c.u8 0) (kcvOf key)
      (onKeySlot (c.u8 0) (fun k => { k with current := some key, next := none, kcvCurrent := kcvOf key, kcvNext := 0 }) (acceptCounter c s)))) := by
  simp only [install, h, if_neg (not_not.mpr hcheck)]
  rfl

theorem installKey_outOfRange (h : ¬KindOk c) : installKey c s = rej .range 0x20 s := if_pos (by omega)

theorem installKey_unprovisioned (hkind : KindOk c) (hprov : bitOf (c.u8 1) 0 = false) :
    installKey c s = keyAuth 0x1002 c 0xC0 s fun s => install false c s :=
  (if_neg (kindOk_iff.mpr hkind)).trans (if_neg (Bool.eq_false_iff.mp hprov))

theorem installKey_signed (hkind : KindOk c) (hprov : bitOf (c.u8 1) 0 = false) (hsigned : Signed c 0xC0 s) : installKey c s = install false c s :=
  (installKey_unprovisioned hkind hprov).trans (keyAuth_signed hsigned)

/-- PROVISION takes the attestation secret where there is none, under a higher COUNTER alone. -/
theorem installKey_provisions (hkind : c.u8 0 = 1) (hprov : bitOf (c.u8 1) 0 = true) (hnone : (s.keySlot 1).current = none)
    (hcounter : s.obj.keyCounter < c.u64 8) : installKey c s = install true c s := by
  unfold installKey
  rw [if_neg (kindOk_iff.mpr (.inl hkind)), if_pos hprov, if_pos ⟨hkind, hnone⟩, if_neg (Nat.not_le.mpr hcounter)]

theorem installKey_provisioned (hkind : KindOk c) (hprov : bitOf (c.u8 1) 0 = true) (h : ¬(c.u8 0 = 1 ∧ (s.keySlot 1).current = none)) :
    installKey c s = rej .state 0x21 s := by
  unfold installKey
  rw [if_neg (kindOk_iff.mpr hkind), if_pos hprov, if_neg h]

/-- Without a secret, and not provisioning one, INSTALL_KEY is refused and changes nothing. -/
theorem installKey_secretless (hnone : (s.keySlot 1).current = none) (hkind : KindOk c) (h : ¬(c.u8 0 = 1 ∧ bitOf (c.u8 1) 0 = true)) :
    (installKey c s).status = .state ∧ (installKey c s).s = s := by
  cases hprov : bitOf (c.u8 1) 0 with
  | false =>
    rw [installKey_unprovisioned hkind hprov, keyAuth_secretless hnone]
    exact ⟨rfl, rfl⟩
  | true =>
    rw [installKey_provisioned hkind hprov fun ⟨hone, _⟩ => h ⟨hone, hprov⟩]
    exact ⟨rfl, rfl⟩

/-! ### SWAP_KEY and INVALIDATE_KEY (R509) -/

theorem swapKey_outOfRange (h : ¬KindOk c) : swapKey c s = rej .range 0x20 s := if_pos (by omega)

theorem swapKey_secretless (hkind : KindOk c) (hnone : (s.keySlot 1).current = none) : swapKey c s = rej .state 0xFFFF s :=
  (if_neg (kindOk_iff.mpr hkind)).trans (keyAuth_secretless hnone)

theorem swapKey_nextless (hkind : KindOk c) (hsigned : Signed c 0x10 s) (hnext : (s.keySlot (c.u8 0)).next = none) : swapKey c s = rej .state 0x24 s := by
  rw [swapKey, if_neg (kindOk_iff.mpr hkind), keyAuth_signed hsigned]
  simp only [hnext]

theorem swapKey_misnamed (hkind : KindOk c) (hsigned : Signed c 0x10 s) (hnext : (s.keySlot (c.u8 0)).next.isSome = true)
    (hcheck : c.u32 4 ≠ (s.keySlot (c.u8 0)).kcvNext) : swapKey c s = rej .state 0x24 s := by
  obtain ⟨key, hkey⟩ := Option.isSome_iff_exists.mp hnext
  rw [swapKey, if_neg (kindOk_iff.mpr hkind), keyAuth_signed hsigned]
  simp only [hkey, if_pos hcheck]

theorem swapKey_swaps (hkind : KindOk c) (hsigned : Signed c 0x10 s) (hnext : (s.keySlot (c.u8 0)).next = some key)
    (hcheck : c.u32 4 = (s.keySlot (c.u8 0)).kcvNext) (hkey : kcvOf key = (s.keySlot (c.u8 0)).kcvNext) :
    swapKey c s = ok (raise 0x1084 1 (c.u8 0) (s.keySlot (c.u8 0)).kcvNext (orphanChildren (c.u8 0) (onKeySlot (c.u8 0)
      (fun k => { current := some key, next := none, kcvCurrent := k.kcvNext, kcvNext := 0 }) (acceptCounter c s)))) := by
  rw [swapKey, if_neg (kindOk_iff.mpr hkind), keyAuth_signed hsigned]
  simp only [hnext, if_neg (not_not.mpr hcheck), if_neg (not_not.mpr hkey)]

theorem invalidateKey_outOfRange (h : ¬KindOk c) : invalidateKey c s = rej .range 0x20 s := if_pos (by omega)

theorem invalidateKey_secretless (hkind : KindOk c) (hnone : (s.keySlot 1).current = none) : invalidateKey c s = rej .state 0xFFFF s :=
  (if_neg (kindOk_iff.mpr hkind)).trans (keyAuth_secretless hnone)

theorem invalidateKey_clears (hkind : KindOk c) (hsigned : Signed c 0x10 s) :
    invalidateKey c s = ok (raise 0x1084 1 (c.u8 0) 0 (orphanChildren (c.u8 0) (onKeySlot (c.u8 0) (fun _ => {}) (acceptCounter c s)))) :=
  (if_neg (kindOk_iff.mpr hkind)).trans (keyAuth_signed hsigned)

/-! ### SCUTTLE (R511; log entry 101) -/

theorem scuttleCmd_otherChip (h : c.u32 0 ≠ Config.serial % 2 ^ 32) : scuttleCmd c s = rej .range 0x20 s := if_pos h

theorem scuttleCmd_ordered (h : c.u32 0 = Config.serial % 2 ^ 32) (hsigned : Signed c 0x10 s) :
    scuttleCmd c s = ok ((acceptCounter c s).onKeys fun k => { k with scuttleDue := true }) :=
  (if_neg (not_not.mpr h)).trans (keyAuth_signed hsigned)

end

/-! ### The statement -/

/-- Settles O36: the authentication by the secret, the MAC and the COUNTER, and each command by its KIND and by the keys that it finds or brings. -/
theorem keyCommandsAuthenticated : Obligations.KeyCommandsAuthenticated := by
  refine ⟨⟨?next, ?provisions, ?swaps, carries_of_effect fun _ _ ⟨hkind, hsigned⟩ => invalidateKey_clears hkind hsigned,
    carries_of_effect fun _ _ ⟨hserial, hsigned⟩ => scuttleCmd_ordered hserial hsigned, ?wrapped, ?misnamed,
    carries_of_effect fun _ _ ⟨hkind, hprov, h⟩ => installKey_provisioned hkind hprov h,
    carries_of_effect fun _ _ ⟨hkind, hsigned, hnext⟩ => swapKey_nextless hkind hsigned hnext,
    carries_of_effect fun _ _ ⟨hkind, hsigned, hnext, hcheck⟩ => swapKey_misnamed hkind hsigned hnext hcheck,
    carries_of_effect fun _ _ h => installKey_outOfRange h, carries_of_effect fun _ _ h => swapKey_outOfRange h,
    carries_of_effect fun _ _ h => invalidateKey_outOfRange h, carries_of_effect fun _ _ h => scuttleCmd_otherChip h⟩,
    ⟨fun _ _ _ _ _ _ hkey hmac => keyAuth_badMac hkey hmac, fun _ _ _ _ _ _ hkey hmac hcounter => keyAuth_oldCounter hkey hmac hcounter,
      fun _ _ _ _ _ hnone => keyAuth_secretless hnone, ?secretless⟩⟩
  case next =>
    exact fun key => carries_of_effect fun c s ⟨hkind, hprov, hsigned, hgiven, hcheck⟩ =>
      (installKey_signed hkind hprov hsigned).trans (install_next hgiven hcheck)
  case provisions =>
    refine fun key => carries_of_effect fun c s ⟨hkind, hprov, hnone, hcounter, hgiven, hcheck⟩ => ?_
    rw [installKey_provisions hkind hprov hnone hcounter, install_provisions hgiven hcheck, hkind]
  case swaps =>
    exact fun key => carries_of_effect fun c s ⟨hkind, hsigned, hnext, hcheck, hkey⟩ => swapKey_swaps hkind hsigned hnext hcheck hkey
  case wrapped =>
    exact carries_of_effect fun c s ⟨hkind, hprov, hsigned, hgiven⟩ => (installKey_signed hkind hprov hsigned).trans (install_wrapped hgiven)
  case misnamed =>
    exact fun key => carries_of_effect fun c s ⟨hkind, hprov, hsigned, hgiven, hcheck⟩ =>
      (installKey_signed hkind hprov hsigned).trans (install_misnamed hgiven hcheck)
  case secretless =>
    intro c s hnone hkind h
    obtain ⟨hstatus, hstate⟩ := installKey_secretless hnone hkind h
    exact ⟨hstatus, hstate, swapKey_secretless hkind hnone, invalidateKey_secretless hkind hnone⟩

end Sys2Proof.Proofs

/-! PROOFS.  The commands of range 0x11 (spec/16_keys_tamper_firmware.md, R496, R498, R503, R512; log entries 103 and 104): the fields of each, what refuses
it and what it begins, and the statement about them. -/

namespace Sys2Proof.Proofs
open Sys2Proof Sys2Proof.Machine

section
variable {c : Cmd} {s : State}

/-! ### STAGE_IMAGE and SET_FOLLOW_LIST (R496, R512) -/

/-- The record names a staging area inside its window and the slot that does not run. -/
def StageFields (c : Cmd) (s : State) : Prop :=
  c.u32 0 % 4096 = 0 ∧ c.u32 0 + c.u32 4 ≤ 0x20000000 ∧ c.u32 0 < 0x20000000 ∧ c.u8 8 ≤ 1 ∧ c.u8 8 ≠ s.fw.running

/-- A session of the host's begins with the check of what it has staged. -/
def hostSession (c : Cmd) (s : State) : State :=
  (displacePartner s).onFw fun f =>
    { f with source := .host, phase := .checking, target := c.u8 8, stageAt := 0x20000000 + c.u32 0, stageLen := c.u32 4, bytes := 0, both := false,
             job := some s.mbox.nextJob }

theorem stageImage_eq (h : StageFields c s) :
    stageImage c s = if sessionLive s = true ∧ s.fw.source ≠ .partner then rej .busy 0 s else if s.fw.phase = .handover then rej .busy 0 s
      else queued .stageImage (hostSession c s) := by
  obtain ⟨halign, hend, hstart, hslot, hother⟩ := h
  unfold stageImage
  rw [firstBad_eq_none_iff.mpr (by simp [halign, hend, hstart, hslot, hother])]
  rfl

theorem stageImage_begins (h : StageFields c s) (hfree : sessionLive s = false ∨ s.fw.source = .partner) (hphase : s.fw.phase ≠ .handover) :
    stageImage c s = queued .stageImage (hostSession c s) := by
  refine (stageImage_eq h).trans ((if_neg fun ⟨hlive, hother⟩ => ?_).trans (if_neg hphase))
  rcases hfree with hnone | hpartner
  · exact Bool.false_ne_true (hnone.symm.trans hlive)
  · exact hother hpartner

theorem stageImage_busy (h : StageFields c s) (hbusy : (sessionLive s = true ∧ s.fw.source ≠ .partner) ∨ s.fw.phase = .handover) :
    stageImage c s = rej .busy 0 s := by
  rw [stageImage_eq h]
  rcases hbusy with hsession | hhandover
  · exact if_pos hsession
  · rw [if_pos hhandover]
    exact ite_self _

theorem setFollowList_held (h : c.u8 0 ≤ 8) :
    setFollowList c s = ok ((s.onObj fun o => { o with followList := (List.range (c.u8 0)).map fun i => c.bytes (8 + 48 * i) 48 }).touch 0x11 0) :=
  if_neg (Nat.not_lt.mpr h)

theorem setFollowList_outOfRange (h : 8 < c.u8 0) : setFollowList c s = rej .range 0x20 s := if_pos h

/-! ### HANDOVER (R498; log entry 104) -/

/-- The image in the slot that a HANDOVER names. -/
abbrev namedImage (c : Cmd) (s : State) : SlotHdr := s.fwSlot (c.u8 0)

/-- SLOT and TRIAL_S are in range. -/
def HandoverFields (c : Cmd) : Prop := c.u8 0 ≤ 1 ∧ c.u16 2 ≤ 3600

/-- No trial runs, and the slot named holds a good image that does not run. -/
def ImageGood (c : Cmd) (s : State) : Prop := inTrial s = false ∧ (namedImage c s).st = 1 ∧ c.u8 0 ≠ s.fw.running

/-- The image reads what the running one has written. -/
def SchemaSuits (c : Cmd) (s : State) : Prop := (namedImage c s).schemaMin ≤ s.fw.image.schemaW ∧ s.fw.image.schemaW ≤ (namedImage c s).schemaMax

/-- The partner's image and the new one accept each other, or FORCE is set. -/
def PartnerSuits (c : Cmd) (s : State) : Prop := bitOf (c.u8 1) 0 = true ∨ partnerRefuses (namedImage c s) s = false

/-- The handover is ordered, with what a revert or a failure returns to. -/
def handoverOrdered (c : Cmd) (s : State) : State :=
  (orderHandover (c.u8 0) false s).onFw fun f =>
    { f with oldSlot := f.running, oldImage := f.image, trialNext := (if c.u16 2 = 0 then 10 else c.u16 2) * 1000 }

theorem handover_eq (h : HandoverFields c) :
    handover c s =
      if inTrial s = true then rej .state 0xFFFF s
      else if (namedImage c s).st ≠ 1 ∨ c.u8 0 = s.fw.running then rej .state 0xFFFF s
      else if (namedImage c s).security < s.keys.secCounter then rej .state (causeDetail 4) s
      else if s.fw.image.schemaW < (namedImage c s).schemaMin ∨ (namedImage c s).schemaMax < s.fw.image.schemaW then rej .format (causeDetail 10) s
      else if bitOf (c.u8 1) 0 = false ∧ partnerRefuses (namedImage c s) s = true then rej .state (causeDetail 11) s
      else if s.fw.phase = .handover ∨ s.fw.phase = .checking then rej .busy 0 s
      else queued .handover (handoverOrdered c s) := by
  obtain ⟨hslot, htrial⟩ := h
  unfold handover
  dsimp only
  rw [firstBad_eq_none_iff.mpr (by simp [hslot, htrial])]
  rfl

theorem handover_unsuited_slot (h : HandoverFields c) (hbad : ¬ImageGood c s) : handover c s = rej .state 0xFFFF s := by
  rw [handover_eq h]
  by_cases htrial : inTrial s = true
  · exact if_pos htrial
  · rw [if_neg htrial, if_pos]
    by_contra hgood
    rw [not_or, not_not] at hgood
    exact hbad ⟨by simpa using htrial, hgood.1, hgood.2⟩

section
variable (h : HandoverFields c) (hgood : ImageGood c s)
include h hgood

/-- Of a good image, the checks that follow. -/
theorem handover_good :
    handover c s =
      if (namedImage c s).security < s.keys.secCounter then rej .state (causeDetail 4) s
      else if s.fw.image.schemaW < (namedImage c s).schemaMin ∨ (namedImage c s).schemaMax < s.fw.image.schemaW then rej .format (causeDetail 10) s
      else if bitOf (c.u8 1) 0 = false ∧ partnerRefuses (namedImage c s) s = true then rej .state (causeDetail 11) s
      else if s.fw.phase = .handover ∨ s.fw.phase = .checking then rej .busy 0 s
      else queued .handover (handoverOrdered c s) := by
  obtain ⟨htrial, hvalid, hother⟩ := hgood
  rw [handover_eq h, if_neg (by simp [htrial]), if_neg (by simp [hvalid, hother])]

theorem handover_insecure (hsecure : ¬s.keys.secCounter ≤ (namedImage c s).security) : handover c s = rej .state (causeDetail 4) s :=
  (handover_good h hgood).trans (if_pos (Nat.not_le.mp hsecure))

variable (hsecure : s.keys.secCounter ≤ (namedImage c s).security)
include hsecure

theorem handover_schema (hschema : ¬SchemaSuits c s) : handover c s = rej .format (causeDetail 10) s := by
  have hapart : s.fw.image.schemaW < (namedImage c s).schemaMin ∨ (namedImage c s).schemaMax < s.fw.image.schemaW := by
    rwa [SchemaSuits, not_and_or, Nat.not_le, Nat.not_le] at hschema
  rw [handover_good h hgood, if_neg (Nat.not_lt.mpr hsecure), if_pos hapart]

variable (hschema : SchemaSuits c s)
include hschema

/-- Of an image that reads the schema, the partner's part and the session's. -/
theorem handover_schema_suits :
    handover c s =
      if bitOf (c.u8 1) 0 = false ∧ partnerRefuses (namedImage c s) s = true then rej .state (causeDetail 11) s
      else if s.fw.phase = .handover ∨ s.fw.phase = .checking then rej .busy 0 s
      else queued .handover (handoverOrdered c s) := by
  obtain ⟨hlow, hhigh⟩ := hschema
  rw [handover_good h hgood, if_neg (Nat.not_lt.mpr hsecure), if_neg (not_or.mpr ⟨Nat.not_lt.mpr hlow, Nat.not_lt.mpr hhigh⟩)]

theorem handover_partner (hpartner : ¬PartnerSuits c s) : handover c s = rej .state (causeDetail 11) s :=
  (handover_schema_suits h hgood hsecure hschema).trans (if_pos (by simpa [PartnerSuits] using hpartner))

theorem handover_suits (hpartner : PartnerSuits c s) :
    handover c s = if s.fw.phase = .handover ∨ s.fw.phase = .checking then rej .busy 0 s else queued .handover (handoverOrdered c s) := by
  refine (handover_schema_suits h hgood hsecure hschema).trans (if_neg fun ⟨hunforced, hrefuses⟩ => ?_)
  rcases hpartner with hforced | haccepts
  · exact Bool.false_ne_true (hunforced.symm.trans hforced)
  · exact Bool.false_ne_true (haccepts.symm.trans hrefuses)

end

/-! ### COMMIT_IMAGE, REVERT and ABORT_UPDATE (R501, R503, R512) -/

theorem commitImage_begins (htrial : inTrial s = true) (hallowed : s.fw.noCommit = false) :
    commitImage c s = queued .commitImage (if committing s = true then s else commitTrial s) :=
  if_pos ⟨htrial, hallowed⟩

theorem commitImage_refused (h : inTrial s = false ∨ s.fw.noCommit = true) : commitImage c s = rej .state 0xFFFF s := by
  refine if_neg fun ⟨htrial, hallowed⟩ => ?_
  rcases h with hnone | hbarred
  · exact Bool.false_ne_true (hnone.symm.trans htrial)
  · exact Bool.false_ne_true (hallowed.symm.trans hbarred)

theorem revert_ordered (htrial : inTrial s = true) (hcommit : committing s = false) (hphase : s.fw.phase ≠ .handover) :
    revert c s = queued .revert (orderHandover s.fw.oldSlot true
      (if sessionLive s = true then raise 0x1182 2 s.fw.source.code 0 (dropSession (match s.fw.job with
        | some id => finish id .state 0xFFFF s
        | none => s)) else s)) :=
  if_pos ⟨htrial, hcommit, hphase⟩

theorem revert_refused (h : inTrial s = false ∨ committing s = true ∨ s.fw.phase = .handover) : revert c s = rej .state 0xFFFF s := by
  refine if_neg fun ⟨htrial, hcommit, hphase⟩ => ?_
  rcases h with hnone | hcommitting | hhandover
  · exact Bool.false_ne_true (hnone.symm.trans htrial)
  · exact Bool.false_ne_true (hcommit.symm.trans hcommitting)
  · exact hphase hhandover

theorem abortUpdate_ends (h : sessionLive s = true) :
    abortUpdate c s = ok (raise 0x1182 2 s.fw.source.code 0 (dropSession (supersededBy c s.fw.job s))) :=
  if_pos h

theorem abortUpdate_ends_job {id : Nat} (h : sessionLive s = true) (hjob : s.fw.job = some id) :
    abortUpdate c s = ok (raise 0x1182 2 s.fw.source.code 0 (dropSession (finish id .superseded (byCommand c) s))) := by
  rw [abortUpdate_ends h, hjob, supersededBy]

theorem abortUpdate_ends_jobless (h : sessionLive s = true) (hjob : s.fw.job = none) :
    abortUpdate c s = ok (raise 0x1182 2 s.fw.source.code 0 (dropSession s)) := by
  rw [abortUpdate_ends h, hjob, supersededBy]

theorem abortUpdate_idle (h : sessionLive s = false) : abortUpdate c s = rej .state 0xFFFF s := if_neg (Bool.eq_false_iff.mp h)

end

/-! ### The statement -/

/-- Settles O37: a session begun or ended by what runs beside it, a handover by its checks in their order, a trial's commands by the trial. -/
theorem firmwareCommandsComplete : Obligations.FirmwareCommandsComplete :=
  ⟨carries_of_effect fun _ _ ⟨hfields, hfree, hphase⟩ => stageImage_begins hfields hfree hphase,
    carries_of_effect fun _ _ ⟨hfields, hbusy⟩ => stageImage_busy hfields hbusy,
    carries_of_effect fun _ _ h => setFollowList_held h, carries_of_effect fun _ _ h => setFollowList_outOfRange h,
    carries_of_effect fun _ _ ⟨hfields, hgood, hsecure, hschema, hpartner, hhandover, hchecking⟩ =>
      (handover_suits hfields hgood hsecure hschema hpartner).trans (if_neg (not_or.mpr ⟨hhandover, hchecking⟩)),
    carries_of_effect fun _ _ ⟨hfields, hbad⟩ => handover_unsuited_slot hfields hbad,
    carries_of_effect fun _ _ ⟨hfields, hgood, hsecure⟩ => handover_insecure hfields hgood hsecure,
    carries_of_effect fun _ _ ⟨hfields, hgood, hsecure, hschema⟩ => handover_schema hfields hgood hsecure hschema,
    carries_of_effect fun _ _ ⟨hfields, hgood, hsecure, hschema, hpartner⟩ => handover_partner hfields hgood hsecure hschema hpartner,
    carries_of_effect fun _ _ ⟨hfields, hgood, hsecure, hschema, hpartner, hbusy⟩ =>
      (handover_suits hfields hgood hsecure hschema hpartner).trans (if_pos hbusy),
    carries_of_effect fun _ _ ⟨htrial, hallowed⟩ => commitImage_begins htrial hallowed, carries_of_effect fun _ _ h => commitImage_refused h,
    carries_of_effect fun _ _ ⟨htrial, hcommit, hphase⟩ => revert_ordered htrial hcommit hphase, carries_of_effect fun _ _ h => revert_refused h,
    fun _ => carries_of_effect fun _ _ ⟨h, hjob⟩ => abortUpdate_ends_job h hjob, carries_of_effect fun _ _ ⟨h, hjob⟩ => abortUpdate_ends_jobless h hjob,
    carries_of_effect fun _ _ h => abortUpdate_idle h⟩

end Sys2Proof.Proofs

/-! PROOFS.  The steps of a handover and the end of a trial (spec/16_keys_tamper_firmware.md, R499, R501, R503; log entry 104): where each step leads, and
when a trial's commit begins. -/

namespace Sys2Proof.Proofs
open Sys2Proof Sys2Proof.Machine

section
variable {done : Bool} {s : State}

/-! ### Steps of a handover (R499) -/

/-- A handover that was ordered, and has not begun. -/
def HandoverDue (s : State) : Prop := s.fw.phase = .handover ∧ s.fw.handStep = 0 ∧ s.dev.ready = true

/-- The old image's cut and checkpoint, and the device state of a handover (R438). -/
def handoverBegun (s : State) : State :=
  { ((checkpoint (if s.journal.writes = true ∧ s.journal.pending ≠ [] then cutNow .regular s else s)).onFw fun f =>
      { f with handStep := 1, healthHigh := s.twin.health }) with dev := DevState.handover }

theorem beginHandover_due (h : HandoverDue s) : beginHandover s = handoverBegun s := if_pos h

theorem beginHandover_not_due (h : ¬HandoverDue s) : beginHandover s = s := if_neg h

/-- In a handover, no other begins. -/
theorem not_handoverDue (h : s.dev = .handover) : ¬HandoverDue s := by
  rintro ⟨-, -, hready⟩
  rw [h] at hready
  exact Bool.false_ne_true hready

theorem handoverStep_begins (h : HandoverDue s) : handoverStep done s = (handoverBegun s).onFw fun f => { f with handStep := f.handStep + 1 } := by
  have hone : (handoverBegun s).fw.handStep = 1 := rfl
  unfold handoverStep
  rw [beginHandover_due h]
  exact (if_neg (not_not.mpr rfl)).trans ((if_neg (by simp [hone])).trans (if_pos (by simp [hone])))

theorem handoverStep_none (hdev : s.dev ≠ .handover) (h : s.fw.phase ≠ .handover ∨ s.dev.ready = false ∨ s.fw.handStep ≠ 0) : handoverStep done s = s := by
  have hnot : ¬HandoverDue s := by
    rintro ⟨hphase, hstep, hready⟩
    rcases h with hother | hbusy | hbegun
    · exact hother hphase
    · exact Bool.false_ne_true (hbusy.symm.trans hready)
    · exact hbegun hstep
  unfold handoverStep
  rw [beginHandover_not_due hnot]
  exact if_pos hdev

/-- The end of a step in a handover. -/
theorem handoverStep_running (h : s.dev = .handover) :
    handoverStep done s =
      if (s.fw.handStep = 2 ∨ s.fw.handStep = 3) ∧ done = false ∧ s.fw.reverting = false then driveHealth (handoverFails s)
      else if s.fw.handStep < 4 then s.onFw fun f => { f with handStep := f.handStep + 1 }
      else driveHealth (if s.fw.reverting = true then revertDone s else handoverDone s) := by
  unfold handoverStep
  rw [beginHandover_not_due (not_handoverDue h)]
  exact if_neg (not_not.mpr h)

theorem handoverStep_first (h : s.dev = .handover) (hstep : s.fw.handStep ≤ 1) :
    handoverStep done s = s.onFw fun f => { f with handStep := f.handStep + 1 } := by
  rw [handoverStep_running h, if_neg (by omega), if_pos (by omega)]

theorem handoverStep_reads (h : s.dev = .handover) (hstep : s.fw.handStep = 2 ∨ s.fw.handStep = 3) (hread : done = true ∨ s.fw.reverting = true) :
    handoverStep done s = s.onFw fun f => { f with handStep := f.handStep + 1 } := by
  rw [handoverStep_running h, if_neg, if_pos (by omega)]
  rintro ⟨-, hunread, hforward⟩
  rcases hread with hdone | hreverts
  · exact Bool.false_ne_true (hunread.symm.trans hdone)
  · exact Bool.false_ne_true (hforward.symm.trans hreverts)

theorem handoverStep_fails (h : s.dev = .handover) (hstep : s.fw.handStep = 2 ∨ s.fw.handStep = 3) (hforward : s.fw.reverting = false) :
    handoverStep false s = driveHealth (handoverFails s) :=
  (handoverStep_running h).trans (if_pos ⟨hstep, rfl, hforward⟩)

theorem handoverStep_last (h : s.dev = .handover) (hstep : 4 ≤ s.fw.handStep) :
    handoverStep done s = driveHealth (if s.fw.reverting = true then revertDone s else handoverDone s) := by
  rw [handoverStep_running h, if_neg (by omega), if_neg (by omega)]

theorem handoverStep_done (h : s.dev = .handover) (hstep : 4 ≤ s.fw.handStep) (hforward : s.fw.reverting = false) :
    handoverStep done s = driveHealth (handoverDone s) := by
  rw [handoverStep_last h hstep, if_neg (Bool.eq_false_iff.mp hforward)]

theorem handoverStep_reverted (h : s.dev = .handover) (hstep : 4 ≤ s.fw.handStep) (hreverts : s.fw.reverting = true) :
    handoverStep done s = driveHealth (revertDone s) := by
  rw [handoverStep_last h hstep, if_pos hreverts]

/-! ### The end of a trial (R501) -/

theorem trialEnd_commits (hready : s.dev.ready = true) (htrial : s.fw.trialMs ≠ 0) (hallowed : s.fw.noCommit = false)
    (hage : msTicks s.fw.trialMs ≤ s.fw.trialAge) (hcommit : committing s = false) (hphase : s.fw.phase ≠ .handover) : trialEnd s = commitTrial s :=
  if_pos ⟨hready, decide_eq_true htrial, hallowed, hage, hcommit, hphase⟩

theorem trialEnd_not_due
    (h : s.dev.ready = false ∨ s.fw.trialMs = 0 ∨ s.fw.noCommit = true ∨ s.fw.trialAge < msTicks s.fw.trialMs ∨ committing s = true ∨ s.fw.phase = .handover) :
    trialEnd s = s := by
  refine if_neg fun ⟨hready, htrial, hallowed, hage, hcommit, hphase⟩ => ?_
  rcases h with hbusy | hnone | hbarred | hearly | hcommitting | hhandover
  · exact Bool.false_ne_true (hbusy.symm.trans hready)
  · exact of_decide_eq_true htrial hnone
  · exact Bool.false_ne_true (hallowed.symm.trans hbarred)
  · exact Nat.not_le.mpr hearly hage
  · exact Bool.false_ne_true (hcommit.symm.trans hcommitting)
  · exact hphase hhandover

end

/-! ### The statement -/

/-- Settles O39: a step by its number, by what it read and by its direction; a trial's end by its age and by what bars the commit. -/
theorem handoverRowsComplete : Obligations.HandoverRowsComplete :=
  ⟨fun _ _ hready hphase hstep => answers_of_eq (handoverStep_begins ⟨hphase, hstep, hready⟩), fun _ _ h hstep => answers_of_eq (handoverStep_first h hstep),
    fun _ _ h hstep hread => answers_of_eq (handoverStep_reads h hstep hread), fun _ h hstep hforward => answers_of_eq (handoverStep_fails h hstep hforward),
    fun _ _ h hstep hforward => answers_of_eq (handoverStep_done h hstep hforward),
    fun _ _ h hstep hreverts => answers_of_eq (handoverStep_reverted h hstep hreverts), fun _ _ hdev h => answers_of_eq (handoverStep_none hdev h),
    fun _ hready htrial hallowed hage hcommit hphase => answers_of_eq (trialEnd_commits hready htrial hallowed hage hcommit hphase),
    fun _ h => answers_of_eq (trialEnd_not_due h)⟩

end Sys2Proof.Proofs

/-! PROOFS.  The checks of an image and the rows of an update session (spec/16_keys_tamper_firmware.md, R492 to R497, R512; log entries 103 and 105): the
cause that each check gives, what becomes of a session whose check or whose slot's writing ends, a partner's offer, and the statement about them. -/

namespace Sys2Proof.Proofs
open Sys2Proof Sys2Proof.Machine

/-! ### Slots (R494) -/

/-- What a table reads at one key, a write at another does not change. -/
theorem tget_tset_other {α : Type} [DecidableEq α] {d : α} {k j : Nat} (hj : j ≠ k) (v : α) (t : List (Nat × α)) : tget d (tset d t k v) j = tget d t j := by
  induction t with
  | nil =>
    simp only [tset]
    split_ifs
    · rfl
    · exact if_neg (Ne.symm hj)
  | cons e t ih =>
    obtain ⟨i, w⟩ := e
    simp only [tset]
    split_ifs with hlt hv heq hv
    · rfl
    · exact if_neg (Ne.symm hj)
    · exact (if_neg (heq ▸ Ne.symm hj)).symm
    · simp [tget, Ne.symm hj, ← heq]
    · simp only [tget, ih]

theorem onFwSlot_other {k j : Nat} {f : SlotHdr → SlotHdr} {s : State} (h : j ≠ k) : (onFwSlot k f s).fwSlot j = s.fwSlot j :=
  tget_tset_other h _ _

/-- A slot as it is while its image is written: invalid. -/
def writtenHdr (h : SlotHdr) : SlotHdr := { h with st := 2, bootSeq := 0, staged := false }

theorem writtenHdr_ne (h : SlotHdr) : writtenHdr h ≠ {} := fun hempty => absurd (congrArg SlotHdr.st hempty) (by simp [writtenHdr])

theorem beginSlotWrite_slot (h : SlotHdr) (s : State) : (beginSlotWrite h s).fwSlot s.fw.target = writtenHdr h := by
  have hwritten : ((onFwSlot s.fw.target (fun _ => writtenHdr h) s).onFw fun f => { f with phase := .writing, incoming := h }).fwSlot s.fw.target = writtenHdr h :=
    tget_tset_of_ne (writtenHdr_ne h) _ _
  unfold beginSlotWrite
  dsimp only
  split
  · exact (onFwSlot_other (by omega)).trans hwritten
  · exact hwritten

theorem beginSlotWrite_phase (h : SlotHdr) (s : State) : (beginSlotWrite h s).fw.phase = .writing := by
  unfold beginSlotWrite
  dsimp only
  split
  · rfl
  · rfl

/-! ### The checks in their order (R493) -/

section
variable {h : List Byte} {n : Option Nat} {r : ImageChecks} {s : State}

theorem imageCause_shape (hshape : shapeOk h n = false) : imageCause h n r s = 8 := if_pos (by simp [hshape])

variable (hshape : shapeOk h n = true)
include hshape

theorem imageCause_signature (hsigned : r.signature = false) : imageCause h n r s = 1 := by simp [imageCause, hshape, hsigned]

variable (hsigned : r.signature = true)
include hsigned

theorem imageCause_key (hkey : vendorKeyOk s (headerOf h).keyIndex = false) : imageCause h n r s = 7 := by simp [imageCause, hshape, hsigned, hkey]

variable (hkey : vendorKeyOk s (headerOf h).keyIndex = true)
include hkey

theorem imageCause_security (hold : (headerOf h).security < s.keys.secCounter) : imageCause h n r s = 4 := by
  simp [imageCause, hshape, hsigned, hkey, hold]

variable (hsecure : s.keys.secCounter ≤ (headerOf h).security)
include hsecure

theorem imageCause_rom (hrom : Config.romVersion < (headerOf h).romMin) : imageCause h n r s = 6 := by
  simp [imageCause, hshape, hsigned, hkey, Nat.not_lt.mpr hsecure, hrom]

theorem imageCause_contents (hrom : (headerOf h).romMin ≤ Config.romVersion) :
    imageCause h n r s = if r.tag = false then 2 else if r.digest = false then 3 else 0 := by
  simp [imageCause, hshape, hsigned, hkey, Nat.not_lt.mpr hsecure, Nat.not_lt.mpr hrom]

end

/-! ### The end of a check (R493, R497) -/

section
variable {g d : List Byte} {r : ImageChecks} {s : State}

/-- A key that the check used is counted, and the length that the header gives is noted. -/
def imageChecked (h : List Byte) (s : State) : State :=
  (useImageKey (hdrField h 0x20 4) s).onFw fun f => { f with bytes := min 0xFFFFFFFF (512 + hdrField h 0x20 4 + 16) }

/-- The image is a partner's, and not the one that it offered. -/
def notOffered (g : List Byte) (s : State) : Bool :=
  match s.fw.hash with
  | some d => decide (s.fw.source = .partner) && decide (d ≠ (headerOf (checkedHeader g s)).digest)
  | none => false

theorem notOffered_of_other (h : s.fw.source ≠ .partner) : notOffered g s = false := by
  unfold notOffered
  split
  · simp [h]
  · rfl

theorem notOffered_of_partner (h : s.fw.source = .partner) (hhash : s.fw.hash = some d) :
    notOffered g s = decide (d ≠ (headerOf (checkedHeader g s)).digest) := by
  simp [notOffered, hhash, h]

theorem imageCheckComplete_idle (h : s.fw.phase ≠ .checking) : imageCheckComplete g r s = s := if_pos h

theorem imageCheckComplete_checking (h : s.fw.phase = .checking) :
    imageCheckComplete g r s =
      if imageCause (checkedHeader g s) (checkedLength s) r s ≠ 0 then
        refuseImage (imageCause (checkedHeader g s) (checkedLength s) r s) (imageChecked (checkedHeader g s) s)
      else if notOffered g s = true then refuseImage 3 (imageChecked (checkedHeader g s) s)
      else beginSlotWrite (headerOf (checkedHeader g s)) (imageChecked (checkedHeader g s) s) :=
  if_neg (not_not.mpr h)

theorem imageCheckComplete_refuses (h : s.fw.phase = .checking) (hcause : imageCause (checkedHeader g s) (checkedLength s) r s ≠ 0) :
    imageCheckComplete g r s = refuseImage (imageCause (checkedHeader g s) (checkedLength s) r s) (imageChecked (checkedHeader g s) s) :=
  (imageCheckComplete_checking h).trans (if_pos hcause)

theorem imageCheckComplete_writes (h : s.fw.phase = .checking) (hsource : s.fw.source ≠ .partner)
    (hcause : imageCause (checkedHeader g s) (checkedLength s) r s = 0) :
    imageCheckComplete g r s = beginSlotWrite (headerOf (checkedHeader g s)) (imageChecked (checkedHeader g s) s) := by
  rw [imageCheckComplete_checking h, if_neg (not_not.mpr hcause), if_neg (by simp [notOffered_of_other hsource])]

theorem imageCheckComplete_partner (h : s.fw.phase = .checking) (hsource : s.fw.source = .partner) (hhash : s.fw.hash = some d)
    (hcause : imageCause (checkedHeader g s) (checkedLength s) r s = 0) :
    imageCheckComplete g r s =
      if d = (headerOf (checkedHeader g s)).digest then beginSlotWrite (headerOf (checkedHeader g s)) (imageChecked (checkedHeader g s) s)
      else refuseImage 3 (imageChecked (checkedHeader g s) s) := by
  rw [imageCheckComplete_checking h, if_neg (not_not.mpr hcause), notOffered_of_partner hsource hhash]
  by_cases hoffered : d = (headerOf (checkedHeader g s)).digest
  · rw [if_neg (by simp [hoffered]), if_pos hoffered]
  · rw [if_pos (decide_eq_true hoffered), if_neg hoffered]

/-! ### The end of a slot's writing (R437, R494; log entry 103) -/

theorem slotWriteComplete_idle {done : Bool} (h : s.fw.phase ≠ .writing) : slotWriteComplete done s = s := if_pos h

theorem slotWriteComplete_writing {done : Bool} (h : s.fw.phase = .writing) :
    slotWriteComplete done s = if done = true then slotWritten s else slotWriteFails s :=
  if_neg (not_not.mpr h)

theorem slotWriteComplete_written (h : s.fw.phase = .writing) : slotWriteComplete true s = slotWritten s := (slotWriteComplete_writing h).trans (if_pos rfl)

theorem slotWriteComplete_fails (h : s.fw.phase = .writing) : slotWriteComplete false s = slotWriteFails s :=
  (slotWriteComplete_writing h).trans (if_neg Bool.false_ne_true)

/-- The image stands in its slot, staged, and the session's command is done with. -/
def imageStaged (s : State) : State :=
  (onFwSlot s.fw.target (fun _ => { s.fw.incoming with st := 1, bootSeq := 0, staged := true }) s).onFw fun f => { f with phase := .staged, job := none }

theorem slotWritten_host {id : Nat} (hsource : s.fw.source = .host) (hjob : s.fw.job = some id) :
    slotWritten s = raise 0x1181 1 s.fw.target s.fw.incoming.version (finish id .done s.fw.incoming.version (imageStaged s)) := by
  simp only [slotWritten, hsource, hjob]
  rfl

theorem slotWritten_partner (hsource : s.fw.source = .partner) (hjob : s.fw.job = none) :
    slotWritten s = raise 0x1181 1 s.fw.target s.fw.incoming.version (imageStaged s) := by
  simp only [slotWritten, hsource, hjob]
  rfl

/-- With both slots asked for, the other follows. -/
theorem slotWritten_dock_both (hsource : s.fw.source = .dryDock) (hboth : s.fw.both = true) :
    slotWritten s = (onFwSlot s.fw.target (fun _ => { s.fw.incoming with st := 1, bootSeq := nextBootSeq s }) s).onFw fun f =>
      { f with target := 1 - s.fw.target, both := false, incoming := { s.fw.incoming with bootSeq := nextBootSeq s } } := by
  simp only [slotWritten, hsource, hboth, if_true]

theorem slotWritten_dock_last {op : Nat} {c : Cmd} (hsource : s.fw.source = .dryDock) (hboth : s.fw.both = false) (hcmd : s.host.ddCmd = some (op, c)) :
    slotWritten s = (complete 0 c.tag op c.session false .done 0 0 0 0
      (onFwSlot s.fw.target (fun _ => { s.fw.incoming with st := 1, bootSeq := max (nextBootSeq s) s.fw.incoming.bootSeq }) s)).onFw fun f =>
      { f with source := .none, phase := .idle, incoming := {} } := by
  simp only [slotWritten, hsource, hboth, hcmd, Bool.false_eq_true, if_false]

theorem slotWriteFails_host {id : Nat} (hsource : s.fw.source = .host) (hjob : s.fw.job = some id) :
    slotWriteFails s = raise 0x1182 2 1 0 (dropSession (finish id .state 0xFFFF (norFails s.fw.target s))) := by
  simp only [slotWriteFails, hsource, hjob]
  rfl

theorem slotWriteFails_partner (hsource : s.fw.source = .partner) (hjob : s.fw.job = none) :
    slotWriteFails s = raise 0x1182 2 2 0 (dropSession (norFails s.fw.target s)) := by
  simp only [slotWriteFails, hsource, hjob]
  rfl

theorem slotWriteFails_dock {op : Nat} {c : Cmd} (hsource : s.fw.source = .dryDock) (hcmd : s.host.ddCmd = some (op, c)) :
    slotWriteFails s = dropSession (complete 0 c.tag op c.session false .state 0 0 0 0xFFFF (norFails s.fw.target s)) := by
  simp only [slotWriteFails, hsource, hcmd]

/-! ### A partner's offer (R497; log entry 105) -/

theorem partnerOffer_ignored (h : s.dev.ready = false ∨ s.twin.session = false ∨ tandemDown s = true) : partnerOffer d s = s := if_pos (by simpa using h)

/-- An offer that comes by the session is declined beside a session or a handover, and where the follow list does not name it. -/
theorem partnerOffer_comes (hready : s.dev.ready = true) (hsession : s.twin.session = true) (hup : tandemDown s = false) :
    partnerOffer d s =
      if sessionLive s = true ∨ s.fw.phase = .handover then raise 0x1183 1 0 1 s
      else if (!s.obj.followList.contains d) = true then raise 0x1183 1 0 2 s
      else s.onFw fun f => { f with source := .partner, phase := .checking, target := 1 - f.running, bytes := 0, both := false, job := none, hash := some d } :=
  if_neg (by simp [hready, hsession, hup])

section
variable (hready : s.dev.ready = true) (hsession : s.twin.session = true) (hup : tandemDown s = false)
include hready hsession hup

theorem partnerOffer_busy (h : sessionLive s = true ∨ s.fw.phase = .handover) : partnerOffer d s = raise 0x1183 1 0 1 s :=
  (partnerOffer_comes hready hsession hup).trans (if_pos h)

theorem partnerOffer_unlisted (hlive : sessionLive s = false) (hphase : s.fw.phase ≠ .handover) (hlist : s.obj.followList.contains d = false) :
    partnerOffer d s = raise 0x1183 1 0 2 s := by
  rw [partnerOffer_comes hready hsession hup, if_neg (by simp [hlive, hphase]), hlist]
  rfl

theorem partnerOffer_taken (hlive : sessionLive s = false) (hphase : s.fw.phase ≠ .handover) (hlist : s.obj.followList.contains d = true) :
    partnerOffer d s =
      s.onFw fun f => { f with source := .partner, phase := .checking, target := 1 - f.running, bytes := 0, both := false, job := none, hash := some d } := by
  rw [partnerOffer_comes hready hsession hup, if_neg (by simp [hlive, hphase]), hlist]
  rfl

end

end

/-! ### The statement -/

/-- Settles O38: the checks in their order, and each row of a session by its phase, its source and the command or the offer that it serves. -/
theorem imagesAreCheckedInOrder : Obligations.ImagesAreCheckedInOrder := by
  refine ⟨fun _ _ _ _ => ⟨imageCause_shape, imageCause_signature, imageCause_key, imageCause_security, imageCause_rom, imageCause_contents⟩,
    fun _ _ _ h => answers_of_eq (imageCheckComplete_idle h), fun _ _ _ h hcause => answers_of_eq (imageCheckComplete_refuses h hcause),
    fun _ _ _ h hsource hcause => answers_of_eq (imageCheckComplete_writes h hsource hcause),
    fun _ _ _ _ h hsource hhash hcause => answers_of_eq (imageCheckComplete_partner h hsource hhash hcause),
    fun h s => ⟨congrArg SlotHdr.st (beginSlotWrite_slot h s), beginSlotWrite_phase h s⟩, fun _ _ h => answers_of_eq (slotWriteComplete_idle h),
    fun _ _ h hsource hjob => answers_of_eq ((slotWriteComplete_written h).trans (slotWritten_host hsource hjob)),
    fun _ _ h hsource hjob => answers_of_eq ((slotWriteComplete_fails h).trans (slotWriteFails_host hsource hjob)),
    fun _ h hsource hjob => ⟨answers_of_eq ((slotWriteComplete_written h).trans (slotWritten_partner hsource hjob)),
      answers_of_eq ((slotWriteComplete_fails h).trans (slotWriteFails_partner hsource hjob))⟩,
    fun _ h hsource hboth => answers_of_eq ((slotWriteComplete_written h).trans (slotWritten_dock_both hsource hboth)),
    fun _ _ _ h hsource hboth hcmd => answers_of_eq ((slotWriteComplete_written h).trans (slotWritten_dock_last hsource hboth hcmd)),
    fun _ _ _ h hsource hcmd => answers_of_eq ((slotWriteComplete_fails h).trans (slotWriteFails_dock hsource hcmd)),
    fun _ _ h => answers_of_eq (partnerOffer_ignored h),
    fun _ _ hready hsession hup hlive hphase hlist => answers_of_eq (partnerOffer_taken hready hsession hup hlive hphase hlist),
    fun _ _ hready hsession hup hlive hphase hlist => answers_of_eq (partnerOffer_unlisted hready hsession hup hlive hphase hlist),
    fun _ _ hready hsession hup h => answers_of_eq (partnerOffer_busy hready hsession hup h)⟩

end Sys2Proof.Proofs

/-! PROOFS.  Tamper alarms and the scuttle (spec/16_keys_tamper_firmware.md, R477, R487 to R491; log entries 101 and 138): when a level or a sensor is an
alarm, what an alarm does, what a cleared vault leaves, and the end of a kill. -/

namespace Sys2Proof.Proofs
open Sys2Proof Sys2Proof.Machine

section
variable {source low b : Nat} {done : Bool} {s : State}

/-! ### When there is an alarm (R487; log entry 138) -/

theorem tamperEvent_pin (h : source < 2) : tamperEvent source low s = if (lowIsAlarm low s).1 = true then tamperAlarm source (lowIsAlarm low s).2 else (lowIsAlarm low s).2 :=
  if_pos h

theorem tamperEvent_sensor (h : 2 ≤ source) : tamperEvent source low s = if source = 3 ∧ s.clocks.railsUp = false then s else tamperAlarm source s :=
  if_neg (Nat.not_lt.mpr h)

theorem lowIsAlarm_short (h : low < 970) : lowIsAlarm low s = (false, s) := if_pos h

theorem lowIsAlarm_long (h : 1030 ≤ low) : lowIsAlarm low s = (true, s) := (if_neg (by omega)).trans (if_pos h)

theorem lowIsAlarm_between (hlow : 970 ≤ low) (hhigh : low < 1030) : lowIsAlarm low s = (decide (s.draw.1 % 2 = 1), s.draw.2) :=
  (if_neg (by omega)).trans (if_neg (by omega))

theorem tamperEvent_short (h : source < 2) (hlow : low < 970) : tamperEvent source low s = s := by
  rw [tamperEvent_pin h, lowIsAlarm_short hlow]
  rfl

/-- The sensor of VDD_AO counts only while other rails are up. -/
theorem tamperEvent_unpowered (h : s.clocks.railsUp = false) : tamperEvent 3 low s = s := (tamperEvent_sensor (by decide)).trans (if_pos ⟨rfl, h⟩)

/-- A level held for the filter's upper bound, or a sensor that counts, is an alarm. -/
theorem tamperEvent_alarm (h : 1030 ≤ low ∨ 2 ≤ source) (hrails : source = 3 → s.clocks.railsUp = true) : tamperEvent source low s = tamperAlarm source s := by
  by_cases hpin : source < 2
  · rw [tamperEvent_pin hpin, lowIsAlarm_long (h.resolve_right (Nat.not_le.mpr hpin))]
    rfl
  · refine (tamperEvent_sensor (Nat.not_lt.mp hpin)).trans (if_neg fun ⟨hsensor, hdown⟩ => ?_)
    exact Bool.false_ne_true (hdown.symm.trans (hrails hsensor))

theorem tamperEvent_between (h : source < 2) (hlow : 970 ≤ low) (hhigh : low < 1030) :
    tamperEvent source low s = if s.draw.1 % 2 = 1 then tamperAlarm source s.draw.2 else s.draw.2 := by
  rw [tamperEvent_pin h, lowIsAlarm_between hlow hhigh]
  simp only [decide_eq_true_eq]

/-! ### What an alarm does (R489; log entry 101) -/

/-- A TAMPER_N input that gave an alarm is noted. -/
def pinNoted (source : Nat) (s : State) : State := if source < 2 then s.onKeys fun k => { k with tamperPin := setAdd k.tamperPin source } else s

theorem tamperAlarm_unsupplied (hoff : s.dev = .off) (hao : s.clocks.aoUp = false) : tamperAlarm source s = s := if_pos ⟨hoff, hao⟩

/-- With the island supplied, an alarm counts beside a kill and scuttles otherwise. -/
theorem tamperAlarm_supplied (h : s.dev ≠ .off ∨ s.clocks.aoUp = true) :
    tamperAlarm source s =
      if s.keys.killing.isSome = true then
        (pinNoted source s).onFaults fun f => { f with first := { f.first with overflow := satAdd 8 f.first.overflow 1 } }
      else scuttle (if s.host.link = .down then recordTamper source (pinNoted source s)
        else raise 0x1081 4 source s.dev.code (recordTamper source (pinNoted source s))) := by
  refine if_neg fun ⟨hoff, hao⟩ => ?_
  rcases h with hon | hup
  · exact hon hoff
  · exact Bool.false_ne_true (hao.symm.trans hup)

theorem tamperAlarm_killing (h : s.dev ≠ .off ∨ s.clocks.aoUp = true) (hkilling : s.keys.killing.isSome = true) :
    tamperAlarm source s = (pinNoted source s).onFaults fun f => { f with first := { f.first with overflow := satAdd 8 f.first.overflow 1 } } :=
  (tamperAlarm_supplied h).trans (if_pos hkilling)

theorem tamperAlarm_scuttles (h : s.dev ≠ .off ∨ s.clocks.aoUp = true) (hkilling : s.keys.killing = none) :
    tamperAlarm source s = scuttle (if s.host.link = .down then recordTamper source (pinNoted source s)
      else raise 0x1081 4 source s.dev.code (recordTamper source (pinNoted source s))) :=
  (tamperAlarm_supplied h).trans (if_neg (by simp [hkilling]))

/-! ### The end of a kill (R488) -/

/-- The kill bits stand, and the bank is out of use: the last one retires the chip. -/
def bankKilled (b : Nat) (s : State) : State :=
  (s.onKeys fun k => { k with killing := none }).onKeys fun k => { k with killed := setAdd k.killed b, bank := none, retired := k.retired || decide (b = 1) }

theorem scuttleComplete_none (h : s.keys.killing = none) : scuttleComplete done s = s := by simp only [scuttleComplete, h]

theorem scuttleComplete_killing (h : s.keys.killing = some b) :
    scuttleComplete done s =
      if done = true then (if s.host.link = .down then bankKilled b s else raise 0x1082 4 b 0 (bankKilled b s))
      else if s.dev = .fatalS then s.onKeys fun k => { k with killing := none }
      else fatalS 0x0C03 0 b false (s.onKeys fun k => { k with killing := none }) := by
  simp only [scuttleComplete, h]
  rfl

theorem scuttleComplete_killed (h : s.keys.killing = some b) :
    scuttleComplete true s = if s.host.link = .down then bankKilled b s else raise 0x1082 4 b 0 (bankKilled b s) :=
  (scuttleComplete_killing h).trans (if_pos rfl)

theorem scuttleComplete_fails_again (h : s.keys.killing = some b) (hdev : s.dev = .fatalS) :
    scuttleComplete false s = s.onKeys fun k => { k with killing := none } :=
  (scuttleComplete_killing h).trans ((if_neg Bool.false_ne_true).trans (if_pos hdev))

theorem scuttleComplete_fails (h : s.keys.killing = some b) (hdev : s.dev ≠ .fatalS) :
    scuttleComplete false s = fatalS 0x0C03 0 b false (s.onKeys fun k => { k with killing := none }) :=
  (scuttleComplete_killing h).trans ((if_neg Bool.false_ne_true).trans (if_neg hdev))

end

/-! ### The statement -/

/-- Settles O49: an event by the level's time or the sensor, an alarm by the island's supply and a running kill, and the kill's end by whether the bits
took. -/
theorem tamperScuttles : Obligations.TamperScuttles := by
  refine ⟨fun _ _ _ h hlow => answers_of_eq (tamperEvent_short h hlow), fun _ _ h => answers_of_eq (tamperEvent_unpowered h),
    fun _ _ _ h hrails hoff hao => answers_of_eq ((tamperEvent_alarm h hrails).trans (tamperAlarm_unsupplied hoff hao)),
    fun _ _ _ h hrails hsupplied hkilling => answers_of_eq ((tamperEvent_alarm h hrails).trans (tamperAlarm_killing hsupplied hkilling)),
    fun _ _ _ h hrails hsupplied hkilling => answers_of_eq ((tamperEvent_alarm h hrails).trans (tamperAlarm_scuttles hsupplied hkilling)),
    fun _ _ _ h hlow hhigh => answers_of_eq (tamperEvent_between h hlow hhigh), ?cleared, fun _ _ h => answers_of_eq (scuttleComplete_none h),
    fun _ _ h => answers_of_eq (scuttleComplete_killed h), fun _ _ h hdev => answers_of_eq (scuttleComplete_fails_again h hdev),
    fun _ _ h hdev => answers_of_eq (scuttleComplete_fails h hdev)⟩
  case cleared => exact fun s => ⟨rfl, rfl, rfl, rfl, rfl, rfl, rfl, rfl, rfl, rfl, rfl, rfl, rfl⟩

end Sys2Proof.Proofs

/-! PROOFS.  SPDM requests, sessions and IDE key management (spec/16_keys_tamper_firmware.md, R484, R485, R490; log entry 102): what every request needs,
what each answers, and the statement about them. -/

namespace Sys2Proof.Proofs
open Sys2Proof Sys2Proof.Machine

section
variable {f : State → State} {id : Nat} {i : Instr} {s : State}

/-! ### What every request needs (R485, R490) -/

/-- The link is up, no tamper lock stands, and the vault holds its keys. -/
def VaultOpen (s : State) : Prop := doeUp s = true ∧ s.keys.lock = false ∧ s.keys.vault = true

theorem spdm_down (h : doeUp s = false) : spdm f s = s := if_pos (by simp [h])

theorem spdm_locked (hup : doeUp s = true) (h : s.keys.lock = true ∨ s.keys.vault = false) : spdm f s = doeError s :=
  (if_neg (by simp [hup])).trans (if_pos h)

theorem spdm_open (h : VaultOpen s) : spdm f s = f s := by
  obtain ⟨hup, hlock, hvault⟩ := h
  exact (if_neg (by simp [hup])).trans (if_neg (by simp [hlock, hvault]))

theorem doeDiscovery_down {index : Nat} (h : doeUp s = false) : doeDiscovery index s = s := if_pos (by simp [h])

theorem doeDiscovery_up {index : Nat} (h : doeUp s = true) : doeDiscovery index s = doeAnswer (.discovery (if index < 3 then [index] else [])) s := by
  refine (if_neg (by simp [h])).trans ?_
  split_ifs
  · rfl
  · rfl

/-- The rows that are SPDM requests. -/
def SpdmRequest (i : Instr) : Prop :=
  i ∈ [.getVersion, .getDigests] ∨ (∃ n, i ∈ [.getCapabilities n, .keyUpdate n, .heartbeat n, .endSession n]) ∨ (∃ b, i = .negotiateAlgorithms b) ∨
    (∃ n m, i = .query n m) ∨ (∃ n a b, i = .getCertificate n a b) ∨ (∃ n x, i ∈ [.challenge n x, .getMeasurements n x, .keyExchange n x]) ∨
    (∃ n v, i = .finish n v) ∨ (∃ n a b d, i ∈ [.kSetGo n a b d, .kSetStop n a b d]) ∨ (∃ n a b d k, i = .keyProg n a b d k)

/-- An SPDM request is answered under the conditions of `spdm`, whatever it asks. -/
theorem SpdmRequest.exec_eq (h : SpdmRequest i) : ∃ f, ∀ s, exec i s = answer (spdm f s) := by
  simp only [SpdmRequest, List.mem_cons, List.not_mem_nil, or_false] at h
  rcases h with (rfl | rfl) | ⟨_, rfl | rfl | rfl | rfl⟩ | ⟨_, rfl⟩ | ⟨_, _, rfl⟩ | ⟨_, _, _, rfl⟩ | ⟨_, _, rfl | rfl | rfl⟩ | ⟨_, _, rfl⟩ |
    ⟨_, _, _, _, rfl | rfl⟩ | ⟨_, _, _, _, _, rfl⟩ <;> exact ⟨_, fun _ => rfl⟩

theorem SpdmRequest.answers_down (h : SpdmRequest i) (hdown : doeUp s = false) : Answers i s s := by
  obtain ⟨_, hexec⟩ := h.exec_eq
  exact answers_of_eq (spdm_down hdown) (hexec s)

theorem SpdmRequest.answers_locked (h : SpdmRequest i) (hup : doeUp s = true) (hlock : s.keys.lock = true ∨ s.keys.vault = false) :
    Answers i s (doeError s) := by
  obtain ⟨_, hexec⟩ := h.exec_eq
  exact answers_of_eq (spdm_locked hup hlock) (hexec s)

/-! ### Requests outside a session (R485) -/

section
variable {slot block at_ n v hb : Nat} {x : List Byte} (h : VaultOpen s)
include h

theorem getVersion_open : getVersion s = doeAnswer (.versions [0x11, 0x12]) (s.onKeys fun k => { k with version := 0 }) := spdm_open h

theorem getCapabilities_known (hv : v = 0x11 ∨ v = 0x12) :
    getCapabilities v s = doeAnswer (.capabilities ["CERT", "CHAL", "MEAS", "MEAS_FRESH", "ENCRYPT", "MAC", "KEY_EX", "HBEAT", "KEY_UPD"])
      (s.onKeys fun k => { k with version := v }) :=
  (spdm_open h).trans (if_pos hv)

theorem getCapabilities_unknown (h11 : v ≠ 0x11) (h12 : v ≠ 0x12) : getCapabilities v s = doeError s :=
  (spdm_open h).trans (if_neg (not_or.mpr ⟨h11, h12⟩))

theorem negotiateAlgorithms_offered :
    negotiateAlgorithms true s = doeAnswer (.algorithms "ECDSA P-384" "SHA-384" "secp384r1" "AES-256-GCM" "SHA-384") s := spdm_open h

theorem negotiateAlgorithms_other : negotiateAlgorithms false s = doeError s := spdm_open h

theorem getDigests_bank0 (hbank : s.keys.bank = some 0) : getDigests s = doeAnswer (.digests 1 (Config.sha384 Config.certChain)) s :=
  (spdm_open h).trans (if_pos hbank)

theorem getDigests_chainless (hbank : s.keys.bank ≠ some 0) : getDigests s = doeAnswer (.digests 0 []) s := (spdm_open h).trans (if_neg hbank)

theorem getCertificate_bank0 (hbank : s.keys.bank = some 0) :
    getCertificate 0 at_ n s = doeAnswer (.certificate ((Config.certChain.drop at_).take n) false) s :=
  (spdm_open h).trans ((if_neg (not_not.mpr rfl)).trans (if_pos hbank))

theorem getCertificate_chainless (hbank : s.keys.bank ≠ some 0) :
    getCertificate 0 at_ n s = doeAnswer (.certificate (((dikPublic 1).drop at_).take n) true) s :=
  (spdm_open h).trans ((if_neg (not_not.mpr rfl)).trans (if_neg hbank))

theorem getCertificate_noSlot (hslot : slot ≠ 0) : getCertificate slot at_ n s = doeError s := (spdm_open h).trans (if_pos hslot)

theorem challenge_slot0 : challenge 0 x s = doeAnswer (.challengeAuth (dikSign (s.keys.bank.getD 0) x)) s := (spdm_open h).trans (if_pos rfl)

theorem challenge_noSlot (hslot : slot ≠ 0) : challenge slot x s = doeError s := (spdm_open h).trans (if_neg hslot)

/-- All four blocks, under one signature. -/
theorem getMeasurements_all :
    getMeasurements 255 x s = doeAnswer (.measurements ([1, 2, 3, 4].map fun n => (n, measureBlock s n))
      (dikSign (s.keys.bank.getD 0) (x ++ ([1, 2, 3, 4].map fun n => (n, measureBlock s n)).flatMap Prod.snd))) s :=
  (spdm_open h).trans (if_pos (.inl rfl))

theorem getMeasurements_one (hlow : 1 ≤ block) (hhigh : block ≤ 4) :
    getMeasurements block x s = doeAnswer (.measurements [(block, measureBlock s block)] (dikSign (s.keys.bank.getD 0) (x ++ measureBlock s block))) s := by
  have hone : block ≠ 255 := by omega
  refine (spdm_open h).trans ((if_pos (.inr ⟨hlow, hhigh⟩)).trans ?_)
  simp [hone]

theorem getMeasurements_none (hall : block ≠ 255) (hblock : block = 0 ∨ 4 < block) : getMeasurements block x s = doeError s :=
  (spdm_open h).trans (if_neg (by omega))

/-! ### Sessions made and established (R485; log entry 102) -/

theorem spdmKeyExchange_begins (hfew : s.keys.sessions.length < 2) (hperiod : hb ≤ 60) :
    spdmKeyExchange hb x s = s.onKeys fun k =>
      { k with nextId := k.nextId + 1, sessions := k.sessions ++ [{ id := k.nextId, st := .handshake, heartbeat := hb }],
               doe := .keyExchange k.nextId hb (Config.dheShare k.nextId) (dikSign (k.bank.getD 0) x) } :=
  (spdm_open h).trans ((if_neg (Nat.not_le.mpr hfew)).trans (if_neg (Nat.not_lt.mpr hperiod)))

theorem spdmKeyExchange_busy (hfull : 2 ≤ s.keys.sessions.length) : spdmKeyExchange hb x s = doeAnswer (.error true) s :=
  (spdm_open h).trans (if_pos hfull)

theorem spdmKeyExchange_longPeriod (hfew : s.keys.sessions.length < 2) (hperiod : 60 < hb) : spdmKeyExchange hb x s = doeError s :=
  (spdm_open h).trans ((if_neg (Nat.not_le.mpr hfew)).trans (if_pos hperiod))

theorem spdmFinish_none {verified : Bool} (hnone : s.spdmSession id = none) : spdmFinish id verified s = doeError s := by
  refine (spdm_open h).trans ?_
  simp only [hnone]

theorem spdmFinish_session {y : Spdm} {verified : Bool} (hsession : s.spdmSession id = some y) :
    spdmFinish id verified s =
      if y.st = .handshake ∧ verified = true then doeAnswer (.finished id) (onSpdm id (fun x => { x with st := .established, age := 0 }) s)
      else doeError (if verified = true then s else closeSpdm id s) := by
  refine (spdm_open h).trans ?_
  simp only [hsession]

theorem spdmFinish_established {y : Spdm} (hsession : s.spdmSession id = some y) (hst : y.st = .handshake) :
    spdmFinish id true s = doeAnswer (.finished id) (onSpdm id (fun x => { x with st := .established, age := 0 }) s) :=
  (spdmFinish_session h hsession).trans (if_pos ⟨hst, rfl⟩)

theorem spdmFinish_unverified {y : Spdm} (hsession : s.spdmSession id = some y) : spdmFinish id false s = doeError (closeSpdm id s) :=
  (spdmFinish_session h hsession).trans (if_neg fun ⟨_, hverified⟩ => Bool.false_ne_true hverified)

theorem spdmFinish_again {y : Spdm} (hsession : s.spdmSession id = some y) (hst : y.st ≠ .handshake) : spdmFinish id true s = doeError s :=
  (spdmFinish_session h hsession).trans (if_neg fun ⟨hhandshake, _⟩ => hst hhandshake)

end

/-! ### Requests inside a session (R485) -/

/-- A request in a session shows that it is alive. -/
abbrev sessionHeard (id : Nat) (s : State) : State := onSpdm id (fun x => { x with age := 0 }) s

theorem inside_outside (h : VaultOpen s) (hout : inSession s id = false) : inside id f s = doeError s :=
  (spdm_open h).trans (if_neg (Bool.eq_false_iff.mp hout))

theorem inside_session (h : VaultOpen s) (hin : inSession s id = true) : inside id f s = f (sessionHeard id s) := (spdm_open h).trans (if_pos hin)

/-- The rows that are requests inside a session. -/
def SessionRequest (id : Nat) (i : Instr) : Prop :=
  i ∈ [.keyUpdate id, .heartbeat id, .endSession id] ∨ (∃ n, i = .query id n) ∨ (∃ a b d k, i ∈ [.keyProg id a b d k, .kSetGo id a b d, .kSetStop id a b d])

theorem SessionRequest.exec_eq (h : SessionRequest id i) : ∃ f, ∀ s, exec i s = answer (inside id f s) := by
  simp only [SessionRequest, List.mem_cons, List.not_mem_nil, or_false] at h
  rcases h with (rfl | rfl | rfl) | ⟨_, rfl⟩ | ⟨_, _, _, _, rfl | rfl | rfl⟩ <;> exact ⟨_, fun _ => rfl⟩

theorem SessionRequest.answers_outside (h : SessionRequest id i) (hopen : VaultOpen s) (hout : inSession s id = false) : Answers i s (doeError s) := by
  obtain ⟨_, hexec⟩ := h.exec_eq
  exact answers_of_eq (inside_outside hopen hout) (hexec s)

theorem ideOk_iff {st d ks : Nat} : ideOk st d ks = true ↔ st < 2 ∧ d < 2 ∧ ks < 2 := by simp [ideOk, and_assoc]

theorem not_ideOk {st d ks : Nat} (h : 2 ≤ st ∨ 2 ≤ d ∨ 2 ≤ ks) : ¬ideOk st d ks = true := by
  rw [ideOk_iff]
  omega

section
variable {st d ks n : Nat} {key : List Byte} (h : VaultOpen s) (hin : inSession s id = true)
include h hin

theorem heartbeat_heard : heartbeat id s = doeAnswer (.heartbeatAck id) (sessionHeard id s) := inside_session h hin

theorem keyUpdate_heard :
    keyUpdate id s = doeAnswer (.keyUpdated id) (onSpdm id (fun x => { x with keyNo := x.keyNo + 1 }) (sessionHeard id s)) := inside_session h hin

theorem endSession_heard : endSession id s = doeAnswer (.ended id) (closeSpdm id (sessionHeard id s)) := inside_session h hin

theorem ideQuery_known (hn : n < 2) : ideQuery id n s = doeAnswer (.queryResp 2) (sessionHeard id s) := (inside_session h hin).trans (if_pos hn)

theorem ideQuery_unknown (hn : 2 ≤ n) : ideQuery id n s = doeError (sessionHeard id s) := (inside_session h hin).trans (if_neg (Nat.not_lt.mpr hn))

theorem keyProg_takes (hok : ideOk st d ks = true) :
    keyProg id st d ks key s = doeAnswer (.keyProgAck ks)
      ((sessionHeard id s).onKeys fun k => { k with ide := tset {} k.ide (ideKey st d ks) { key := fitBytes 32 key, session := id } }) :=
  (inside_session h hin).trans (if_pos hok)

theorem keyProg_unknown (hbad : ¬ideOk st d ks = true) : keyProg id st d ks key s = doeError (sessionHeard id s) :=
  (inside_session h hin).trans (if_neg hbad)

theorem kSetGo_starts (hok : ideOk st d ks = true) (hkey : (tget ({} : IdeKeys) s.keys.ide (ideKey st d ks)).key ≠ []) :
    kSetGo id st d ks s = ideUse (doeAnswer (.goStopAck ks true)
      ((sessionHeard id s).onKeys fun k => { k with ide := tmod {} k.ide (ideKey st d ks) fun x => { x with active := true } })) :=
  (inside_session h hin).trans (if_pos ⟨hok, hkey⟩)

theorem kSetGo_refused (h' : ¬ideOk st d ks = true ∨ (tget ({} : IdeKeys) s.keys.ide (ideKey st d ks)).key = []) :
    kSetGo id st d ks s = doeError (sessionHeard id s) := by
  refine (inside_session h hin).trans (if_neg fun ⟨hok, hkey⟩ => ?_)
  rcases h' with hbad | hnone
  · exact hbad hok
  · exact hkey hnone

theorem kSetStop_stops (hok : ideOk st d ks = true) :
    kSetStop id st d ks s = ideUse (doeAnswer (.goStopAck ks false)
      ((sessionHeard id s).onKeys fun k => { k with ide := tset {} k.ide (ideKey st d ks) {} })) :=
  (inside_session h hin).trans (if_pos hok)

theorem kSetStop_unknown (hbad : ¬ideOk st d ks = true) : kSetStop id st d ks s = doeError (sessionHeard id s) :=
  (inside_session h hin).trans (if_neg hbad)

/-- A stream, direction or key set that the chip has not is refused by each of the three key requests. -/
theorem ideRequest_unknown (hbad : 2 ≤ st ∨ 2 ≤ d ∨ 2 ≤ ks) (hi : i ∈ [Instr.keyProg id st d ks key, .kSetGo id st d ks, .kSetStop id st d ks]) :
    Answers i s (doeError (sessionHeard id s)) := by
  simp only [List.mem_cons, List.not_mem_nil, or_false] at hi
  rcases hi with rfl | rfl | rfl
  · exact answers_of_eq (keyProg_unknown h hin (not_ideOk hbad))
  · exact answers_of_eq (kSetGo_refused h hin (.inl (not_ideOk hbad)))
  · exact answers_of_eq (kSetStop_unknown h hin (not_ideOk hbad))

end

/-! ### A session that falls silent (R485; log entry 102) -/

theorem heartbeatLapse_none (h : s.spdmSession id = none) : heartbeatLapse id s = s := by simp only [heartbeatLapse, h]

theorem heartbeatLapse_session {x : Spdm} (h : s.spdmSession id = some x) :
    heartbeatLapse id s = if x.heartbeat ≠ 0 ∧ x.heartbeat * 48000 ≤ x.age then closeSpdm id s else s := by
  simp only [heartbeatLapse, h]

theorem heartbeatLapse_ends {x : Spdm} (h : s.spdmSession id = some x) (hperiod : x.heartbeat ≠ 0) (hage : x.heartbeat * 48000 ≤ x.age) :
    heartbeatLapse id s = closeSpdm id s :=
  (heartbeatLapse_session h).trans (if_pos ⟨hperiod, hage⟩)

theorem heartbeatLapse_stands {x : Spdm} (h : s.spdmSession id = some x) (hstands : x.heartbeat = 0 ∨ x.age < x.heartbeat * 48000) :
    heartbeatLapse id s = s := by
  refine (heartbeatLapse_session h).trans (if_neg fun ⟨hperiod, hage⟩ => ?_)
  rcases hstands with hnone | hearly
  · exact hperiod hnone
  · exact Nat.not_le.mpr hearly hage

end

/-! ### The statement -/

/-- Settles O48: every request by the link, the lock and the vault; the requests of a session by its being established; the key requests by what the chip
has and what is programmed. -/
theorem spdmAndIdeRowsComplete : Obligations.SpdmAndIdeRowsComplete := by
  refine ⟨⟨fun _ _ hup => answers_of_eq (doeDiscovery_up hup), ?down, fun _ _ hup hlock h => SpdmRequest.answers_locked h hup hlock, ?requests⟩,
    ⟨fun _ _ _ hup hlock hvault hfew hperiod => answers_of_eq (spdmKeyExchange_begins ⟨hup, hlock, hvault⟩ hfew hperiod),
      fun _ _ _ hup hlock hvault hfull => answers_of_eq (spdmKeyExchange_busy ⟨hup, hlock, hvault⟩ hfull),
      fun _ _ _ hup hlock hvault hfew hperiod => answers_of_eq (spdmKeyExchange_longPeriod ⟨hup, hlock, hvault⟩ hfew hperiod),
      fun _ _ _ hup hlock hvault hsession hst => answers_of_eq (spdmFinish_established ⟨hup, hlock, hvault⟩ hsession hst),
      fun _ _ _ hup hlock hvault hnone => answers_of_eq (spdmFinish_none ⟨hup, hlock, hvault⟩ hnone),
      fun _ _ _ hup hlock hvault hsession => answers_of_eq (spdmFinish_unverified ⟨hup, hlock, hvault⟩ hsession),
      fun _ _ _ hup hlock hvault hsession hst => answers_of_eq (spdmFinish_again ⟨hup, hlock, hvault⟩ hsession hst),
      fun _ _ hup hlock hvault hout _ hi => SessionRequest.answers_outside hi ⟨hup, hlock, hvault⟩ hout, ?inside,
      fun _ _ _ h hperiod hage => answers_of_eq (heartbeatLapse_ends h hperiod hage), fun _ _ _ h hstands => answers_of_eq (heartbeatLapse_stands h hstands),
      fun _ _ h => answers_of_eq (heartbeatLapse_none h)⟩⟩
  case down =>
    rintro i s hdown (h | ⟨n, h⟩ | h)
    · exact SpdmRequest.answers_down (.inl h) hdown
    · rcases List.mem_cons.mp h with rfl | hrequest
      · exact answers_of_eq (doeDiscovery_down hdown)
      · exact SpdmRequest.answers_down (.inr (.inl ⟨n, by simpa [or_assoc, or_comm, or_left_comm] using hrequest⟩)) hdown
    · exact SpdmRequest.answers_down (.inr (.inr h)) hdown
  case requests =>
    intro s hup hlock hvault
    have h : VaultOpen s := ⟨hup, hlock, hvault⟩
    exact ⟨answers_of_eq (getVersion_open h), fun _ hv => answers_of_eq (getCapabilities_known h hv), answers_of_eq (negotiateAlgorithms_offered h),
      fun hbank => answers_of_eq (getDigests_bank0 h hbank), fun hbank => answers_of_eq (getDigests_chainless h hbank),
      fun _ _ hbank => answers_of_eq (getCertificate_bank0 h hbank), fun _ _ hbank => answers_of_eq (getCertificate_chainless h hbank),
      fun _ h11 h12 => answers_of_eq (getCapabilities_unknown h h11 h12), answers_of_eq (negotiateAlgorithms_other h),
      fun _ _ hslot => answers_of_eq (challenge_noSlot h hslot), fun _ => answers_of_eq (getMeasurements_all h),
      fun _ _ hall hblock => answers_of_eq (getMeasurements_none h hall hblock), fun _ _ _ hslot => answers_of_eq (getCertificate_noSlot h hslot),
      fun _ => answers_of_eq (challenge_slot0 h), fun _ _ hlow hhigh => answers_of_eq (getMeasurements_one h hlow hhigh)⟩
  case inside =>
    intro id s hup hlock hvault hin s1
    have h : VaultOpen s := ⟨hup, hlock, hvault⟩
    exact ⟨answers_of_eq (heartbeat_heard h hin), answers_of_eq (keyUpdate_heard h hin), answers_of_eq (endSession_heard h hin),
      fun _ hn => answers_of_eq (ideQuery_known h hin hn), fun _ hn => answers_of_eq (ideQuery_unknown h hin hn),
      fun _ _ _ _ hbad _ hi => ideRequest_unknown h hin hbad hi, fun _ _ _ hkey => answers_of_eq (kSetGo_refused h hin (.inr hkey)),
      fun _ _ _ _ hst hd hks => answers_of_eq (keyProg_takes h hin (ideOk_iff.mpr ⟨hst, hd, hks⟩)),
      fun _ _ _ hst hd hks hkey => answers_of_eq (kSetGo_starts h hin (ideOk_iff.mpr ⟨hst, hd, hks⟩) hkey),
      fun _ _ _ hst hd hks => answers_of_eq (kSetStop_stops h hin (ideOk_iff.mpr ⟨hst, hd, hks⟩))⟩

end Sys2Proof.Proofs
